-- ==== Sys2Proof/Word.lean ====
section
/-! DEFINITION. The words of the machine: registers are 64 bits, little-endian (R5); a line is 64 bytes (R79); sparse maps
hold what the spec addresses by number. -/

namespace Sys2Proof

/-- A 64-bit register word (R5). -/
abbrev Word := BitVec 64
/-- One byte. -/
abbrev Byte := BitVec 8
/-- The 64 bytes of a line, byte n at bits 8n+7..8n (R79, R459). -/
abbrev LineData := BitVec 512
/-- One bit for each byte of a line, or for each line of a granule (R91, R126, R160). -/
abbrev Mask := BitVec 64

/-- A sparse map: pairs of key and value with keys strictly rising. -/
abbrev SMap (α : Type) := List (Nat × α)

namespace Machine

/-- A register field: CSPACE address, lowest bit, width. -/
structure Fld where
  addr : Nat
  lo   : Nat
  w    : Nat
  deriving DecidableEq, Repr

/-- Access types of register fields (R7). -/
inductive FType where
  | ro | rw | w1c | w1s | wo | rwl
  deriving DecidableEq, Repr

/-- The Writers column of a register field (R11), with the conditional entries of R78, R105, R336, R385 and R408. -/
inductive Writers where
  | nobody | fw | fwBmc | fwBmcDbg | fwHost
  | fwBmcPolicy            -- firmware; the BMC when SECURITY flag [3] is set (R78)
  | notClass15             -- firmware; none for class 15 (R105)
  | fwBmcOp (op : Nat)     -- firmware; the BMC for this OP value only
  | window                 -- the reading window's own actor (R408)
  deriving DecidableEq, Repr

/-- One field of a register map. -/
structure FieldDef where
  lo      : Nat
  w       : Nat
  typ     : FType
  writers : Writers
  img     : Bool      -- reset "image" (R65)
  deriving DecidableEq, Repr

/-- One register of the map: name, address, array (count, stride) pairs, LOCK bit (address, bit) of its RWL fields, fields. -/
structure RegDef where
  name   : String
  addr   : Nat
  dims   : List (Nat × Nat)
  lock   : Option (Nat × Nat)
  fields : List FieldDef
  deriving DecidableEq, Repr

end Machine
end Sys2Proof
end

