-- ==== Sys2Proof/Data.lean ====
section
/-! DEFINITION. The data that commands carry and State holds: the writing actors (R11) and the sections of an image (R58, R62). -/

namespace Sys2Proof

/-- The actors that write registers (R11) and the debug port (R358). -/
inductive Actor where
  | firmware
  | host (port ld : Nat)
  | bmc
  | debugPort
  deriving DecidableEq, Repr

namespace Machine

/-- One persistent partition of the PARTITIONS section (R62). -/
structure PartDef where
  id    : Nat
  flags : Nat
  port  : Nat
  ld    : Nat
  base  : Nat   -- in GiB
  size  : Nat   -- in GiB
  deriving DecidableEq, Repr

/-- One rail of the RAILS section (R62). -/
structure RailDef where
  rail        : Nat
  kind        : Nat
  upStep      : Nat
  flags       : Nat
  nominal     : Nat
  offMv       : Nat
  debounce    : Nat
  upTimeout   : Nat
  downTimeout : Nat
  minOff      : Nat
  fence       : Nat
  deriving DecidableEq, Repr

/-- One Trivet address of the TWIN section (R62). -/
structure TrivetAddr where
  addr  : Nat
  port  : Nat
  paths : Nat
  deriving DecidableEq, Repr

/-- One register value of the REGDEF section (R62). -/
structure RegDefEntry where
  addr  : Nat
  mask  : Nat
  value : Nat
  deriving DecidableEq, Repr

/-- The BOOT-class sections of an image, each as its listed fields (R58, R62). -/
structure ImageFixed where
  domain       : Nat := 0
  member       : Nat := 0
  cxlSplit     : Nat := 0
  ethSplit     : Nat := 0
  laneMap      : List Nat := []
  ncWays       : Nat := 0
  stagingWays  : Nat := 0
  queueMib     : Nat := 0
  schedBlocks  : Nat := 0
  spMask       : Nat := 0
  dimmKind     : Nat := 0
  rateMts      : Nat := 0
  dimmGib      : Nat := 0
  ramekinGib   : Nat := 0
  mdMask       : Nat := 0
  pkgPerCh     : Nat := 0
  stripeWidth  : Nat := 0
  stripeUnit   : Nat := 0
  vaultGib     : Nat := 0
  deriving DecidableEq, Repr

/-- TIME, TWIN, FLASHPROT, SECURITY and RAILS sections (R58, R62). -/
structure ImageFixed2 where
  periodNs     : Nat := 0
  epochE       : Nat := 0
  baseB        : Nat := 0
  groupV4      : Nat := 0
  groupV6      : Nat := 0
  trivets      : List TrivetAddr := []
  twinFlags    : Nat := 0
  twinMember   : Nat := 0
  wpMap        : List Nat := []     -- 64 words of 64 bits
  wpLock       : Nat := 0
  xo           : List (Nat × Nat) := []
  secFlags     : Nat := 0
  keyGen       : Nat := 0
  rails        : List RailDef := []
  deriving DecidableEq, Repr

/-- The QUIESCE-class sections of an image (R58, R62). -/
structure ImageQuiesce where
  parts        : List PartDef := []
  thresh       : List (List Int) := []   -- die, DIMM, media: Simmer 1 to 7, then shutdown, 1/8 °C
  hyst         : Int := 0
  mediaMin     : Int := 0
  mediaMax     : Int := 0
  holdupMj     : Nat := 0
  pfailSrc     : Nat := 0
  sagSense     : Nat := 0
  sagMv        : Nat := 0
  budgetCap    : Nat := 0
  regdefs      : List RegDefEntry := []
  deriving DecidableEq, Repr

/-- An image as the checks of R69 read it. -/
structure Image where
  sequence : Nat := 0
  length   : Nat := 0
  svn      : Nat := 0
  shared   : Word := 0      -- first 8 bytes of the shared hash
  fix      : ImageFixed := {}
  fix2     : ImageFixed2 := {}
  qui      : ImageQuiesce := {}
  deriving DecidableEq, Repr


/-- What ECC finds in a word read. -/
inductive Ecc where
  | good | corrected | uncorrectable
  deriving DecidableEq, Repr

/-- Sensor classes (R422). -/
inductive SensClass where
  | die | dimm | media
  deriving DecidableEq, Repr

/-- What the keeper core's hash engine finds of a slot's keys (R67): the root-key slot whose fuses hold the digest of ROOT_KEY, and
whether the certificates and IMAGE_SIGNATURE verify. -/
structure SlotVerdict where
  root : Option Nat
  sig  : Bool
  deriving DecidableEq, Repr

/-- What a staging read finds (R331). -/
inductive StageFind where
  | good              -- the line read well
  | media             -- an uncorrectable media codeword
  | stockpot          -- an uncorrectable DIRTY Stockpot sector
  | refused           -- a real-time read refused by a frozen or bypassed channel
  deriving DecidableEq, Repr

/-- A ready beacon (R323). -/
structure ReadyMsg where
  magic    : Nat
  version  : Nat
  domain   : Nat
  member   : Nat
  keyGen   : Nat
  frame    : Nat
  schedId  : Nat
  launch   : Nat
  ready    : Nat
  seq      : Nat
  role     : Nat
  withdrawn : Bool
  unaligned : Bool   -- NOT_ALIGNED
  set      : Nat
  position : Nat
  epoch    : Nat
  deriving DecidableEq, Repr

/-- A debugger's abstract command (R371). -/
inductive DbgCmd where
  | readReg (r : Nat)
  | writeReg (r : Nat) (v : Word)
  | readMem (addr : Nat)
  | writeMem (addr : Nat) (v : Word)
  deriving DecidableEq, Repr

/-- Who reads the code flash (R373, R374). -/
inductive FlashReader where
  | fetch (core : Nat) (branch : Bool)   -- an I-cache refill; at the target of a taken branch that missed
  | load (core : Nat)                    -- an uncached core load
  | debug                                -- a debug memory access
  deriving DecidableEq, Repr

/-- Accesses of a service core (R363). -/
inductive CoreAcc where
  | fetch | load | store
  deriving DecidableEq, Repr

/-- A discovery beacon (R53). -/
structure BeaconMsg where
  magic    : Nat
  version  : Nat
  domain   : Nat
  member   : Nat
  twin     : Nat
  frame    : Nat
  period   : Nat
  sync     : Nat
  role     : Nat
  offset   : Int    -- ns
  flags    : Nat    -- [0] LEAVING, [1] WITNESS_CAPABLE, [2] SCHED_MEMBER
  keyGen   : Nat
  dirGen   : Nat
  seq      : Nat
  deriving DecidableEq, Repr

/-- What happens at a tick outside the block's rules: flexible work left over (R21), the FCLK cycles by which
the discipline loop lengthens the next frame (R40), and the 4 KiB blocks each job queue moved. -/
structure TickObs where
  overrun : Bool
  steer   : Int
  blocks0 : Nat
  blocks1 : Nat
  deriving DecidableEq, Repr
/-- What a media channel's start steps read of a package: position, identity page 0 as 8 words, temperature in 1/8 °C (R153, R154). -/
structure PkgObs where
  pos  : Nat
  page : List Word
  temp : Int
  deriving DecidableEq, Repr

/-- What a Stockpot channel reads of its module over the sideband (R122, R123), encoded as SP_CH_DIMM encodes it. -/
structure DimmObs where
  gib     : Nat
  kind    : Nat
  rate    : Nat
  width   : Nat
  density : Nat
  ranks   : Nat
  stack   : Nat
  trfcsb  : Nat
  deriving DecidableEq, Repr

/-- What a unit's start steps find when they complete (R29): the module of a Stockpot channel, the packages of a media channel, the
lane groups of the twin link that trained. -/
inductive StartObs where
  | plain
  | dimm (d : DimmObs)
  | media (pkgs : List PkgObs)
  | twin (main fall : Bool)
  deriving DecidableEq, Repr

/-- A mirror position (R224): frame, segment, record. -/
structure MPos where
  frame : Nat := 0
  seg   : Nat := 0
  idx   : Nat := 0
  deriving DecidableEq, Repr

/-- Kinds of requests to the twin (R223, ASSIST_REQ KIND). -/
inductive AssistKind where
  | planned | rescue | lineRepair | granuleRepair
  deriving DecidableEq, Repr

/-- KIND of a mirror record (R225). -/
inductive RecKind where
  | full | partial_ | copy | copyPoison
  deriving DecidableEq, Repr

/-- A mirror record (R225). -/
structure MRecord where
  pos  : MPos
  line : Nat
  kind : RecKind
  mask : Mask
  data : LineData
  deriving DecidableEq, Repr

/-- A valid heartbeat's content as the receiver keeps it (R230). -/
structure Heartbeat where
  role    : Nat := 0
  sync    : Nat := 0
  period  : Nat := 0
  flags   : Nat := 0    -- [0] PFAIL, [1] HANDOFF, [2] LEAVING, [3] FREEZE, [4] MAIN_STABLE, [5] REQUESTING
  epoch   : Nat := 0
  left    : Nat := 0
  group   : Nat := 0
  level   : Nat := 0
  recRole : Nat := 0
  commit  : Nat := 0
  applied : Nat := 0
  drain   : Nat := 0
  tx      : Nat := 0
  echoTx  : Nat := 0
  echoRx  : Nat := 0
  revert  : Nat := 0
  switch  : Nat := 0
  change  : Nat := 0
  shared  : Nat := 0
  chHash  : Nat := 0
  deriving DecidableEq, Repr

/-- The header of a message received over the twin link (R222): FRAME, MSG_SEQ [29:0], and whether its tag verifies. -/
structure MsgHdr where
  frame : Nat
  seq   : Nat
  tagOk : Bool
  deriving DecidableEq, Repr

/-- A SEGMENT (R223): the batch it belongs to, which its place between two SEALs tells, SEG, LEASE_EPOCH, records. -/
structure SegMsg where
  batch : Nat
  seg   : Nat
  epoch : Nat
  recs  : List MRecord
  deriving DecidableEq, Repr

/-- A SEAL (R223) of a batch. -/
structure SealMsg where
  batch    : Nat
  segments : Nat
  records  : Nat
  bytes    : Nat
  epoch    : Nat
  deriving DecidableEq, Repr

/-- A HELLO (R345) without the random bytes and the key. -/
structure HelloMsg where
  member : Nat
  twin   : Nat
  domain : Nat
  keyGen : Nat
  period : Nat
  shared : Nat
  deriving DecidableEq, Repr

/-- A Trivet message (R215). -/
structure TrivetMsg where
  typ    : Nat
  domain : Nat
  member : Nat
  twin   : Nat
  kind   : Nat
  flags  : Nat    -- [0] FORCE, [1] RELAYED, [2] TWIN_PFAIL_SEEN
  reason : Nat
  epoch  : Nat
  reqId  : Nat
  frame  : Nat
  wait   : Nat
  commit : Nat
  deriving DecidableEq, Repr

/-- The messages of the twin link (R223). -/
inductive TwinMsg where
  | segment (m : SegMsg)
  | seal (m : SealMsg)
  | ack (batch records status : Nat)
  | heartbeat (h : Heartbeat)
  | assistReq (req : Nat) (kind : AssistKind) (addr : Nat) (pos : MPos)
  | assistResp (req status : Nat) (poison : Mask) (lines : List LineData)
  | resyncCtl (op mode : Nat) (grans : List Nat)
  | nak (frame seq : Nat)
  | hello (m : HelloMsg)
  | relay (m : TrivetMsg)
  deriving DecidableEq, Repr

/-- What the hardware finds on the way of a read through the tiers: the CRC of the near-cache line or Colander entry fails (R112); ECC of
the Stockpot burst (R138), an address signature, one copy of its metadata uncorrectable, both copies uncorrectable (R126, R141). -/
structure TierObs where
  ncCrc   : Bool
  sp      : Ecc
  sig     : Bool
  metaOne : Bool
  metaBad : Bool
  deriving DecidableEq, Repr

/-- Who reads codewords of the media: a miss register, or a media operation that completes codewords or moves a granule. -/
inductive MediaReader where
  | miss (mr : Nat)
  | op (id cw : Nat)
  deriving DecidableEq, Repr


/-- Where a poison mark was held when the read was answered (R253), which picks the record. -/
inductive PoisonAt where
  | media | stockpot | cache | spRule | untrustedRange | unfilled | address
  deriving DecidableEq, Repr

/-- The RETH of a request: remote address, key, length of the message (R269, R279). -/
structure Reth where
  va  : Nat
  key : Nat
  len : Nat
  deriving DecidableEq, Repr

/-- The record of R271 at the start of a REQ's private data. -/
structure CmRecord where
  mode  : Nat
  pd    : Nat
  flags : Nat
  deriving DecidableEq, Repr

/-- A CM REQ (R270): the TCP port of its service ID, the requester's QPN, starting PSN and address, its record if it has one. -/
structure CmReq where
  tcp    : Nat
  remote : Nat
  psn    : Nat
  addr   : Nat
  record : Option CmRecord
  deriving DecidableEq, Repr

/-- The spray header (R275) with the flag that tells the last packet. -/
structure SprayHdr where
  va   : Nat
  key  : Nat
  msg  : Nat    -- MSG_PSN
  last : Bool
  len  : Nat    -- MSG_LEN
  imm  : Nat
  pkts : Nat    -- MSG_PKTS
  deriving DecidableEq, Repr

/-- Syndromes of an acknowledgement that the requester receives (R286, R288). -/
inductive AckKind where
  | ack | sequence | rnr | invalid | access | operational
  deriving DecidableEq, Repr

end Machine
end Sys2Proof
end

