-- ==== Sys2Proof/Syntax.lean ====
section
/-! DEFINITION. The commands of the block, one constructor for each row of the opcode table. A command that is a register write
carries the actor that writes; a command that is an event of the hardware carries what the hardware observes with it. -/

namespace Sys2Proof

open Machine in
/-- The commands, one for each row of spec/opcode_table.json. -/
inductive Instr where
  /-- REGISTER_WRITE (R11): A write by firmware, host or BMC to a register that has no row of its own is judged field by field and applied. -/
  | registerWrite (actor : Actor) (addr nbytes : Nat) (value : Word)
  /-- FRAME_TICK (R16): The tick that begins a frame runs the fixed cycle-0 work: commit, grant, level updates and launches. -/
  | frameTick (t : TickObs)
  /-- PLAN_FREEZE (R18): At cycle N-128 the seal phase begins and the plan of the next frame is frozen. -/
  | planFreeze
  /-- ADMISSION_CUT_CHANGE (R22): A run of 8 overrun frames or 64 clean frames raises or lowers the admission cut level. -/
  | admissionCutChange
  /-- PASS_OVERFLOW (R26): When a source buffer entry frees after discards, the source presents one PASS_OVERFLOW carrying the number discarded. -/
  | passOverflow (src : Nat)
  /-- PASS_MARK_STORE (R27): When PASS_SEQ reaches M + 2^31 the controller stores a new mark in the Rack. -/
  | passMarkStore
  /-- PASS_MARK_STALL (R27): When PASS_SEQ reaches M + 2^32 - 1 with the mark store unfinished, the Pass stalls and sets MARK_STALLED. -/
  | passMarkStall
  /-- PASS_MARK_STORE_DONE (R27): Completion of a mark store lets a waiting or stalled Pass stamp again. -/
  | passMarkStoreDone
  /-- UNIT_ENABLE (R29): An enable request to a lifecycle unit starts its start steps or is held pending. -/
  | unitEnable (actor : Actor) (unit : Nat)
  /-- UNIT_DISABLE (R29): A disable request to a lifecycle unit starts its stop steps or is held pending. -/
  | unitDisable (actor : Actor) (unit : Nat)
  /-- UNIT_START_DONE (R29): A unit's start steps complete and it enters ON, then STOPPING if a disable is pending. -/
  | unitStartDone (unit us : Nat) (obs : StartObs)
  /-- UNIT_START_FAIL (R29): A start step fails; the unit sets START_FAILED and begins its stop steps. -/
  | unitStartFail (unit code : Nat)
  /-- UNIT_STOP_DONE (R29): A unit's stop steps complete and it enters OFF, then STARTING if an enable is pending. -/
  | unitStopDone (unit : Nat)
  /-- UNIT_FAULT_STOP (R29): A fault that the unit's chapter names as stopping moves an ON unit to STOPPING with FAULT_STOP set. -/
  | unitFaultStop (unit : Nat)
  /-- TREF_LOST (R449): After 2 µs without a TREF_IN edge the reference is declared lost. -/
  | trefLost
  /-- PTP_MESSAGE (R44): A PTP message received on the selected port updates the time-receiver state and measurement. -/
  | ptpMessage (port transport domain : Nat) (clock : Word) (best : Bool) (time : Option Nat) (offset : Option Int)
  /-- TSYNC_IN_EDGE (R42): A TSYNC_IN rising edge is accepted as a millisecond mark or counted and ignored. -/
  | tsyncInEdge (late : Int)
  /-- TSYNC_FAULT (R42): After 3 consecutive missing or out-of-window edges TSYNC_IN is declared faulty. -/
  | tsyncFault (missing : Nat)
  /-- EPOCH_PULSE (R52): Each whole millisecond of local domain time drives TSYNC_OUT and may send a discovery beacon. -/
  | epochPulse
  /-- DISCOVERY_BEACON_RX (R54): A discovery beacon is checked and, if accepted, creates or updates a peer entry. -/
  | discoveryBeaconRx (m : BeaconMsg) (src : Nat) (tagOk : Bool)
  /-- PEER_LOST (R55): Three intervals without an accepted beacon from a peer drop its entry. -/
  | peerLost (member : Nat)
  /-- PHASE_MEASUREMENT (R48): A measured offset from the phase reference steers the tick and may move SYNC_STATE. -/
  | phaseMeasurement (offset : Int)
  /-- SYNC_LOCKED (R48): Sixteen consecutive frames within 15 ns move ACQUIRING to LOCKED. -/
  | syncLocked
  /-- REFERENCE_LOST (R48): Loss of every phase reference moves LOCKED to HOLDOVER or ACQUIRING to ADRIFT. -/
  | referenceLost
  /-- HOLDOVER_EXCEEDED (R49): The holdover estimate exceeding 20 ns moves HOLDOVER to ADRIFT. -/
  | holdoverExceeded
  /-- REFERENCE_REGAINED (R48): A regained reference moves HOLDOVER or ADRIFT to LOCKED or ACQUIRING. -/
  | referenceRegained (offset : Int)
  /-- TIME_FREEZE_SET (R460): Setting TIME_CTL.FREEZE stops steering and moves SYNC_STATE as if references were lost. -/
  | timeFreezeSet (actor : Actor)
  /-- TIME_FREEZE_CLEAR (R460): Clearing FREEZE counts healthy sources as regained at the next tick. -/
  | timeFreezeClear (actor : Actor)
  /-- SLOT_CHECK_A (R78): A write of SLOT_CHECK.CHECK_A checks image slot A again. -/
  | slotCheckA (actor : Actor)
  /-- SLOT_CHECK_B (R78): A write of SLOT_CHECK.CHECK_B checks image slot B again. -/
  | slotCheckB (actor : Actor)
  /-- SLOT_CHECK_DONE (R69): A slot check ends and its result code is reported. -/
  | slotCheckDone (v : SlotVerdict)
  /-- CHANGE_REQUEST (R73): CHANGE_CTL.REQUEST starts checking the named slot for a structure change, or posts CHANGE_BUSY. -/
  | changeRequest (actor : Actor) (slot : Nat) (cancel : Bool)
  /-- CHANGE_CANCEL (R73): CHANGE_CTL.CANCEL cancels a checking or armed change and lifts its refusals. -/
  | changeCancel (actor : Actor)
  /-- CHANGE_CHECK_DONE (R73): The check of a change ends in ARMED or REFUSED with a cause. -/
  | changeCheckDone (v : SlotVerdict)
  /-- CHANGE_AGREEMENT_CHECK (R73): At A - 16 an armed change without the twin's agreement on differing shared sections is cancelled. -/
  | changeAgreementCheck
  /-- CHANGE_QUIESCE (R74): At the tick of A - 2 an armed change enters QUIESCING and admission stops. -/
  | changeQuiesce
  /-- CHANGE_APPLY (R73): At the tick of A the new image becomes the loaded image and admission resumes. -/
  | changeApply
  /-- SVN_COMMIT (R68): A write of SVN_COMMIT.COMMIT blows fuses to raise the fused version to the loaded SVN. -/
  | svnCommit (actor : Actor)
  /-- RECOVERY_IMAGE_WRITE (R72): In recovery the BMC writes an image into slot A through the MCTP-over-I3C recovery endpoint. -/
  | recoveryImageWrite (offset : Nat) (words : List Word)
  /-- PURGE_DONE (R462): The purge of released units ends, PURGE_DONE is set and CAUSE 3 partitions come ONLINE. -/
  | purgeDone
  /-- PLACE_MODE_WRITE (R89): A write of PART_CTL.PLACE_MODE sets the placement mode or refuses a PIN beyond the limit. -/
  | placeModeWrite (actor : Actor) (part mode : Nat)
  /-- PROMOTE_FILTER_DECAY (R87): Every DECAY_KF × 1,024 frames every promotion filter counter is halved. -/
  | promoteFilterDecay
  /-- PIN_FILL_GRANULE (R87): In an idle media read slot one granule of a PIN partition is promoted. -/
  | pinFillGranule (gran : Nat)
  /-- XLATE_SNAPSHOT (R101): A write of XLATE_ADDR snapshots the line's placement in every tier. -/
  | xlateSnapshot (actor : Actor) (line : Nat)
  /-- ASSIST_TIMEOUT (R97): No assist or repair answer within 900 ns + 2L makes the requester fall back locally or poison. -/
  | assistTimeout (req : Nat)
  /-- NO_TWIN_READ_BOUND (R98): A read with no open slot and no twin reaching the bound without the twin is answered with poisoned zeros. -/
  | noTwinReadBound (mr : Nat)
  /-- NC_FILL (R108): A fill arrives for a miss register; merged accesses are applied in order and the line installed. -/
  | ncFill (mr : Nat)
  /-- NC_REPAIR_REQUEST (R113): Once the segment carrying the line's last earlier write has left, the repair request is sent to the twin. -/
  | ncRepairRequest (line : Nat)
  /-- COLANDER_ACCEPT (R109): The Stockpot accepts a Colander write, marks the sector dirty and the entry frees. -/
  | colanderAccept (col : Nat)
  /-- NC_FLUSH (R118): NC_OP_CTL OP FLUSH sends every dirty line in range through the Colander and keeps it clean. -/
  | ncFlush (actor : Actor) (whole : Bool)
  /-- NC_INVALIDATE (R118): NC_OP_CTL OP INVALIDATE drops clean lines in range and flushes dirty ones. -/
  | ncInvalidate (actor : Actor) (whole : Bool)
  /-- NC_FLUSH_INVALIDATE (R118): NC_OP_CTL OP FLUSH_INVALIDATE flushes dirty lines and drops every line in range. -/
  | ncFlushInvalidate (actor : Actor) (whole : Bool)
  /-- NC_OP_DONE (R118): When the Colander has emptied of the operation's lines the operation is DONE and OP_DONE posted. -/
  | ncOpDone
  /-- NC_MR_SNAPSHOT (R120): A write of NC_MR_SEL snapshots a miss register. -/
  | ncMrSnapshot (actor : Actor) (mr : Nat)
  /-- NC_COL_SNAPSHOT (R120): A write of NC_COL_SEL snapshots a Colander entry. -/
  | ncColSnapshot (actor : Actor) (col : Nat)
  /-- CHANNEL_SET_FIX (R124): Once no Stockpot channel is in its first start after stage 5, the channel set is fixed for the boot. -/
  | channelSetFix
  /-- WRITE_BACK_DONE (R130): The MTL reports a write-back program complete and the snapshot DIRTY bits are cleared. -/
  | writeBackDone (gran : Nat)
  /-- REFRESH_ROUND (R135): A due refresh round is placed at a maintenance position and issued as a same-bank refresh. -/
  | refreshRound (ch : Nat) (request : Bool)
  /-- NEIGHBOUR_REFRESH (R137): A row reaching NRR_THRESH queues a neighbour refresh at the next free maintenance position. -/
  | neighbourRefresh (ch bank row : Nat)
  /-- CA_PARITY_ALERT (R141): A command/address parity alert from the RCD triggers a replay or a freeze. -/
  | caParityAlert (ch since : Nat)
  /-- FREEZE_HOLD_EXPIRE (R142): A read held on a frozen channel for FREEZE_HOLD_US is answered with poison. -/
  | freezeHoldExpire (ch mr : Nat)
  /-- THAW (R143): SP_CH_CTL.THAW retrains a frozen channel and checks its tag lines. -/
  | thaw (actor : Actor) (ch : Nat)
  /-- THAW_DONE (R143): The thaw ends with the channel CACHING or still FROZEN with THAW_FAILED. -/
  | thawDone (ch : Nat) (good : Bool) (us : Nat)
  /-- DECLARE_LOST (R143): SP_CH_CTL.DECLARE_LOST marks the frozen channel's granules untrusted and moves it to BYPASS and OFF, or is refused. -/
  | declareLost (actor : Actor) (ch : Nat)
  /-- FILL_GO (R145): SP_FILL_CTL.GO starts the fill engine over the named units or refuses it. -/
  | fillGo (actor : Actor) (mask : Nat)
  /-- FILL_DONE (R145): The fill engine completes and marks its units filled. -/
  | fillDone
  /-- SCRUB_GO (R146): SP_SCRUB_CTL.GO starts a Stockpot scrub of a range or refuses it. -/
  | scrubGo (actor : Actor)
  /-- SCRUB_DONE (R146): A Stockpot scrub completes, writes its summary and posts SCRUB_DONE. -/
  | scrubDone (fixed bad : List Nat) (us : Nat)
  /-- MEDIA_READ_DATA (R157): A codeword returned by a package is decoded, decrypted and handed to its reader. -/
  | mediaReadData (reader : MediaReader) (first retried : Option Nat)
  /-- MAP_READ_DATA (R161): A map plane codeword returns and fills the translation cache. -/
  | mapReadData (lg : Nat) (ok0 ok1 : Bool)
  /-- PROGRAM_STATUS (R162): STATUS reports a program's pass or failure and releases its place. -/
  | programStatus (op cw : Nat) (pass : Bool)
  /-- MEDIA_ALERT (R150): MALERT_N asserted by a package reports a program failure, alarm or command error. -/
  | mediaAlert (md cause : Nat)
  /-- STROBE_RECENTRE (R153): At least every 32 ms the channel recentres its read strobes in idle time or a read slot. -/
  | strobeRecentre (md : Nat) (used : Bool)
  /-- RETRAIN (R183): MD_CTL.RETRAIN repeats media start step 5 at once. -/
  | retrain (actor : Actor) (md result us : Nat)
  /-- FORMAT (R156): MD_CTL.FORMAT formats the named packages of an OFF channel, or is refused. -/
  | format (actor : Actor) (md mask : Nat)
  /-- FORMAT_DONE (R156): Formatting of a package completes. -/
  | formatDone (md pos gib : Nat)
  /-- MAP_ENTRY_WRITEBACK (R161): A dirty map entry 65,536 frames after its first change is written to both map copies. -/
  | mapEntryWriteback (lg : Nat)
  /-- MAP_FLUSH (R184): MTL_CTL.MAP_FLUSH writes every dirty map entry now. -/
  | mapFlush (actor : Actor)
  /-- RELOCATION_DONE (R167): A relocation's programs complete and the map entry switches to the new slot. -/
  | relocationDone (op : Nat)
  /-- DISTURB_DECAY (R168): Every DISTURB_DECAY_KF × 1,024 frames the read-disturb sketch is halved. -/
  | disturbDecay
  /-- SCOURER_VISIT (R176): In idle media slots the Scourer reads one granule, records errors and queues repairs and refreshes. -/
  | scourerVisit (md : Nat) (bits : List (Option Nat))
  /-- UNTRUST_RULE_CLEAR (R174): A write of MTL_UNTRUST_CLR clears the named untrusted rules. -/
  | untrustRuleClear (actor : Actor) (mask : Nat)
  /-- PFAIL_N_ASSERT (R203): PFAIL_N held low for 1 µs latches a power fail in frame P. -/
  | pfailNAssert
  /-- PFAIL_STOP_ADMISSION (R204): At the tick of P+1 admission stops and Stockpot channels issue only maintenance and flush reads. -/
  | pfailStopAdmission
  /-- PFAIL_COMMIT (R204): At the tick of P+2 the commit point of P is declared if acknowledged and the ports accept no new request. -/
  | pfailCommit
  /-- VAULT_WRITE (R181): Once miss registers holding written bytes are filled, the vault writer writes header, items, manifest and seal. -/
  | vaultWrite
  /-- VAULT_SEALED (R181): The vault header is written SEALED and the Spike flush begins. -/
  | vaultSealed (us : Nat)
  /-- REPLAY_DONE (R207): Every replay program passes and the header is written REPLAYED. -/
  | replayDone
  /-- ACCEPT_LOSS (R208): PERSIST_CTL.ACCEPT_LOSS clears the hold of an incomplete vault and marks the header REPLAYED. -/
  | acceptLoss (actor : Actor)
  /-- LEASE_STOP (R195): With no renewal by 8 frames before expiry, the holder stops admitting reads and writes. -/
  | leaseStop
  /-- MIRROR_SEGMENT_SEND (R224): Every 128 cycles a mirror segment carrying the queued records is sent. -/
  | mirrorSegmentSend
  /-- SEAL_SEND (R224): When every write admitted in F has entered the queue, the final segment closes and the SEAL is sent. -/
  | sealSend
  /-- SEGMENT_RX (R227): A received SEGMENT is checked and its records applied through the line order unit. -/
  | segmentRx (h : MsgHdr) (m : SegMsg)
  /-- SEAL_RX (R227): A received SEAL completes batch F and, with no gap and every record applied, an ACK is sent. -/
  | sealRx (h : MsgHdr) (m : SealMsg)
  /-- ACK_RX (R31): The twin's ACK of batch F is received, allowing its commit point. -/
  | ackRx (h : MsgHdr) (batch status : Nat)
  /-- HEARTBEAT_SEND (R230): At cycle 64 of every frame, or out of turn on PFAIL, HANDOFF or LEAVING, a HEARTBEAT is sent. -/
  | heartbeatSend (sub : Nat)
  /-- HEARTBEAT_RX (R230): A received HEARTBEAT updates twin offset, latency, levels and role inputs. -/
  | heartbeatRx (h : MsgHdr) (m : Heartbeat) (at_ : Nat)
  /-- HEARTBEAT_MISS_64 (R231): After 64 consecutive missed frames the controller acts on its role as R212 states. -/
  | heartbeatMiss64
  /-- ASSIST_REQ_RX (R229): An ASSIST_REQ is answered with the line or granule as of the named position. -/
  | assistReqRx (h : MsgHdr) (req : Nat) (kind : AssistKind) (line : Nat) (pos : MPos)
  /-- ASSIST_RESP_RX (R96): An ASSIST_RESP fills or repairs the line or falls back on poison or not served. -/
  | assistRespRx (h : MsgHdr) (req status : Nat) (poison : Mask) (lines : List LineData)
  /-- RESYNC_START_RX (R212): RESYNC_CTL START from a twin in ACTIVE or SOLO moves a controller in NONE to RESYNC. -/
  | resyncStartRx (h : MsgHdr) (mode : Nat)
  /-- RESYNC_LOG_RX (R236): RESYNC_CTL LOG carries the twin's split-log granules, which the holder marks. -/
  | resyncLogRx (h : MsgHdr) (mode : Nat) (grans : List Nat)
  /-- RESYNC_DONE_RX (R238): RESYNC_CTL DONE signals that copying is complete. -/
  | resyncDoneRx (h : MsgHdr)
  /-- RESYNC_ABORT_RX (R223): RESYNC_CTL ABORT ends a resync. -/
  | resyncAbortRx (h : MsgHdr)
  /-- TWIN_NAK_RX (R222): A NAK makes the sender resend the identical bytes from its replay buffer. -/
  | twinNakRx (h : MsgHdr) (frame seq : Nat)
  /-- HELLO_RX (R346): A received HELLO is verified and the session key derived. -/
  | helloRx (h : MsgHdr) (m : HelloMsg)
  /-- RELAY_RX (R216): A RELAY message is forwarded unchanged to the Trivet or returns its answer. -/
  | relayRx (h : MsgHdr) (m : TrivetMsg) (key : Nat) (us : Nat)
  /-- TWIN_LINK_TRAIN (R219): Every 100 ms an untrained twin link retrains its fitted groups. -/
  | twinLinkTrain (main fall : Bool)
  /-- TWIN_LINK_DOWN (R346): The twin link goes down and the session key is zeroized. -/
  | twinLinkDown
  /-- TWIN_GROUP_FALLBACK (R221): Loss of lock or excess replays moves the twin link to the fall-back group. -/
  | twinGroupFallback (lock : Bool)
  /-- MAIN_STABLE (R221): After 10,000 stable frames MAIN_STABLE is reported and a revert frame set. -/
  | mainStable
  /-- GROUP_REVERT (R221): At REVERT_FRAME both twins return to the main group. -/
  | groupRevert
  /-- LEASE_RENEW (R213): Every 50 frames the holder sends a RENEW to every Trivet address. -/
  | leaseRenew
  /-- TRIVET_REQUEST_TIMEOUT (R213): A request unanswered after 120 µs is sent again and may switch to relay. -/
  | trivetRequestTimeout (id : Nat)
  /-- TRIVET_GRANT_RX (R212): A valid GRANT extends the lease or changes role. -/
  | trivetGrantRx (m : TrivetMsg) (src : Nat) (key : Nat) (us : Nat)
  /-- TRIVET_REFUSE_RX (R212): A REFUSE moves the requester to NONE or is treated as unanswered. -/
  | trivetRefuseRx (m : TrivetMsg) (src : Nat) (key : Nat) (us : Nat)
  /-- LEASE_EXPIRE (R212): A lease ending without renewal moves the holder to NONE and closes ports. -/
  | leaseExpire
  /-- HANDOFF (R233): TWIN_CTL.HANDOFF on an ACTIVE with a STANDBY twin stops admission to hand the role over, or is refused. -/
  | handoff (actor : Actor)
  /-- HANDOFF_RELEASE (R233): Once the last commit point is declared, HANDOFF is set, RELEASE sent and the controller enters NONE. -/
  | handoffRelease
  /-- FORCE_SOLO (R240): TWIN_CTL.FORCE_SOLO sends a SOLO request with FORCE. -/
  | forceSolo (actor : Actor)
  /-- PAIR_WAIT_EXPIRE (R240): With no twin answering within PAIR_WAIT_MS the controller requests SOLO alone. -/
  | pairWaitExpire
  /-- SWITCH_FRAME (R238): At the tick of W the RESYNC twin becomes STANDBY and the holder ACTIVE. -/
  | switchFrame
  /-- SWITCH_FRAME_DEFER (R238): With no GRANT of ACTIVE by W - 4, W moves on by 16 frames. -/
  | switchFrameDefer
  /-- WITNESS_RENEW_RX (R214): As a Trivet, a RENEW from the holder restarts its lease with a GRANT. -/
  | witnessRenewRx (m : TrivetMsg) (key : Nat)
  /-- WITNESS_REQUEST_RX (R214): As a Trivet, a REQUEST is granted, held or refused by epoch and lease state. -/
  | witnessRequestRx (m : TrivetMsg) (key : Nat)
  /-- WITNESS_RELEASE_RX (R214): As a Trivet, a RELEASE ends the lease and answers held requests. -/
  | witnessReleaseRx (m : TrivetMsg) (key : Nat)
  /-- WITNESS_LEASE_END (R214): As a Trivet, a lease's end grants any held request with the next epoch. -/
  | witnessLeaseEnd (low high : Nat)
  /-- WITNESS_START_HOLD_END (R217): LEASE_FRAMES + 1 µs after a witness start it stops refusing with WITNESS_STARTING. -/
  | witnessStartHoldEnd
  /-- MEM_RD (R248): An M2S MemRd reads one line through the line order unit and returns DRS MemData. -/
  | memRd (port ld tag hpa : Nat) (obs : TierObs)
  /-- MEM_RD_DATA (R248): An M2S MemRdData reads one line and returns DRS MemData. -/
  | memRdData (port ld tag hpa : Nat) (obs : TierObs)
  /-- MEM_SPEC_RD (R248): An M2S MemSpecRd fills the line if resources are free, otherwise is dropped. -/
  | memSpecRd (port ld hpa : Nat) (obs : TierObs)
  /-- MEM_INV (R248): An M2S MemInv has no data effect and returns NDR Cmp. -/
  | memInv (port ld tag : Nat)
  /-- MEM_INV_NT (R248): An M2S MemInvNT has no data effect and returns NDR Cmp. -/
  | memInvNt (port ld tag : Nat)
  /-- MEM_CLN_EVCT (R248): An M2S MemClnEvct has no data effect and returns NDR Cmp. -/
  | memClnEvct (port ld tag : Nat)
  /-- MEM_WR (R248): An M2S RwD MemWr writes a full line and returns NDR Cmp once admitted. -/
  | memWr (port ld tag hpa : Nat) (data : LineData)
  /-- MEM_WR_PTL (R248): An M2S RwD MemWrPtl writes the enabled bytes and returns NDR Cmp once admitted. -/
  | memWrPtl (port ld tag hpa : Nat) (data : LineData) (mask : Mask)
  /-- CXL_BAD_OPCODE (R248): Any other CXL.mem opcode is discarded and reported as a protocol error. -/
  | cxlBadOpcode (port : Nat)
  /-- GPF_PHASE_1 (R252): A GPF Phase 1 request is answered at once. -/
  | gpfPhase1 (port tag : Nat)
  /-- GPF_PHASE_2 (R252): A GPF Phase 2 request is admitted as a flush and answered with the persistence acknowledgement. -/
  | gpfPhase2 (port tag : Nat)
  /-- HDM_DECODER_COMMIT (R247): A host commit of an HDM decoder is accepted, held or refused with Commit Error. -/
  | hdmDecoderCommit (port ld dec base size skip iw ig : Nat) (lock : Bool)
  /-- MEM_ENABLE_SET (R260): The host setting Mem_Enable allows CXL.mem credits once a decoder is committed and the port open. -/
  | memEnableSet (port ld : Nat)
  /-- CXL_LINK_UP (R260): A CXL link comes up, negotiates, trains and rebuilds its CDAT. -/
  | cxlLinkUp (port rate width : Nat) (flit : Bool)
  /-- CXL_LINK_DOWN (R261): A link down, hot reset or CXL_PERST_N abandons reads, discards held requests and resets decoders. -/
  | cxlLinkDown (port : Nat)
  /-- CXL_FLR (R261): A function level reset resets one logical device's state. -/
  | cxlFlr (port ld : Nat)
  /-- IDE_MAC_FAIL (R259): An IDE MAC check failure holds requests, stops credits and reports the failure. -/
  | ideMacFail (port : Nat)
  /-- IDE_KEY_EXCHANGE (R259): A completed IDE key exchange resumes the port and discards held requests. -/
  | ideKeyExchange (port : Nat) (io : Bool)
  /-- RD_QUOTA_WRITE (R249): A write of CXP_CREDIT.RD_QUOTA is taken or discarded with QUOTA_REFUSED. -/
  | rdQuotaWrite (actor : Actor) (port quota : Nat)
  /-- CXP_HDM_SNAPSHOT (R264): A write of CXP_HDM_SEL snapshots one HDM decoder. -/
  | cxpHdmSnapshot (actor : Actor) (port ld decoder : Nat)
  /-- IDENTIFY (R256): The mailbox answers Identify. -/
  | identify (port ld : Nat)
  /-- BACKGROUND_OPERATION_STATUS (R256): The mailbox answers Background Operation Status. -/
  | backgroundOperationStatus (port ld : Nat)
  /-- GET_SUPPORTED_LOGS (R256): The mailbox answers Get Supported Logs. -/
  | getSupportedLogs (port ld : Nat)
  /-- GET_LOG (R256): The mailbox answers Get Log with the command effects log. -/
  | getLog (port ld : Nat) (effects : Bool)
  /-- GET_EVENT_RECORDS (R255): The mailbox returns event records of a logical device. -/
  | getEventRecords (port ld log : Nat)
  /-- CLEAR_EVENT_RECORDS (R255): The mailbox clears event records of a logical device. -/
  | clearEventRecords (port ld log : Nat) (all : Bool) (handles : List Nat)
  /-- GET_EVENT_INTERRUPT_POLICY (R255): The mailbox returns the event interrupt policy. -/
  | getEventInterruptPolicy (port ld : Nat)
  /-- SET_EVENT_INTERRUPT_POLICY (R255): The mailbox sets the event interrupt policy. -/
  | setEventInterruptPolicy (port ld policy : Nat)
  /-- GET_FW_INFO (R256): The mailbox reports one read-only slot with the image SEQUENCE. -/
  | getFwInfo (port ld : Nat)
  /-- GET_TIMESTAMP (R256): The mailbox returns the CXL timestamp. -/
  | getTimestamp (port ld : Nat)
  /-- SET_TIMESTAMP (R256): The mailbox sets the CXL timestamp. -/
  | setTimestamp (port ld time : Nat)
  /-- IDENTIFY_MEMORY_DEVICE (R256): The mailbox reports persistent capacity SIZE and the device limits. -/
  | identifyMemoryDevice (port ld : Nat)
  /-- GET_PARTITION_INFO (R256): The mailbox reports volatile 0 and persistent SIZE. -/
  | getPartitionInfo (port ld : Nat)
  /-- GET_HEALTH_INFO (R257): The mailbox reports health, media status, life used, temperature and error counts. -/
  | getHealthInfo (port ld : Nat)
  /-- GET_ALERT_CONFIGURATION (R256): The mailbox returns the alert thresholds. -/
  | getAlertConfiguration (port ld : Nat)
  /-- SET_ALERT_CONFIGURATION (R256): The mailbox sets the alert thresholds. -/
  | setAlertConfiguration (port ld valid enable : Nat) (values : List Nat)
  /-- GET_SHUTDOWN_STATE (R256): The mailbox returns the logical device's shutdown state from the Rack. -/
  | getShutdownState (port ld : Nat)
  /-- SET_SHUTDOWN_STATE (R256): The mailbox sets the logical device's shutdown state in the Rack. -/
  | setShutdownState (port ld : Nat) (dirty : Bool)
  /-- GET_POISON_LIST (R256): The mailbox starts a background scan listing poisoned lines over up to 1 GiB. -/
  | getPoisonList (port ld first lines : Nat)
  /-- POISON_LIST_DONE (R256): The background poison list scan completes within 100 ms. -/
  | poisonListDone (port ld : Nat)
  /-- MAILBOX_UNSUPPORTED (R256): Any other mailbox command is answered with Unsupported. -/
  | mailboxUnsupported (port ld op : Nat)
  /-- GET_LD_INFO (R246): The fabric-manager-owned device answers Get LD Info. -/
  | getLdInfo (port : Nat)
  /-- GET_LD_ALLOCATIONS (R246): The fabric-manager-owned device answers Get LD Allocations. -/
  | getLdAllocations (port : Nat)
  /-- SET_LD_ALLOCATIONS (R246): Set LD Allocations is answered with Unsupported. -/
  | setLdAllocations (port : Nat)
  /-- QOS_STATUS (R246): The fabric-manager-owned device answers the QoS status commands. -/
  | qosStatus (port : Nat)
  /-- DOE_DISCOVERY (R245): A DOE Discovery request is answered. -/
  | doeDiscovery (port ld index : Nat)
  /-- CDAT_TABLE_ACCESS (R258): A DOE CDAT Table Access request returns the logical device's CDAT. -/
  | cdatTableAccess (port ld : Nat)
  /-- ETH_LINK_UP (R267): An Ethernet link comes up and posts PORT_ACTIVE. -/
  | ethLinkUp (port : Nat)
  /-- ETH_LINK_DOWN (R267): An Ethernet link goes down and posts PORT_DOWN. -/
  | ethLinkDown (port cause : Nat)
  /-- CM_REQ (R270): A CM REQ is accepted, held with MRA, or rejected. -/
  | cmReq (port : Nat) (m : CmReq)
  /-- CM_RTU (R272): An RTU moves a passive queue pair from RTR to RTS. -/
  | cmRtu (qpn : Nat)
  /-- CM_REP (R272): A REP to an active queue pair is answered with RTU and the pair enters RTS. -/
  | cmRep (qpn remote psn : Nat)
  /-- CM_DREQ (R272): A DREQ moves the queue pair to ERROR and flushes its work requests. -/
  | cmDreq (qpn : Nat)
  /-- MRA_TIMEOUT (R272): A held queue pair reaching its MRA timeout is rejected and returns to RESET. -/
  | mraTimeout (qpn : Nat)
  /-- QP_ERROR_TIMEOUT (R272): 2 ms after DREP an ERROR queue pair returns to RESET and its QPN is freed. -/
  | qpErrorTimeout (qpn : Nat)
  /-- RDMA_WRITE (R269): A WRITE request writes its lines into a region and is acknowledged once admitted. -/
  | rdmaWrite (port qpn psn : Nat) (ce : Bool) (h : Option Reth) (last : Bool) (data : List Byte)
  /-- RDMA_WRITE_IMM (R269): A WRITE with immediate is the flagged write, acknowledged after its commit point. -/
  | rdmaWriteImm (port qpn psn : Nat) (ce : Bool) (h : Option Reth) (imm : Nat) (data : List Byte)
  /-- RDMA_READ (R269): A READ request reads its lines and returns the response. -/
  | rdmaRead (port qpn psn : Nat) (ce : Bool) (h : Reth)
  /-- COMPARE_SWAP (R269): An 8-byte compare-swap operates on its line and returns the original value. -/
  | compareSwap (port qpn psn : Nat) (ce : Bool) (va key compare swap : Nat)
  /-- FETCH_ADD (R269): An 8-byte fetch-add operates on its line and returns the original value. -/
  | fetchAdd (port qpn psn : Nat) (ce : Bool) (va key addend : Nat)
  /-- RDMA_SEND (R269): A SEND copies its payload into the posted Ramekin buffer, or gets an RNR NAK. -/
  | rdmaSend (port qpn psn : Nat) (ce first last : Bool) (data : List Byte)
  /-- SPRAY_WRITE (R276): A SPRAY_WRITE packet is placed on arrival within the reorder window. -/
  | sprayWrite (port qpn psn : Nat) (ce : Bool) (h : SprayHdr) (data : List Byte)
  /-- SPRAY_WRITE_IMM (R276): A SPRAY_WRITE_IMM packet is placed on arrival and its acknowledgement waits for completeness and commit. -/
  | sprayWriteImm (port qpn psn : Nat) (ce : Bool) (h : SprayHdr) (data : List Byte)
  /-- REORDER_TIMER (R277): A reorder timer expiring with a gap sends a SACK and restarts. -/
  | reorderTimer (qpn : Nat)
  /-- RDMA_ACK_RX (R286): An acknowledgement or NAK received by the requester completes or retries its requests. -/
  | rdmaAckRx (port qpn psn : Nat) (kind : AckKind)
  /-- READ_RESPONSE_RX (R286): READ response or atomic result data arrives at the requester and is written as a transport-engine write. -/
  | readResponseRx (port qpn psn : Nat) (data : List Byte)
  /-- SACK_RX (R286): A SACK received on a spray queue pair resends the named packets. -/
  | sackRx (port qpn psn : Nat) (ranges : List (Nat × Nat))
  /-- POISON_NAK_RX (R288): A POISON_NAK completes the requester's READ with remote poison and its range. -/
  | poisonNakRx (port qpn psn delivered start len : Nat)
  /-- CNP_RX (R286): A congestion notification reduces the queue pair's rate by DCQCN. -/
  | cnpRx (port qpn : Nat)
  /-- DCQCN_RECOVERY (R286): Every 55 µs a reduced queue pair's rate recovers by 5 Gb/s. -/
  | dcqcnRecovery (qpn : Nat)
  /-- RETRANSMIT_TIMEOUT (R286): A requester timeout retransmits or fails the queue pair when retries are exceeded. -/
  | retransmitTimeout (qpn : Nat)
  /-- RDMA_CONNECT (R292): RDMA_CMD CONNECT starts an active connection for a queue pair in RESET. -/
  | rdmaConnect (actor : Actor) (qpn : Nat)
  /-- RDMA_ACCEPT (R292): RDMA_CMD ACCEPT sends REP for a held queue pair. -/
  | rdmaAccept (actor : Actor) (qpn : Nat)
  /-- RDMA_REJECT (R292): RDMA_CMD REJECT sends REJ for a held queue pair. -/
  | rdmaReject (actor : Actor) (qpn : Nat)
  /-- RDMA_DISCONNECT (R292): RDMA_CMD DISCONNECT disconnects or frees a queue pair. -/
  | rdmaDisconnect (actor : Actor) (qpn : Nat)
  /-- REG_CREATE (R279): RDMA_CMD REG_CREATE registers a region and grants its key, or is refused. -/
  | regCreate (actor : Actor) (region : Nat)
  /-- REG_DEREG (R280): RDMA_CMD REG_DEREG invalidates a region's key from the next tick. -/
  | regDereg (actor : Actor) (region : Nat)
  /-- REG_DEREG_DONE (R280): Once admitted accesses through the region complete, REGIONS is decremented and REGION_INVALIDATED posted. -/
  | regDeregDone (region : Nat)
  /-- TRIG_SET (R292): RDMA_CMD TRIG_SET sets a trigger counter. -/
  | trigSet (actor : Actor) (trig : Nat)
  /-- PD_SET (R292): RDMA_CMD PD_SET sets a protection domain's ACCEPT_AUTO. -/
  | pdSet (actor : Actor) (pd : Nat)
  /-- RDMA_DOORBELL (R285): A write of RDMA_DOORBELL makes the requester examine the queue pair's send queue. -/
  | rdmaDoorbell (actor : Actor) (qpn : Nat)
  /-- RDMA_PEEK (R293): A write of RDMA_PEEK_SEL snapshots a queue pair, region or trigger counter. -/
  | rdmaPeek (actor : Actor) (kind index : Nat)
  /-- RK_ALLOC (R301): A write of RK_ALLOC allocates a buffer by class, owner and reserved minima. -/
  | rkAlloc (actor : Actor) (n size owner seq : Nat) (bad : Bool)
  /-- RK_FREE (R302): A write of RK_FREE frees a buffer or refuses the free. -/
  | rkFree (actor : Actor) (n handle owner : Nat) (force bad : Bool)
  /-- RK_CACHE_REFILL (R297): A pool cache below 16 handles is refilled in the background from HWM or the chain. -/
  | rkCacheRefill (pool : Nat) (bad : Bool)
  /-- RK_REBUILD (R299): RK_REBUILD.GO rebuilds a pool's broken free chain from its state table. -/
  | rkRebuild (actor : Actor) (pool : Nat)
  /-- RK_REBUILD_DONE (R299): The chain rebuild ends and REBUILD_DONE is posted. -/
  | rkRebuildDone (pool : Nat) (bad : List Nat)
  /-- RK_PEEK (R311): A write of RK_PEEK_SEL snapshots one pool cache entry. -/
  | rkPeek (actor : Actor) (pool entry : Nat)
  /-- Q_CFG_WRITE (R305): A write of Q_CFG configures, enables or disables a queue, or is refused. -/
  | qCfgWrite (actor : Actor) (value : Word)
  /-- Q_PUSH (R306): A write of Q_PUSH stages one word of a firmware item and commits it at the last word. -/
  | qPush (actor : Actor) (slot : Nat) (value : Word)
  /-- Q_GAP_MARKER (R308): When room arises after drops a gap marker is committed and GAP posted. -/
  | qGapMarker (queue : Nat)
  /-- Q_POP (R306): A read of Q_POP removes and returns the head word. -/
  | qPop (actor : Actor) (slot : Nat) (bad : Bool)
  /-- Q_FLUSH (R309): A write of Q_FLUSH empties the queue and its gap record. -/
  | qFlush (actor : Actor) (slot : Nat)
  /-- Q_WIN_SNAPSHOT (R311): A write of Q_WIN_SEL snapshots a queue word with its tag. -/
  | qWinSnapshot (actor : Actor) (queue offset : Nat) (bad : Bool)
  /-- SCHED_TBL_WRITE (R317): SCHED_TBL_CMD WRITE writes a schedule table row or refuses it. -/
  | schedTblWrite (actor : Actor)
  /-- SCHED_TBL_SNAPSHOT (R336): SCHED_TBL_CMD SNAPSHOT copies a table row into RDATA. -/
  | schedTblSnapshot (actor : Actor)
  /-- SCHED_TBL_CANCEL (R318): SCHED_TBL_CMD CANCEL cancels or interrupts an entry from the next tick. -/
  | schedTblCancel (actor : Actor)
  /-- SCHED_STAGE_START (R318): At L - LEAD a loaded entry begins staging or waits for room. -/
  | schedStageStart (entry : Nat)
  /-- SCHED_ROOM (R319): Staging room arising moves a waiting entry to STAGING. -/
  | schedRoom (entry : Nat)
  /-- SCHED_STAGING_READ_DONE (R320): A staging read completes and its line is installed in a staging way, possibly making the entry ready. -/
  | schedStagingReadDone (entry line : Nat) (find : StageFind) (answer : List LineData) (poison : Mask)
  /-- READY_BEACON_SEND (R324): At cycle 128 of each frame in the beacon period, or on a change, a ready beacon is sent. -/
  | readyBeaconSend (entry : Nat)
  /-- READY_BEACON_RX (R325): A ready beacon is accepted and updates its position's readiness. -/
  | readyBeaconRx (m : ReadyMsg) (tagOk : Bool)
  /-- SCHED_LAUNCH (R326): At the launch decision an entry launches and begins issuing at cycle 0. -/
  | schedLaunch (entry : Nat)
  /-- SCHED_ABANDON (R330): At L + MAX_SLIP an unlaunched entry is abandoned or becomes NOT_RUN. -/
  | schedAbandon (entry : Nat)
  /-- SCHED_CHUNK_RELEASE (R328): When every WRITE of a chunk completes the chunk is released and the next staged. -/
  | schedChunkRelease (entry : Nat)
  /-- SCHED_RECORD_SEND (R329): After the last chunk, once map buffers are held, the poison map and delivery record are sent. -/
  | schedRecordSend (entry dest : Nat)
  /-- SCHED_CATCHUP_EXPIRE (R333): A catch-up not ready within CATCHUP_KF × 1,024 frames becomes NOT_RUN. -/
  | schedCatchupExpire (entry : Nat)
  /-- KEY_INSTALL (R341): KEY_CMD INSTALL verifies a key package and installs it as NEXT. -/
  | keyInstall (actor : Actor) (root : Option Nat) (certOk sigOk wrapOk : Bool)
  /-- KEY_DISCARD_NEXT (R341): KEY_CMD DISCARD_NEXT zeroizes NEXT. -/
  | keyDiscardNext (actor : Actor)
  /-- KEY_ACTIVATE (R341): At ACTIVATE_FRAME NEXT becomes CURRENT, CURRENT PREV, and PREV is zeroized. -/
  | keyActivate
  /-- FUSE_PROGRAM (R339): FUSE_CMD PROGRAM blows a root-key slot's hash fuses or is refused. -/
  | fuseProgram (actor : Actor) (slot : Nat)
  /-- FUSE_REVOKE (R339): FUSE_CMD REVOKE blows a slot's revoke fuse or is refused. -/
  | fuseRevoke (actor : Actor) (slot : Nat)
  /-- JOB_EXPORT (R347): JOB_GO with OP EXPORT starts an export job or refuses it. -/
  | jobExport (actor : Actor) (q : Nat)
  /-- JOB_IMPORT (R347): JOB_GO with OP IMPORT starts an import job or refuses it. -/
  | jobImport (actor : Actor) (q : Nat)
  /-- JOB_ABORT (R350): JOB_GO.ABORT ends a running or suspended job at a block boundary. -/
  | jobAbort (actor : Actor) (q : Nat)
  /-- JOB_DONE (R351): A job ends with its result; a failed import tag enters an untrusted range and starts marking. -/
  | jobDone (q : Nat) (tagOk : Bool)
  /-- MARK_DONE (R352): The ascending mark pass of a range finishes. -/
  | markDone
  /-- UNTRUST_SET (R353): UNTRUST_CMD SET enters and marks a firmware-named range. -/
  | untrustSet (actor : Actor)
  /-- UNTRUST_CLR (R353): UNTRUST_CMD CLR removes an untrusted table entry. -/
  | untrustClr (actor : Actor) (entry : Nat)
  /-- UNTRUST_SNAPSHOT (R361): A write of UNTRUST_SEL snapshots an untrusted table entry. -/
  | untrustSnapshot (actor : Actor) (entry : Nat)
  /-- KEY_SLOT_SNAPSHOT (R338): A write of KEY_SLOT_SEL snapshots a key slot's presence, use and generation. -/
  | keySlotSnapshot (actor : Actor) (slot : Nat)
  /-- FW_MEASURE_EXTEND (R356): FW_MEASURE_CMD.EXTEND extends measurement 4 with 48 bytes. -/
  | fwMeasureExtend (actor : Actor)
  /-- DBG_NEW_CHALLENGE (R358): DBG_CTL.NEW_CHALLENGE fills a fresh debug challenge. -/
  | dbgNewChallenge (actor : Actor)
  /-- DBG_SUBMIT (R358): DBG_CTL.SUBMIT checks the debug response and zeroizes keys and opens debug, or refuses. -/
  | dbgSubmit (actor : Actor) (level : Nat) (root : Option Nat) (sigOk : Bool)
  /-- SPDM_GET_VERSION (R355): The SPDM responder answers GET_VERSION. -/
  | spdmGetVersion
  /-- SPDM_GET_CAPABILITIES (R355): The SPDM responder answers GET_CAPABILITIES. -/
  | spdmGetCapabilities
  /-- SPDM_NEGOTIATE_ALGORITHMS (R355): The SPDM responder answers NEGOTIATE_ALGORITHMS. -/
  | spdmNegotiateAlgorithms (common : Bool)
  /-- SPDM_GET_DIGESTS (R355): The SPDM responder answers GET_DIGESTS. -/
  | spdmGetDigests
  /-- SPDM_GET_CERTIFICATE (R355): The SPDM responder returns certificate slot 0. -/
  | spdmGetCertificate (slot offset length : Nat)
  /-- SPDM_CHALLENGE (R357): A CHALLENGE is answered with CHALLENGE_AUTH and may set ATTESTED. -/
  | spdmChallenge (slot : Nat) (mctp : Bool)
  /-- SPDM_GET_MEASUREMENTS (R356): GET_MEASUREMENTS returns the measurement blocks, signed or not. -/
  | spdmGetMeasurements (index : Nat) (signed mctp : Bool)
  /-- SPDM_KEY_EXCHANGE (R355): KEY_EXCHANGE starts an SPDM session. -/
  | spdmKeyExchange (session : Nat)
  /-- SPDM_FINISH (R355): FINISH completes an SPDM session handshake. -/
  | spdmFinish (session : Nat) (ok : Bool)
  /-- SPDM_END_SESSION (R355): END_SESSION ends an SPDM session. -/
  | spdmEndSession (session : Nat)
  /-- CORE_RUN_SET (R371): Setting DX_CORE_CTL.RUN resumes a stopped service core. -/
  | coreRunSet (actor : Actor) (core : Nat)
  /-- CORE_RUN_CLEAR (R371): Clearing RUN stops a service core at an instruction boundary. -/
  | coreRunClear (actor : Actor) (core : Nat)
  /-- CORE_RESET (R371): DX_CORE_CTL.RESET restarts a core at DX_RESET_VEC with its TCM written bits cleared. -/
  | coreReset (actor : Actor) (core : Nat)
  /-- TCM_CLEAR (R365): DX_CORE_CTL.TCM_CLEAR starts writing zero to every word of the core's TCM. -/
  | tcmClear (actor : Actor) (core : Nat)
  /-- TCM_CLEAR_DONE (R365): The TCM clear completes and the core's TCM accesses resume. -/
  | tcmClearDone (core : Nat)
  /-- CORE_NMI (R371): DX_CORE_CTL.NMI raises a non-maskable interrupt on the core. -/
  | coreNmi (actor : Actor) (core : Nat)
  /-- EVQ_POP (R369): A read of EVQ_POP removes the head entry, latches its words and may let a gap marker in. -/
  | evqPop (actor : Actor) (core : Nat)
  /-- EVQ_FLUSH (R369): EVQ_CTL.FLUSH empties the core's event FIFO and gap record. -/
  | evqFlush (actor : Actor) (core : Nat)
  /-- MTIMECMP_MATCH (R366): mtime reaching a core's mtimecmp raises its timer interrupt. -/
  | mtimecmpMatch (core : Nat)
  /-- KEEPER_CORE_HALT (R367): A keeper core halts and posts a fatal-class event. -/
  | keeperCoreHalt (k : Nat)
  /-- KEEPER_TAKEOVER (R367): Within 1 ms the other keeper core takes over the halted core's duties. -/
  | keeperTakeover (k : Nat)
  /-- DEBUG_HALT (R371): A debugger with debug open halts a core through the RISC-V debug interface. -/
  | debugHalt (core : Nat)
  /-- DEBUG_RESUME (R371): A debugger resumes a halted core. -/
  | debugResume (core : Nat)
  /-- DEBUG_ABSTRACT_COMMAND (R371): A debugger runs an abstract register or memory command on a core. -/
  | debugAbstractCommand (core : Nat) (cmd : DbgCmd)
  /-- CF_PROGRAM (R377): CF_CMD PROGRAM programs a flash page from CF_PAGE_BUF or is refused. -/
  | cfProgram (actor : Actor)
  /-- CF_PROGRAM_DONE (R377): A flash program completes and I-cache lines of the page are invalidated. -/
  | cfProgramDone (us : Nat)
  /-- CF_ERASE (R378): CF_CMD ERASE starts erasing a flash sector or is refused. -/
  | cfErase (actor : Actor)
  /-- CF_ERASE_DONE (R378): A flash erase completes and I-cache lines of the sector are invalidated. -/
  | cfEraseDone (us activeUs : Nat)
  /-- CF_HASH (R381): CF_CMD HASH starts a SHA-384 digest over flash sectors or is refused. -/
  | cfHash (actor : Actor)
  /-- CF_HASH_DONE (R381): The flash hash completes and the digest is written. -/
  | cfHashDone (us : Nat)
  /-- FLASH_READ (R373): A fetch or read of the code flash is served, suspending any erase of its bank. -/
  | flashRead (who : FlashReader) (offset : Nat)
  /-- ERASE_RESUME (R378): After 10 µs without a bank access a suspended erase resumes. -/
  | eraseResume
  /-- ERASE_STARVED (R378): An erase unfinished 1,000 ms after its command is counted and posted. -/
  | eraseStarved
  /-- RACK_BURST_START (R387): A queued Rack write burst starts once supply and temperature allow. -/
  | rackBurstStart (aonMv : Nat)
  /-- RACK_BURST_DONE (R386): A Rack write burst completes. -/
  | rackBurstDone
  /-- OPERATING_SECOND (R392): At the start of each powered second the operating-seconds counter is incremented. -/
  | operatingSecond
  /-- RACK_SNAPSHOT (R397): A write of RACK_RD_ADDR snapshots one Rack group. -/
  | rackSnapshot (actor : Actor) (group : Nat) (ecc : Ecc)
  /-- RACK_FW_CMD (R398): A write of RACK_FW_CMD queues a firmware-area burst or refuses it. -/
  | rackFwCmd (actor : Actor) (group count : Nat)
  /-- SPIKE_FLUSH_REQUEST (R401): SPK_CTL.FLUSH starts a flush of unflushed records to the Rack. -/
  | spikeFlushRequest (actor : Actor)
  /-- SPIKE_FLUSH_DONE (R401): A Spike flush completes, or at power fail lets the Hob power down. -/
  | spikeFlushDone (abandoned : Bool) (totalUs : Nat)
  /-- SPIKE_FREEZE (R404): Writing SPK_CTL.FREEZE to one freezes the Spike from the next cycle. -/
  | spikeFreeze (actor : Actor)
  /-- SPIKE_UNFREEZE (R404): Writing FREEZE to zero ends the freeze and enters side-buffer records. -/
  | spikeUnfreeze (actor : Actor)
  /-- SPIKE_FREEZE_MAX (R404): A freeze lasting FREEZE_MAX_MS ends. -/
  | spikeFreezeMax
  /-- SPIKE_STEP (R402): A write of SPK_W_STEP moves a window's cursor past the record shown. -/
  | spikeStep (actor : Actor)
  /-- SPIKE_CURSOR_WRITE (R402): A write of SPK_W_CURSOR sets a window's cursor. -/
  | spikeCursorWrite (actor : Actor) (seq : Nat)
  /-- SPIKE_CLEAR_CHALLENGE (R405): SPK_CLR_CTL.NEW_CHALLENGE fills a fresh clear challenge. -/
  | spikeClearChallenge (actor : Actor)
  /-- SPIKE_CLEAR_SUBMIT (R405): SPK_CLR_CTL.SUBMIT checks the clear token and starts the clear, or refuses. -/
  | spikeClearSubmit (actor : Actor) (root : Option Nat) (sigOk : Bool)
  /-- SPIKE_CLEAR_DONE (R406): The clear ends and a CLEARED record is made. -/
  | spikeClearDone
  /-- ADC_CONVERSION (R410): Each µs the ADC converts one sense input, checking sag, bands and off thresholds. -/
  | adcConversion (rail reading us : Nat)
  /-- RAIL_ENABLE (R411): Once the minimum off time has passed, the step's rail enable is asserted. -/
  | railEnable (rail : Nat)
  /-- RAIL_PG_CHANGE (R411): A change of a rail's power-good input counts a chatter or restarts the debounce. -/
  | railPgChange (rail : Nat) (high : Bool)
  /-- RAIL_UP (R411): A rail's power-good high for DEBOUNCE_US makes the rail up and ends its step. -/
  | railUp (rail us : Nat)
  /-- RAIL_FAIL_UP (R412): A rail not up after UP_TIMEOUT_MS fails, is disabled and fences its units. -/
  | railFailUp (rail us : Nat)
  /-- RAIL_DOWN_TIMEOUT (R414): A rail not below OFF_MV after DOWN_TIMEOUT_MS sets DOWN_TIMEOUT. -/
  | railDownTimeout (rail us : Nat)
  /-- RAIL_PG_LOST (R419): An up rail's power-good low for DEBOUNCE_US fails it, fences units and may force OFF. -/
  | railPgLost (rail us : Nat)
  /-- RAIL_RETRY (R413): HOB_RAIL_CTL.RETRY runs a failed rail's step again. -/
  | railRetry (actor : Actor) (rail : Nat)
  /-- RAIL_SKIP_WAIT (R414): HOB_RAIL_CTL.SKIP_WAIT lets a timed-out power-down move on. -/
  | railSkipWait (actor : Actor) (rail : Nat)
  /-- HOB_ON (R416): HOB_REQ ON requests power-up or, while OFF, starts a system reset. -/
  | hobOn (actor : Actor)
  /-- HOB_OFF (R416): HOB_REQ OFF requests power-down, with flush when the persistence unit is ON. -/
  | hobOff (actor : Actor)
  /-- INPUT_RETURN (R416): The input back for 100 ms after a power-fail power-down requests ON. -/
  | inputReturn
  /-- RESET_RELEASE (R420): STRETCH_US after its rails are up a reset output is released. -/
  | resetRelease (n : Nat)
  /-- RESET_PULSE (R420): HOB_RST.PULSE asserts a reset output for STRETCH_US. -/
  | resetPulse (actor : Actor) (n : Nat)
  /-- THERMAL_SAMPLE (R422): A sensor is sampled and class levels, Simmer, windows and shutdown are evaluated. -/
  | thermalSample (cls : SensClass) (n : Nat) (temp : Option Int) (us : Nat)
  /-- THERMAL_TRIP (R425): The always-on comparator at +135 °C deasserts every rail enable without flush. -/
  | thermalTrip
  /-- POWER_ON_RESET (R433): The always-on domain powering up starts the boot ROM at stage 0. -/
  | powerOnReset (bad corrected : List Nat)
  /-- ALWAYS_ON_LOSS (R444): VAON or VIO18_AON falling below its level ends the always-on domain. -/
  | alwaysOnLoss
  /-- BOOT_IMAGE_LOADED (R430): Stage 1 ends with an image copied, or in recovery; stage 2 applies it and sends the Hob ON. -/
  | bootImageLoaded (a b : SlotVerdict) (us1 us2 : Nat)
  /-- BOOT_HOB_UP (R430): The Hob reaching UP ends stage 3 and starts stage 4. -/
  | bootHobUp (us : Nat)
  /-- BOOT_RELEASE (R430): With TREF_IN present, stage 5 releases the service cluster and enables image-enabled units. -/
  | bootRelease (us : Nat)
  /-- SYSRST_N (R433): SYSRST_N held low for 1 µs starts a system reset. -/
  | sysrstN
  /-- SYSTEM_RESET (R433): BOOT_CTL.SYSTEM_RESET starts a system reset. -/
  | systemReset (actor : Actor)
  /-- WARM_RESTART (R435): BOOT_CTL.WARM_RESTART stops and restarts the service cluster. -/
  | warmRestart (actor : Actor)
  /-- WDT_KICK (R436): A write of BOOT_WDT_KICK restarts the watchdog count. -/
  | wdtKick (actor : Actor)
  /-- WDT_EXPIRE (R436): The watchdog reaching zero acts by ACTION: event, NMI, warm restart or system reset. -/
  | wdtExpire
  /-- STATE_SNAP (R437): STATE_CMD.SNAP snapshots one row of a device structure, or sets STATE_BUSY. -/
  | stateSnap (actor : Actor) (fixed : Bool) (bad : List Nat)
  /-- STATE_SNAP_DONE (R437): A snapshot of a row held in the Stockpot, media or flash completes within 20 µs. -/
  | stateSnapDone (fixed : Bool) (bad : List Nat)
  /-- CORE_MEMORY_ACCESS (R363): A service core's fetch, load or store to its TCM, another core's TCM, the cluster SRAM or the Ramekin window is served, or raises an access fault on an unnamed address, an uninitialised TCM word, an uncorrectable ECC word or a poisoned Ramekin load. -/
  | coreMemoryAccess (core : Nat) (kind : CoreAcc) (addr size : Nat) (data : Word) (ecc : Ecc)
  /-- ETH_FRAME_DISCARD (R265): An Ethernet frame carrying IP options, IPv6 extension headers or a fragment is discarded and counted in ETH_COUNT_1.DISCARDED. -/
  | ethFrameDiscard (port : Nat)
  /-- PTP_LOST (R39): The selected PTP time transmitter stops being received, so PTP is no longer healthy and PTP_LOST is set. -/
  | ptpLost
  /-- TREF_RETURN (R49): TREF_IN edges resume after a loss; TREF_OK is set again and the holdover estimate goes back from 1,000 ppb to HOLDOVER_CFG.PPB. -/
  | trefReturn
  deriving DecidableEq, Repr

end Sys2Proof
end

