-- ==== Sys2Proof/Machine/Fields.lean ====
section
/-! DEFINITION. The fields of every register map of the spec as constants: the register's CSPACE address, the field's lowest
bit and its width. `A.<REG>` is a register's address, `F.<REG>_<FIELD>` a field; an array register takes its indices. -/
namespace Sys2Proof.Machine

namespace A
/-! 01_architecture.md, R35 -/
def GLOBAL_ID : Nat := 0x0
def PASS_SEQ_LAST : Nat := 0x10
def PASS_SEQ_SEED : Nat := 0x18
def PASS_MARK : Nat := 0x20
def PASS_STATUS : Nat := 0x28
def FRAME_OVR_COUNT : Nat := 0x30
def FRAME_OVR_STATUS : Nat := 0x38
def FRAME_OVR_CTL : Nat := 0x40
def WRITE_BLOCK : Nat := 0x48
def UNIT_STATE (i : Nat) : Nat := 0x1000 + 0x8 * i
def PASS_LOST (i : Nat) : Nat := 0x2000 + 0x8 * i
/-! 02_time_and_domain.md, R56 -/
def TIME_CTL : Nat := 0x20000
def TIME_STATUS : Nat := 0x20008
def FRAME_NOW : Nat := 0x20010
def EPOCH_TIME : Nat := 0x20020
def EPOCH_BASE : Nat := 0x20028
def FRAME_PERIOD : Nat := 0x20018
def OFFSET : Nat := 0x20030
def HOLDOVER_EST : Nat := 0x20038
def HOLDOVER_CFG : Nat := 0x20040
def TSYNC_CFG : Nat := 0x20050
def TSYNC_COUNT : Nat := 0x20058
def PTP_CFG : Nat := 0x20060
def PTP_PARENT : Nat := 0x20068
def BEACON_CFG : Nat := 0x20080
def DOMAIN_ID : Nat := 0x20088
def BEACON_TX : Nat := 0x20090
def BEACON_RX : Nat := 0x20098
def PEER_COUNT : Nat := 0x200a0
def TIME_EVENTS : Nat := 0x200a8
/-! 03_agmar_image.md, R78 -/
def CONFIG_STATUS : Nat := 0x10000
def CONFIG_SEQ : Nat := 0x10008
def CONFIG_LENGTH : Nat := 0x10010
def CONFIG_HASH (i : Nat) : Nat := 0x10018 + 0x8 * i
def CONFIG_SHARED_HASH : Nat := 0x10048
def CONFIG_READ_ADDR : Nat := 0x10050
def CONFIG_READ_DATA : Nat := 0x10058
def SLOT_A_STATUS : Nat := 0x10060
def SLOT_B_STATUS : Nat := 0x10068
def SLOT_CHECK : Nat := 0x10070
def CHANGE_CTL : Nat := 0x10078
def CHANGE_FRAME : Nat := 0x10080
def CHANGE_STATUS : Nat := 0x10088
def CHANGE_APPLIED : Nat := 0x10090
def SVN_FUSE : Nat := 0x10098
def SVN_COMMIT : Nat := 0x100a0
def CONFIG_EVENTS : Nat := 0x100a8
/-! 04_address_model_and_tiers.md, R99 -/
def PART_CAPACITY : Nat := 0x93ff8
def PART_BASE (i : Nat) : Nat := 0x94000 + 0x20 * i
def PART_SIZE (i : Nat) : Nat := 0x94008 + 0x20 * i
def PART_ATTR (i : Nat) : Nat := 0x94010 + 0x20 * i
def PART_CTL (i : Nat) : Nat := 0x94018 + 0x20 * i
/-! 04_address_model_and_tiers.md, R100 -/
def PLACE_CFG : Nat := 0x8a000
def PLACE_STATUS : Nat := 0x8a008
def PLACE_COUNT : Nat := 0x8a010
def ASSIST_CTL : Nat := 0x8a018
def ASSIST_COUNT : Nat := 0x8a020
def ASSIST_FAIL : Nat := 0x8a028
def XLATE_ADDR : Nat := 0x8a040
/-! 04_address_model_and_tiers.md, R101 -/
def XLATE_RESULT_0 : Nat := 0x8a048
def XLATE_RESULT_1 : Nat := 0x8a050
def XLATE_ECHO : Nat := 0x8a058
def XLATE_FRAME : Nat := 0x8a060
def PLACE_EVENTS : Nat := 0x8a068
def MTL_PART_RES (i : Nat) : Nat := 0x8b000 + 0x10 * i
def MTL_PART_CNT (i : Nat) : Nat := 0x8b008 + 0x10 * i
/-! 05_near_cache.md, R121 -/
def NC_CTL : Nat := 0x30000
def NC_STATUS : Nat := 0x30008
def NC_WAY_MASK (i : Nat) : Nat := 0x30040 + 0x8 * i
def NC_LD_CLASS (i : Nat) : Nat := 0x30100 + 0x8 * i
def NC_SRC_CLASS : Nat := 0x30180
def NC_OP_START : Nat := 0x30200
def NC_OP_END : Nat := 0x30208
def NC_OP_CTL : Nat := 0x30210
def NC_OP_STATUS : Nat := 0x30218
def NC_CRC_COUNT : Nat := 0x30300
def NC_STALL_COUNT : Nat := 0x30308
def NC_EVENTS : Nat := 0x30310
def NC_MR_SEL : Nat := 0x30400
def NC_MR_PEEK_0 : Nat := 0x30408
def NC_MR_PEEK_1 : Nat := 0x30410
def NC_COL_SEL : Nat := 0x30420
def NC_COL_PEEK_0 : Nat := 0x30428
def NC_COL_PEEK_1 : Nat := 0x30430
def NC_COL_DATA (i : Nat) : Nat := 0x30440 + 0x8 * i
/-! 06_stockpot.md, R148 -/
def SP_CH_CTL (i : Nat) : Nat := 0x40000 + 0x1000 * i
def SP_CH_STATUS (i : Nat) : Nat := 0x40008 + 0x1000 * i
def SP_CH_DIMM (i : Nat) : Nat := 0x40010 + 0x1000 * i
def SP_CH_LAYOUT (i : Nat) : Nat := 0x40018 + 0x1000 * i
def SP_CH_ECC (i : Nat) : Nat := 0x40020 + 0x1000 * i
def SP_CH_ECC_ADDR (i : Nat) : Nat := 0x40028 + 0x1000 * i
def SP_CH_REF (i : Nat) : Nat := 0x40030 + 0x1000 * i
def SP_CH_FREEZE (i : Nat) : Nat := 0x40038 + 0x1000 * i
def SP_CH_TRAIN (i : Nat) : Nat := 0x40040 + 0x1000 * i
def SP_CH_EVENTS (i : Nat) : Nat := 0x40048 + 0x1000 * i
/-! 06_stockpot.md, R149 -/
def SP_CFG : Nat := 0x4c000
def SP_NRR_CFG : Nat := 0x4c008
def SP_DIRTY : Nat := 0x4c010
def SP_DIRTY_STATE : Nat := 0x4c018
def SP_CAPACITY : Nat := 0x4c020
def SP_WB_COUNT : Nat := 0x4c028
def SP_RT_CFG : Nat := 0x4c030
def SP_RT_STATUS : Nat := 0x4c038
def SP_FILL_START : Nat := 0x4c040
def SP_FILL_LEN : Nat := 0x4c048
def SP_FILL_PATTERN : Nat := 0x4c050
def SP_FILL_CTL : Nat := 0x4c058
def SP_FILL_STATUS : Nat := 0x4c060
def SP_SCRUB_CH : Nat := 0x4c068
def SP_SCRUB_START : Nat := 0x4c070
def SP_SCRUB_LEN : Nat := 0x4c078
def SP_SCRUB_CTL : Nat := 0x4c080
def SP_SCRUB_SUM_0 : Nat := 0x4c088
def SP_SCRUB_SUM_1 : Nat := 0x4c090
def SP_SCRUB_SUM_2 : Nat := 0x4c098
def SP_EVENTS : Nat := 0x4c0a0
/-! 07_media_and_translation.md, R183 -/
def MD_CTL (i : Nat) : Nat := 0x60000 + 0x800 * i
def MD_STATUS (i : Nat) : Nat := 0x60008 + 0x800 * i
def MD_TRAIN (i : Nat) : Nat := 0x60010 + 0x800 * i
def MD_PKG_0 (i : Nat) : Nat := 0x60018 + 0x800 * i
def MD_PKG_1 (i : Nat) : Nat := 0x60020 + 0x800 * i
def MD_ECC (i : Nat) : Nat := 0x60028 + 0x800 * i
def MD_PROG (i : Nat) : Nat := 0x60030 + 0x800 * i
def MD_SPARE_0 (i : Nat) : Nat := 0x60038 + 0x800 * i
def MD_SPARE_1 (i : Nat) : Nat := 0x60040 + 0x800 * i
def MD_WEAR_0 (i : Nat) : Nat := 0x60048 + 0x800 * i
def MD_WEAR_1 (i : Nat) : Nat := 0x60050 + 0x800 * i
def MD_EVENTS (i : Nat) : Nat := 0x60058 + 0x800 * i
/-! 07_media_and_translation.md, R184 -/
def MTL_CTL : Nat := 0x80000
def MTL_STATUS : Nat := 0x80008
def MTL_WINDOW_OUT : Nat := 0x80010
def MTL_PROG_CFG : Nat := 0x80018
def MTL_DRIFT_CFG : Nat := 0x80020
def MTL_ASSIST_CFG : Nat := 0x80028
def MTL_DISTURB_CFG : Nat := 0x80030
def MTL_WEAR_CFG : Nat := 0x80038
def MTL_COUNT_0 : Nat := 0x80040
def MTL_COUNT_1 : Nat := 0x80048
def MTL_COUNT_2 : Nat := 0x80050
def MTL_UNTRUST (i : Nat) : Nat := 0x80100 + 0x10 * i
def MTL_UNTRUST_CLR : Nat := 0x801c0
def MTL_UNTRUST_FRAME (i : Nat) : Nat := 0x80108 + 0x10 * i
def SCOUR_CTL : Nat := 0x80200
def SCOUR_LAP : Nat := 0x80208
def SCOUR_POS : Nat := 0x80210
def SCOUR_PROJ : Nat := 0x80218
def SCOUR_FOUND : Nat := 0x80220
def VAULT_CAP : Nat := 0x80300
def VAULT_HDR : Nat := 0x80308
def VAULT_FRAME : Nat := 0x80310
def VAULT_SAVE : Nat := 0x80318
def VAULT_SKIP : Nat := 0x80320
def MTL_EVENTS : Nat := 0x80330
/-! 08_persistence_and_admission.md, R210 -/
def PERSIST_CTL : Nat := 0x90000
def PERSIST_STATUS : Nat := 0x90008
def COMMIT_FRAME : Nat := 0x90010
def ACK_LAG : Nat := 0x90018
def CREDIT_NOW : Nat := 0x90020
def CREDIT_IN : Nat := 0x90028
def CREDIT_CFG : Nat := 0x90030
def FLUSH_PARAM : Nat := 0x90038
def BUDGET : Nat := 0x90040
def PFAIL_STATUS : Nat := 0x90048
def PFAIL_TIME : Nat := 0x90050
def REPLAY_STATUS : Nat := 0x90058
def POISON_COUNT : Nat := 0x90060
def PERSIST_EVENTS : Nat := 0x90068
def ADMIT_Q (i : Nat) : Nat := 0x90100 + 0x8 * i
/-! 09_twin_and_failover.md, R241 -/
def TWIN_CTL : Nat := 0xa0000
def TWIN_CFG : Nat := 0xa0008
def TWIN_STATUS : Nat := 0xa0010
def TWIN_LEASE : Nat := 0xa0018
def TWIN_EXPIRY : Nat := 0xa0020
def TWIN_BATCH : Nat := 0xa0028
def SPLIT_INFO : Nat := 0xa0030
def TWIN_LINK : Nat := 0xa0038
def TWIN_ERR : Nat := 0xa0040
def TWIN_HB : Nat := 0xa0048
def TWIN_OVR : Nat := 0xa0050
def RESYNC_STATUS : Nat := 0xa0058
def RESYNC_DONE : Nat := 0xa0060
def SPLIT_LOG : Nat := 0xa0068
def TRIVET_STATUS : Nat := 0xa0070
def TRIVET_COUNT : Nat := 0xa0078
def TWIN_TAKEOVER : Nat := 0xa0080
def WITNESS_STATUS : Nat := 0xa0088
def TWIN_EVENTS : Nat := 0xa0090
/-! 10_cxl_host_ports.md, R264 -/
def CXP_CTL (i : Nat) : Nat := 0xb0000 + 0x1000 * i
def CXP_STATUS (i : Nat) : Nat := 0xb0008 + 0x1000 * i
def CXP_CREDIT (i : Nat) : Nat := 0xb0010 + 0x1000 * i
def CXP_COUNT_0 (i : Nat) : Nat := 0xb0018 + 0x1000 * i
def CXP_COUNT_1 (i : Nat) : Nat := 0xb0020 + 0x1000 * i
def CXP_HELD (i : Nat) : Nat := 0xb0028 + 0x1000 * i
def CXP_ERR (i : Nat) : Nat := 0xb0030 + 0x1000 * i
def CXP_LD (i j : Nat) : Nat := 0xb0100 + 0x1000 * i + 0x8 * j
def CXP_HDM_SEL (i : Nat) : Nat := 0xb0200 + 0x1000 * i
def CXP_HDM_PEEK_0 (i : Nat) : Nat := 0xb0208 + 0x1000 * i
def CXP_HDM_PEEK_1 (i : Nat) : Nat := 0xb0210 + 0x1000 * i
def CXP_HDM_PEEK_2 (i : Nat) : Nat := 0xb0218 + 0x1000 * i
def CXP_EVENTS (i : Nat) : Nat := 0xb0220 + 0x1000 * i
/-! 11_rdma_ports.md, R290 -/
def ETH_CTL (i : Nat) : Nat := 0xc0000 + 0x1000 * i
def ETH_STATUS (i : Nat) : Nat := 0xc0008 + 0x1000 * i
def ETH_MAC (i : Nat) : Nat := 0xc0010 + 0x1000 * i
def ETH_IPV4 (i : Nat) : Nat := 0xc0018 + 0x1000 * i
def ETH_IPV6_HI (i : Nat) : Nat := 0xc0020 + 0x1000 * i
def ETH_IPV6_LO (i : Nat) : Nat := 0xc0028 + 0x1000 * i
def ETH_COUNT_0 (i : Nat) : Nat := 0xc0030 + 0x1000 * i
def ETH_COUNT_1 (i : Nat) : Nat := 0xc0038 + 0x1000 * i
def ETH_COUNT_2 (i : Nat) : Nat := 0xc0040 + 0x1000 * i
def ETH_EVENTS (i : Nat) : Nat := 0xc0048 + 0x1000 * i
/-! 11_rdma_ports.md, R291 -/
def RDMA_CTL : Nat := 0xd0000
def RDMA_CFG : Nat := 0xd0008
def RDMA_USE : Nat := 0xd0010
def RDMA_DOORBELL : Nat := 0xd0018
def RDMA_EQ_MAP : Nat := 0xd0020
def RDMA_COUNT_0 : Nat := 0xd0028
def RDMA_COUNT_1 : Nat := 0xd0030
def RDMA_EVENTS : Nat := 0xd0038
/-! 11_rdma_ports.md, R292 -/
def RDMA_CMD_STATUS : Nat := 0xd0068
/-! 12_ramekin_pools_and_queues.md, R312 -/
def RK_CTL : Nat := 0xe0000
def RK_STATUS : Nat := 0xe0008
def RK_POOL_CFG (i : Nat) : Nat := 0xe0040 + 0x8 * i
def RK_POOL_STAT (i : Nat) : Nat := 0xe0080 + 0x8 * i
def RK_POOL_PTR (i : Nat) : Nat := 0xe00c0 + 0x8 * i
def RK_POOL_CNT (i : Nat) : Nat := 0xe0100 + 0x8 * i
def RK_ALLOC (i : Nat) : Nat := 0xe0200 + 0x8 * i
def RK_ALLOC_RES (i : Nat) : Nat := 0xe0280 + 0x8 * i
def RK_FREE (i : Nat) : Nat := 0xe0300 + 0x8 * i
def RK_MIN (i j : Nat) : Nat := 0xe1000 + 0x30 * i + 0x8 * j
def RK_PEEK_SEL : Nat := 0xe0400
def RK_PEEK : Nat := 0xe0408
def RK_REBUILD : Nat := 0xe0410
def RK_EVENTS : Nat := 0xe0418
/-! 12_ramekin_pools_and_queues.md, R313 -/
def Q_CTL : Nat := 0xf0000
def Q_CFG_SEL : Nat := 0xf0008
def Q_CFG : Nat := 0xf0010
def Q_PTR : Nat := 0xf0018
def Q_STAT : Nat := 0xf0020
def Q_EVENTS : Nat := 0xf0028
def Q_WIN_SEL : Nat := 0xf0040
def Q_WIN_DATA : Nat := 0xf0048
def Q_WIN_TAG : Nat := 0xf0050
def Q_BIND (i : Nat) : Nat := 0xf8000 + 0x40 * i
def Q_PUSH (i : Nat) : Nat := 0xf8008 + 0x40 * i
def Q_POP (i : Nat) : Nat := 0xf8010 + 0x40 * i
def Q_PEEK (i : Nat) : Nat := 0xf8018 + 0x40 * i
def Q_HEAD (i : Nat) : Nat := 0xf8020 + 0x40 * i
def Q_FLUSH (i : Nat) : Nat := 0xf8028 + 0x40 * i
/-! 13_serving_schedules.md, R336 -/
def SCHED_CTL : Nat := 0x100000
def SCHED_CFG : Nat := 0x100008
def SCHED_STATUS : Nat := 0x100010
def SCHED_TBL_SEL : Nat := 0x100040
def SCHED_TBL_CMD : Nat := 0x100048
def SCHED_TBL_STATUS : Nat := 0x100050
def SCHED_TBL_WDATA (i : Nat) : Nat := 0x100080 + 0x8 * i
def SCHED_TBL_RDATA (i : Nat) : Nat := 0x1000c0 + 0x8 * i
def SCHED_COUNT_0 : Nat := 0x100100
def SCHED_COUNT_1 : Nat := 0x100108
def SCHED_COUNT_2 : Nat := 0x100110
def SCHED_BEACON : Nat := 0x100118
def SCHED_EVENTS : Nat := 0x100120
/-! 14_cipher_and_keys.md, R361 -/
def CIPHER_CTL : Nat := 0x110000
def CIPHER_STATUS : Nat := 0x110008
def KEY_GEN_NOW : Nat := 0x110010
def KEY_GEN_PREV : Nat := 0x110018
def KEY_ACTIVATE : Nat := 0x110020
def KEY_CMD : Nat := 0x110028
def KEY_CMD_STATUS : Nat := 0x110030
def KEY_PKG (i : Nat) : Nat := 0x110800 + 0x8 * i
def KEY_SLOT_SEL : Nat := 0x110038
def KEY_SLOT_PEEK : Nat := 0x110040
def KA_PUB (i : Nat) : Nat := 0x110c00 + 0x8 * i
def FUSE_HASH (i : Nat) : Nat := 0x110048 + 0x8 * i
def FUSE_CMD : Nat := 0x110078
def FUSE_STATUS : Nat := 0x110080
def JOB_OP (i : Nat) : Nat := 0x110100 + 0x80 * i
def JOB_SRC (i : Nat) : Nat := 0x110108 + 0x80 * i
def JOB_DST (i : Nat) : Nat := 0x110110 + 0x80 * i
def JOB_LEN (i : Nat) : Nat := 0x110118 + 0x80 * i
def JOB_AAD (i j : Nat) : Nat := 0x110120 + 0x80 * i + 0x8 * j
def JOB_GO (i : Nat) : Nat := 0x110130 + 0x80 * i
def JOB_STATUS (i : Nat) : Nat := 0x110138 + 0x80 * i
def JOB_NONCE (i j : Nat) : Nat := 0x110140 + 0x80 * i + 0x8 * j
def JOB_TAG (i j : Nat) : Nat := 0x110150 + 0x80 * i + 0x8 * j
def JOB_POISON (i : Nat) : Nat := 0x110160 + 0x80 * i
def UNTRUST_SEL : Nat := 0x110300
def UNTRUST_PEEK_0 : Nat := 0x110308
def UNTRUST_PEEK_1 : Nat := 0x110310
def UNTRUST_ARG_0 : Nat := 0x110318
def UNTRUST_ARG_1 : Nat := 0x110320
def UNTRUST_CMD : Nat := 0x110328
def FW_MEASURE_DATA (i : Nat) : Nat := 0x110380 + 0x8 * i
def FW_MEASURE_CMD : Nat := 0x1103b0
def FW_MEASURE_VALUE (i : Nat) : Nat := 0x1103c0 + 0x8 * i
def DBG_CTL : Nat := 0x110400
def DBG_STATUS : Nat := 0x110408
def DBG_CHALLENGE (i : Nat) : Nat := 0x110410 + 0x8 * i
def DBG_RESP (i : Nat) : Nat := 0x110500 + 0x8 * i
def CIPHER_EVENTS : Nat := 0x110440
/-! 15_dexith_and_code_flash.md, R384 -/
def DX_CTL : Nat := 0x120000
def DX_STATUS : Nat := 0x120008
def DX_RESET_VEC : Nat := 0x120010
def DX_MTIME : Nat := 0x120018
def DX_ECC : Nat := 0x120020
def DX_IPI : Nat := 0x120028
def DX_IPI_CLR : Nat := 0x120030
def DX_FRAME_ACK : Nat := 0x120038
def DX_EVENTS : Nat := 0x120040
def DX_CORE_CTL (i : Nat) : Nat := 0x120100 + 0x40 * i
def DX_CORE_STATUS (i : Nat) : Nat := 0x120108 + 0x40 * i
def DX_CORE_PC (i : Nat) : Nat := 0x120110 + 0x40 * i
def DX_MTIMECMP (i : Nat) : Nat := 0x120118 + 0x40 * i
def EVQ_CTL (i : Nat) : Nat := 0x120800 + 0x80 * i
def EVQ_STATUS (i : Nat) : Nat := 0x120808 + 0x80 * i
def EVQ_POP (i : Nat) : Nat := 0x120810 + 0x80 * i
def EVQ_LATCH (i j : Nat) : Nat := 0x120818 + 0x80 * i + 0x8 * j
def EVQ_PEEK (i j : Nat) : Nat := 0x120830 + 0x80 * i + 0x8 * j
def EVT_ROUTE (i : Nat) : Nat := 0x121000 + 0x8 * i
/-! 15_dexith_and_code_flash.md, R385 -/
def CF_STATUS : Nat := 0x130000
def CF_ADDR : Nat := 0x130008
def CF_CMD : Nat := 0x130010
def CF_OP_STATUS : Nat := 0x130018
def CF_OP_TIME : Nat := 0x130020
def CF_HASH_LEN : Nat := 0x130028
def CF_WP_CTL : Nat := 0x130030
def CF_STARVE : Nat := 0x130038
def CF_INTERRUPTED : Nat := 0x130040
def CF_XO_VIOL : Nat := 0x130048
def CF_READ_STAT : Nat := 0x130050
def CF_EVENTS : Nat := 0x130058
def CF_PAGE_BUF (i : Nat) : Nat := 0x130100 + 0x8 * i
def CF_WP (i : Nat) : Nat := 0x130400 + 0x8 * i
def CF_XO (i : Nat) : Nat := 0x130600 + 0x8 * i
def CF_HASH (i : Nat) : Nat := 0x130680 + 0x8 * i
/-! 16_rack_and_spike.md, R407 -/
def RACK_STATUS : Nat := 0x140000
def RACK_COUNT : Nat := 0x140008
def RACK_ERR : Nat := 0x140010
def RACK_OPSEC : Nat := 0x140018
def RACK_PWRCYC : Nat := 0x140020
def RACK_LOSS : Nat := 0x140028
def RACK_RD_ADDR : Nat := 0x140040
def RACK_RD_DATA : Nat := 0x140048
def RACK_RD_TAG : Nat := 0x140050
def RACK_FW_CMD : Nat := 0x140060
def RACK_FW_STATUS : Nat := 0x140068
def RACK_FW_BUF (i : Nat) : Nat := 0x140200 + 0x8 * i
def RACK_EVENTS : Nat := 0x140070
/-! 16_rack_and_spike.md, R408 -/
def SPK_CTL : Nat := 0x150000
def SPK_CFG : Nat := 0x150008
def SPK_SRC_EN_0 : Nat := 0x150010
def SPK_SRC_EN_1 : Nat := 0x150018
def SPK_STATUS : Nat := 0x150020
def SPK_COUNT : Nat := 0x150028
def SPK_MISSED : Nat := 0x150030
def SPK_OLDEST : Nat := 0x150038
def SPK_NEWEST : Nat := 0x150040
def SPK_W_CURSOR (i : Nat) : Nat := 0x150100 + 0x100 * i
def SPK_W_STEP (i : Nat) : Nat := 0x150108 + 0x100 * i
def SPK_W_STATUS (i : Nat) : Nat := 0x150110 + 0x100 * i
def SPK_W_REC (i j : Nat) : Nat := 0x150140 + 0x100 * i + 0x8 * j
def SPK_CLR_CTL : Nat := 0x150300
def SPK_CLR_STATUS : Nat := 0x150308
def SPK_CLR_UPTO : Nat := 0x150310
def SPK_CLR_CHALLENGE (i : Nat) : Nat := 0x150320 + 0x8 * i
def SPK_CLR_RESP (i : Nat) : Nat := 0x150400 + 0x8 * i
def SPK_EVENTS : Nat := 0x150340
/-! 17_hob_power_and_thermal.md, R428 -/
def HOB_REQ : Nat := 0x160000
def HOB_STATUS : Nat := 0x160008
def HOB_RAILS : Nat := 0x160010
def HOB_RAIL_FAULT : Nat := 0x160018
def HOB_FENCE_0 : Nat := 0x160020
def HOB_FENCE_1 : Nat := 0x160028
def HOB_EVENTS : Nat := 0x160030
def HOB_LOG : Nat := 0x160038
def HOB_RAIL_CTL (i : Nat) : Nat := 0x160100 + 0x40 * i
def HOB_RAIL_STATE (i : Nat) : Nat := 0x160108 + 0x40 * i
def HOB_RAIL_RANGE (i : Nat) : Nat := 0x160110 + 0x40 * i
def HOB_RAIL_CNT (i : Nat) : Nat := 0x160118 + 0x40 * i
def HOB_RAIL_TIME (i : Nat) : Nat := 0x160120 + 0x40 * i
def HOB_RAIL_LIFE (i : Nat) : Nat := 0x160128 + 0x40 * i
def HOB_RST (i : Nat) : Nat := 0x160800 + 0x8 * i
/-! 17_hob_power_and_thermal.md, R429 -/
def TH_STATUS : Nat := 0x170000
def TH_CTL : Nat := 0x170008
def TH_HOT : Nat := 0x170010
def TH_COUNT : Nat := 0x170018
def TH_EVENTS : Nat := 0x170020
def TH_SENSOR (i : Nat) : Nat := 0x170100 + 0x8 * i
/-! 18_boot_reset_and_readback.md, R440 -/
def BOOT_STATUS : Nat := 0x180000
def BOOT_CTL : Nat := 0x180008
def BOOT_TIME (i : Nat) : Nat := 0x180010 + 0x8 * i
def BOOT_COUNT : Nat := 0x180050
def BOOT_WDT_CFG : Nat := 0x180058
def BOOT_WDT_KICK : Nat := 0x180060
def BOOT_WDT_STATUS : Nat := 0x180068
def BOOT_EVENTS : Nat := 0x180070
/-! 18_boot_reset_and_readback.md, R441 -/
def STATE_SEL : Nat := 0x190000
def STATE_CMD : Nat := 0x190008
def STATE_STATUS : Nat := 0x190010
def STATE_FRAME : Nat := 0x190018
def STATE_SEQ : Nat := 0x190020
def STATE_LEN : Nat := 0x190028
def STATE_DATA (i : Nat) : Nat := 0x190100 + 0x8 * i
def SHADOW_SEL : Nat := 0x190400
def SHADOW_VALUE : Nat := 0x190408
def SHADOW_SEQ : Nat := 0x190410
def SHADOW_INFO : Nat := 0x190418
/-! 11_rdma_ports.md, R292 -/
def RDMA_ARG (i : Nat) : Nat := 0xd0040 + 0x8 * i
def RDMA_CMD : Nat := 0xd0060
/-! 11_rdma_ports.md, R293 -/
def RDMA_PEEK_SEL : Nat := 0xd0070
def RDMA_PEEK (i : Nat) : Nat := 0xd0078 + 0x8 * i
end A

namespace F
/-! 01_architecture.md, R35 -/
def GLOBAL_ID_VENDOR : Fld := ⟨0x0, 48, 16⟩
def GLOBAL_ID_PART : Fld := ⟨0x0, 32, 16⟩
def GLOBAL_ID_STEPPING : Fld := ⟨0x0, 24, 8⟩
def PASS_SEQ_LAST_SEQ : Fld := ⟨0x10, 0, 64⟩
def PASS_SEQ_SEED_SEQ : Fld := ⟨0x18, 0, 64⟩
def PASS_MARK_MARK : Fld := ⟨0x20, 0, 64⟩
def PASS_STATUS_MARK_STALL : Fld := ⟨0x28, 0, 1⟩
def PASS_STATUS_MARK_STALLED : Fld := ⟨0x28, 1, 1⟩
def FRAME_OVR_COUNT_COUNT : Fld := ⟨0x30, 0, 64⟩
def FRAME_OVR_STATUS_RUN : Fld := ⟨0x38, 0, 8⟩
def FRAME_OVR_STATUS_CLEAN_RUN : Fld := ⟨0x38, 8, 7⟩
def FRAME_OVR_STATUS_LEVEL : Fld := ⟨0x38, 16, 3⟩
def FRAME_OVR_STATUS_AUTO_LEVEL : Fld := ⟨0x38, 20, 3⟩
def FRAME_OVR_CTL_AUTO_CUT_DIS : Fld := ⟨0x40, 0, 1⟩
def FRAME_OVR_CTL_FORCE_EN : Fld := ⟨0x40, 1, 1⟩
def FRAME_OVR_CTL_FORCE_LEVEL : Fld := ⟨0x40, 2, 3⟩
def WRITE_BLOCK_HOST : Fld := ⟨0x48, 0, 23⟩
def WRITE_BLOCK_BMC : Fld := ⟨0x48, 32, 23⟩
def WRITE_BLOCK_LOCK : Fld := ⟨0x48, 63, 1⟩
def UNIT_STATE_STATE (i : Nat) : Fld := ⟨0x1000 + 0x8 * i, 0, 2⟩
def UNIT_STATE_PENDING (i : Nat) : Fld := ⟨0x1000 + 0x8 * i, 2, 1⟩
def UNIT_STATE_PENDING_ENABLE (i : Nat) : Fld := ⟨0x1000 + 0x8 * i, 3, 1⟩
def UNIT_STATE_START_FAILED (i : Nat) : Fld := ⟨0x1000 + 0x8 * i, 4, 1⟩
def UNIT_STATE_FAULT_STOP (i : Nat) : Fld := ⟨0x1000 + 0x8 * i, 5, 1⟩
def UNIT_STATE_LAST_SEQ (i : Nat) : Fld := ⟨0x1000 + 0x8 * i, 32, 32⟩
def PASS_LOST_COUNT (i : Nat) : Fld := ⟨0x2000 + 0x8 * i, 0, 64⟩
/-! 02_time_and_domain.md, R56 -/
def TIME_CTL_ENABLE : Fld := ⟨0x20000, 0, 1⟩
def TIME_CTL_SRC_TSYNC_EN : Fld := ⟨0x20000, 1, 1⟩
def TIME_CTL_SRC_PTP_EN : Fld := ⟨0x20000, 2, 1⟩
def TIME_CTL_SRC_BEACON_EN : Fld := ⟨0x20000, 3, 1⟩
def TIME_CTL_TSYNC_OUT_EN : Fld := ⟨0x20000, 4, 1⟩
def TIME_CTL_BEACON_EN : Fld := ⟨0x20000, 5, 1⟩
def TIME_CTL_FREEZE : Fld := ⟨0x20000, 6, 1⟩
def TIME_STATUS_SYNC_STATE : Fld := ⟨0x20008, 0, 3⟩
def TIME_STATUS_SOURCE : Fld := ⟨0x20008, 3, 3⟩
def TIME_STATUS_TREF_OK : Fld := ⟨0x20008, 6, 1⟩
def TIME_STATUS_TSYNC_OK : Fld := ⟨0x20008, 7, 1⟩
def TIME_STATUS_PTP_OK : Fld := ⟨0x20008, 8, 1⟩
def TIME_STATUS_TWIN_ALIGN_OK : Fld := ⟨0x20008, 9, 1⟩
def FRAME_NOW_FRAME : Fld := ⟨0x20010, 0, 64⟩
def EPOCH_TIME_E : Fld := ⟨0x20020, 0, 64⟩
def EPOCH_BASE_B : Fld := ⟨0x20028, 0, 64⟩
def FRAME_PERIOD_PERIOD_NS : Fld := ⟨0x20018, 0, 13⟩
def FRAME_PERIOD_CYCLES : Fld := ⟨0x20018, 16, 13⟩
def OFFSET_DOMAIN : Fld := ⟨0x20030, 0, 32⟩
def OFFSET_TWIN : Fld := ⟨0x20030, 32, 32⟩
def HOLDOVER_EST_ERROR : Fld := ⟨0x20038, 0, 32⟩
def HOLDOVER_EST_ELAPSED_MS : Fld := ⟨0x20038, 32, 32⟩
def HOLDOVER_CFG_PPB : Fld := ⟨0x20040, 0, 16⟩
def TSYNC_CFG_IN_WINDOW : Fld := ⟨0x20050, 0, 8⟩
def TSYNC_CFG_OUT_ADVANCE : Fld := ⟨0x20050, 8, 8⟩
def TSYNC_CFG_IN_DELAY : Fld := ⟨0x20050, 16, 8⟩
def TSYNC_COUNT_GOOD : Fld := ⟨0x20058, 0, 32⟩
def TSYNC_COUNT_OUT_OF_WINDOW : Fld := ⟨0x20058, 32, 32⟩
def PTP_CFG_DOMAIN_NUM : Fld := ⟨0x20060, 0, 8⟩
def PTP_CFG_PORT_SEL : Fld := ⟨0x20060, 8, 4⟩
def PTP_CFG_DELAY_MECH : Fld := ⟨0x20060, 12, 1⟩
def PTP_CFG_TRANSPORT : Fld := ⟨0x20060, 13, 2⟩
def PTP_PARENT_CLOCK_ID : Fld := ⟨0x20068, 0, 64⟩
def BEACON_CFG_UDP_PORT : Fld := ⟨0x20080, 0, 16⟩
def BEACON_CFG_INTERVAL : Fld := ⟨0x20080, 16, 16⟩
def BEACON_CFG_AGE_MAX : Fld := ⟨0x20080, 32, 16⟩
def BEACON_CFG_PORT_MASK : Fld := ⟨0x20080, 48, 9⟩
def DOMAIN_ID_DOMAIN : Fld := ⟨0x20088, 0, 32⟩
def DOMAIN_ID_MEMBER : Fld := ⟨0x20088, 32, 12⟩
def BEACON_TX_SENT : Fld := ⟨0x20090, 0, 64⟩
def BEACON_RX_ACCEPTED : Fld := ⟨0x20098, 0, 32⟩
def BEACON_RX_REJECTED : Fld := ⟨0x20098, 32, 32⟩
def PEER_COUNT_LIVE : Fld := ⟨0x200a0, 0, 13⟩
def PEER_COUNT_CONFLICTS : Fld := ⟨0x200a0, 32, 32⟩
def TIME_EVENTS_ALIGN_LOST : Fld := ⟨0x200a8, 0, 1⟩
def TIME_EVENTS_HOLDOVER_ENTERED : Fld := ⟨0x200a8, 1, 1⟩
def TIME_EVENTS_TSYNC_FAULT : Fld := ⟨0x200a8, 2, 1⟩
def TIME_EVENTS_PTP_LOST : Fld := ⟨0x200a8, 3, 1⟩
def TIME_EVENTS_TREF_LOST : Fld := ⟨0x200a8, 4, 1⟩
def TIME_EVENTS_MEMBER_CONFLICT : Fld := ⟨0x200a8, 5, 1⟩
def TIME_EVENTS_TWIN_ALIGN_FAULT : Fld := ⟨0x200a8, 6, 1⟩
def TIME_EVENTS_PEER_REFUSED : Fld := ⟨0x200a8, 7, 1⟩
/-! 03_agmar_image.md, R78 -/
def CONFIG_STATUS_SLOT : Fld := ⟨0x10000, 0, 1⟩
def CONFIG_STATUS_FALLBACK : Fld := ⟨0x10000, 1, 1⟩
def CONFIG_STATUS_RECOVERY : Fld := ⟨0x10000, 2, 1⟩
def CONFIG_STATUS_ROOT_SLOT : Fld := ⟨0x10000, 4, 3⟩
def CONFIG_STATUS_SVN : Fld := ⟨0x10000, 8, 6⟩
def CONFIG_SEQ_SEQ : Fld := ⟨0x10008, 0, 64⟩
def CONFIG_LENGTH_BYTES : Fld := ⟨0x10010, 0, 23⟩
def CONFIG_HASH_HASH (i : Nat) : Fld := ⟨0x10018 + 0x8 * i, 0, 64⟩
def CONFIG_SHARED_HASH_HASH : Fld := ⟨0x10048, 0, 64⟩
def CONFIG_READ_ADDR_WORD : Fld := ⟨0x10050, 3, 19⟩
def CONFIG_READ_DATA_DATA : Fld := ⟨0x10058, 0, 64⟩
def SLOT_A_STATUS_RESULT : Fld := ⟨0x10060, 0, 4⟩
def SLOT_A_STATUS_SEQ_LOW : Fld := ⟨0x10060, 32, 32⟩
def SLOT_B_STATUS_RESULT : Fld := ⟨0x10068, 0, 4⟩
def SLOT_B_STATUS_SEQ_LOW : Fld := ⟨0x10068, 32, 32⟩
def SLOT_CHECK_CHECK_A : Fld := ⟨0x10070, 0, 1⟩
def SLOT_CHECK_CHECK_B : Fld := ⟨0x10070, 1, 1⟩
def CHANGE_CTL_REQUEST : Fld := ⟨0x10078, 0, 1⟩
def CHANGE_CTL_CANCEL : Fld := ⟨0x10078, 1, 1⟩
def CHANGE_CTL_SOURCE_SLOT : Fld := ⟨0x10078, 2, 1⟩
def CHANGE_FRAME_APPLY : Fld := ⟨0x10080, 0, 64⟩
def CHANGE_STATUS_STATE : Fld := ⟨0x10088, 0, 3⟩
def CHANGE_STATUS_CAUSE : Fld := ⟨0x10088, 8, 4⟩
def CHANGE_APPLIED_FRAME : Fld := ⟨0x10090, 0, 64⟩
def SVN_FUSE_FUSED : Fld := ⟨0x10098, 0, 6⟩
def SVN_COMMIT_COMMIT : Fld := ⟨0x100a0, 0, 1⟩
def CONFIG_EVENTS_FALLBACK_BOOT : Fld := ⟨0x100a8, 0, 1⟩
def CONFIG_EVENTS_CHANGE_APPLIED : Fld := ⟨0x100a8, 1, 1⟩
def CONFIG_EVENTS_CHANGE_REFUSED : Fld := ⟨0x100a8, 2, 1⟩
def CONFIG_EVENTS_CHANGE_CANCELLED : Fld := ⟨0x100a8, 3, 1⟩
def CONFIG_EVENTS_CHANGE_BUSY : Fld := ⟨0x100a8, 4, 1⟩
def CONFIG_EVENTS_SVN_COMMITTED : Fld := ⟨0x100a8, 5, 1⟩
/-! 04_address_model_and_tiers.md, R99 -/
def PART_CAPACITY_CHUNKS : Fld := ⟨0x93ff8, 0, 32⟩
def PART_CAPACITY_FREE : Fld := ⟨0x93ff8, 32, 32⟩
def PART_BASE_BASE_GIB (i : Nat) : Fld := ⟨0x94000 + 0x20 * i, 0, 17⟩
def PART_SIZE_SIZE_GIB (i : Nat) : Fld := ⟨0x94008 + 0x20 * i, 0, 18⟩
def PART_SIZE_CHUNKS_MAPPED (i : Nat) : Fld := ⟨0x94008 + 0x20 * i, 32, 32⟩
def PART_ATTR_CXL_VISIBLE (i : Nat) : Fld := ⟨0x94010 + 0x20 * i, 0, 1⟩
def PART_ATTR_RDMA_ALLOWED (i : Nat) : Fld := ⟨0x94010 + 0x20 * i, 1, 1⟩
def PART_ATTR_SCHED_SOURCE (i : Nat) : Fld := ⟨0x94010 + 0x20 * i, 2, 1⟩
def PART_ATTR_CXL_PORT (i : Nat) : Fld := ⟨0x94010 + 0x20 * i, 8, 4⟩
def PART_ATTR_CXL_LD (i : Nat) : Fld := ⟨0x94010 + 0x20 * i, 12, 4⟩
def PART_ATTR_STATE (i : Nat) : Fld := ⟨0x94010 + 0x20 * i, 16, 2⟩
def PART_ATTR_CAUSE (i : Nat) : Fld := ⟨0x94010 + 0x20 * i, 20, 4⟩
def PART_ATTR_HDM_COMMITTED (i : Nat) : Fld := ⟨0x94010 + 0x20 * i, 24, 1⟩
def PART_ATTR_REGIONS (i : Nat) : Fld := ⟨0x94010 + 0x20 * i, 32, 32⟩
def PART_CTL_PLACE_MODE (i : Nat) : Fld := ⟨0x94018 + 0x20 * i, 0, 2⟩
def PART_CTL_HOST_HINT_LOCK (i : Nat) : Fld := ⟨0x94018 + 0x20 * i, 2, 1⟩
def PART_CTL_HOST_NO_PROMOTE (i : Nat) : Fld := ⟨0x94018 + 0x20 * i, 3, 1⟩
/-! 04_address_model_and_tiers.md, R100 -/
def PLACE_CFG_PROMOTE_EN : Fld := ⟨0x8a000, 0, 1⟩
def PLACE_CFG_PROMOTE_THRESH : Fld := ⟨0x8a000, 4, 4⟩
def PLACE_CFG_DECAY_KF : Fld := ⟨0x8a000, 16, 16⟩
def PLACE_STATUS_PIN_LIMIT_GIB : Fld := ⟨0x8a008, 0, 32⟩
def PLACE_STATUS_PIN_USED_GIB : Fld := ⟨0x8a008, 32, 32⟩
def PLACE_COUNT_PROMOTED : Fld := ⟨0x8a010, 0, 32⟩
def PLACE_COUNT_PROMOTE_DECLINED : Fld := ⟨0x8a010, 32, 32⟩
def ASSIST_CTL_ASSIST_EN : Fld := ⟨0x8a018, 0, 1⟩
def ASSIST_COUNT_PLANNED : Fld := ⟨0x8a020, 0, 32⟩
def ASSIST_COUNT_RESCUED : Fld := ⟨0x8a020, 32, 32⟩
def ASSIST_FAIL_FALLBACK : Fld := ⟨0x8a028, 0, 32⟩
def ASSIST_FAIL_POISONED : Fld := ⟨0x8a028, 32, 32⟩
def XLATE_ADDR_LINE : Fld := ⟨0x8a040, 6, 41⟩
/-! 04_address_model_and_tiers.md, R101 -/
def XLATE_RESULT_0_VALID : Fld := ⟨0x8a048, 0, 1⟩
def XLATE_RESULT_0_PART : Fld := ⟨0x8a048, 1, 8⟩
def XLATE_RESULT_0_NC_PRESENT : Fld := ⟨0x8a048, 9, 1⟩
def XLATE_RESULT_0_NC_DIRTY : Fld := ⟨0x8a048, 10, 1⟩
def XLATE_RESULT_0_IN_COLANDER : Fld := ⟨0x8a048, 11, 1⟩
def XLATE_RESULT_0_SP_PRESENT : Fld := ⟨0x8a048, 12, 1⟩
def XLATE_RESULT_0_SP_SECTOR_VALID : Fld := ⟨0x8a048, 13, 1⟩
def XLATE_RESULT_0_SP_SECTOR_DIRTY : Fld := ⟨0x8a048, 14, 1⟩
def XLATE_RESULT_0_PINNED : Fld := ⟨0x8a048, 15, 1⟩
def XLATE_RESULT_0_MEDIA_CH : Fld := ⟨0x8a048, 16, 5⟩
def XLATE_RESULT_0_PKG : Fld := ⟨0x8a048, 21, 1⟩
def XLATE_RESULT_0_AGE_CLASS : Fld := ⟨0x8a048, 22, 4⟩
def XLATE_RESULT_0_AT_RISK : Fld := ⟨0x8a048, 26, 1⟩
def XLATE_RESULT_0_FILTER_COUNT : Fld := ⟨0x8a048, 27, 4⟩
def XLATE_RESULT_0_CHUNK : Fld := ⟨0x8a048, 32, 32⟩
def XLATE_RESULT_1_PHYS_GRANULE : Fld := ⟨0x8a050, 0, 32⟩
def XLATE_RESULT_1_WRITE_FRAME_LOW : Fld := ⟨0x8a050, 32, 32⟩
def XLATE_ECHO_LINE : Fld := ⟨0x8a058, 6, 41⟩
def XLATE_FRAME_FRAME : Fld := ⟨0x8a060, 0, 64⟩
def PLACE_EVENTS_PIN_REFUSED : Fld := ⟨0x8a068, 0, 1⟩
def PLACE_EVENTS_PART_OFFLINE : Fld := ⟨0x8a068, 1, 1⟩
def PLACE_EVENTS_OUT_OF_PARTITION : Fld := ⟨0x8a068, 2, 1⟩
def PLACE_EVENTS_ASSIST_FALLBACK : Fld := ⟨0x8a068, 3, 1⟩
def PLACE_EVENTS_PURGE_DONE : Fld := ⟨0x8a068, 4, 1⟩
def MTL_PART_RES_SP_MIB (i : Nat) : Fld := ⟨0x8b000 + 0x10 * i, 0, 32⟩
def MTL_PART_RES_DIRTY_MIB (i : Nat) : Fld := ⟨0x8b000 + 0x10 * i, 32, 32⟩
def MTL_PART_CNT_PROMOTED (i : Nat) : Fld := ⟨0x8b008 + 0x10 * i, 0, 32⟩
def MTL_PART_CNT_ASSISTED (i : Nat) : Fld := ⟨0x8b008 + 0x10 * i, 32, 32⟩
/-! 05_near_cache.md, R121 -/
def NC_CTL_ENABLE : Fld := ⟨0x30000, 0, 1⟩
def NC_STATUS_WAYS : Fld := ⟨0x30008, 0, 5⟩
def NC_STATUS_STAGING_WAYS : Fld := ⟨0x30008, 5, 3⟩
def NC_STATUS_MR_BUSY : Fld := ⟨0x30008, 8, 13⟩
def NC_STATUS_COL_BUSY : Fld := ⟨0x30008, 21, 10⟩
def NC_STATUS_DRAINING : Fld := ⟨0x30008, 31, 1⟩
def NC_STATUS_DIRTY_LINES : Fld := ⟨0x30008, 32, 22⟩
def NC_WAY_MASK_MASK (i : Nat) : Fld := ⟨0x30040 + 0x8 * i, 0, 16⟩
def NC_WAY_MASK_EFFECTIVE (i : Nat) : Fld := ⟨0x30040 + 0x8 * i, 16, 16⟩
def NC_LD_CLASS_LD_00 (i : Nat) : Fld := ⟨0x30100 + 0x8 * i, 0, 4⟩
def NC_LD_CLASS_LD_01 (i : Nat) : Fld := ⟨0x30100 + 0x8 * i, 4, 4⟩
def NC_LD_CLASS_LD_02 (i : Nat) : Fld := ⟨0x30100 + 0x8 * i, 8, 4⟩
def NC_LD_CLASS_LD_03 (i : Nat) : Fld := ⟨0x30100 + 0x8 * i, 12, 4⟩
def NC_LD_CLASS_LD_04 (i : Nat) : Fld := ⟨0x30100 + 0x8 * i, 16, 4⟩
def NC_LD_CLASS_LD_05 (i : Nat) : Fld := ⟨0x30100 + 0x8 * i, 20, 4⟩
def NC_LD_CLASS_LD_06 (i : Nat) : Fld := ⟨0x30100 + 0x8 * i, 24, 4⟩
def NC_LD_CLASS_LD_07 (i : Nat) : Fld := ⟨0x30100 + 0x8 * i, 28, 4⟩
def NC_LD_CLASS_LD_08 (i : Nat) : Fld := ⟨0x30100 + 0x8 * i, 32, 4⟩
def NC_LD_CLASS_LD_09 (i : Nat) : Fld := ⟨0x30100 + 0x8 * i, 36, 4⟩
def NC_LD_CLASS_LD_10 (i : Nat) : Fld := ⟨0x30100 + 0x8 * i, 40, 4⟩
def NC_LD_CLASS_LD_11 (i : Nat) : Fld := ⟨0x30100 + 0x8 * i, 44, 4⟩
def NC_LD_CLASS_LD_12 (i : Nat) : Fld := ⟨0x30100 + 0x8 * i, 48, 4⟩
def NC_LD_CLASS_LD_13 (i : Nat) : Fld := ⟨0x30100 + 0x8 * i, 52, 4⟩
def NC_LD_CLASS_LD_14 (i : Nat) : Fld := ⟨0x30100 + 0x8 * i, 56, 4⟩
def NC_LD_CLASS_LD_15 (i : Nat) : Fld := ⟨0x30100 + 0x8 * i, 60, 4⟩
def NC_SRC_CLASS_RDMA : Fld := ⟨0x30180, 0, 4⟩
def NC_SRC_CLASS_MIRROR : Fld := ⟨0x30180, 4, 4⟩
def NC_OP_START_LINE : Fld := ⟨0x30200, 6, 41⟩
def NC_OP_END_LINE : Fld := ⟨0x30208, 6, 41⟩
def NC_OP_CTL_OP : Fld := ⟨0x30210, 0, 2⟩
def NC_OP_CTL_WHOLE : Fld := ⟨0x30210, 2, 1⟩
def NC_OP_STATUS_STATE : Fld := ⟨0x30218, 0, 2⟩
def NC_OP_STATUS_SETS_DONE : Fld := ⟨0x30218, 2, 18⟩
def NC_OP_STATUS_LINES_WRITTEN : Fld := ⟨0x30218, 32, 32⟩
def NC_CRC_COUNT_CLEAN_REFETCH : Fld := ⟨0x30300, 0, 16⟩
def NC_CRC_COUNT_TWIN_REFETCH : Fld := ⟨0x30300, 16, 16⟩
def NC_CRC_COUNT_POISONED : Fld := ⟨0x30300, 32, 16⟩
def NC_CRC_COUNT_STAGING : Fld := ⟨0x30300, 48, 16⟩
def NC_STALL_COUNT_MR_FULL : Fld := ⟨0x30308, 0, 32⟩
def NC_STALL_COUNT_COL_FULL : Fld := ⟨0x30308, 32, 32⟩
def NC_EVENTS_CRC_CLEAN : Fld := ⟨0x30310, 0, 1⟩
def NC_EVENTS_CRC_TWIN : Fld := ⟨0x30310, 1, 1⟩
def NC_EVENTS_CRC_POISON : Fld := ⟨0x30310, 2, 1⟩
def NC_EVENTS_OP_DONE : Fld := ⟨0x30310, 3, 1⟩
def NC_EVENTS_OP_BUSY : Fld := ⟨0x30310, 4, 1⟩
def NC_EVENTS_DRAIN_DONE : Fld := ⟨0x30310, 5, 1⟩
def NC_MR_SEL_INDEX : Fld := ⟨0x30400, 0, 12⟩
def NC_MR_PEEK_0_VALID : Fld := ⟨0x30408, 0, 1⟩
def NC_MR_PEEK_0_FILL_SRC : Fld := ⟨0x30408, 1, 2⟩
def NC_MR_PEEK_0_MERGED : Fld := ⟨0x30408, 3, 5⟩
def NC_MR_PEEK_0_HAS_WRITE : Fld := ⟨0x30408, 8, 1⟩
def NC_MR_PEEK_0_HAS_ATOMIC : Fld := ⟨0x30408, 9, 1⟩
def NC_MR_PEEK_0_STALLING : Fld := ⟨0x30408, 10, 1⟩
def NC_MR_PEEK_0_ECHO : Fld := ⟨0x30408, 12, 12⟩
def NC_MR_PEEK_0_FRAME_LOW : Fld := ⟨0x30408, 24, 40⟩
def NC_MR_PEEK_1_LINE : Fld := ⟨0x30410, 6, 41⟩
def NC_COL_SEL_INDEX : Fld := ⟨0x30420, 0, 9⟩
def NC_COL_PEEK_0_VALID : Fld := ⟨0x30428, 0, 1⟩
def NC_COL_PEEK_0_WRITING : Fld := ⟨0x30428, 1, 1⟩
def NC_COL_PEEK_0_POISON : Fld := ⟨0x30428, 2, 1⟩
def NC_COL_PEEK_0_CRC_OK : Fld := ⟨0x30428, 3, 1⟩
def NC_COL_PEEK_0_FROZEN_CH : Fld := ⟨0x30428, 4, 1⟩
def NC_COL_PEEK_0_ECHO : Fld := ⟨0x30428, 8, 9⟩
def NC_COL_PEEK_1_LINE : Fld := ⟨0x30430, 6, 41⟩
def NC_COL_DATA_DATA (i : Nat) : Fld := ⟨0x30440 + 0x8 * i, 0, 64⟩
/-! 06_stockpot.md, R148 -/
def SP_CH_CTL_ENABLE (i : Nat) : Fld := ⟨0x40000 + 0x1000 * i, 0, 1⟩
def SP_CH_CTL_THAW (i : Nat) : Fld := ⟨0x40000 + 0x1000 * i, 1, 1⟩
def SP_CH_CTL_DECLARE_LOST (i : Nat) : Fld := ⟨0x40000 + 0x1000 * i, 2, 1⟩
def SP_CH_STATUS_MODE (i : Nat) : Fld := ⟨0x40008 + 0x1000 * i, 0, 2⟩
def SP_CH_STATUS_REF_2X (i : Nat) : Fld := ⟨0x40008 + 0x1000 * i, 2, 1⟩
def SP_CH_STATUS_PANIC (i : Nat) : Fld := ⟨0x40008 + 0x1000 * i, 3, 1⟩
def SP_CH_STATUS_LOST (i : Nat) : Fld := ⟨0x40008 + 0x1000 * i, 4, 1⟩
def SP_CH_STATUS_DIMM_TEMP (i : Nat) : Fld := ⟨0x40008 + 0x1000 * i, 8, 8⟩
def SP_CH_STATUS_NRR_QUEUED (i : Nat) : Fld := ⟨0x40008 + 0x1000 * i, 16, 16⟩
def SP_CH_STATUS_DIRTY_MIB (i : Nat) : Fld := ⟨0x40008 + 0x1000 * i, 32, 32⟩
def SP_CH_DIMM_GIB (i : Nat) : Fld := ⟨0x40010 + 0x1000 * i, 0, 9⟩
def SP_CH_DIMM_KIND (i : Nat) : Fld := ⟨0x40010 + 0x1000 * i, 9, 1⟩
def SP_CH_DIMM_RATE_MTS (i : Nat) : Fld := ⟨0x40010 + 0x1000 * i, 10, 14⟩
def SP_CH_DIMM_WIDTH (i : Nat) : Fld := ⟨0x40010 + 0x1000 * i, 24, 1⟩
def SP_CH_DIMM_DENSITY (i : Nat) : Fld := ⟨0x40010 + 0x1000 * i, 25, 2⟩
def SP_CH_DIMM_RANKS (i : Nat) : Fld := ⟨0x40010 + 0x1000 * i, 27, 2⟩
def SP_CH_DIMM_STACK (i : Nat) : Fld := ⟨0x40010 + 0x1000 * i, 29, 3⟩
def SP_CH_DIMM_TRFCSB_NS (i : Nat) : Fld := ⟨0x40010 + 0x1000 * i, 32, 8⟩
def SP_CH_LAYOUT_SYS_MIB (i : Nat) : Fld := ⟨0x40018 + 0x1000 * i, 0, 16⟩
def SP_CH_LAYOUT_RAMEKIN_MIB (i : Nat) : Fld := ⟨0x40018 + 0x1000 * i, 16, 20⟩
def SP_CH_LAYOUT_GROUPS (i : Nat) : Fld := ⟨0x40018 + 0x1000 * i, 36, 12⟩
def SP_CH_ECC_CORRECTED (i : Nat) : Fld := ⟨0x40020 + 0x1000 * i, 0, 32⟩
def SP_CH_ECC_UNCORRECTABLE (i : Nat) : Fld := ⟨0x40020 + 0x1000 * i, 32, 16⟩
def SP_CH_ECC_META_SECOND (i : Nat) : Fld := ⟨0x40020 + 0x1000 * i, 48, 16⟩
def SP_CH_ECC_ADDR_SPA (i : Nat) : Fld := ⟨0x40028 + 0x1000 * i, 0, 38⟩
def SP_CH_ECC_ADDR_UE (i : Nat) : Fld := ⟨0x40028 + 0x1000 * i, 38, 1⟩
def SP_CH_REF_REFRESH (i : Nat) : Fld := ⟨0x40030 + 0x1000 * i, 0, 32⟩
def SP_CH_REF_NEIGHBOUR (i : Nat) : Fld := ⟨0x40030 + 0x1000 * i, 32, 32⟩
def SP_CH_FREEZE_CAUSE (i : Nat) : Fld := ⟨0x40038 + 0x1000 * i, 0, 3⟩
def SP_CH_FREEZE_FRAME_LOW (i : Nat) : Fld := ⟨0x40038 + 0x1000 * i, 8, 56⟩
def SP_CH_TRAIN_RESULT (i : Nat) : Fld := ⟨0x40040 + 0x1000 * i, 0, 4⟩
def SP_CH_TRAIN_DURATION_US (i : Nat) : Fld := ⟨0x40040 + 0x1000 * i, 32, 32⟩
def SP_CH_EVENTS_CE_REPEAT (i : Nat) : Fld := ⟨0x40048 + 0x1000 * i, 0, 1⟩
def SP_CH_EVENTS_UE (i : Nat) : Fld := ⟨0x40048 + 0x1000 * i, 1, 1⟩
def SP_CH_EVENTS_FREEZE (i : Nat) : Fld := ⟨0x40048 + 0x1000 * i, 2, 1⟩
def SP_CH_EVENTS_THAW_DONE (i : Nat) : Fld := ⟨0x40048 + 0x1000 * i, 3, 1⟩
def SP_CH_EVENTS_THAW_FAILED (i : Nat) : Fld := ⟨0x40048 + 0x1000 * i, 4, 1⟩
def SP_CH_EVENTS_LOST_REFUSED (i : Nat) : Fld := ⟨0x40048 + 0x1000 * i, 5, 1⟩
def SP_CH_EVENTS_READ_BEFORE_FILL (i : Nat) : Fld := ⟨0x40048 + 0x1000 * i, 6, 1⟩
def SP_CH_EVENTS_REF_2X_ON (i : Nat) : Fld := ⟨0x40048 + 0x1000 * i, 7, 1⟩
/-! 06_stockpot.md, R149 -/
def SP_CFG_LOW_EIGHTHS : Fld := ⟨0x4c000, 0, 3⟩
def SP_CFG_HIGH_EIGHTHS : Fld := ⟨0x4c000, 3, 3⟩
def SP_CFG_WB_EN : Fld := ⟨0x4c000, 6, 1⟩
def SP_CFG_WB_AGE_KF : Fld := ⟨0x4c000, 8, 16⟩
def SP_CFG_FREEZE_HOLD_US : Fld := ⟨0x4c000, 24, 16⟩
def SP_NRR_CFG_THRESH : Fld := ⟨0x4c008, 0, 16⟩
def SP_DIRTY_BUDGET_MIB : Fld := ⟨0x4c010, 0, 32⟩
def SP_DIRTY_FILL_MIB : Fld := ⟨0x4c010, 32, 32⟩
def SP_DIRTY_STATE_LEVEL : Fld := ⟨0x4c018, 0, 2⟩
def SP_DIRTY_STATE_WB_HALTED : Fld := ⟨0x4c018, 2, 1⟩
def SP_DIRTY_STATE_SET_PRESSURE : Fld := ⟨0x4c018, 16, 24⟩
def SP_DIRTY_STATE_PIN_SET_FULL : Fld := ⟨0x4c018, 40, 24⟩
def SP_CAPACITY_BLOCK_MIB : Fld := ⟨0x4c020, 0, 32⟩
def SP_CAPACITY_DIMM_GIB : Fld := ⟨0x4c020, 32, 32⟩
def SP_WB_COUNT_BLOCKS : Fld := ⟨0x4c028, 0, 32⟩
def SP_WB_COUNT_SECTORS_REDIRTIED : Fld := ⟨0x4c028, 32, 32⟩
def SP_RT_CFG_RT_RESERVE_PCT : Fld := ⟨0x4c030, 0, 8⟩
def SP_RT_CFG_RT_PANIC_KIB : Fld := ⟨0x4c030, 8, 8⟩
def SP_RT_CFG_RT_CLEAR_KIB : Fld := ⟨0x4c030, 16, 8⟩
def SP_RT_STATUS_PANIC_MASK : Fld := ⟨0x4c038, 0, 12⟩
def SP_RT_STATUS_PANIC_FRAMES : Fld := ⟨0x4c038, 32, 32⟩
def SP_FILL_START_UNIT : Fld := ⟨0x4c040, 0, 14⟩
def SP_FILL_LEN_UNITS : Fld := ⟨0x4c048, 0, 14⟩
def SP_FILL_PATTERN_PATTERN : Fld := ⟨0x4c050, 0, 64⟩
def SP_FILL_CTL_GO : Fld := ⟨0x4c058, 0, 1⟩
def SP_FILL_CTL_CH_MASK : Fld := ⟨0x4c058, 1, 12⟩
def SP_FILL_STATUS_STATE : Fld := ⟨0x4c060, 0, 2⟩
def SP_FILL_STATUS_UNITS_DONE : Fld := ⟨0x4c060, 32, 32⟩
def SP_SCRUB_CH_CH : Fld := ⟨0x4c068, 0, 4⟩
def SP_SCRUB_START_SPA : Fld := ⟨0x4c070, 6, 32⟩
def SP_SCRUB_LEN_BYTES : Fld := ⟨0x4c078, 6, 32⟩
def SP_SCRUB_CTL_GO : Fld := ⟨0x4c080, 0, 1⟩
def SP_SCRUB_SUM_0_CORRECTED : Fld := ⟨0x4c088, 0, 32⟩
def SP_SCRUB_SUM_0_UNCORRECTABLE : Fld := ⟨0x4c088, 32, 32⟩
def SP_SCRUB_SUM_1_FIRST_ERR_SPA : Fld := ⟨0x4c090, 0, 38⟩
def SP_SCRUB_SUM_1_POISONED : Fld := ⟨0x4c090, 38, 26⟩
def SP_SCRUB_SUM_2_STATE : Fld := ⟨0x4c098, 0, 2⟩
def SP_SCRUB_SUM_2_SKIPPED : Fld := ⟨0x4c098, 2, 30⟩
def SP_SCRUB_SUM_2_DURATION_US : Fld := ⟨0x4c098, 32, 32⟩
def SP_EVENTS_FILL_DONE : Fld := ⟨0x4c0a0, 0, 1⟩
def SP_EVENTS_FILL_REFUSED : Fld := ⟨0x4c0a0, 1, 1⟩
def SP_EVENTS_SCRUB_DONE : Fld := ⟨0x4c0a0, 2, 1⟩
def SP_EVENTS_SCRUB_REFUSED : Fld := ⟨0x4c0a0, 3, 1⟩
def SP_EVENTS_LEVEL_CHANGE : Fld := ⟨0x4c0a0, 4, 1⟩
def SP_EVENTS_PANIC : Fld := ⟨0x4c0a0, 5, 1⟩
/-! 07_media_and_translation.md, R183 -/
def MD_CTL_ENABLE (i : Nat) : Fld := ⟨0x60000 + 0x800 * i, 0, 1⟩
def MD_CTL_RETRAIN (i : Nat) : Fld := ⟨0x60000 + 0x800 * i, 1, 1⟩
def MD_CTL_FORMAT (i : Nat) : Fld := ⟨0x60000 + 0x800 * i, 2, 1⟩
def MD_CTL_FORMAT_PKG (i : Nat) : Fld := ⟨0x60000 + 0x800 * i, 3, 2⟩
def MD_STATUS_MODE (i : Nat) : Fld := ⟨0x60008 + 0x800 * i, 0, 2⟩
def MD_STATUS_PKGS (i : Nat) : Fld := ⟨0x60008 + 0x800 * i, 2, 2⟩
def MD_STATUS_WRITABLE (i : Nat) : Fld := ⟨0x60008 + 0x800 * i, 4, 2⟩
def MD_STATUS_TEMP_0 (i : Nat) : Fld := ⟨0x60008 + 0x800 * i, 16, 16⟩
def MD_STATUS_TEMP_1 (i : Nat) : Fld := ⟨0x60008 + 0x800 * i, 32, 16⟩
def MD_STATUS_PROG_INFLIGHT (i : Nat) : Fld := ⟨0x60008 + 0x800 * i, 48, 5⟩
def MD_TRAIN_RESULT (i : Nat) : Fld := ⟨0x60010 + 0x800 * i, 0, 4⟩
def MD_TRAIN_DURATION_US (i : Nat) : Fld := ⟨0x60010 + 0x800 * i, 32, 32⟩
def MD_PKG_0_USER_GIB (i : Nat) : Fld := ⟨0x60018 + 0x800 * i, 0, 16⟩
def MD_PKG_0_PROG_MAX (i : Nat) : Fld := ⟨0x60018 + 0x800 * i, 16, 8⟩
def MD_PKG_0_BUS_VERSION (i : Nat) : Fld := ⟨0x60018 + 0x800 * i, 24, 8⟩
def MD_PKG_0_SERIAL_LOW (i : Nat) : Fld := ⟨0x60018 + 0x800 * i, 32, 32⟩
def MD_PKG_1_USER_GIB (i : Nat) : Fld := ⟨0x60020 + 0x800 * i, 0, 16⟩
def MD_PKG_1_PROG_MAX (i : Nat) : Fld := ⟨0x60020 + 0x800 * i, 16, 8⟩
def MD_PKG_1_BUS_VERSION (i : Nat) : Fld := ⟨0x60020 + 0x800 * i, 24, 8⟩
def MD_PKG_1_SERIAL_LOW (i : Nat) : Fld := ⟨0x60020 + 0x800 * i, 32, 32⟩
def MD_ECC_CORRECTED (i : Nat) : Fld := ⟨0x60028 + 0x800 * i, 0, 32⟩
def MD_ECC_UNCORRECTABLE (i : Nat) : Fld := ⟨0x60028 + 0x800 * i, 32, 16⟩
def MD_ECC_RETRY_OK (i : Nat) : Fld := ⟨0x60028 + 0x800 * i, 48, 16⟩
def MD_PROG_PROGRAMS (i : Nat) : Fld := ⟨0x60030 + 0x800 * i, 0, 32⟩
def MD_PROG_PROG_FAIL (i : Nat) : Fld := ⟨0x60030 + 0x800 * i, 32, 16⟩
def MD_PROG_SUSPENDS (i : Nat) : Fld := ⟨0x60030 + 0x800 * i, 48, 16⟩
def MD_SPARE_0_FREE (i : Nat) : Fld := ⟨0x60038 + 0x800 * i, 0, 32⟩
def MD_SPARE_0_RETIRED (i : Nat) : Fld := ⟨0x60038 + 0x800 * i, 32, 32⟩
def MD_SPARE_1_FREE (i : Nat) : Fld := ⟨0x60040 + 0x800 * i, 0, 32⟩
def MD_SPARE_1_RETIRED (i : Nat) : Fld := ⟨0x60040 + 0x800 * i, 32, 32⟩
def MD_WEAR_0_MIN_FREE (i : Nat) : Fld := ⟨0x60048 + 0x800 * i, 0, 32⟩
def MD_WEAR_0_MAX (i : Nat) : Fld := ⟨0x60048 + 0x800 * i, 32, 32⟩
def MD_WEAR_1_MIN_FREE (i : Nat) : Fld := ⟨0x60050 + 0x800 * i, 0, 32⟩
def MD_WEAR_1_MAX (i : Nat) : Fld := ⟨0x60050 + 0x800 * i, 32, 32⟩
def MD_EVENTS_TRAIN_FAIL (i : Nat) : Fld := ⟨0x60058 + 0x800 * i, 0, 1⟩
def MD_EVENTS_PROG_FAIL (i : Nat) : Fld := ⟨0x60058 + 0x800 * i, 1, 1⟩
def MD_EVENTS_SPARE_LOW (i : Nat) : Fld := ⟨0x60058 + 0x800 * i, 2, 1⟩
def MD_EVENTS_SPARE_CRIT (i : Nat) : Fld := ⟨0x60058 + 0x800 * i, 3, 1⟩
def MD_EVENTS_SPARE_EXHAUSTED (i : Nat) : Fld := ⟨0x60058 + 0x800 * i, 4, 1⟩
def MD_EVENTS_LEFT_WINDOW (i : Nat) : Fld := ⟨0x60058 + 0x800 * i, 5, 1⟩
def MD_EVENTS_ALERT (i : Nat) : Fld := ⟨0x60058 + 0x800 * i, 6, 1⟩
def MD_EVENTS_FORMAT_DONE (i : Nat) : Fld := ⟨0x60058 + 0x800 * i, 7, 1⟩
def MD_EVENTS_FORMAT_REFUSED (i : Nat) : Fld := ⟨0x60058 + 0x800 * i, 8, 1⟩
/-! 07_media_and_translation.md, R184 -/
def MTL_CTL_ENABLE : Fld := ⟨0x80000, 0, 1⟩
def MTL_CTL_MAP_FLUSH : Fld := ⟨0x80000, 1, 1⟩
def MTL_STATUS_WINDOW_OPEN : Fld := ⟨0x80008, 0, 1⟩
def MTL_STATUS_VAULT_LIMIT : Fld := ⟨0x80008, 1, 1⟩
def MTL_STATUS_MAP_DIRTY : Fld := ⟨0x80008, 32, 32⟩
def MTL_WINDOW_OUT_PKGS : Fld := ⟨0x80010, 0, 64⟩
def MTL_PROG_CFG_PLACES : Fld := ⟨0x80018, 0, 10⟩
def MTL_PROG_CFG_MAINT_EIGHTHS : Fld := ⟨0x80018, 10, 3⟩
def MTL_PROG_CFG_INFLIGHT : Fld := ⟨0x80018, 16, 10⟩
def MTL_DRIFT_CFG_REFRESH_AGE_S : Fld := ⟨0x80020, 0, 32⟩
def MTL_DRIFT_CFG_REFRESH_ERR : Fld := ⟨0x80020, 32, 5⟩
def MTL_DRIFT_CFG_MERGE_CLASS : Fld := ⟨0x80020, 37, 3⟩
def MTL_ASSIST_CFG_ASSIST_CLASS : Fld := ⟨0x80028, 0, 3⟩
def MTL_ASSIST_CFG_ASSIST_ERR : Fld := ⟨0x80028, 3, 5⟩
def MTL_ASSIST_CFG_RETRY_MAX : Fld := ⟨0x80028, 8, 3⟩
def MTL_DISTURB_CFG_DISTURB_THRESH : Fld := ⟨0x80030, 0, 24⟩
def MTL_DISTURB_CFG_DISTURB_DECAY_KF : Fld := ⟨0x80030, 32, 16⟩
def MTL_WEAR_CFG_HOT_THRESH : Fld := ⟨0x80038, 0, 16⟩
def MTL_WEAR_CFG_WEAR_SPREAD : Fld := ⟨0x80038, 16, 16⟩
def MTL_WEAR_CFG_STATIC_EN : Fld := ⟨0x80038, 32, 1⟩
def MTL_COUNT_0_REFRESHED : Fld := ⟨0x80040, 0, 32⟩
def MTL_COUNT_0_RELOC_DISTURB : Fld := ⟨0x80040, 32, 32⟩
def MTL_COUNT_1_RELOC_HOT : Fld := ⟨0x80048, 0, 32⟩
def MTL_COUNT_1_RELOC_WEAR : Fld := ⟨0x80048, 32, 32⟩
def MTL_COUNT_2_POISON_SET : Fld := ⟨0x80050, 0, 32⟩
def MTL_COUNT_2_MAP_READS : Fld := ⟨0x80050, 32, 32⟩
def MTL_UNTRUST_VALID (i : Nat) : Fld := ⟨0x80100 + 0x10 * i, 0, 1⟩
def MTL_UNTRUST_POSITION (i : Nat) : Fld := ⟨0x80100 + 0x10 * i, 1, 4⟩
def MTL_UNTRUST_COUNT (i : Nat) : Fld := ⟨0x80100 + 0x10 * i, 5, 4⟩
def MTL_UNTRUST_CLR_MASK : Fld := ⟨0x801c0, 0, 12⟩
def MTL_UNTRUST_FRAME_FRAME (i : Nat) : Fld := ⟨0x80108 + 0x10 * i, 0, 64⟩
def SCOUR_CTL_ENABLE : Fld := ⟨0x80200, 0, 1⟩
def SCOUR_CTL_TARGET_S : Fld := ⟨0x80200, 32, 32⟩
def SCOUR_LAP_LAPS : Fld := ⟨0x80208, 0, 32⟩
def SCOUR_LAP_LAST_LAP_S : Fld := ⟨0x80208, 32, 32⟩
def SCOUR_POS_DONE : Fld := ⟨0x80210, 0, 40⟩
def SCOUR_PROJ_PROJECTED_S : Fld := ⟨0x80218, 0, 32⟩
def SCOUR_PROJ_ELAPSED_S : Fld := ⟨0x80218, 32, 32⟩
def SCOUR_FOUND_REFRESH_QUEUED : Fld := ⟨0x80220, 0, 32⟩
def SCOUR_FOUND_UNCORRECTABLE : Fld := ⟨0x80220, 32, 16⟩
def SCOUR_FOUND_REPAIRED : Fld := ⟨0x80220, 48, 16⟩
def VAULT_CAP_CAP_MIB : Fld := ⟨0x80300, 0, 32⟩
def VAULT_CAP_NEED_MIB : Fld := ⟨0x80300, 32, 32⟩
def VAULT_HDR_STATE : Fld := ⟨0x80308, 0, 2⟩
def VAULT_HDR_SEQ_LOW : Fld := ⟨0x80308, 32, 32⟩
def VAULT_FRAME_STOP_FRAME : Fld := ⟨0x80310, 0, 64⟩
def VAULT_SAVE_ENTRIES : Fld := ⟨0x80318, 0, 32⟩
def VAULT_SAVE_UNSAVED : Fld := ⟨0x80318, 32, 32⟩
def VAULT_SKIP_PKGS : Fld := ⟨0x80320, 0, 64⟩
def MTL_EVENTS_WINDOW_CLOSED : Fld := ⟨0x80330, 0, 1⟩
def MTL_EVENTS_WINDOW_OPENED : Fld := ⟨0x80330, 1, 1⟩
def MTL_EVENTS_VAULT_LIMIT : Fld := ⟨0x80330, 2, 1⟩
def MTL_EVENTS_SCOUR_BEHIND : Fld := ⟨0x80330, 3, 1⟩
def MTL_EVENTS_LAP_DONE : Fld := ⟨0x80330, 4, 1⟩
def MTL_EVENTS_MAP_UNCORRECTABLE : Fld := ⟨0x80330, 5, 1⟩
def MTL_EVENTS_UNTRUST_SET : Fld := ⟨0x80330, 6, 1⟩
/-! 08_persistence_and_admission.md, R210 -/
def PERSIST_CTL_ENABLE : Fld := ⟨0x90000, 0, 1⟩
def PERSIST_CTL_ADMIT_HOLD : Fld := ⟨0x90000, 1, 1⟩
def PERSIST_CTL_ACCEPT_LOSS : Fld := ⟨0x90000, 2, 1⟩
def PERSIST_CTL_CREDIT_OVR_EN : Fld := ⟨0x90000, 3, 1⟩
def PERSIST_STATUS_ADMIT : Fld := ⟨0x90008, 0, 2⟩
def PERSIST_STATUS_COMMIT_WAIT : Fld := ⟨0x90008, 2, 1⟩
def PERSIST_STATUS_SOLO_DURABLE : Fld := ⟨0x90008, 3, 1⟩
def PERSIST_STATUS_VAULT_INCOMPLETE : Fld := ⟨0x90008, 4, 1⟩
def PERSIST_STATUS_STOP_CAUSE : Fld := ⟨0x90008, 8, 10⟩
def COMMIT_FRAME_FRAME : Fld := ⟨0x90010, 0, 64⟩
def ACK_LAG_UNCOMMITTED : Fld := ⟨0x90018, 0, 16⟩
def ACK_LAG_LATE : Fld := ⟨0x90018, 32, 32⟩
def CREDIT_NOW_GRANT : Fld := ⟨0x90020, 0, 16⟩
def CREDIT_NOW_USED : Fld := ⟨0x90020, 16, 16⟩
def CREDIT_NOW_C_LINK : Fld := ⟨0x90020, 32, 16⟩
def CREDIT_NOW_C_LEVEL : Fld := ⟨0x90020, 48, 16⟩
def CREDIT_IN_C_SIMMER : Fld := ⟨0x90028, 0, 16⟩
def CREDIT_IN_C_DRAIN : Fld := ⟨0x90028, 16, 16⟩
def CREDIT_IN_CUT_LEVEL : Fld := ⟨0x90028, 32, 3⟩
def CREDIT_CFG_CREDIT_OVR : Fld := ⟨0x90030, 0, 16⟩
def CREDIT_CFG_FLOOR_SIXTEENTHS : Fld := ⟨0x90030, 16, 4⟩
def FLUSH_PARAM_E_HOLDUP_MJ : Fld := ⟨0x90038, 0, 32⟩
def FLUSH_PARAM_P_FLUSH_W : Fld := ⟨0x90038, 32, 16⟩
def FLUSH_PARAM_BW_FLUSH : Fld := ⟨0x90038, 48, 16⟩
def BUDGET_DERIVED_GIB : Fld := ⟨0x90040, 0, 16⟩
def BUDGET_APPLIED_GIB : Fld := ⟨0x90040, 16, 16⟩
def BUDGET_CAP_SRC : Fld := ⟨0x90040, 32, 2⟩
def PFAIL_STATUS_SOURCE : Fld := ⟨0x90048, 0, 2⟩
def PFAIL_STATUS_DETECT_FRAME : Fld := ⟨0x90048, 8, 56⟩
def PFAIL_TIME_VAULT_US : Fld := ⟨0x90050, 0, 32⟩
def PFAIL_TIME_TOTAL_US : Fld := ⟨0x90050, 32, 32⟩
def REPLAY_STATUS_STATE : Fld := ⟨0x90058, 0, 3⟩
def REPLAY_STATUS_ITEMS : Fld := ⟨0x90058, 32, 32⟩
def POISON_COUNT_CXL : Fld := ⟨0x90060, 0, 16⟩
def POISON_COUNT_RDMA : Fld := ⟨0x90060, 16, 16⟩
def POISON_COUNT_SCHED : Fld := ⟨0x90060, 32, 16⟩
def POISON_COUNT_CREATED : Fld := ⟨0x90060, 48, 16⟩
def PERSIST_EVENTS_ADMIT_STOPPED : Fld := ⟨0x90068, 0, 1⟩
def PERSIST_EVENTS_ADMIT_RESUMED : Fld := ⟨0x90068, 1, 1⟩
def PERSIST_EVENTS_COMMIT_LATE : Fld := ⟨0x90068, 2, 1⟩
def PERSIST_EVENTS_PFAIL : Fld := ⟨0x90068, 3, 1⟩
def PERSIST_EVENTS_REPLAY_DONE : Fld := ⟨0x90068, 4, 1⟩
def PERSIST_EVENTS_VAULT_INCOMPLETE : Fld := ⟨0x90068, 5, 1⟩
def PERSIST_EVENTS_LOSS_ACCEPTED : Fld := ⟨0x90068, 6, 1⟩
def PERSIST_EVENTS_POISON_CREATED : Fld := ⟨0x90068, 7, 1⟩
def PERSIST_EVENTS_POISON_CONSUMED : Fld := ⟨0x90068, 8, 1⟩
def ADMIT_Q_FILL (i : Nat) : Fld := ⟨0x90100 + 0x8 * i, 0, 15⟩
def ADMIT_Q_WEIGHT (i : Nat) : Fld := ⟨0x90100 + 0x8 * i, 16, 8⟩
def ADMIT_Q_FULL_FRAMES (i : Nat) : Fld := ⟨0x90100 + 0x8 * i, 32, 32⟩
/-! 09_twin_and_failover.md, R241 -/
def TWIN_CTL_ENABLE : Fld := ⟨0xa0000, 0, 1⟩
def TWIN_CTL_HANDOFF : Fld := ⟨0xa0000, 1, 1⟩
def TWIN_CTL_FORCE_SOLO : Fld := ⟨0xa0000, 2, 1⟩
def TWIN_CTL_REVERT_DIS : Fld := ⟨0xa0000, 3, 1⟩
def TWIN_CTL_GROUP_FORCE : Fld := ⟨0xa0000, 4, 2⟩
def TWIN_CTL_WITNESS_EN : Fld := ⟨0xa0000, 6, 1⟩
def TWIN_CTL_RESYNC_PAUSE : Fld := ⟨0xa0000, 7, 1⟩
def TWIN_CFG_PAIR_WAIT_MS : Fld := ⟨0xa0008, 0, 16⟩
def TWIN_CFG_WITNESS_PORT : Fld := ⟨0xa0008, 16, 16⟩
def TWIN_STATUS_ROLE : Fld := ⟨0xa0010, 0, 3⟩
def TWIN_STATUS_REQUEST_PENDING : Fld := ⟨0xa0010, 3, 1⟩
def TWIN_STATUS_LINK : Fld := ⟨0xa0010, 4, 2⟩
def TWIN_STATUS_MAIN_TRAINED : Fld := ⟨0xa0010, 6, 1⟩
def TWIN_STATUS_LEASE_LIVE : Fld := ⟨0xa0010, 7, 1⟩
def TWIN_STATUS_MISSED_RUN : Fld := ⟨0xa0010, 8, 7⟩
def TWIN_STATUS_TWIN_MEMBER : Fld := ⟨0xa0010, 16, 12⟩
def TWIN_STATUS_NO_TWIN : Fld := ⟨0xa0010, 28, 1⟩
def TWIN_STATUS_MAIN_STABLE : Fld := ⟨0xa0010, 32, 32⟩
def TWIN_LEASE_EPOCH : Fld := ⟨0xa0018, 0, 64⟩
def TWIN_EXPIRY_FRAME : Fld := ⟨0xa0020, 0, 64⟩
def TWIN_BATCH_LAST_ACKED : Fld := ⟨0xa0028, 0, 64⟩
def SPLIT_INFO_SPLIT_FRAME : Fld := ⟨0xa0030, 0, 64⟩
def TWIN_LINK_LAT_NS : Fld := ⟨0xa0038, 0, 16⟩
def TWIN_LINK_LAT_LIMIT_NS : Fld := ⟨0xa0038, 16, 16⟩
def TWIN_LINK_SWITCHES : Fld := ⟨0xa0038, 32, 32⟩
def TWIN_ERR_TAG_FAIL : Fld := ⟨0xa0040, 0, 32⟩
def TWIN_ERR_REPLAYS : Fld := ⟨0xa0040, 32, 32⟩
def TWIN_HB_RX : Fld := ⟨0xa0048, 0, 32⟩
def TWIN_HB_MISSED : Fld := ⟨0xa0048, 32, 32⟩
def TWIN_OVR_SEAL_LATE : Fld := ⟨0xa0050, 0, 32⟩
def TWIN_OVR_WINDOW_MISS : Fld := ⟨0xa0050, 32, 32⟩
def RESYNC_STATUS_STATE : Fld := ⟨0xa0058, 0, 3⟩
def RESYNC_STATUS_MODE : Fld := ⟨0xa0058, 3, 1⟩
def RESYNC_STATUS_PAUSED : Fld := ⟨0xa0058, 4, 1⟩
def RESYNC_STATUS_BITMAP_VALID : Fld := ⟨0xa0058, 5, 1⟩
def RESYNC_STATUS_REMAINING : Fld := ⟨0xa0058, 24, 40⟩
def RESYNC_DONE_COPIED : Fld := ⟨0xa0060, 0, 40⟩
def SPLIT_LOG_ENTRIES : Fld := ⟨0xa0068, 0, 19⟩
def SPLIT_LOG_OVERFLOWED : Fld := ⟨0xa0068, 19, 1⟩
def TRIVET_STATUS_LAST_SRC : Fld := ⟨0xa0070, 0, 2⟩
def TRIVET_STATUS_LAST_TYPE : Fld := ⟨0xa0070, 2, 3⟩
def TRIVET_STATUS_LAST_RELAYED : Fld := ⟨0xa0070, 5, 1⟩
def TRIVET_STATUS_LAST_REASON : Fld := ⟨0xa0070, 8, 8⟩
def TRIVET_STATUS_RTT_US : Fld := ⟨0xa0070, 16, 16⟩
def TRIVET_STATUS_REFUSALS : Fld := ⟨0xa0070, 32, 32⟩
def TRIVET_COUNT_SENT : Fld := ⟨0xa0078, 0, 32⟩
def TRIVET_COUNT_ANSWERED : Fld := ⟨0xa0078, 32, 32⟩
def TWIN_TAKEOVER_LAST_US : Fld := ⟨0xa0080, 0, 32⟩
def TWIN_TAKEOVER_TAKEOVERS : Fld := ⟨0xa0080, 32, 32⟩
def WITNESS_STATUS_PAIRS : Fld := ⟨0xa0088, 0, 7⟩
def WITNESS_STATUS_STARTING : Fld := ⟨0xa0088, 7, 1⟩
def WITNESS_STATUS_GRANTS : Fld := ⟨0xa0088, 32, 32⟩
def TWIN_EVENTS_ROLE_CHANGE : Fld := ⟨0xa0090, 0, 1⟩
def TWIN_EVENTS_DETECTED : Fld := ⟨0xa0090, 1, 1⟩
def TWIN_EVENTS_TAKEOVER : Fld := ⟨0xa0090, 2, 1⟩
def TWIN_EVENTS_LEASE_LOST : Fld := ⟨0xa0090, 3, 1⟩
def TWIN_EVENTS_GROUP_FALLBACK : Fld := ⟨0xa0090, 4, 1⟩
def TWIN_EVENTS_GROUP_REVERT : Fld := ⟨0xa0090, 5, 1⟩
def TWIN_EVENTS_LATENCY_HIGH : Fld := ⟨0xa0090, 6, 1⟩
def TWIN_EVENTS_PEER_REFUSED : Fld := ⟨0xa0090, 7, 1⟩
def TWIN_EVENTS_RESYNC_DONE : Fld := ⟨0xa0090, 8, 1⟩
def TWIN_EVENTS_RESYNC_ABORTED : Fld := ⟨0xa0090, 9, 1⟩
def TWIN_EVENTS_TRIVET_UNREACHED : Fld := ⟨0xa0090, 10, 1⟩
def TWIN_EVENTS_LOG_OVERFLOW : Fld := ⟨0xa0090, 11, 1⟩
def TWIN_EVENTS_STALE_EPOCH : Fld := ⟨0xa0090, 12, 1⟩
def TWIN_EVENTS_HANDOFF_REFUSED : Fld := ⟨0xa0090, 13, 1⟩
/-! 10_cxl_host_ports.md, R264 -/
def CXP_CTL_ENABLE (i : Nat) : Fld := ⟨0xb0000 + 0x1000 * i, 0, 1⟩
def CXP_CTL_LINK_DISABLE (i : Nat) : Fld := ⟨0xb0000 + 0x1000 * i, 1, 1⟩
def CXP_CTL_MAX_RATE (i : Nat) : Fld := ⟨0xb0000 + 0x1000 * i, 2, 2⟩
def CXP_CTL_IDE_REQUIRED (i : Nat) : Fld := ⟨0xb0000 + 0x1000 * i, 4, 1⟩
def CXP_STATUS_LINK (i : Nat) : Fld := ⟨0xb0008 + 0x1000 * i, 0, 3⟩
def CXP_STATUS_RATE (i : Nat) : Fld := ⟨0xb0008 + 0x1000 * i, 3, 3⟩
def CXP_STATUS_WIDTH (i : Nat) : Fld := ⟨0xb0008 + 0x1000 * i, 6, 5⟩
def CXP_STATUS_OPEN (i : Nat) : Fld := ⟨0xb0008 + 0x1000 * i, 11, 1⟩
def CXP_STATUS_MLD (i : Nat) : Fld := ⟨0xb0008 + 0x1000 * i, 12, 1⟩
def CXP_STATUS_LD_COUNT (i : Nat) : Fld := ⟨0xb0008 + 0x1000 * i, 13, 5⟩
def CXP_STATUS_IDE (i : Nat) : Fld := ⟨0xb0008 + 0x1000 * i, 18, 2⟩
def CXP_STATUS_DEVLOAD (i : Nat) : Fld := ⟨0xb0008 + 0x1000 * i, 20, 2⟩
def CXP_STATUS_LINK_UPS (i : Nat) : Fld := ⟨0xb0008 + 0x1000 * i, 32, 32⟩
def CXP_CREDIT_RD_QUOTA (i : Nat) : Fld := ⟨0xb0010 + 0x1000 * i, 0, 13⟩
def CXP_CREDIT_RD_OUT (i : Nat) : Fld := ⟨0xb0010 + 0x1000 * i, 16, 13⟩
def CXP_CREDIT_RD_EFFECTIVE (i : Nat) : Fld := ⟨0xb0010 + 0x1000 * i, 32, 13⟩
def CXP_COUNT_0_READS (i : Nat) : Fld := ⟨0xb0018 + 0x1000 * i, 0, 32⟩
def CXP_COUNT_0_WRITES (i : Nat) : Fld := ⟨0xb0018 + 0x1000 * i, 32, 32⟩
def CXP_COUNT_1_GPF (i : Nat) : Fld := ⟨0xb0020 + 0x1000 * i, 0, 32⟩
def CXP_COUNT_1_POISONED (i : Nat) : Fld := ⟨0xb0020 + 0x1000 * i, 32, 16⟩
def CXP_COUNT_1_INVALID_ADDR (i : Nat) : Fld := ⟨0xb0020 + 0x1000 * i, 48, 16⟩
def CXP_HELD_HELD (i : Nat) : Fld := ⟨0xb0028 + 0x1000 * i, 0, 16⟩
def CXP_HELD_DISCARDED (i : Nat) : Fld := ⟨0xb0028 + 0x1000 * i, 32, 32⟩
def CXP_ERR_REPLAYS (i : Nat) : Fld := ⟨0xb0030 + 0x1000 * i, 0, 16⟩
def CXP_ERR_CORRECTABLE (i : Nat) : Fld := ⟨0xb0030 + 0x1000 * i, 16, 16⟩
def CXP_ERR_IDE_FAIL (i : Nat) : Fld := ⟨0xb0030 + 0x1000 * i, 32, 16⟩
def CXP_ERR_PROTOCOL_ERR (i : Nat) : Fld := ⟨0xb0030 + 0x1000 * i, 48, 16⟩
def CXP_LD_PRESENT (i j : Nat) : Fld := ⟨0xb0100 + 0x1000 * i + 0x8 * j, 0, 1⟩
def CXP_LD_PART (i j : Nat) : Fld := ⟨0xb0100 + 0x1000 * i + 0x8 * j, 1, 8⟩
def CXP_LD_MEM_ENABLE (i j : Nat) : Fld := ⟨0xb0100 + 0x1000 * i + 0x8 * j, 9, 1⟩
def CXP_LD_DECODERS (i j : Nat) : Fld := ⟨0xb0100 + 0x1000 * i + 0x8 * j, 10, 2⟩
def CXP_LD_MEMORY_ACTIVE (i j : Nat) : Fld := ⟨0xb0100 + 0x1000 * i + 0x8 * j, 12, 1⟩
def CXP_LD_SHUTDOWN_DIRTY (i j : Nat) : Fld := ⟨0xb0100 + 0x1000 * i + 0x8 * j, 13, 1⟩
def CXP_LD_LOG_OVERFLOW (i j : Nat) : Fld := ⟨0xb0100 + 0x1000 * i + 0x8 * j, 14, 1⟩
def CXP_LD_RECORDS (i j : Nat) : Fld := ⟨0xb0100 + 0x1000 * i + 0x8 * j, 32, 11⟩
def CXP_HDM_SEL_LD (i : Nat) : Fld := ⟨0xb0200 + 0x1000 * i, 0, 4⟩
def CXP_HDM_SEL_DECODER (i : Nat) : Fld := ⟨0xb0200 + 0x1000 * i, 4, 1⟩
def CXP_HDM_PEEK_0_BASE (i : Nat) : Fld := ⟨0xb0208 + 0x1000 * i, 0, 36⟩
def CXP_HDM_PEEK_0_COMMITTED (i : Nat) : Fld := ⟨0xb0208 + 0x1000 * i, 36, 1⟩
def CXP_HDM_PEEK_0_LOCKED (i : Nat) : Fld := ⟨0xb0208 + 0x1000 * i, 37, 1⟩
def CXP_HDM_PEEK_0_IW (i : Nat) : Fld := ⟨0xb0208 + 0x1000 * i, 38, 3⟩
def CXP_HDM_PEEK_0_IG (i : Nat) : Fld := ⟨0xb0208 + 0x1000 * i, 41, 3⟩
def CXP_HDM_PEEK_0_COMMIT_ERROR (i : Nat) : Fld := ⟨0xb0208 + 0x1000 * i, 44, 1⟩
def CXP_HDM_PEEK_0_ECHO (i : Nat) : Fld := ⟨0xb0208 + 0x1000 * i, 45, 5⟩
def CXP_HDM_PEEK_1_SIZE (i : Nat) : Fld := ⟨0xb0210 + 0x1000 * i, 0, 36⟩
def CXP_HDM_PEEK_2_DPA_START (i : Nat) : Fld := ⟨0xb0218 + 0x1000 * i, 0, 36⟩
def CXP_EVENTS_LINK_UP (i : Nat) : Fld := ⟨0xb0220 + 0x1000 * i, 0, 1⟩
def CXP_EVENTS_LINK_DOWN (i : Nat) : Fld := ⟨0xb0220 + 0x1000 * i, 1, 1⟩
def CXP_EVENTS_DECODER_REFUSED (i : Nat) : Fld := ⟨0xb0220 + 0x1000 * i, 2, 1⟩
def CXP_EVENTS_IDE_FAIL (i : Nat) : Fld := ⟨0xb0220 + 0x1000 * i, 3, 1⟩
def CXP_EVENTS_PROTOCOL_ERR (i : Nat) : Fld := ⟨0xb0220 + 0x1000 * i, 4, 1⟩
def CXP_EVENTS_LOG_OVERFLOW (i : Nat) : Fld := ⟨0xb0220 + 0x1000 * i, 5, 1⟩
def CXP_EVENTS_HELD_DISCARDED (i : Nat) : Fld := ⟨0xb0220 + 0x1000 * i, 6, 1⟩
def CXP_EVENTS_QUOTA_REFUSED (i : Nat) : Fld := ⟨0xb0220 + 0x1000 * i, 7, 1⟩
def CXP_EVENTS_DOWNTRAINED (i : Nat) : Fld := ⟨0xb0220 + 0x1000 * i, 8, 1⟩
/-! 11_rdma_ports.md, R290 -/
def ETH_CTL_ENABLE (i : Nat) : Fld := ⟨0xc0000 + 0x1000 * i, 0, 1⟩
def ETH_CTL_PFC_EN (i : Nat) : Fld := ⟨0xc0000 + 0x1000 * i, 1, 1⟩
def ETH_CTL_PFC_PRIO (i : Nat) : Fld := ⟨0xc0000 + 0x1000 * i, 2, 3⟩
def ETH_CTL_VLAN (i : Nat) : Fld := ⟨0xc0000 + 0x1000 * i, 5, 12⟩
def ETH_STATUS_LINK (i : Nat) : Fld := ⟨0xc0008 + 0x1000 * i, 0, 2⟩
def ETH_STATUS_SPEED (i : Nat) : Fld := ⟨0xc0008 + 0x1000 * i, 2, 2⟩
def ETH_STATUS_OPEN (i : Nat) : Fld := ⟨0xc0008 + 0x1000 * i, 4, 1⟩
def ETH_STATUS_QPS (i : Nat) : Fld := ⟨0xc0008 + 0x1000 * i, 32, 32⟩
def ETH_MAC_ADDR (i : Nat) : Fld := ⟨0xc0010 + 0x1000 * i, 0, 48⟩
def ETH_IPV4_ADDR (i : Nat) : Fld := ⟨0xc0018 + 0x1000 * i, 0, 32⟩
def ETH_IPV6_HI_ADDR (i : Nat) : Fld := ⟨0xc0020 + 0x1000 * i, 0, 64⟩
def ETH_IPV6_LO_ADDR (i : Nat) : Fld := ⟨0xc0028 + 0x1000 * i, 0, 64⟩
def ETH_COUNT_0_RX_PKTS (i : Nat) : Fld := ⟨0xc0030 + 0x1000 * i, 0, 32⟩
def ETH_COUNT_0_TX_PKTS (i : Nat) : Fld := ⟨0xc0030 + 0x1000 * i, 32, 32⟩
def ETH_COUNT_1_FEC_CORRECTED (i : Nat) : Fld := ⟨0xc0038 + 0x1000 * i, 0, 32⟩
def ETH_COUNT_1_FEC_UNCORRECTABLE (i : Nat) : Fld := ⟨0xc0038 + 0x1000 * i, 32, 16⟩
def ETH_COUNT_1_DISCARDED (i : Nat) : Fld := ⟨0xc0038 + 0x1000 * i, 48, 16⟩
def ETH_COUNT_2_RNR_SENT (i : Nat) : Fld := ⟨0xc0040 + 0x1000 * i, 0, 32⟩
def ETH_COUNT_2_CNP_SENT (i : Nat) : Fld := ⟨0xc0040 + 0x1000 * i, 32, 32⟩
def ETH_EVENTS_LINK_UP (i : Nat) : Fld := ⟨0xc0048 + 0x1000 * i, 0, 1⟩
def ETH_EVENTS_LINK_DOWN (i : Nat) : Fld := ⟨0xc0048 + 0x1000 * i, 1, 1⟩
def ETH_EVENTS_CLOSED (i : Nat) : Fld := ⟨0xc0048 + 0x1000 * i, 2, 1⟩
/-! 11_rdma_ports.md, R291 -/
def RDMA_CTL_ENABLE : Fld := ⟨0xd0000, 0, 1⟩
def RDMA_CTL_CM_HOLD : Fld := ⟨0xd0000, 1, 1⟩
def RDMA_CFG_MTU : Fld := ⟨0xd0008, 0, 2⟩
def RDMA_CFG_CM_PORT : Fld := ⟨0xd0008, 2, 16⟩
def RDMA_CFG_RNR_CODE : Fld := ⟨0xd0008, 18, 5⟩
def RDMA_CFG_REORDER_US : Fld := ⟨0xd0008, 23, 8⟩
def RDMA_CFG_CNP_INTERVAL_US : Fld := ⟨0xd0008, 31, 8⟩
def RDMA_CFG_DSCP : Fld := ⟨0xd0008, 39, 6⟩
def RDMA_USE_QPS : Fld := ⟨0xd0010, 0, 17⟩
def RDMA_USE_REGIONS : Fld := ⟨0xd0010, 32, 21⟩
def RDMA_DOORBELL_QPN : Fld := ⟨0xd0018, 0, 24⟩
def RDMA_EQ_MAP_CLASS_00 : Fld := ⟨0xd0020, 0, 4⟩
def RDMA_EQ_MAP_CLASS_01 : Fld := ⟨0xd0020, 4, 4⟩
def RDMA_EQ_MAP_CLASS_02 : Fld := ⟨0xd0020, 8, 4⟩
def RDMA_EQ_MAP_CLASS_03 : Fld := ⟨0xd0020, 12, 4⟩
def RDMA_EQ_MAP_CLASS_04 : Fld := ⟨0xd0020, 16, 4⟩
def RDMA_EQ_MAP_CLASS_05 : Fld := ⟨0xd0020, 20, 4⟩
def RDMA_EQ_MAP_CLASS_06 : Fld := ⟨0xd0020, 24, 4⟩
def RDMA_EQ_MAP_CLASS_07 : Fld := ⟨0xd0020, 28, 4⟩
def RDMA_EQ_MAP_CLASS_08 : Fld := ⟨0xd0020, 32, 4⟩
def RDMA_EQ_MAP_CLASS_09 : Fld := ⟨0xd0020, 36, 4⟩
def RDMA_EQ_MAP_CLASS_10 : Fld := ⟨0xd0020, 40, 4⟩
def RDMA_EQ_MAP_CLASS_11 : Fld := ⟨0xd0020, 44, 4⟩
def RDMA_EQ_MAP_CLASS_12 : Fld := ⟨0xd0020, 48, 4⟩
def RDMA_EQ_MAP_CLASS_13 : Fld := ⟨0xd0020, 52, 4⟩
def RDMA_EQ_MAP_CLASS_14 : Fld := ⟨0xd0020, 56, 4⟩
def RDMA_EQ_MAP_CLASS_15 : Fld := ⟨0xd0020, 60, 4⟩
def RDMA_COUNT_0_DUP_IN_WINDOW : Fld := ⟨0xd0028, 0, 32⟩
def RDMA_COUNT_0_DUP_OUTSIDE : Fld := ⟨0xd0028, 32, 32⟩
def RDMA_COUNT_1_SACK_SENT : Fld := ⟨0xd0030, 0, 16⟩
def RDMA_COUNT_1_SPRAY_BEYOND : Fld := ⟨0xd0030, 16, 16⟩
def RDMA_COUNT_1_NO_QP : Fld := ⟨0xd0030, 32, 16⟩
def RDMA_COUNT_1_ACCESS_ERR : Fld := ⟨0xd0030, 48, 16⟩
def RDMA_EVENTS_CMD_DONE : Fld := ⟨0xd0038, 0, 1⟩
def RDMA_EVENTS_CMD_REFUSED : Fld := ⟨0xd0038, 1, 1⟩
def RDMA_EVENTS_CM_HELD : Fld := ⟨0xd0038, 2, 1⟩
def RDMA_EVENTS_CQ_OVERFLOW : Fld := ⟨0xd0038, 3, 1⟩
/-! 11_rdma_ports.md, R292 -/
def RDMA_CMD_STATUS_STATE : Fld := ⟨0xd0068, 0, 2⟩
def RDMA_CMD_STATUS_RESULT : Fld := ⟨0xd0068, 2, 6⟩
def RDMA_CMD_STATUS_ECHO : Fld := ⟨0xd0068, 8, 24⟩
def RDMA_CMD_STATUS_KEY : Fld := ⟨0xd0068, 32, 32⟩
/-! 12_ramekin_pools_and_queues.md, R312 -/
def RK_CTL_ENABLE : Fld := ⟨0xe0000, 0, 1⟩
def RK_STATUS_AREA_LOST : Fld := ⟨0xe0008, 0, 1⟩
def RK_POOL_CFG_MIB (i : Nat) : Fld := ⟨0xe0040 + 0x8 * i, 0, 16⟩
def RK_POOL_CFG_LOW_WATER (i : Nat) : Fld := ⟨0xe0040 + 0x8 * i, 32, 28⟩
def RK_POOL_STAT_BUFFERS (i : Nat) : Fld := ⟨0xe0080 + 0x8 * i, 0, 28⟩
def RK_POOL_STAT_FREE (i : Nat) : Fld := ⟨0xe0080 + 0x8 * i, 28, 28⟩
def RK_POOL_STAT_CHAIN_BROKEN (i : Nat) : Fld := ⟨0xe0080 + 0x8 * i, 56, 1⟩
def RK_POOL_STAT_LOW (i : Nat) : Fld := ⟨0xe0080 + 0x8 * i, 57, 1⟩
def RK_POOL_STAT_QUARANTINED (i : Nat) : Fld := ⟨0xe0080 + 0x8 * i, 58, 6⟩
def RK_POOL_PTR_HWM (i : Nat) : Fld := ⟨0xe00c0 + 0x8 * i, 0, 28⟩
def RK_POOL_PTR_CHAIN_LEN (i : Nat) : Fld := ⟨0xe00c0 + 0x8 * i, 28, 28⟩
def RK_POOL_PTR_CACHED (i : Nat) : Fld := ⟨0xe00c0 + 0x8 * i, 56, 7⟩
def RK_POOL_CNT_ALLOC_FAIL (i : Nat) : Fld := ⟨0xe0100 + 0x8 * i, 0, 32⟩
def RK_POOL_CNT_RESERVE_FAIL (i : Nat) : Fld := ⟨0xe0100 + 0x8 * i, 32, 32⟩
def RK_ALLOC_SIZE (i : Nat) : Fld := ⟨0xe0200 + 0x8 * i, 0, 19⟩
def RK_ALLOC_OWNER (i : Nat) : Fld := ⟨0xe0200 + 0x8 * i, 20, 4⟩
def RK_ALLOC_SEQ (i : Nat) : Fld := ⟨0xe0200 + 0x8 * i, 24, 8⟩
def RK_ALLOC_RES_HANDLE (i : Nat) : Fld := ⟨0xe0280 + 0x8 * i, 0, 36⟩
def RK_ALLOC_RES_STATUS (i : Nat) : Fld := ⟨0xe0280 + 0x8 * i, 36, 4⟩
def RK_ALLOC_RES_SEQ (i : Nat) : Fld := ⟨0xe0280 + 0x8 * i, 40, 8⟩
def RK_FREE_HANDLE (i : Nat) : Fld := ⟨0xe0300 + 0x8 * i, 0, 36⟩
def RK_FREE_OWNER (i : Nat) : Fld := ⟨0xe0300 + 0x8 * i, 36, 4⟩
def RK_FREE_FORCE (i : Nat) : Fld := ⟨0xe0300 + 0x8 * i, 40, 1⟩
def RK_MIN_MIN (i j : Nat) : Fld := ⟨0xe1000 + 0x30 * i + 0x8 * j, 0, 28⟩
def RK_MIN_HELD (i j : Nat) : Fld := ⟨0xe1000 + 0x30 * i + 0x8 * j, 32, 28⟩
def RK_PEEK_SEL_POOL : Fld := ⟨0xe0400, 0, 3⟩
def RK_PEEK_SEL_ENTRY : Fld := ⟨0xe0400, 3, 6⟩
def RK_PEEK_HANDLE : Fld := ⟨0xe0408, 0, 36⟩
def RK_PEEK_VALID : Fld := ⟨0xe0408, 36, 1⟩
def RK_PEEK_ECHO : Fld := ⟨0xe0408, 37, 9⟩
def RK_REBUILD_POOL : Fld := ⟨0xe0410, 0, 3⟩
def RK_REBUILD_GO : Fld := ⟨0xe0410, 3, 1⟩
def RK_EVENTS_ALLOC_FAIL : Fld := ⟨0xe0418, 0, 1⟩
def RK_EVENTS_RESERVE_FAIL : Fld := ⟨0xe0418, 1, 1⟩
def RK_EVENTS_POOL_LOW : Fld := ⟨0xe0418, 2, 1⟩
def RK_EVENTS_CHAIN_BROKEN : Fld := ⟨0xe0418, 3, 1⟩
def RK_EVENTS_FREE_REFUSED : Fld := ⟨0xe0418, 4, 1⟩
def RK_EVENTS_CFG_REFUSED : Fld := ⟨0xe0418, 5, 1⟩
def RK_EVENTS_REBUILD_DONE : Fld := ⟨0xe0418, 6, 1⟩
/-! 12_ramekin_pools_and_queues.md, R313 -/
def Q_CTL_ENABLE : Fld := ⟨0xf0000, 0, 1⟩
def Q_CFG_SEL_QUEUE : Fld := ⟨0xf0008, 0, 12⟩
def Q_CFG_BASE : Fld := ⟨0xf0010, 0, 22⟩
def Q_CFG_SIZE : Fld := ⟨0xf0010, 22, 22⟩
def Q_CFG_ITEM_WORDS : Fld := ⟨0xf0010, 44, 5⟩
def Q_CFG_PROD : Fld := ⟨0xf0010, 49, 3⟩
def Q_CFG_CONS : Fld := ⟨0xf0010, 52, 3⟩
def Q_CFG_ENABLE : Fld := ⟨0xf0010, 55, 1⟩
def Q_PTR_HEAD : Fld := ⟨0xf0018, 0, 22⟩
def Q_PTR_TAIL : Fld := ⟨0xf0018, 22, 22⟩
def Q_PTR_ECHO : Fld := ⟨0xf0018, 44, 12⟩
def Q_STAT_DROPPED : Fld := ⟨0xf0020, 0, 32⟩
def Q_STAT_PARITY : Fld := ⟨0xf0020, 32, 16⟩
def Q_STAT_FLUSHES : Fld := ⟨0xf0020, 48, 16⟩
def Q_EVENTS_GAP : Fld := ⟨0xf0028, 0, 1⟩
def Q_EVENTS_PARITY : Fld := ⟨0xf0028, 1, 1⟩
def Q_EVENTS_UNDERFLOW : Fld := ⟨0xf0028, 2, 1⟩
def Q_EVENTS_CFG_REFUSED : Fld := ⟨0xf0028, 3, 1⟩
def Q_EVENTS_WRONG_SIDE : Fld := ⟨0xf0028, 4, 1⟩
def Q_EVENTS_DISABLED_PUSH : Fld := ⟨0xf0028, 5, 1⟩
def Q_WIN_SEL_QUEUE : Fld := ⟨0xf0040, 0, 12⟩
def Q_WIN_SEL_OFFSET : Fld := ⟨0xf0040, 12, 22⟩
def Q_WIN_DATA_DATA : Fld := ⟨0xf0048, 0, 64⟩
def Q_WIN_TAG_VALID : Fld := ⟨0xf0050, 0, 1⟩
def Q_WIN_TAG_GAP : Fld := ⟨0xf0050, 1, 1⟩
def Q_WIN_TAG_POISON : Fld := ⟨0xf0050, 2, 1⟩
def Q_WIN_TAG_ECHO_QUEUE : Fld := ⟨0xf0050, 3, 12⟩
def Q_WIN_TAG_ECHO_OFFSET : Fld := ⟨0xf0050, 15, 22⟩
def Q_BIND_QUEUE (i : Nat) : Fld := ⟨0xf8000 + 0x40 * i, 0, 12⟩
def Q_BIND_BOUND (i : Nat) : Fld := ⟨0xf8000 + 0x40 * i, 12, 1⟩
def Q_PUSH_WORD (i : Nat) : Fld := ⟨0xf8008 + 0x40 * i, 0, 64⟩
def Q_POP_WORD (i : Nat) : Fld := ⟨0xf8010 + 0x40 * i, 0, 64⟩
def Q_PEEK_WORD (i : Nat) : Fld := ⟨0xf8018 + 0x40 * i, 0, 64⟩
def Q_HEAD_EMPTY (i : Nat) : Fld := ⟨0xf8020 + 0x40 * i, 0, 1⟩
def Q_HEAD_GAP (i : Nat) : Fld := ⟨0xf8020 + 0x40 * i, 1, 1⟩
def Q_HEAD_POISON (i : Nat) : Fld := ⟨0xf8020 + 0x40 * i, 2, 1⟩
def Q_HEAD_WORDS_POPPED (i : Nat) : Fld := ⟨0xf8020 + 0x40 * i, 3, 5⟩
def Q_HEAD_WORDS (i : Nat) : Fld := ⟨0xf8020 + 0x40 * i, 8, 22⟩
def Q_FLUSH_FLUSH (i : Nat) : Fld := ⟨0xf8028 + 0x40 * i, 0, 1⟩
/-! 13_serving_schedules.md, R336 -/
def SCHED_CTL_ENABLE : Fld := ⟨0x100000, 0, 1⟩
def SCHED_CTL_CATCHUP_EN : Fld := ⟨0x100000, 1, 1⟩
def SCHED_CFG_BEACON_LEAD : Fld := ⟨0x100008, 0, 8⟩
def SCHED_CFG_CATCHUP_KF : Fld := ⟨0x100008, 8, 16⟩
def SCHED_STATUS_ENTRIES : Fld := ⟨0x100010, 0, 13⟩
def SCHED_STATUS_RUNNING : Fld := ⟨0x100010, 13, 5⟩
def SCHED_STATUS_STAGE_CAP : Fld := ⟨0x100010, 18, 10⟩
def SCHED_STATUS_STAGE_USED : Fld := ⟨0x100010, 28, 10⟩
def SCHED_STATUS_DESC_CAP : Fld := ⟨0x100010, 38, 16⟩
def SCHED_TBL_SEL_KIND : Fld := ⟨0x100040, 0, 3⟩
def SCHED_TBL_SEL_INDEX : Fld := ⟨0x100040, 3, 16⟩
def SCHED_TBL_CMD_OP : Fld := ⟨0x100048, 0, 2⟩
def SCHED_TBL_STATUS_STATE : Fld := ⟨0x100050, 0, 2⟩
def SCHED_TBL_STATUS_RESULT : Fld := ⟨0x100050, 2, 4⟩
def SCHED_TBL_STATUS_ECHO_KIND : Fld := ⟨0x100050, 6, 3⟩
def SCHED_TBL_STATUS_ECHO_INDEX : Fld := ⟨0x100050, 9, 16⟩
def SCHED_TBL_STATUS_FRAME_LOW : Fld := ⟨0x100050, 32, 32⟩
def SCHED_TBL_WDATA_DATA (i : Nat) : Fld := ⟨0x100080 + 0x8 * i, 0, 64⟩
def SCHED_TBL_RDATA_DATA (i : Nat) : Fld := ⟨0x1000c0 + 0x8 * i, 0, 64⟩
def SCHED_COUNT_0_LAUNCHED : Fld := ⟨0x100100, 0, 32⟩
def SCHED_COUNT_0_SLIPPED : Fld := ⟨0x100100, 32, 32⟩
def SCHED_COUNT_1_ABANDONED : Fld := ⟨0x100108, 0, 16⟩
def SCHED_COUNT_1_CATCH_UP : Fld := ⟨0x100108, 16, 16⟩
def SCHED_COUNT_1_POISON_LINES : Fld := ⟨0x100108, 32, 32⟩
def SCHED_COUNT_2_RESTAGED : Fld := ⟨0x100110, 0, 32⟩
def SCHED_COUNT_2_TWIN_REFETCHED : Fld := ⟨0x100110, 32, 32⟩
def SCHED_BEACON_SENT : Fld := ⟨0x100118, 0, 32⟩
def SCHED_BEACON_REJECTED : Fld := ⟨0x100118, 32, 16⟩
def SCHED_BEACON_LATE_LEARN : Fld := ⟨0x100118, 48, 16⟩
def SCHED_EVENTS_LAUNCH : Fld := ⟨0x100120, 0, 1⟩
def SCHED_EVENTS_SLIP : Fld := ⟨0x100120, 1, 1⟩
def SCHED_EVENTS_ABANDON : Fld := ⟨0x100120, 2, 1⟩
def SCHED_EVENTS_POISON : Fld := ⟨0x100120, 3, 1⟩
def SCHED_EVENTS_POISON_TRUNCATED : Fld := ⟨0x100120, 4, 1⟩
def SCHED_EVENTS_DEST_FAILED : Fld := ⟨0x100120, 5, 1⟩
def SCHED_EVENTS_MAP_WAIT : Fld := ⟨0x100120, 6, 1⟩
def SCHED_EVENTS_CATCH_UP : Fld := ⟨0x100120, 7, 1⟩
def SCHED_EVENTS_CMD_REFUSED : Fld := ⟨0x100120, 8, 1⟩
def SCHED_EVENTS_NOT_RUN : Fld := ⟨0x100120, 9, 1⟩
/-! 14_cipher_and_keys.md, R361 -/
def CIPHER_CTL_ENABLE : Fld := ⟨0x110000, 0, 1⟩
def CIPHER_STATUS_STATE : Fld := ⟨0x110008, 0, 2⟩
def CIPHER_STATUS_ATTESTED : Fld := ⟨0x110008, 2, 1⟩
def CIPHER_STATUS_KEYS_PENDING : Fld := ⟨0x110008, 3, 1⟩
def CIPHER_STATUS_MARKING : Fld := ⟨0x110008, 4, 1⟩
def CIPHER_STATUS_UNTRUST_USED : Fld := ⟨0x110008, 5, 7⟩
def KEY_GEN_NOW_CURRENT : Fld := ⟨0x110010, 0, 32⟩
def KEY_GEN_NOW_NEXT : Fld := ⟨0x110010, 32, 32⟩
def KEY_GEN_PREV_PREV : Fld := ⟨0x110018, 0, 32⟩
def KEY_ACTIVATE_FRAME : Fld := ⟨0x110020, 0, 64⟩
def KEY_CMD_OP : Fld := ⟨0x110028, 0, 2⟩
def KEY_CMD_STATUS_STATE : Fld := ⟨0x110030, 0, 2⟩
def KEY_CMD_STATUS_RESULT : Fld := ⟨0x110030, 2, 4⟩
def KEY_PKG_DATA (i : Nat) : Fld := ⟨0x110800 + 0x8 * i, 0, 64⟩
def KEY_SLOT_SEL_SLOT : Fld := ⟨0x110038, 0, 7⟩
def KEY_SLOT_PEEK_PRESENT : Fld := ⟨0x110040, 0, 1⟩
def KEY_SLOT_PEEK_USE : Fld := ⟨0x110040, 1, 3⟩
def KEY_SLOT_PEEK_ECHO : Fld := ⟨0x110040, 4, 7⟩
def KEY_SLOT_PEEK_GEN : Fld := ⟨0x110040, 32, 32⟩
def KA_PUB_DATA (i : Nat) : Fld := ⟨0x110c00 + 0x8 * i, 0, 64⟩
def FUSE_HASH_HASH (i : Nat) : Fld := ⟨0x110048 + 0x8 * i, 0, 64⟩
def FUSE_CMD_OP : Fld := ⟨0x110078, 0, 2⟩
def FUSE_CMD_SLOT : Fld := ⟨0x110078, 2, 3⟩
def FUSE_STATUS_SLOTS : Fld := ⟨0x110080, 0, 10⟩
def FUSE_STATUS_RESULT : Fld := ⟨0x110080, 10, 3⟩
def JOB_OP_OP (i : Nat) : Fld := ⟨0x110100 + 0x80 * i, 0, 2⟩
def JOB_OP_SRC_RAMEKIN (i : Nat) : Fld := ⟨0x110100 + 0x80 * i, 2, 1⟩
def JOB_OP_DST_RAMEKIN (i : Nat) : Fld := ⟨0x110100 + 0x80 * i, 3, 1⟩
def JOB_SRC_ADDR (i : Nat) : Fld := ⟨0x110108 + 0x80 * i, 0, 47⟩
def JOB_DST_ADDR (i : Nat) : Fld := ⟨0x110110 + 0x80 * i, 0, 47⟩
def JOB_LEN_BYTES (i : Nat) : Fld := ⟨0x110118 + 0x80 * i, 0, 31⟩
def JOB_AAD_DATA (i j : Nat) : Fld := ⟨0x110120 + 0x80 * i + 0x8 * j, 0, 64⟩
def JOB_GO_GO (i : Nat) : Fld := ⟨0x110130 + 0x80 * i, 0, 1⟩
def JOB_GO_ABORT (i : Nat) : Fld := ⟨0x110130 + 0x80 * i, 1, 1⟩
def JOB_STATUS_STATE (i : Nat) : Fld := ⟨0x110138 + 0x80 * i, 0, 3⟩
def JOB_STATUS_RESULT (i : Nat) : Fld := ⟨0x110138 + 0x80 * i, 3, 4⟩
def JOB_STATUS_BLOCKS (i : Nat) : Fld := ⟨0x110138 + 0x80 * i, 32, 32⟩
def JOB_NONCE_DATA (i j : Nat) : Fld := ⟨0x110140 + 0x80 * i + 0x8 * j, 0, 64⟩
def JOB_TAG_DATA (i j : Nat) : Fld := ⟨0x110150 + 0x80 * i + 0x8 * j, 0, 64⟩
def JOB_POISON_FIRST (i : Nat) : Fld := ⟨0x110160 + 0x80 * i, 0, 32⟩
def JOB_POISON_LINES (i : Nat) : Fld := ⟨0x110160 + 0x80 * i, 32, 32⟩
def UNTRUST_SEL_ENTRY : Fld := ⟨0x110300, 0, 6⟩
def UNTRUST_PEEK_0_VALID : Fld := ⟨0x110308, 0, 1⟩
def UNTRUST_PEEK_0_CAUSE : Fld := ⟨0x110308, 1, 2⟩
def UNTRUST_PEEK_0_MARKING : Fld := ⟨0x110308, 3, 1⟩
def UNTRUST_PEEK_0_ECHO : Fld := ⟨0x110308, 4, 6⟩
def UNTRUST_PEEK_0_DPA : Fld := ⟨0x110308, 10, 47⟩
def UNTRUST_PEEK_1_BYTES : Fld := ⟨0x110310, 0, 31⟩
def UNTRUST_PEEK_1_FRAME_LOW : Fld := ⟨0x110310, 31, 33⟩
def UNTRUST_ARG_0_DPA : Fld := ⟨0x110318, 0, 47⟩
def UNTRUST_ARG_1_BYTES : Fld := ⟨0x110320, 0, 31⟩
def UNTRUST_CMD_OP : Fld := ⟨0x110328, 0, 2⟩
def UNTRUST_CMD_ENTRY : Fld := ⟨0x110328, 2, 6⟩
def FW_MEASURE_DATA_DATA (i : Nat) : Fld := ⟨0x110380 + 0x8 * i, 0, 64⟩
def FW_MEASURE_CMD_EXTEND : Fld := ⟨0x1103b0, 0, 1⟩
def FW_MEASURE_VALUE_VALUE (i : Nat) : Fld := ⟨0x1103c0 + 0x8 * i, 0, 64⟩
def DBG_CTL_NEW_CHALLENGE : Fld := ⟨0x110400, 0, 1⟩
def DBG_CTL_SUBMIT : Fld := ⟨0x110400, 1, 1⟩
def DBG_CTL_LEVEL : Fld := ⟨0x110400, 2, 2⟩
def DBG_STATUS_LEVEL : Fld := ⟨0x110408, 0, 2⟩
def DBG_STATUS_FAILS : Fld := ⟨0x110408, 2, 4⟩
def DBG_STATUS_RESULT : Fld := ⟨0x110408, 6, 4⟩
def DBG_STATUS_OPENS : Fld := ⟨0x110408, 32, 32⟩
def DBG_CHALLENGE_DATA (i : Nat) : Fld := ⟨0x110410 + 0x8 * i, 0, 64⟩
def DBG_RESP_DATA (i : Nat) : Fld := ⟨0x110500 + 0x8 * i, 0, 64⟩
def CIPHER_EVENTS_KEY_INSTALLED : Fld := ⟨0x110440, 0, 1⟩
def CIPHER_EVENTS_KEY_ACTIVATED : Fld := ⟨0x110440, 1, 1⟩
def CIPHER_EVENTS_KEY_REFUSED : Fld := ⟨0x110440, 2, 1⟩
def CIPHER_EVENTS_JOB_DONE : Fld := ⟨0x110440, 3, 1⟩
def CIPHER_EVENTS_AUTH_FAIL : Fld := ⟨0x110440, 4, 1⟩
def CIPHER_EVENTS_MARK_DONE : Fld := ⟨0x110440, 5, 1⟩
def CIPHER_EVENTS_UNTRUST_FULL : Fld := ⟨0x110440, 6, 1⟩
def CIPHER_EVENTS_DEBUG_REFUSED : Fld := ⟨0x110440, 7, 1⟩
def CIPHER_EVENTS_FUSE_BLOWN : Fld := ⟨0x110440, 8, 1⟩
/-! 15_dexith_and_code_flash.md, R384 -/
def DX_CTL_ENABLE : Fld := ⟨0x120000, 0, 1⟩
def DX_STATUS_RUNNING : Fld := ⟨0x120008, 0, 16⟩
def DX_STATUS_HALTED : Fld := ⟨0x120008, 16, 16⟩
def DX_STATUS_KEEPER_0_OK : Fld := ⟨0x120008, 32, 1⟩
def DX_STATUS_KEEPER_1_OK : Fld := ⟨0x120008, 33, 1⟩
def DX_RESET_VEC_VECTOR : Fld := ⟨0x120010, 0, 64⟩
def DX_MTIME_MTIME : Fld := ⟨0x120018, 0, 64⟩
def DX_ECC_CORRECTED : Fld := ⟨0x120020, 0, 32⟩
def DX_ECC_UNCORRECTABLE : Fld := ⟨0x120020, 32, 16⟩
def DX_IPI_PENDING : Fld := ⟨0x120028, 0, 16⟩
def DX_IPI_CLR_PENDING : Fld := ⟨0x120030, 0, 16⟩
def DX_FRAME_ACK_ACK : Fld := ⟨0x120038, 0, 16⟩
def DX_EVENTS_ECC_UE : Fld := ⟨0x120040, 0, 1⟩
def DX_EVENTS_TCM_UNINIT : Fld := ⟨0x120040, 1, 1⟩
def DX_EVENTS_RAMEKIN_POISON : Fld := ⟨0x120040, 2, 1⟩
def DX_CORE_CTL_RUN (i : Nat) : Fld := ⟨0x120100 + 0x40 * i, 0, 1⟩
def DX_CORE_CTL_RESET (i : Nat) : Fld := ⟨0x120100 + 0x40 * i, 1, 1⟩
def DX_CORE_CTL_TCM_CLEAR (i : Nat) : Fld := ⟨0x120100 + 0x40 * i, 2, 1⟩
def DX_CORE_CTL_NMI (i : Nat) : Fld := ⟨0x120100 + 0x40 * i, 3, 1⟩
def DX_CORE_STATUS_STATE (i : Nat) : Fld := ⟨0x120108 + 0x40 * i, 0, 2⟩
def DX_CORE_STATUS_TCM_CLEARING (i : Nat) : Fld := ⟨0x120108 + 0x40 * i, 2, 1⟩
def DX_CORE_STATUS_TCM_WRITTEN_KIB (i : Nat) : Fld := ⟨0x120108 + 0x40 * i, 32, 32⟩
def DX_CORE_PC_PC (i : Nat) : Fld := ⟨0x120110 + 0x40 * i, 0, 64⟩
def DX_MTIMECMP_CMP (i : Nat) : Fld := ⟨0x120118 + 0x40 * i, 0, 64⟩
def EVQ_CTL_IE (i : Nat) : Fld := ⟨0x120800 + 0x80 * i, 0, 1⟩
def EVQ_CTL_FRAME_IE (i : Nat) : Fld := ⟨0x120800 + 0x80 * i, 1, 1⟩
def EVQ_CTL_FLUSH (i : Nat) : Fld := ⟨0x120800 + 0x80 * i, 2, 1⟩
def EVQ_STATUS_COUNT (i : Nat) : Fld := ⟨0x120808 + 0x80 * i, 0, 9⟩
def EVQ_STATUS_GAP_PENDING (i : Nat) : Fld := ⟨0x120808 + 0x80 * i, 9, 1⟩
def EVQ_STATUS_DROPPED (i : Nat) : Fld := ⟨0x120808 + 0x80 * i, 32, 32⟩
def EVQ_POP_WORD_0 (i : Nat) : Fld := ⟨0x120810 + 0x80 * i, 0, 64⟩
def EVQ_LATCH_DATA (i j : Nat) : Fld := ⟨0x120818 + 0x80 * i + 0x8 * j, 0, 64⟩
def EVQ_PEEK_DATA (i j : Nat) : Fld := ⟨0x120830 + 0x80 * i + 0x8 * j, 0, 64⟩
def EVT_ROUTE_CORES (i : Nat) : Fld := ⟨0x121000 + 0x8 * i, 0, 16⟩
/-! 15_dexith_and_code_flash.md, R385 -/
def CF_STATUS_BANK_0 : Fld := ⟨0x130000, 0, 2⟩
def CF_STATUS_BANK_1 : Fld := ⟨0x130000, 2, 2⟩
def CF_STATUS_TEMP_OK : Fld := ⟨0x130000, 4, 1⟩
def CF_STATUS_WP_LOCKED : Fld := ⟨0x130000, 5, 1⟩
def CF_ADDR_PAGE : Fld := ⟨0x130008, 9, 19⟩
def CF_CMD_OP : Fld := ⟨0x130010, 0, 2⟩
def CF_OP_STATUS_STATE : Fld := ⟨0x130018, 0, 2⟩
def CF_OP_STATUS_RESULT : Fld := ⟨0x130018, 2, 4⟩
def CF_OP_STATUS_OP : Fld := ⟨0x130018, 6, 2⟩
def CF_OP_STATUS_SUSPENDS : Fld := ⟨0x130018, 32, 32⟩
def CF_OP_TIME_ELAPSED_US : Fld := ⟨0x130020, 0, 32⟩
def CF_OP_TIME_ACTIVE_US : Fld := ⟨0x130020, 32, 32⟩
def CF_HASH_LEN_SECTORS : Fld := ⟨0x130028, 0, 13⟩
def CF_WP_CTL_LOCK : Fld := ⟨0x130030, 0, 1⟩
def CF_STARVE_ERASE_STARVED : Fld := ⟨0x130038, 0, 32⟩
def CF_INTERRUPTED_VALID : Fld := ⟨0x130040, 0, 1⟩
def CF_INTERRUPTED_KIND : Fld := ⟨0x130040, 1, 1⟩
def CF_INTERRUPTED_PAGE : Fld := ⟨0x130040, 9, 19⟩
def CF_XO_VIOL_ADDR : Fld := ⟨0x130048, 0, 28⟩
def CF_XO_VIOL_COUNT : Fld := ⟨0x130048, 32, 32⟩
def CF_READ_STAT_PREFETCH_HITS : Fld := ⟨0x130050, 0, 32⟩
def CF_READ_STAT_BRANCH_HITS : Fld := ⟨0x130050, 32, 32⟩
def CF_EVENTS_OP_DONE : Fld := ⟨0x130058, 0, 1⟩
def CF_EVENTS_OP_REFUSED : Fld := ⟨0x130058, 1, 1⟩
def CF_EVENTS_SUSPENDED_SECTOR_READ : Fld := ⟨0x130058, 2, 1⟩
def CF_EVENTS_ERASE_STARVED : Fld := ⟨0x130058, 3, 1⟩
def CF_EVENTS_XO_VIOLATION : Fld := ⟨0x130058, 4, 1⟩
def CF_EVENTS_INTERRUPTED_FOUND : Fld := ⟨0x130058, 5, 1⟩
def CF_EVENTS_TEMP_PAUSE : Fld := ⟨0x130058, 6, 1⟩
def CF_PAGE_BUF_DATA (i : Nat) : Fld := ⟨0x130100 + 0x8 * i, 0, 64⟩
def CF_WP_BITS (i : Nat) : Fld := ⟨0x130400 + 0x8 * i, 0, 64⟩
def CF_XO_FIRST (i : Nat) : Fld := ⟨0x130600 + 0x8 * i, 0, 16⟩
def CF_XO_COUNT (i : Nat) : Fld := ⟨0x130600 + 0x8 * i, 16, 16⟩
def CF_HASH_HASH (i : Nat) : Fld := ⟨0x130680 + 0x8 * i, 0, 64⟩
/-! 16_rack_and_spike.md, R407 -/
def RACK_STATUS_SUPPLY_HOLD : Fld := ⟨0x140000, 0, 1⟩
def RACK_STATUS_TEMP_HOLD : Fld := ⟨0x140000, 1, 1⟩
def RACK_STATUS_PENDING : Fld := ⟨0x140000, 2, 10⟩
def RACK_STATUS_AON_MV : Fld := ⟨0x140000, 16, 16⟩
def RACK_COUNT_WRITES : Fld := ⟨0x140008, 0, 32⟩
def RACK_COUNT_CORRECTED : Fld := ⟨0x140008, 32, 32⟩
def RACK_ERR_GROUP : Fld := ⟨0x140010, 3, 20⟩
def RACK_ERR_COUNT : Fld := ⟨0x140010, 48, 16⟩
def RACK_OPSEC_SECONDS : Fld := ⟨0x140018, 0, 40⟩
def RACK_PWRCYC_CYCLES : Fld := ⟨0x140020, 0, 32⟩
def RACK_LOSS_DIRTY_SHUTDOWNS : Fld := ⟨0x140028, 0, 32⟩
def RACK_RD_ADDR_GROUP : Fld := ⟨0x140040, 3, 20⟩
def RACK_RD_DATA_DATA : Fld := ⟨0x140048, 0, 64⟩
def RACK_RD_TAG_CORRECTED : Fld := ⟨0x140050, 0, 1⟩
def RACK_RD_TAG_UNCORRECTABLE : Fld := ⟨0x140050, 1, 1⟩
def RACK_RD_TAG_ECHO : Fld := ⟨0x140050, 2, 20⟩
def RACK_FW_CMD_GROUP : Fld := ⟨0x140060, 3, 20⟩
def RACK_FW_CMD_COUNT : Fld := ⟨0x140060, 23, 7⟩
def RACK_FW_STATUS_STATE : Fld := ⟨0x140068, 0, 2⟩
def RACK_FW_BUF_DATA (i : Nat) : Fld := ⟨0x140200 + 0x8 * i, 0, 64⟩
def RACK_EVENTS_SUPPLY_HOLD : Fld := ⟨0x140070, 0, 1⟩
def RACK_EVENTS_TEMP_HOLD : Fld := ⟨0x140070, 1, 1⟩
def RACK_EVENTS_UNCORRECTABLE : Fld := ⟨0x140070, 2, 1⟩
def RACK_EVENTS_CARRY_COMPLETED : Fld := ⟨0x140070, 3, 1⟩
def RACK_EVENTS_COUNTER_LOST : Fld := ⟨0x140070, 4, 1⟩
def RACK_EVENTS_FW_DONE : Fld := ⟨0x140070, 5, 1⟩
def RACK_EVENTS_FW_REFUSED : Fld := ⟨0x140070, 6, 1⟩
/-! 16_rack_and_spike.md, R408 -/
def SPK_CTL_FREEZE : Fld := ⟨0x150000, 0, 1⟩
def SPK_CTL_FLUSH : Fld := ⟨0x150000, 1, 1⟩
def SPK_CFG_FREEZE_MAX_MS : Fld := ⟨0x150008, 0, 16⟩
def SPK_SRC_EN_0_SOURCES : Fld := ⟨0x150010, 0, 64⟩
def SPK_SRC_EN_1_SOURCES : Fld := ⟨0x150018, 0, 24⟩
def SPK_STATUS_UNFLUSHED : Fld := ⟨0x150020, 0, 15⟩
def SPK_STATUS_FROZEN : Fld := ⟨0x150020, 15, 1⟩
def SPK_STATUS_FLUSHING : Fld := ⟨0x150020, 16, 1⟩
def SPK_STATUS_CLEARING : Fld := ⟨0x150020, 17, 1⟩
def SPK_STATUS_SIDE_HELD : Fld := ⟨0x150020, 18, 7⟩
def SPK_COUNT_RECORDED : Fld := ⟨0x150028, 0, 32⟩
def SPK_COUNT_OVERWRITTEN : Fld := ⟨0x150028, 32, 16⟩
def SPK_COUNT_BAD : Fld := ⟨0x150028, 48, 16⟩
def SPK_MISSED_MISSED_WHILE_FROZEN : Fld := ⟨0x150030, 0, 32⟩
def SPK_MISSED_SIDE_FULL : Fld := ⟨0x150030, 32, 32⟩
def SPK_OLDEST_SEQ : Fld := ⟨0x150038, 0, 64⟩
def SPK_NEWEST_SEQ : Fld := ⟨0x150040, 0, 64⟩
def SPK_W_CURSOR_SEQ (i : Nat) : Fld := ⟨0x150100 + 0x100 * i, 0, 64⟩
def SPK_W_STEP_STEP (i : Nat) : Fld := ⟨0x150108 + 0x100 * i, 0, 1⟩
def SPK_W_STATUS_VALID (i : Nat) : Fld := ⟨0x150110 + 0x100 * i, 0, 1⟩
def SPK_W_STATUS_LOST (i : Nat) : Fld := ⟨0x150110 + 0x100 * i, 1, 1⟩
def SPK_W_STATUS_FROM_RACK (i : Nat) : Fld := ⟨0x150110 + 0x100 * i, 2, 1⟩
def SPK_W_STATUS_AHEAD (i : Nat) : Fld := ⟨0x150110 + 0x100 * i, 16, 16⟩
def SPK_W_REC_DATA (i j : Nat) : Fld := ⟨0x150140 + 0x100 * i + 0x8 * j, 0, 64⟩
def SPK_CLR_CTL_NEW_CHALLENGE : Fld := ⟨0x150300, 0, 1⟩
def SPK_CLR_CTL_SUBMIT : Fld := ⟨0x150300, 1, 1⟩
def SPK_CLR_STATUS_STATE : Fld := ⟨0x150308, 0, 2⟩
def SPK_CLR_STATUS_RESULT : Fld := ⟨0x150308, 2, 4⟩
def SPK_CLR_STATUS_FAILS : Fld := ⟨0x150308, 6, 4⟩
def SPK_CLR_STATUS_REMOVED : Fld := ⟨0x150308, 32, 32⟩
def SPK_CLR_UPTO_SEQ : Fld := ⟨0x150310, 0, 64⟩
def SPK_CLR_CHALLENGE_DATA (i : Nat) : Fld := ⟨0x150320 + 0x8 * i, 0, 64⟩
def SPK_CLR_RESP_DATA (i : Nat) : Fld := ⟨0x150400 + 0x8 * i, 0, 64⟩
def SPK_EVENTS_FLUSH_DONE : Fld := ⟨0x150340, 0, 1⟩
def SPK_EVENTS_OVERWRITE : Fld := ⟨0x150340, 1, 1⟩
def SPK_EVENTS_FREEZE_END : Fld := ⟨0x150340, 2, 1⟩
def SPK_EVENTS_SIDE_FULL : Fld := ⟨0x150340, 3, 1⟩
def SPK_EVENTS_CLEARED : Fld := ⟨0x150340, 4, 1⟩
def SPK_EVENTS_CLEAR_REFUSED : Fld := ⟨0x150340, 5, 1⟩
/-! 17_hob_power_and_thermal.md, R428 -/
def HOB_REQ_OP : Fld := ⟨0x160000, 0, 2⟩
def HOB_STATUS_STATE : Fld := ⟨0x160008, 0, 3⟩
def HOB_STATUS_PENDING_ON : Fld := ⟨0x160008, 3, 1⟩
def HOB_STATUS_PENDING_OFF : Fld := ⟨0x160008, 4, 1⟩
def HOB_STATUS_PFAIL : Fld := ⟨0x160008, 5, 1⟩
def HOB_STATUS_STEP : Fld := ⟨0x160008, 8, 5⟩
def HOB_STATUS_V12_MV : Fld := ⟨0x160008, 16, 16⟩
def HOB_STATUS_LAST_DOWN_CAUSE : Fld := ⟨0x160008, 32, 4⟩
def HOB_RAILS_ENABLED : Fld := ⟨0x160010, 0, 24⟩
def HOB_RAILS_GOOD : Fld := ⟨0x160010, 24, 24⟩
def HOB_RAIL_FAULT_FAILED : Fld := ⟨0x160018, 0, 24⟩
def HOB_RAIL_FAULT_DOWN_TIMEOUT : Fld := ⟨0x160018, 24, 24⟩
def HOB_FENCE_0_UNITS : Fld := ⟨0x160020, 0, 64⟩
def HOB_FENCE_1_UNITS : Fld := ⟨0x160028, 0, 24⟩
def HOB_EVENTS_UP_DONE : Fld := ⟨0x160030, 0, 1⟩
def HOB_EVENTS_DOWN_DONE : Fld := ⟨0x160030, 1, 1⟩
def HOB_EVENTS_FAIL_UP : Fld := ⟨0x160030, 2, 1⟩
def HOB_EVENTS_CHATTER : Fld := ⟨0x160030, 3, 1⟩
def HOB_EVENTS_DOWN_TIMEOUT : Fld := ⟨0x160030, 4, 1⟩
def HOB_EVENTS_PG_LOST : Fld := ⟨0x160030, 5, 1⟩
def HOB_EVENTS_FENCED : Fld := ⟨0x160030, 6, 1⟩
def HOB_EVENTS_REVERSED : Fld := ⟨0x160030, 7, 1⟩
def HOB_EVENTS_PFAIL : Fld := ⟨0x160030, 8, 1⟩
def HOB_EVENTS_OUT_OF_BAND : Fld := ⟨0x160030, 9, 1⟩
def HOB_EVENTS_RETRY_OK : Fld := ⟨0x160030, 10, 1⟩
def HOB_EVENTS_RETRY_FAILED : Fld := ⟨0x160030, 11, 1⟩
def HOB_LOG_NEXT : Fld := ⟨0x160038, 0, 13⟩
def HOB_LOG_WRITTEN : Fld := ⟨0x160038, 32, 32⟩
def HOB_RAIL_CTL_RETRY (i : Nat) : Fld := ⟨0x160100 + 0x40 * i, 0, 1⟩
def HOB_RAIL_CTL_SKIP_WAIT (i : Nat) : Fld := ⟨0x160100 + 0x40 * i, 1, 1⟩
def HOB_RAIL_CTL_DIV_16THS (i : Nat) : Fld := ⟨0x160100 + 0x40 * i, 8, 8⟩
def HOB_RAIL_STATE_STATE (i : Nat) : Fld := ⟨0x160108 + 0x40 * i, 0, 3⟩
def HOB_RAIL_STATE_IN_TABLE (i : Nat) : Fld := ⟨0x160108 + 0x40 * i, 3, 1⟩
def HOB_RAIL_STATE_SENSE_MV (i : Nat) : Fld := ⟨0x160108 + 0x40 * i, 16, 16⟩
def HOB_RAIL_RANGE_MIN_MV (i : Nat) : Fld := ⟨0x160110 + 0x40 * i, 0, 16⟩
def HOB_RAIL_RANGE_MAX_MV (i : Nat) : Fld := ⟨0x160110 + 0x40 * i, 16, 16⟩
def HOB_RAIL_CNT_CHATTER (i : Nat) : Fld := ⟨0x160118 + 0x40 * i, 0, 16⟩
def HOB_RAIL_CNT_DOWN_TIMEOUTS (i : Nat) : Fld := ⟨0x160118 + 0x40 * i, 16, 16⟩
def HOB_RAIL_TIME_UP_US (i : Nat) : Fld := ⟨0x160120 + 0x40 * i, 0, 32⟩
def HOB_RAIL_TIME_DOWN_US (i : Nat) : Fld := ⟨0x160120 + 0x40 * i, 32, 32⟩
def HOB_RAIL_LIFE_FAIL_UP (i : Nat) : Fld := ⟨0x160128 + 0x40 * i, 0, 32⟩
def HOB_RAIL_LIFE_PG_LOST (i : Nat) : Fld := ⟨0x160128 + 0x40 * i, 32, 32⟩
def HOB_RST_RAIL_MASK (i : Nat) : Fld := ⟨0x160800 + 0x8 * i, 0, 24⟩
def HOB_RST_STRETCH_US (i : Nat) : Fld := ⟨0x160800 + 0x8 * i, 24, 20⟩
def HOB_RST_HOLD (i : Nat) : Fld := ⟨0x160800 + 0x8 * i, 44, 1⟩
def HOB_RST_PULSE (i : Nat) : Fld := ⟨0x160800 + 0x8 * i, 45, 1⟩
def HOB_RST_ASSERTED (i : Nat) : Fld := ⟨0x160800 + 0x8 * i, 46, 1⟩
/-! 17_hob_power_and_thermal.md, R429 -/
def TH_STATUS_LEVEL : Fld := ⟨0x170000, 0, 3⟩
def TH_STATUS_AUTO_LEVEL : Fld := ⟨0x170000, 3, 3⟩
def TH_STATUS_LEVEL_DIE : Fld := ⟨0x170000, 6, 3⟩
def TH_STATUS_LEVEL_DIMM : Fld := ⟨0x170000, 9, 3⟩
def TH_STATUS_LEVEL_MEDIA : Fld := ⟨0x170000, 12, 3⟩
def TH_STATUS_FAST : Fld := ⟨0x170000, 15, 1⟩
def TH_STATUS_SHUTDOWN : Fld := ⟨0x170000, 16, 1⟩
def TH_CTL_FORCE_EN : Fld := ⟨0x170008, 0, 1⟩
def TH_CTL_FORCE_LEVEL : Fld := ⟨0x170008, 1, 3⟩
def TH_HOT_DIE : Fld := ⟨0x170010, 0, 16⟩
def TH_HOT_DIMM : Fld := ⟨0x170010, 16, 16⟩
def TH_HOT_MEDIA : Fld := ⟨0x170010, 32, 16⟩
def TH_COUNT_LEVEL_CHANGES : Fld := ⟨0x170018, 0, 32⟩
def TH_COUNT_FRAMES_THROTTLED : Fld := ⟨0x170018, 32, 32⟩
def TH_EVENTS_LEVEL_UP : Fld := ⟨0x170020, 0, 1⟩
def TH_EVENTS_LEVEL_DOWN : Fld := ⟨0x170020, 1, 1⟩
def TH_EVENTS_SHUTDOWN : Fld := ⟨0x170020, 2, 1⟩
def TH_EVENTS_SENSOR_FAIL : Fld := ⟨0x170020, 3, 1⟩
def TH_EVENTS_FORCED : Fld := ⟨0x170020, 4, 1⟩
def TH_SENSOR_TEMP (i : Nat) : Fld := ⟨0x170100 + 0x8 * i, 0, 16⟩
def TH_SENSOR_VALID (i : Nat) : Fld := ⟨0x170100 + 0x8 * i, 16, 1⟩
def TH_SENSOR_FAST (i : Nat) : Fld := ⟨0x170100 + 0x8 * i, 17, 1⟩
def TH_SENSOR_MAX (i : Nat) : Fld := ⟨0x170100 + 0x8 * i, 32, 16⟩
/-! 18_boot_reset_and_readback.md, R440 -/
def BOOT_STATUS_STAGE : Fld := ⟨0x180000, 0, 3⟩
def BOOT_STATUS_TREF_WAIT : Fld := ⟨0x180000, 3, 1⟩
def BOOT_STATUS_LAST_RESET : Fld := ⟨0x180000, 4, 4⟩
def BOOT_STATUS_SYS_CAUSE : Fld := ⟨0x180000, 8, 4⟩
def BOOT_STATUS_PERSIST_ON : Fld := ⟨0x180000, 12, 1⟩
def BOOT_STATUS_PORT_OPENED : Fld := ⟨0x180000, 13, 1⟩
def BOOT_CTL_SYSTEM_RESET : Fld := ⟨0x180008, 0, 1⟩
def BOOT_CTL_WARM_RESTART : Fld := ⟨0x180008, 1, 1⟩
def BOOT_TIME_US (i : Nat) : Fld := ⟨0x180010 + 0x8 * i, 0, 32⟩
def BOOT_COUNT_WARM : Fld := ⟨0x180050, 0, 32⟩
def BOOT_COUNT_SYSTEM : Fld := ⟨0x180050, 32, 32⟩
def BOOT_WDT_CFG_TIMEOUT_MS : Fld := ⟨0x180058, 0, 16⟩
def BOOT_WDT_CFG_ACTION : Fld := ⟨0x180058, 16, 2⟩
def BOOT_WDT_CFG_LOCK : Fld := ⟨0x180058, 18, 1⟩
def BOOT_WDT_KICK_KICK : Fld := ⟨0x180060, 0, 1⟩
def BOOT_WDT_STATUS_REMAINING_MS : Fld := ⟨0x180068, 0, 16⟩
def BOOT_WDT_STATUS_FIRES : Fld := ⟨0x180068, 32, 32⟩
def BOOT_EVENTS_WDT_FIRED : Fld := ⟨0x180070, 0, 1⟩
def BOOT_EVENTS_WARM_DONE : Fld := ⟨0x180070, 1, 1⟩
def BOOT_EVENTS_STATE_BUSY : Fld := ⟨0x180070, 2, 1⟩
/-! 18_boot_reset_and_readback.md, R441 -/
def STATE_SEL_KIND : Fld := ⟨0x190000, 0, 8⟩
def STATE_SEL_INDEX : Fld := ⟨0x190000, 8, 40⟩
def STATE_CMD_SNAP : Fld := ⟨0x190008, 0, 1⟩
def STATE_STATUS_STATE : Fld := ⟨0x190010, 0, 2⟩
def STATE_STATUS_CORRECTED : Fld := ⟨0x190010, 2, 1⟩
def STATE_STATUS_UNCORRECTABLE : Fld := ⟨0x190010, 3, 1⟩
def STATE_STATUS_INVALID_INDEX : Fld := ⟨0x190010, 4, 1⟩
def STATE_STATUS_ECHO_KIND : Fld := ⟨0x190010, 5, 8⟩
def STATE_STATUS_ECHO_INDEX : Fld := ⟨0x190010, 13, 40⟩
def STATE_STATUS_WITHHELD : Fld := ⟨0x190010, 53, 1⟩
def STATE_FRAME_FRAME : Fld := ⟨0x190018, 0, 64⟩
def STATE_SEQ_SEQ : Fld := ⟨0x190020, 0, 64⟩
def STATE_LEN_BYTES : Fld := ⟨0x190028, 0, 10⟩
def STATE_DATA_DATA (i : Nat) : Fld := ⟨0x190100 + 0x8 * i, 0, 64⟩
def SHADOW_SEL_ADDR : Fld := ⟨0x190400, 3, 22⟩
def SHADOW_VALUE_VALUE : Fld := ⟨0x190408, 0, 64⟩
def SHADOW_SEQ_SEQ : Fld := ⟨0x190410, 0, 64⟩
def SHADOW_INFO_VALID : Fld := ⟨0x190418, 0, 1⟩
def SHADOW_INFO_ACTOR : Fld := ⟨0x190418, 1, 2⟩
def SHADOW_INFO_ECHO : Fld := ⟨0x190418, 3, 22⟩
/-! 11_rdma_ports.md, R292 -/
def RDMA_ARG_DATA (i : Nat) : Fld := ⟨0xd0040 + 0x8 * i, 0, 64⟩
def RDMA_CMD_OP : Fld := ⟨0xd0060, 0, 4⟩
def RDMA_CMD_INDEX : Fld := ⟨0xd0060, 4, 24⟩
/-! 11_rdma_ports.md, R293 -/
def RDMA_PEEK_SEL_KIND : Fld := ⟨0xd0070, 0, 2⟩
def RDMA_PEEK_SEL_INDEX : Fld := ⟨0xd0070, 2, 24⟩
def RDMA_PEEK_DATA (i : Nat) : Fld := ⟨0xd0078 + 0x8 * i, 0, 64⟩
end F

end Sys2Proof.Machine
end

