-- ==== Sys2Proof/Machine/State.lean ====
section
/-! DEFINITION. The state of the block as plain data: the register file of CSPACE (every register of the spec's maps, by address),
and behind it the internal state of every unit the spec describes. A comment after a field gives what it is, then in brackets the
rule of the spec and its value at reset. Sparse maps are in canonical form (keys strictly rising). -/

namespace Sys2Proof.Machine

/-! ## Reasons to stop -/

/-- Why the block could stop with a fault. No command of this model raises one: every error of the spec is an event, a status,
poison or an answer (R24, R197), so the type has the one constructor that names that nothing raises it (safe). -/
inductive Fault where
  | none   -- raised by no command (safe)
  deriving DecidableEq, Repr

/-- Why a command is refused by the model. -/
inductive Refusal where
  /-- Raised by Machine/Dispatch.lean alone, for a command whose meaning is not written yet (safe). -/
  | notModelled (mnemonic : String)
  deriving DecidableEq, Repr

/-! ## Chapter 1: the Pass, the frame, the lifecycle -/

/-- Lifecycle states of a unit (R29), encoded in UNIT_STATE_nn.STATE as 0 to 3. -/
inductive UnitState where
  | off | starting | on | stopping
  deriving DecidableEq, Repr

/-- Events that set no bit of an EVENTS register. -/
inductive EvName where
  | accessViolation | unitEntry | passOverflow | cutChange
  | peerLost | peerRefused | forcedRequest | msix | cxlRecord | syncChange | declareLost | lostRole | roleEntry | deviceFatal
  | rdmaAsync (code : Nat)
  | keeperHalted | keeperTakeover | selfTestFailed | debugOpened
  | bootRecord | clearedRecord | freezeEndRecord | poisonRecord
  | hobState | simmerChange | interruptedFound
  deriving DecidableEq, Repr

/-- An event: one that sets the named bit of an EVENTS register, or a named one. -/
inductive Event where
  | bit (f : Fld)
  | named (n : EvName)
  deriving DecidableEq, Repr

/-- An event as a unit presents it to the Pass (R24): its source and what its chapter says it carries. -/
structure PassEvent where
  src : Nat
  ev  : Event
  arg : Nat
  deriving DecidableEq, Repr

/-- An event as the Pass stamped it (R24). The FCLK cycle and the 16-bit code are free values of Config. -/
structure Stamp where
  seq   : Nat
  frame : Nat
  src   : Nat
  fatal : Bool
  ev    : Event
  arg   : Nat
  deriving DecidableEq, Repr

/-- The Pass. PASS_SEQ_LAST, PASS_SEQ_SEED, PASS_MARK and PASS_STATUS.MARK_STALL read from it. -/
structure PassSt where
  last    : Nat := 0                      -- the last PASS_SEQ stamped [R24, R35; reset 0: none stamped]
  seed    : Nat := 0                      -- the first PASS_SEQ of this boot [R27, R35; reset 0 until stage 0]
  mark    : Nat := 0                      -- M, the mark last stored in the Rack [R27, R391; reset: kept]
  storing : Option Nat := none            -- value of a mark store in progress [R27; reset none]
  ready   : Bool := false                 -- the boot mark store has finished, the Pass may stamp [R27; reset false]
  stall   : Bool := false                 -- the Pass stalls at M + 2^32 - 1 [R27; reset false]
  bufs    : SMap (List PassEvent) := []   -- events waiting at each source, oldest first, 16 a source [R26; reset none]
  lost    : SMap Nat := []                -- discards of a source since its last PASS_OVERFLOW [R26; reset none]
  log     : List Stamp := []              -- events stamped, newest first: the model's own record [R24; reset none; log entry 132]
  deriving DecidableEq, Repr

/-- The plan of one frame (R18). -/
structure Plan where
  frame    : Nat := 0        -- frame number the plan is for
  readUsed : SMap Nat := []  -- media read slots taken, by channel
  refresh  : Nat := 0        -- maintenance positions, T / 250 (R135)
  pause    : Nat := 0        -- Simmer pause slots, in sixteenths of the frame's media slots
  frozen   : Bool := false   -- PLAN_FREEZE has run
  carried  : Bool := false   -- flexible work of the frame before runs first [R21]
  deriving DecidableEq, Repr

/-- The frame behind FRAME_OVR_COUNT, FRAME_OVR_STATUS and FRAME_OVR_CTL. -/
structure FrameSt where
  ovrRun   : Nat := 0        -- consecutive overrun frames, not saturated [R22; reset 0]
  cleanRun : Nat := 0        -- consecutive clean frames since the last level change [R22; reset 0]
  sealing  : Bool := false   -- the seal phase of the current frame has begun [R16; reset false]
  ticks    : Nat := 0        -- frames run since the time unit started, numbered or not [R41; reset 0]
  cutDue   : Nat := 0        -- change of the cut level that is due: 0 none, 1 raise, 2 lower [R22; reset 0]
  plan     : Plan := {}      -- plan of the current frame [R18; reset empty]
  next     : Plan := {}      -- plan of the next frame [R18; reset empty]
  deriving DecidableEq, Repr

/-! ## Chapter 2: time -/

/-- SYNC_STATE (R48), encoded in TIME_STATUS.SYNC_STATE as 0 to 4. -/
inductive SyncState where
  | unset | acquiring | locked | holdover | adrift
  deriving DecidableEq, Repr

/-- A domain peer (R55). -/
structure Peer where
  addr    : Nat    -- source address of the first accepted beacon
  twin    : Nat
  frame   : Nat
  period  : Nat
  sync    : Nat
  role    : Nat
  offset  : Int
  flags   : Nat
  keyGen  : Nat
  dirGen  : Nat
  seq     : Nat
  at_     : Nat    -- millisecond of the last accepted beacon
  deriving DecidableEq, Repr

/-- The time unit behind the TIME block. -/
structure TimeSt where
  sync      : SyncState := .unset  -- state of R48, which R47 may override in what is reported [R48; reset UNSET]
  tai       : Nat := 0           -- local domain-time counter at the last tick, ns [R38, R366; reset 0]
  nextNo    : Option Nat := none -- number of the frame after the one in progress when the counter was set [R41; reset none]
  numbered  : Bool := false      -- frame numbering has begun [R41; reset false]
  lastOff   : Int := 0           -- last measured offset from the phase reference, 1/16 ns [R48; reset 0]
  tsyncMiss : Nat := 0           -- consecutive missing or out-of-window TSYNC_IN edges [R42; reset 0]
  lockRun   : Nat := 0           -- consecutive frames within 15 ns [R48; reset 0]
  holdBase  : Nat := 0           -- magnitude of the last measured offset at HOLDOVER entry, 1/16 ns [R49; reset 0]
  holdNs    : Nat := 0           -- ns elapsed in HOLDOVER [R49; reset 0]
  holdAcc   : Nat := 0           -- drift accumulated in HOLDOVER, 1/16 ns scaled by 10^9 [R49; reset 0]
  regain    : Bool := false      -- FREEZE was cleared: healthy sources count as regained at the next tick [R460; reset false]
  pulseMs   : Nat := 0           -- millisecond count of the last epoch pulse [R52; reset 0]
  leaving   : Bool := false      -- one further beacon with LEAVING is owed [R52; reset false]
  beaconSeq : Nat := 0           -- BEACON_SEQ of the next beacon [R53; reset: ring 2 mark of the Rack]
  peers     : SMap Peer := []    -- peers by MEMBER_ID [R55; reset none]
  lastSeq   : SMap Nat := []     -- last accepted BEACON_SEQ by MEMBER_ID [R54; reset none]
  added     : Int := 0           -- FCLK cycles the discipline loop has added to frames, net [R40; reset 0]
  twinOk    : Bool := false      -- the twin link supplies a healthy phase reference [R39; reset false]
  deriving DecidableEq, Repr

/-! ## Chapter 3: the image -/

/-- A slot check in progress (R69, R78). -/
inductive CheckFor where
  | slotA | slotB | ofChange
  deriving DecidableEq, Repr

/-- The image loader behind the CONFIG block. -/
structure CfgSt where
  img       : Image := {}                 -- the loaded image, its sections as applied [R76; reset none until boot stage 1]
  sram      : SMap Word := []             -- image SRAM: words of the loaded image by index, zero words are not listed [R76; reset empty]
  loaded    : Bool := false               -- an image is loaded [R71; reset false]
  checks    : List CheckFor := []         -- slot checks in progress, in the order of the writes [R78; reset none]
  newRoot   : Nat := 0                    -- root slot that verified that image [R71, R73; reset 0]
  changeSlot : Nat := 0                   -- slot the change in progress names [R73; reset 0]
  newImg    : Option (Image) := none      -- image of an ARMED or QUIESCING change [R73; reset none]
  newSram   : SMap Word := []             -- words of that image [R73, R76; reset empty]
  refuseIn  : List Nat := []              -- PART_IDs in which registrations and commits are refused [R73; reset none]
  announced : Option (Nat × Nat) := none  -- shared hash and A announced to the twin [R73; reset none]
  twinSaid  : Option (Nat × Nat) := none  -- shared hash and A the twin announces [R73; reset none]
  svnFuses  : Nat := 0                    -- blown security-version fuses, one-time [R68; reset: kept]
  deriving DecidableEq, Repr

/-! ## Chapters 4 and 5: the line order unit and the near cache -/

/-- Who waits for an access (R80, R90). -/
inductive Requester where
  | cxl (port ld tag : Nat)         -- a CXL.mem read or write
  | cxlSpec (port : Nat)            -- MemSpecRd: nothing is answered
  | rdma (qp psn idx : Nat)         -- line `idx` of an RDMA request
  | atomicFetch (qp : Nat)          -- the prefetch of an atomic held before admission (R463)
  | atomic (qp psn : Nat)           -- an RDMA compare-swap or fetch-add (R91)
  | local_ (qp first idx : Nat)     -- a transport-engine write or read of the requester (R286, R328)
  | mirror                          -- a mirrored write (R227)
  | job (q : Nat)                   -- a line written by an import job (R347)
  deriving DecidableEq, Repr

/-- What an access does to its line (R91). -/
inductive AccKind where
  | read
  | write (data : LineData) (mask : Mask)
  | atomic (off : Nat) (swap : Bool) (a b : Nat)   -- 8 bytes at byte `off`: swap to b on a equal, or add a (R91)
  | mark                                           -- the whole line poisoned: a COPY_POISON record of resync (R198, R225)
  deriving DecidableEq, Repr

/-- An ordered access waiting in a miss register or behind the order unit (R108). -/
structure Access where
  req  : Requester
  line : Nat
  kind : AccKind
  cls  : Nat
  pos  : MPos
  deriving DecidableEq, Repr

/-- Where a fill comes from, as NC_MR_PEEK_0.FILL_SRC encodes it (R121). -/
inductive FillSrc where
  | stockpot | media | assist | repair
  deriving DecidableEq, Repr

/-- A miss register (R107, R108). -/
structure MissReg where
  line   : Nat
  src    : FillSrc
  accs   : List Access            -- primary access first, at most 16 secondaries
  atomic : Bool                   -- taken by the prefetch of an atomic (R463)
  frame  : Nat                    -- frame in which it was taken
  cls    : Nat
  dirty  : Bool                   -- a CRC repair: reinstall dirty (R112)
  fell   : Bool          -- an assist for it has fallen back to the local read (R98)
  at_    : Option PoisonAt -- where the poison of the fill was held (R253)
  fill   : Option (LineData × Bool)  -- the fill that has arrived, with its poison
  deriving DecidableEq, Repr

/-- A near-cache line (R103). The CRC-32 is a function of the data and the address and is not stored. -/
structure NcLine where
  line   : Nat
  data   : LineData
  dirty  : Bool
  poison : Bool
  deriving DecidableEq, Repr

/-- A Colander entry (R109). -/
structure ColEntry where
  line    : Nat
  data    : LineData
  poison  : Bool
  writing : Bool      -- false WAITING, true WRITING
  deriving DecidableEq, Repr

/-- Kind of a maintenance operation (R118). -/
inductive NcOpKind where
  | flush | invalidate | flushInvalidate
  deriving DecidableEq, Repr

/-- A maintenance operation in progress (R118). -/
structure NcOp where
  kind : NcOpKind
  todo : List Nat        -- lines in range that were dirty when the operation was written and still wait for a Colander entry
  sent : List Nat        -- lines sent to the Colander whose acceptance is awaited
  deriving DecidableEq, Repr

/-- What a request to the twin is for: a read in a miss register, a near-cache line or Colander entry, a Stockpot sector, a media
operation, the granules of a map codeword, a media read that failed its retries, or a Scourer visit. -/
inductive AskFor where
  | miss | cache | sector
  | op (id : Nat)
  | scour (lg : Nat)
  | scourCw (lg : Nat) (lines : Mask)
  | mapWord (lg : Nat)
  | mediaMiss (mr : Nat)
  deriving DecidableEq, Repr

/-- A repair request waiting for its segment (R113). -/
structure Repair where
  line : Nat
  pos  : MPos
  ask  : AskFor
  deriving DecidableEq, Repr

/-- The near cache behind the NEARCACHE block. -/
structure NcSt where
  ways    : SMap NcLine := []      -- lines held, by set × 16 + way, staging ways included [R102; reset none]
  plru    : SMap Nat := []         -- 15-bit tree pseudo-LRU of each set [R106; reset 0]
  mrs     : SMap MissReg := []     -- miss registers held, by index below 4,096 [R108; reset none]
  col     : SMap ColEntry := []    -- Colander entries held, by index below 512 [R109; reset none]
  held    : List Access := []      -- accesses waiting at the line order unit, oldest first [R92, R108, R111; reset none]
  op      : Option NcOp := none    -- maintenance operation in progress [R118; reset none]
  repairs : List Repair := []      -- repair requests not sent yet, oldest first [R113; reset none]
  drain   : List Nat := []         -- dirty lines that the stop steps still send to the Colander [R116; reset none]
  deriving DecidableEq, Repr

/-- An outstanding assist or repair request (R95 to R98, R113). -/
structure AssistReq where
  req  : Nat
  kind : AssistKind
  addr : Nat
  pos  : MPos
  ask  : AskFor
  deriving DecidableEq, Repr

/-- An assigned chunk with the partition it was assigned to: PART_ID and BASE in GiB (R82). -/
structure Chunk where
  chunk : Nat
  part  : Nat
  base  : Nat
  deriving DecidableEq, Repr

/-- Placement and translation state of chapter 4. -/
structure TierSt where
  chunkMap : SMap Chunk := []         -- chunk of each assigned 1 GiB DPA unit, kept in media metadata [R82; reset: kept]
  purge    : List Nat := []           -- released DPA units still under purge [R462; reset none]
  filter   : SMap Nat := []           -- promotion filter, 262,144 counters of 4 bits [R86; reset 0]
  assists  : List AssistReq := []     -- requests to the twin outstanding, newest first [R96; reset none]
  nextReq  : Nat := 0                 -- REQ of the next ASSIST_REQ [R223; reset 0]
  noSlot   : List Nat := []           -- miss registers whose read waits for a read slot without a twin, oldest first [R98; reset none]
  deriving DecidableEq, Repr

/-! ## Chapter 6: the Stockpot -/

/-- Mode of a Stockpot channel (R148), encoded in SP_CH_STATUS.MODE as 0 to 2. -/
inductive SpMode where
  | caching | frozen | bypass
  deriving DecidableEq, Repr

/-- A block of a set: tag entry and metadata record (R126) with its 64 sectors. -/
structure SpBlock where
  granule : Nat
  valid   : Mask
  dirty   : Mask
  poison  : Mask
  again   : Mask            -- sectors written since the write-back in progress read them (R127)
  data    : SMap LineData   -- bytes of the valid sectors, by sector
  pinned  : Bool
  rank    : Nat             -- recency: the larger, the more recent (R126)
  frame   : Nat             -- frame in which the block was last written
  part    : Nat
  deriving DecidableEq, Repr

/-- A row counter of a bank (R137). -/
structure RowCount where
  row   : Nat
  count : Nat
  deriving DecidableEq, Repr

/-- A read held on a frozen channel (R142). -/
structure HeldRead where
  mr   : Nat      -- miss register that waits
  line : Nat
  deriving DecidableEq, Repr

/-- One Stockpot channel behind its SP_CH registers. -/
structure SpCh where
  blocks  : SMap SpBlock := []          -- blocks held, by set × 8 + way [R126; reset none]
  clock   : Nat := 0                    -- next recency rank [R126; reset 0]
  filled  : List Nat := []              -- 16 MiB units below the data area filled since boot [R145; reset none]
  pats    : List (Nat × Nat × Word) := []  -- fills done: first unit, units, pattern, newest first [R145; reset none]
  rows    : SMap (List RowCount) := []  -- row counters, 32 a bank [R137; reset none]
  nrr     : List (Nat × Nat) := []      -- neighbour refreshes queued, (bank, row) [R137; reset none]
  refBank : Nat := 0                    -- bank index of the next refresh round, 0 to 3 [R135; reset 0]
  modeReq : Bool := false               -- a mode register requests the higher rate [R136; reset false]
  ceRun   : SMap Nat := []              -- corrections of a burst since it was last clean, by SPA [R139; reset none]
  alerted : Bool := false               -- a first parity alert was answered by a replay [R141; reset false]
  capture : List Nat := []              -- last 64 commands captured at a freeze [R141; reset none]
  held    : List HeldRead := []         -- reads held while frozen [R142; reset none]
  thawing : Bool := false               -- a thaw is in progress [R143; reset false]
  rtFill  : Nat := 0                    -- KiB in the real-time staging buffer [R134; reset 0]
  rtReq   : Nat := 0                    -- real-time requests outstanding [R134; reset 0]
  first   : Bool := true                -- the channel is before the end of its first start since boot [R124; reset true]
  deriving DecidableEq, Repr

/-- A write-back in progress (R130). -/
structure WriteBack where
  ch   : Nat
  key  : Nat       -- set × 8 + way
  gran : Nat
  snap : Mask      -- snapshot of the DIRTY mask
  ok   : Bool      -- the MTL has reported every program passed
  deriving DecidableEq, Repr

/-- The fill engine's job (R145). -/
structure FillJob where
  first : Nat
  units : Nat
  pat   : Word
  mask  : Nat
  deriving DecidableEq, Repr

/-- The Stockpot behind its common registers. -/
structure SpSt where
  ch     : SMap SpCh := []             -- channels by number [R122; reset none listed = all at reset]
  set    : Option (List Nat) := none   -- channel set d_0 to d_(P-1), ascending [R124; reset not fixed]
  wbs    : List WriteBack := []        -- write-backs in progress [R130; reset none]
  fill   : Option FillJob := none      -- fill in progress [R145; reset none]
  scrub  : Option (Nat × Nat × Nat) := none  -- scrub in progress: channel, first SPA, bytes [R146; reset none]
  deriving DecidableEq, Repr

/-! ## Chapter 7: the media and the translation layer -/

/-- A media package as discovered (R154, R155). -/
structure Pkg where
  userGib   : Nat
  slots     : Nat
  progMax   : Nat
  busVer    : Nat
  endurance : Nat           -- thousands of programs
  writeMin  : Int
  writeMax  : Int
  serial    : Nat
  page      : List Word     -- identity page 0 as read (R154)
  temp      : Int           -- last temperature, 1/8 °C
  writable  : Bool          -- inside its write window (R175)
  inService : Bool
  deriving DecidableEq, Repr

/-- A package label (R155). -/
structure Label where
  seq     : Nat
  domain  : Nat
  member  : Nat
  ch      : Nat
  pos     : Nat
  userGib : Nat
  frame   : Nat
  deriving DecidableEq, Repr

/-- A codeword's 256 bytes as four lines, with the tweak's GEN and the key generation that ciphered them (R157). -/
structure Codeword where
  l0  : LineData
  l1  : LineData
  l2  : LineData
  l3  : LineData
  gen : Nat
  key : Nat
  deriving DecidableEq, Repr

/-- A slot record: wear in units of 16 programs, sixteenths, retired or not, held by a granule or free (R160, R166, R167). -/
structure SlotRec where
  wear    : Nat := 0
  sub     : Nat := 0      -- program operations since WEAR last moved, below 16
  retired : Bool := false
  used    : Bool := false
  deriving DecidableEq, Repr

/-- A map entry (R160). An unlisted entry is the all-zero entry: MAPPED clear. -/
structure MapEntry where
  slot   : Nat := 0
  pkg    : Nat := 0
  mapped : Bool := false
  moving : Bool := false
  gen    : Nat := 0
  err    : Nat := 0
  age    : Nat := 0
  poison : Mask := 0
  wear   : Nat := 0
  wearAt : Nat := 0
  deriving DecidableEq, Repr

/-- A translation-cache entry (R161). -/
structure CacheEntry where
  ent     : MapEntry
  dirty   : Bool
  first   : Nat      -- frame of its first change since it was last written
  errOnly : Bool     -- its only change is ERR (R175)
  deriving DecidableEq, Repr

/-- What a media operation is for (R163, R166 to R173). -/
inductive OpKind where
  | writeBack | lineWrite | replay
  | hot | static | disturb | refresh | failMove | repair | repoison
  deriving DecidableEq, Repr

/-- A media operation on one granule (R173): what it carries, the old codewords it reads first, the codewords it programs. -/
structure MediaOp where
  id     : Nat
  kind   : OpKind
  lg     : Nat
  gran   : Nat           -- DPA granule address
  ch     : Nat
  carried : Mask         -- lines whose new bytes the operation carries
  carPoison : Mask       -- those carried with poison
  data   : SMap LineData -- bytes carried, by line
  started : Bool := false -- it runs; before, it queues behind an earlier operation on its granule
  pkg    : Nat := 0      -- package position it programs
  slot   : Nat := 0      -- slot it programs
  move   : Bool := false -- the slot is a new one; the entry switches at the end
  whole  : Bool := false -- all 16 codewords, GEN incremented
  reads  : List Nat := []         -- codewords still to be read from the old slot
  base   : SMap LineData := []    -- old bytes read or repaired, by line
  basePoison : Mask := 0          -- lines found uncorrectable that the operation marks
  left   : List Nat := []         -- codewords to program that are not issued yet
  fly    : List Nat := []         -- programs in flight
  susp   : SMap Nat := []         -- suspensions that a program in flight has had, by codeword (R165)
  failed : Bool := false
  done   : Bool := false          -- every program passed; a relocation waits for its switch
  deriving DecidableEq, Repr

/-- An untrusted rule (R174). -/
structure Rule where
  pos   : Nat
  count : Nat
  frame : Nat
  deriving DecidableEq, Repr

/-- A vault header (R179). -/
structure VaultHdr where
  seq      : Nat := 0
  state    : Nat := 0      -- 0 EMPTY, 1 WRITING, 2 SEALED, 3 REPLAYED
  role     : Nat := 0
  unread   : Nat := 0
  stop     : Nat := 0
  commit   : Nat := 0
  dataGr   : Nat := 0
  entries  : Nat := 0
  unsaved  : Nat := 0
  skipped  : Nat := 0
  set      : List Nat := []  -- channel set in force at the flush, from which UNREAD_SP gives d and P (R174, R207)
  deriving DecidableEq, Repr

/-- One manifest run with its items (R180). -/
inductive VaultItem where
  | line (addr : Nat) (data : LineData) (poison : Bool)
  | block (gran : Nat) (dirty poison : Mask) (data : SMap LineData)
  | map (lg : Nat) (ent : MapEntry)
  deriving DecidableEq, Repr

/-- A media channel behind its MD registers. -/
structure MdCh where
  pkgs    : SMap Pkg := []       -- packages found, by position [R153; reset none]
  labels  : SMap Label := []     -- labels in the packages' map planes, by position [R155; reset: kept]
  prog    : SMap Nat := []       -- programs in flight, by position [R162; reset none]
  hold    : Bool := false        -- a retrain holds new placements [R183; reset false]
  formatting : List Nat := []    -- positions being formatted [R156; reset none]
  deriving DecidableEq, Repr

/-- The media and the MTL behind the MEDIA and MTL blocks. -/
structure MtlSt where
  ch       : SMap MdCh := []             -- channels by number [R150; reset none found]
  cells    : SMap Codeword := []         -- codewords, by package × 2^33 + slot × 16 + codeword [R157, R158; reset: kept]
  slots    : SMap SlotRec := []          -- slot records, by package × 2^29 + slot [R160, R167; reset: kept]
  map      : SMap MapEntry := []         -- map planes, by lg [R159, R160; reset: kept]
  cache    : SMap CacheEntry := []       -- translation cache, by lg [R161; reset none]
  ops      : List MediaOp := []          -- media operations in progress, oldest first [R162, R173; reset none]
  mapReads : List Nat := []              -- granules (lg) whose map codeword is being read [R161; reset none]
  nextOp   : Nat := 0                    -- id of the next operation [R173; reset 0]
  sketchA  : SMap Nat := []              -- first sketch row, reads of each index [R168; reset 0]
  sketchB  : SMap Nat := []              -- second sketch row [R168; reset 0]
  rules    : List (Option Rule) := []    -- untrusted rules 0 to 11, in the system rows [R174; reset: kept]
  scPos    : SMap Nat := []              -- Scourer: next local index of each channel [R176; reset: recorded position]
  scStart  : Nat := 0                    -- frame in which this lap began [R177; reset: recorded]
  hdr      : VaultHdr := {}              -- vault header in force [R178, R179; reset: kept]
  vault    : List VaultItem := []        -- data stream and manifest of the vault [R180; reset: kept]
  vNeed    : Nat := 0                    -- VAULT_NEED in granules at the last tick [R182; reset 0]
  deriving DecidableEq, Repr

/-! ## Chapter 8: persistence -/

/-- A write waiting in an admission queue, one line (R192). -/
structure QWrite where
  req    : Requester
  line   : Nat
  kind   : AccKind
  cls    : Nat
  deriving DecidableEq, Repr

/-- Who waits for a commit point (R188). -/
inductive AckWaiter where
  | gpf (port tag : Nat)
  | flagged (qp psn : Nat)
  deriving DecidableEq, Repr

/-- An admitted frame whose commit point is not declared yet (R31, R189). -/
structure Batch where
  frame   : Nat
  acked   : Bool
  needs   : Bool         -- its commit point needs the twin's acknowledgement (R31, R189, R238)
  late    : Bool         -- its commit point has passed the end of F+1
  writes  : Nat
  waiters : List AckWaiter
  deriving DecidableEq, Repr

/-- Step of the power-fail sequence (R204). -/
inductive PfStep where
  | idle | detected | stopped | committed | vaulting | sealed | flushed
  deriving DecidableEq, Repr

/-- The persistence unit behind the PERSIST block. -/
structure PerSt where
  queues   : SMap (List QWrite) := []  -- admission queues 0 to 23, oldest first [R192; reset none]
  rr       : Nat := 0                  -- queue at which the round robin stands [R192; reset 0]
  rrLeft   : Nat := 0                  -- lines the weight still allows it [R192; reset 0]
  used     : Nat := 0                  -- credits taken in the current frame [R190; reset 0]
  batches  : List Batch := []          -- admitted frames not committed, oldest first [R31; reset none]
  flushes  : List AckWaiter := []      -- flushes held under a stop cause of R187 [R187; reset none]
  sealHeld : List AckWaiter := []      -- flushes presented in the seal phase [R17, R187; reset none]
  drains   : List Nat := []            -- sectors cleaned in each of the last 64 frames, newest first [R190; reset none]
  cleaned  : Nat := 0                  -- sectors cleaned in the current frame [R190; reset 0]
  pf       : PfStep := .idle           -- power-fail step [R204; reset idle]
  pfFrame  : Nat := 0                  -- frame P of the detection [R203; reset 0]
  hold     : Bool := false             -- R208 holds service [R208; reset false]
  replaying : Bool := false            -- replay programs are in flight [R207; reset false]
  hdrRead  : Bool := false             -- the MTL has read the vault header for this start [R206, R432; reset false]
  stopWait : Bool := false             -- the first tick of the stop has come: nothing more is admitted [R209; reset false]
  deriving DecidableEq, Repr

/-! ## Chapter 9: the twin -/

/-- Twin roles (R211), encoded as 0 NONE, 1 ACTIVE, 2 STANDBY, 3 SOLO, 4 RESYNC. -/
inductive Role where
  | none | active | standby | solo | resync
  deriving DecidableEq, Repr

/-- An entry of the history window (R229): where the record stood and the line before it. -/
structure HistRec where
  pos    : MPos
  line   : Nat
  before : LineData
  poison : Bool
  deriving DecidableEq, Repr

/-- A Trivet request awaiting its answer (R213). -/
structure TReq where
  id      : Nat
  typ     : Nat      -- 1 RENEW, 2 REQUEST, 5 RELEASE
  kind    : Nat
  frame   : Nat      -- frame of sending
  relayed : Bool
  force   : Bool
  dead    : Bool     -- it counts as unanswered; a GRANT that answers it still counts
  deriving DecidableEq, Repr

/-- A twin epoch record (R239). -/
structure EpochRec where
  seq    : Nat := 0
  epoch  : Nat := 0
  twin   : Nat := 0
  role   : Nat := 0
  flags  : Nat := 0     -- [0] CLEAN_DEPARTURE, [1] BITMAP_VALID, [2] FULL_NEEDED
  split  : Nat := 0
  commit : Nat := 0
  admitted : Nat := 0
  hash   : Nat := 0
  deriving DecidableEq, Repr

/-- A pair refereed as a witness Trivet (R214, R217). -/
structure WPair where
  low    : Nat              -- lower MEMBER_ID of the pair
  high   : Nat
  holder : Option Nat       -- member to which the last GRANT was sent
  kind   : Nat
  epoch  : Nat
  live   : Bool             -- the lease is live
  at_    : Nat              -- frame in which the request was received that the lease answers
  held   : List (Nat × TrivetMsg) -- held requests with the frame of their receipt, oldest first
  deriving DecidableEq, Repr

/-- The two lane groups and the session (R218 to R223). -/
structure TwinLink where
  mainUp   : Bool := false          -- the main group is trained [R219; reset false]
  fallUp   : Bool := false          -- the fall-back group is trained [R219; reset false]
  session  : Bool := false          -- a session key is held [R219, R346; reset false]
  peerOk   : Bool := false          -- the partner passed the check of R219 [R219; reset false]
  fallReq  : Bool := false          -- the main group has failed: fall back at the next tick [R221; reset false]
  onFall   : Bool := false          -- messages go on the fall-back group [R221; reset false]
  replays  : List Nat := []         -- frames of replays of the last 1,000 frames on the main group [R221; reset none]
  revert   : Nat := 0               -- REVERT_FRAME, 0 for none [R221; reset 0]
  peerStable : Bool := false        -- the twin reports MAIN_STABLE [R221; reset false]
  txSeq    : Nat := 0               -- MSG_SEQ of the next message of this frame [R222; reset 0]
  rxFrame  : Nat := 0               -- frame of the last message received [R222; reset 0]
  rxSeq    : Nat := 0               -- MSG_SEQ expected next in that frame [R222; reset 0]
  naked    : Bool := false          -- a NAK was sent and its message is awaited [R222; reset false]
  replayBuf : List (Nat × Nat × Nat) := []  -- messages kept for resending, FRAME, MSG_SEQ and bytes, newest first [R222; reset none]
  lastTx   : Nat := 0               -- TX_TIME of the last heartbeat received [R230; reset 0]
  lastRx   : Nat := 0               -- time at which it arrived [R230; reset 0]
  deriving DecidableEq, Repr

/-- Leases, requests and epoch records (R212 to R217, R239, R240). -/
structure LeaseSt where
  epoch    : EpochRec := {}         -- epoch record in force, of the Rack [R239; reset: kept]
  reqs     : List TReq := []        -- requests awaiting an answer, newest first [R213; reset none]
  nextReq  : Nat := 0               -- next REQ_ID, increasing across resets [R215; reset: kept]
  unans    : Nat := 0               -- RENEWs in a row unanswered [R216; reset 0]
  unansAny : Nat := 0               -- requests in a row unanswered [R241; reset 0]
  renewAt  : Nat := 0               -- frame of the last RENEW [R213; reset 0]
  onAt     : Nat := 0               -- domain-time counter when the unit reached ON, ns [R240; reset 0]
  heard    : Bool := false          -- a valid heartbeat has arrived since [R240; reset false]
  detected : Bool := false          -- the 64 missed frames have been acted on [R231; reset false]
  pairRun  : Nat := 0               -- consecutive valid heartbeats received in NONE [R240; reset 0]
  peerReq  : Bool := false          -- the twin's REQUESTING was seen set [R240; reset false]
  handoff  : Bool := false          -- a handoff is in progress [R233; reset false]
  handSent : Bool := false          -- HANDOFF is set in the heartbeat [R233; reset false]
  leaving  : Bool := false          -- LEAVING is set in the heartbeat [R212; reset false]
  stopRead : Bool := false          -- reads are stopped (lease end or handoff) [R195; reset false]
  missAt   : Nat := 0               -- frame of the first missed frame of the run [R232; reset 0]
  pairs    : List WPair := []       -- pairs refereed as a witness, in the Rack [R217; reset: kept]
  wStart   : Option Nat := none     -- frame in which the start hold of R217 began [R217; reset none]
  answered : List (Nat × Nat) := [] -- (MEMBER_ID, REQ_ID) of the requests answered as a witness [R214; reset none]
  deriving DecidableEq, Repr

/-- Split log, bitmap and resync (R235 to R238). -/
structure ResyncSt where
  log      : List (Nat × Nat) := [] -- split log: (granule, batch frame), newest first [R235; reset none]
  bitmap   : List Nat := []         -- granules (lg) whose bit is set, ascending [R235; reset none]
  marking  : Bool := false          -- writes mark the bitmap directly [R235; reset false]
  splitEpoch : Nat := 0             -- LEASE_EPOCH in force at SPLIT_FRAME [R236; reset 0]
  copyAt   : Option (Nat × Nat) := none -- granule being copied and its next line [R237; reset none]
  copying  : List (Nat × Nat) := [] -- granules whose last copy is in batch: (granule, batch) [R237; reset none]
  switchF  : Nat := 0               -- SWITCH_FRAME, 0 for none [R238; reset 0]
  heldStart : Option Nat := none    -- MODE of a RESYNC_CTL START held until replay is over [R432; reset none]
  grantAct : Bool := false          -- a GRANT of ACTIVE has arrived for the switch [R238; reset false]
  tainted  : Bool := false          -- since the split: formatted, declared lost or VAULT_INCOMPLETE [R236; reset false]
  deriving DecidableEq, Repr

/-- A batch that was not sealed by the tick that ended its frame (R226): its segment in progress, records and bytes sent. -/
structure LateBatch where
  frame : Nat
  seg   : Nat
  recs  : Nat
  bytes : Nat
  deriving DecidableEq, Repr

/-- The twin unit behind the TWIN block. -/
structure TwinSt where
  link    : TwinLink := {}
  lease   : LeaseSt := {}
  resync  : ResyncSt := {}
  hb      : Heartbeat := {}          -- last valid heartbeat received [R230; reset none]
  hbFrame : Nat := 0                 -- frame stamp of the last valid heartbeat [R231; reset 0]
  queue   : List MRecord := []       -- mirror queue, oldest first [R224; reset none]
  seg     : Nat := 1                 -- segment that the next record will travel in; segments count from 1 [R224; reset 1]
  recs    : Nat := 0                 -- records of the current batch sent so far [R223; reset 0]
  bytes   : Nat := 0                 -- bytes of the current batch sent so far [R223; reset 0]
  sealed  : Bool := false            -- the SEAL of the current batch was sent [R224; reset false]
  late    : List LateBatch := []     -- batches whose SEAL is late, oldest first [R226; reset none]
  hist    : List HistRec := []       -- history window, newest first [R229; reset none]
  rxBatch : Nat := 0                 -- batch being received [R227; reset 0]
  rxSegs  : Nat := 0                 -- its segments received without a gap [R227; reset 0]
  rxRecs  : Nat := 0                 -- its records applied [R227; reset 0]
  rxGap   : Bool := false            -- a message of it was missed [R227; reset false]
  ackOwed : List (Nat × Nat) := []   -- batches sealed whose records are not all applied: batch, records [R227; reset none]
  takeover : Bool := false           -- a takeover waits for its first admission [R232; reset false]
  deriving DecidableEq, Repr

/-! ## Chapter 10: CXL host ports -/

/-- An HDM decoder (R247); base and size in units of 256 MiB. -/
structure HdmDec where
  base      : Nat := 0
  size      : Nat := 0
  skip      : Nat := 0      -- in units of 256 MiB
  dpa       : Nat := 0      -- first LD DPA offset once committed, in units of 16 MiB
  iw        : Nat := 0      -- log2 of the ways
  ig        : Nat := 0      -- log2 of the granularity minus 8
  committed : Bool := false
  locked    : Bool := false
  error     : Bool := false
  deriving DecidableEq, Repr

/-- A commit that the host has written (R247). -/
structure HdmReq where
  dec  : Nat
  base : Nat
  size : Nat
  skip : Nat
  iw   : Nat
  ig   : Nat
  lock : Bool
  deriving DecidableEq, Repr

/-- An event record of a logical device (R253, R254). -/
structure EvRecord where
  at_  : Option PoisonAt     -- where the poison was held; none for a memory module record
  code : Nat                 -- row of the table of R254, 0 for a poison record
  dpa  : Option Nat          -- LD DPA offset in bytes; none for all ones
  time : Nat                 -- CXL timestamp
  frame : Nat
  handle : Nat
  deriving DecidableEq, Repr

/-- One of the four logs (R255). -/
structure EvLog where
  recs     : List EvRecord := []   -- oldest first
  overflow : Bool := false
  lost     : Nat := 0
  firstOv  : Nat := 0
  lastOv   : Nat := 0
  nextH    : Nat := 1
  deriving DecidableEq, Repr

/-- A logical device (R246). -/
structure LdSt where
  dec0      : HdmDec := {}
  dec1      : HdmDec := {}
  waiting   : List HdmReq := []    -- commits held while a change is CHECKING, oldest first [R247; reset none]
  memEnable : Bool := false        -- Mem_Enable [R260; reset false]
  info      : EvLog := {}
  warn      : EvLog := {}
  fail      : EvLog := {}
  fatal     : EvLog := {}
  policy    : Nat := 0             -- Event Interrupt Policy, one byte a log [R255; reset 0]
  tsSet     : Bool := false        -- Set Timestamp was received [R255; reset false]
  tsBase    : Nat := 0             -- timestamp at the last Set Timestamp [R256; reset 0]
  tsAt      : Nat := 0             -- domain-time counter at that moment, ns [R256; reset 0]
  alerts    : SMap Nat := []       -- warning thresholds enabled by the host: 0 life used, 1 over- and 2 under-temperature, 3 and 4 corrected errors [R256; reset none]
  cdatSeq   : Nat := 0             -- CDAT sequence number [R258; reset 0]
  scan      : Option (Nat × Nat) := none  -- poison list scan: first line of the LD DPA offset, lines [R256; reset none]
  bgDone    : Bool := false        -- a background operation has completed [R256; reset false]
  lastOp    : Nat := 0             -- opcode of the last mailbox command [R438; reset 0]
  lastCode  : Nat := 0             -- its return code [R438; reset 0]
  deriving DecidableEq, Repr

/-- A CXL.mem request held while its port is closed (R250). -/
inductive CxlHeld where
  | read (ld tag hpa : Nat)
  | noData (ld tag : Nat)
  | write (ld tag hpa : Nat) (data : LineData) (mask : Mask)
  | gpf (tag : Nat)
  deriving DecidableEq, Repr

/-- An outstanding read (R249). -/
structure CxlRead where
  ld   : Nat
  tag  : Nat
  line : Nat     -- device line address
  dpa  : Nat     -- LD DPA offset in bytes
  deriving DecidableEq, Repr

/-- A CXL port behind its CXP registers. -/
structure CxlPort where
  lds     : SMap LdSt := []          -- logical devices by LD-ID [R246; reset none]
  held    : List CxlHeld := []       -- held requests in order of arrival [R250; reset none]
  reads   : List CxlRead := []       -- outstanding reads, oldest first [R249; reset none]
  memIde  : Bool := false            -- the CXL.mem IDE stream is active [R250, R259; reset false]
  ioIde   : Bool := false            -- the CXL.io link IDE stream is active [R250, R259; reset false]
  macFail : Bool := false            -- a MAC check failed and no new key exchange has completed [R259; reset false]
  openRole : Nat := 0                -- role in which the port last opened [R250; reset 0]
  credReq : Nat := 0                 -- M2S Req credits outstanding when the port closed and not used since [R250; reset 0]
  credRwd : Nat := 0                 -- M2S RwD credits outstanding when the port closed and not used since [R250; reset 0]
  deriving DecidableEq, Repr

/-- The CXL ports. -/
structure CxlSt where
  ports : SMap CxlPort := []    -- ports by number [R243; reset none listed = empty]
  dirty : List Nat := []        -- shutdown states set dirty, 16 × port + LD, ascending; in the Rack [R256, R395; reset: kept]
  deriving DecidableEq, Repr

/-! ## Chapter 11: RDMA -/

/-- Queue pair states (R272), encoded in RDMA_PEEK_0 as 0 to 4. -/
inductive QpState where
  | reset | held | rtr | rts | error
  deriving DecidableEq, Repr

/-- Ordering modes (R273), 0 to 2. -/
inductive QpMode where
  | strict | relaxed | spray
  deriving DecidableEq, Repr

/-- Kinds of messages that the responder answers (R269). -/
inductive RMsgKind where
  | write | read | atomic | send
  deriving DecidableEq, Repr

/-- An atomic as its packet names it. -/
structure AtomicOp where
  line : Nat
  off  : Nat
  swap : Bool
  a    : Nat
  b    : Nat
  deriving DecidableEq, Repr

/-- A message at the responder whose answer has not gone out (R269, R273, R274, R276). -/
structure RMsg where
  first   : Nat                  -- first PSN
  last    : Nat                  -- last PSN
  kind    : RMsgKind
  flagged : Bool := false        -- a WRITE with immediate
  imm     : Nat := 0
  sent    : Bool := false        -- IMM was delivered
  whole   : Bool := true         -- every packet has arrived
  pkts    : Nat := 1             -- spray: packets of the message
  got     : Nat := 1             -- spray: packets that have arrived
  region  : Nat := 0             -- index of the region
  va      : Nat := 0             -- remote address of the next byte
  key     : Nat := 0
  bytes   : Nat := 0             -- bytes of the message still to come
  held    : List QWrite := []    -- lines that wait for an earlier read or atomic (strict)
  started : Bool := true         -- a read or an atomic has been presented
  lines   : Nat := 0             -- lines of a write so far
  left    : Nat := 0             -- lines presented and not yet admitted, or read and not yet returned
  frame   : Nat := 0             -- latest frame in which a line was admitted
  ready   : Bool := false        -- the answer may go when its turn comes
  waiting : Bool := false        -- it waits for a commit point
  dpa     : Nat := 0             -- first byte of a read
  len     : Nat := 0             -- bytes of a read
  back    : SMap (LineData × Bool) := []  -- lines that a read has returned, by line address, with poison
  op      : Option AtomicOp := none
  queued  : Bool := false        -- the atomic is in the admission queue
  orig    : Nat := 0             -- original value of an atomic
  poison  : Bool := false        -- the line of an atomic was poisoned
  deriving DecidableEq, Repr

/-- A work request (R285). -/
structure WorkReq where
  op    : Nat
  flags : Nat
  len   : Nat
  wrId  : Nat
  local_ : Nat
  rva   : Nat
  rkey  : Nat
  imm   : Nat
  cmp   : Nat
  swap  : Nat
  trig  : Nat
  thresh : Nat
  bad   : Bool          -- a word was poisoned (R307)
  deriving DecidableEq, Repr

/-- A requester message awaiting its acknowledgement (R286). -/
structure OutReq where
  wr    : WorkReq
  first : Nat
  last  : Nat
  data  : Option (List Byte)     -- payload that the schedule engine gave (R328); otherwise the bytes are those of LOCAL
  tag   : Option Nat             -- what the schedule engine knows the message by (R328)
  poison : Option (Nat × Nat)    -- first poisoned source byte and the run's length
  tries : Nat := 0               -- retransmissions
  rnrs  : Nat := 0               -- RNR retries
  rnrWait : Bool := false        -- the delay of an RNR NAK runs
  got   : Nat := 0               -- response bytes received
  left  : Nat := 0               -- lines of the response not yet admitted
  acked : Bool := false          -- acknowledged, or the whole response received
  deriving DecidableEq, Repr

/-- Identity, mode and connection of a queue pair. -/
structure QpCfg where
  mode    : QpMode := .strict
  pd      : Nat := 0
  port    : Nat := 0
  sq      : Option Nat := none
  cq      : Option Nat := none
  remote  : Nat := 0        -- remote QPN
  addr    : Nat := 0        -- remote IPv6 address
  mac     : Nat := 0
  retry   : Nat := 0
  rnr     : Nat := 0
  timeout : Nat := 0
  cmPort  : Nat := 0
  ext     : Nat := 0        -- FLAGS of R271: [0] POISON_EXT, [1] IMM_TO_CQ, [2] TRIGGER
  sched   : Bool := false   -- owned by the schedule engine
  paths   : Nat := 1        -- SPRAY_PATHS
  active  : Bool := false   -- the controller is the active side
  deriving DecidableEq, Repr

/-- A queue pair (R272 to R278, R285, R286). -/
structure Qp where
  st      : QpState := .reset
  cfg     : QpCfg := {}
  ePsn    : Nat := 0
  lastAck : Nat := 0            -- last PSN acknowledged (R274)
  msgs    : List RMsg := []     -- messages not answered yet, in PSN order
  dups    : List RMsg := []     -- READs executed again (R278)
  seen    : List Nat := []      -- spray: PSNs received beyond ePSN
  timer   : Bool := false       -- spray: the reorder timer runs
  doneF   : Nat := 0            -- spray: latest admission frame of the messages answered
  quiet   : Bool := false       -- a sequence NAK or an RNR NAK was sent: later packets are discarded until ePSN arrives
  atomics : List (Nat × Nat) := []  -- results of the last 16 atomics, PSN and value, newest first
  recvs   : List Nat := []      -- posted receives: Ramekin handles
  sendAt  : Nat := 0            -- bytes of the SEND in progress copied so far
  cnpAt   : Option Nat := none  -- frame of the last congestion notification sent (R281)
  nPsn    : Nat := 0            -- next PSN to send
  outs    : List OutReq := []   -- requests outstanding, oldest first
  head    : Option WorkReq := none  -- request at the head that is disabled or fenced
  rate    : Nat := 0            -- DCQCN rate, Mb/s; 0 for the port rate
  alpha   : Nat := 65536        -- DCQCN alpha, 1/65,536
  drep    : Bool := false       -- DREP was sent or received
  deriving DecidableEq, Repr

/-- A region (R279), with the variant of its index. -/
structure Region where
  used    : Bool := false
  variant : Nat := 0
  va      : Nat := 0
  part    : Nat := 0
  off     : Nat := 0
  len     : Nat := 0
  pd      : Nat := 0
  rights  : Nat := 0     -- [0] READ, [1] WRITE, [2] ATOMIC
  deadAt  : Option Nat := none -- REG_DEREG written: the key fails from this frame (R280)
  deriving DecidableEq, Repr

/-- The RDMA ports and the transport engine. -/
structure RdmaSt where
  qps     : SMap Qp := []       -- queue pairs by QPN; an unlisted one is in RESET [R268; reset none]
  regions : SMap Region := []   -- regions by index; an unlisted one is free, variant 0 [R279; reset none]
  trigs   : SMap Nat := []      -- trigger counters, 32 bits [R287; reset 0]
  pdAuto  : List Nat := []      -- protection domains with ACCEPT_AUTO, ascending [R270; reset none]
  opened  : List Nat := []      -- ports that have opened and not closed since [R282; reset none]
  deriving DecidableEq, Repr

/-! ## Chapter 12: Ramekin pools and hardware queues -/

/-- Pool state (R294 to R300). State bytes and chain words stand in the region's bytes. -/
structure Pool where
  cache   : List Nat := []      -- INDEX of the handles in the on-die cache, the next to lend first, at most 64 [R297; reset empty]
  hwm     : Nat := 0            -- high-water mark [R295; reset 0]
  chain   : Option Nat := none  -- head of the chain of freed buffers [R297; reset none]
  chainLen : Nat := 0           -- buffers on the chain [R312; reset 0]
  broken  : Bool := false       -- CHAIN_BROKEN [R299; reset false]
  quar    : List Nat := []      -- quarantined buffers, ascending [R300; reset none]
  low     : Bool := false       -- FREE is below LOW_WATER [R303; reset false]
  rebuild : Bool := false       -- a chain rebuild runs [R299; reset false]
  deriving DecidableEq, Repr

/-- The Ramekin pools and the bytes of the Ramekin region, which lie in the Stockpot channels' Ramekin areas (R294). -/
structure RkSt where
  pools : SMap Pool := []       -- pools 0 to 5 [R294; reset empty]
  held  : SMap Nat := []        -- HELD of owner o in pool p, by 6 × o + p [R301; reset 0]
  words : SMap Word := []       -- words of the region by region offset / 8; an unlisted one reads as the pattern of its last fill, not readable before [R145, R294; reset none]
  poison : List Nat := []       -- lines of the region that hold poison, by region offset / 64, ascending [R140; reset none]
  deriving DecidableEq, Repr

/-- A word of the queue SRAM with its tag and whether its parity fails (R305, R307, R308). -/
structure QWord where
  data : Word := 0
  gap  : Bool := false
  bad  : Bool := false
  deriving DecidableEq, Repr

/-- A hardware queue (R305). -/
structure Queue where
  base    : Nat := 0
  size    : Nat := 0
  item    : Nat := 0
  prod    : Nat := 0
  cons    : Nat := 0
  enabled : Bool := false
  head    : Nat := 0          -- consumer pointer, word from BASE [R313; reset 0]
  words   : List QWord := []  -- words held, head first [R305; reset none]
  staged  : List Word := []   -- staged firmware push [R306; reset none]
  dropped : Nat := 0          -- gap record [R308; reset 0]
  dropF   : Nat := 0          -- frame of the first drop [R308; reset 0]
  parity  : Nat := 0          -- parity failures, saturating at 16 bits [R307; reset 0]
  flushes : Nat := 0          -- flushes, wrapping at 16 bits [R309; reset 0]
  deriving DecidableEq, Repr

/-- The hardware queues. -/
structure QSt where
  qs : SMap Queue := []       -- queues by index [R305; reset: as the image configures them]
  deriving DecidableEq, Repr

/-! ## Chapter 13: serving schedules -/

/-- States of a schedule entry (R318), encoded as R336 gives: 0 EMPTY to 11 INTERRUPTED. -/
inductive EntState where
  | empty | loaded | waiting | staging | ready | delivering
  | done | abandoned | cancelled | notRun | failed | interrupted
  deriving DecidableEq, Repr

/-- How far a destination of a delivering entry has come (R328, R329). -/
structure Dest where
  desc   : Nat            -- descriptor index
  failed : Bool := false  -- its queue pair was not in RTS at launch, or entered ERROR
  chunks : Nat := 0       -- chunks issued to it
  acked  : Nat := 0       -- chunks whose WRITE has completed
  map_   : Nat := 0       -- poison map: 0 not sent, 1 sent, 2 completed
  rcd    : Nat := 0       -- record: 0 not sent, 1 sent, 2 completed
  bytes  : Nat := 0       -- share bytes delivered to it
  deriving DecidableEq, Repr

/-- Run state of a schedule entry (R318 to R333, R336). -/
structure Run where
  st      : EntState := .empty
  cause   : Nat := 0          -- CAUSE: 1 source lost
  status  : Nat := 0          -- STATUS bits of R329
  entered : Nat := 0          -- frame of entry into WAITING or STAGING (R324)
  ready   : Nat := 0          -- own READY_FRAME
  launch  : Nat := 0          -- launch frame, 0 before launch
  issued  : Nat := 0          -- bytes issued over all destinations
  allow   : Nat := 0          -- pacing allowance in bytes (R328)
  stalls  : Nat := 0          -- STALL_FRAMES, saturating
  failed  : Nat := 0          -- DEST_FAILED
  poison  : List Nat := []    -- poison list: line offsets in the share, ascending, at most 4,096 (R331)
  trunc   : Option Nat := none  -- first poisoned line that the full list could not record (R331)
  asked   : Nat := 0          -- chunks whose staging reads have been issued (R320, R322)
  staged  : SMap LineData := []  -- lines staged and held, by line offset in the share; zero for a poisoned line (R320, R331)
  again   : List Nat := []    -- staged lines that were lost and have not been staged again (R322)
  freed   : Nat := 0          -- chunks released (R328)
  dests   : List Dest := []   -- destinations of the delivery, ascending
  inMask  : Nat := 0          -- positions counted in at the last decision (R326)
  missing : Nat := 0          -- MISSING_MASK of the launch
  catchUp : Bool := false     -- runs as a catch-up (R333)
  cuFrom  : Nat := 0          -- frame of the takeover of the catch-up
  recBuf  : Option Nat := none   -- Ramekin handle of the record buffer (R321)
  mapBufs : List Nat := []    -- Ramekin handles of the map buffers (R329)
  cancel  : Bool := false     -- CANCEL written, acts at the next tick (R318)
  beaconAt : Nat := 0         -- 1 above the frame of the last beacon of the period of R324
  final   : Bool := false     -- a record of R330 waits for issued WRITEs to complete
  deriving DecidableEq, Repr

/-- The latest accepted ready beacon of a sender (R325). -/
structure RBeacon where
  member : Nat
  ready  : Nat
  epoch  : Nat
  role   : Nat
  withdrawn : Bool
  deriving DecidableEq, Repr

/-- The serving-schedule engine behind the SCHED block. -/
structure SchedSt where
  rows    : SMap Word := []   -- entry rows, by 8 × entry + word [R314; reset 0]
  descs   : SMap Word := []   -- destination descriptors, by 4 × descriptor + word [R315; reset 0]
  groups  : SMap Nat := []    -- group rows, 25 bits [R315; reset 0]
  poss    : SMap Nat := []    -- position rows, by 128 × set + position [R316; reset 0]
  runs    : SMap Run := []    -- run states of entries that are not EMPTY [R318; reset none]
  heard   : SMap (List RBeacon) := []  -- beacons counted, by 128 × entry + position [R325; reset none]
  deriving DecidableEq, Repr

/-! ## Chapter 14: the cipher engine -/

/-- A domain master key generation (R338 to R341); 0 for none. The key itself is a function of its generation. -/
structure DmkSt where
  gen : Nat := 0
  act : Nat := 0       -- ACTIVATE_FRAME
  deriving DecidableEq, Repr

/-- An export or import job (R347 to R354). -/
structure Job where
  active  : Bool := false   -- the queue holds a job
  imp     : Bool := false
  src     : Nat := 0        -- DPA, or Ramekin handle
  dst     : Nat := 0
  srcRk   : Bool := false
  dstRk   : Bool := false
  len     : Nat := 0        -- LENGTH
  done    : Nat := 0        -- lines of plaintext done
  susp    : Bool := false
  aad     : Nat := 0        -- the 16 bytes as a number, byte 0 lowest
  nonce   : Nat := 0        -- the 12 bytes as a number, byte 0 lowest
  keyGen  : Nat := 0
  gh      : Word × Word := (0, 0)  -- GHASH state over the ciphertext so far
  srcPoison : Bool := false -- the container of an import has POISON_PRESENT
  firstP  : Nat := 0        -- first poisoned line
  nPois   : Nat := 0        -- poisoned lines
  deriving DecidableEq, Repr

/-- An entry of the untrusted table (R353). -/
structure Untrust where
  dpa   : Nat
  bytes : Nat
  cause : Nat
  frame : Nat
  deriving DecidableEq, Repr

/-- A mark pass of a range (R352). -/
structure MarkPass where
  line  : Nat          -- first line
  n     : Nat          -- lines of the range
  next  : Nat          -- lines passed in ascending order
  early : List Nat     -- lines marked out of turn, at most 1,024
  entry : Option Nat   -- its table entry, none when the table was full
  deriving DecidableEq, Repr

/-- An SPDM session (R355). -/
structure Spdm where
  id    : Nat
  up    : Bool       -- FINISH received
  deriving DecidableEq, Repr

/-- The cipher engine behind the CIPHER block. -/
structure CipherSt where
  prev    : DmkSt := {}            -- PREV generation [R338; reset: unsealed from the Rack at start]
  cur     : DmkSt := {}            -- CURRENT generation [R338; reset: unsealed from the Rack at start]
  next    : DmkSt := {}            -- NEXT generation [R338; reset: unsealed from the Rack at start]
  prevTil : Nat := 0               -- last frame in which PREV verifies a Trivet message [R342; reset 0]
  session : Nat := 0               -- KEY_GEN of the session key held, 0 for none [R346; reset 0]
  derived : Bool := false          -- device and media keys are derived [R360; reset false]
  slots   : List Nat := [0]        -- programmed root-key slots, one-time fuses [R67, R339; reset: kept; slot 0, DESIGN CHOICE, log entry 7]
  revoked : List Nat := []         -- revoked root-key slots, one-time fuses [R339; reset: kept]
  hashes  : SMap Word := []        -- digest fuses, by 6 × slot + word [R339; reset: kept]
  job0    : Job := {}              -- job of the normal queue [R347; reset none]
  job1    : Job := {}              -- job of the urgent queue [R347; reset none]
  jobSeq  : Nat := 0               -- next JOB_SEQ [R349; reset: the Rack's JOB_SEQ mark]
  table   : SMap Untrust := []     -- untrusted table of the Rack, 64 entries [R353; reset: kept]
  passes  : List MarkPass := []    -- mark passes running, oldest first [R352; reset none]
  spdm    : List Spdm := []        -- SPDM sessions, at most 4 [R355; reset none]
  version : Bool := false          -- GET_VERSION answered [R355; reset false]
  caps    : Bool := false          -- GET_CAPABILITIES answered [R355; reset false]
  algos   : Bool := false          -- NEGOTIATE_ALGORITHMS answered [R355; reset false]
  dbgUsed : Bool := true           -- the debug challenge has been used, or none was made [R358; reset true]
  opens   : Nat := 0               -- a DEBUG_OPENS increment and an opening that wait for the Rack: level [R358; reset 0]
  deriving DecidableEq, Repr

/-! ## Chapter 15: Dexith cores and code flash -/

/-- State of a service core (R384), encoded 0 to 3. -/
inductive CoreState where
  | stopped | running | halted | waiting
  deriving DecidableEq, Repr

/-- Where an entry of an event FIFO came from (R368, R369). -/
inductive EvqEntry where
  | ev (e : Stamp)
  | gap (seq frame dropped : Nat) (fatal : Bool)
  deriving DecidableEq, Repr

/-- A service core with its event FIFO (R362 to R371). -/
structure Core where
  st       : CoreState := .stopped    -- STATE [R384; reset stopped]
  wasWfi   : Bool := false            -- the core waited for an interrupt when it was stopped [R371; reset false]
  pc       : Word := 0                -- program counter [R371; reset 0 until started]
  regs     : SMap Word := []          -- x1 to x31 as a debugger reaches them [R362, R371; reset 0]
  tcm      : SMap Word := []          -- TCM words, by word index; zero words are not listed [R365; reset 0]
  written  : List Nat := []           -- TCM words whose written bit is set, ascending [R365; reset none]
  cleared  : Bool := false            -- every written bit is set (a TCM clear has completed) [R365; reset false]
  clearing : Bool := false            -- TCM clear running [R365; reset false]
  nmi      : Bool := false            -- NMI raised and not entered [R371; reset false]
  mcause   : Word := 0                -- mcause [R371; reset 0]
  mtval    : Word := 0                -- mtval [R365; reset 0]
  mtip     : Bool := false            -- timer interrupt [R366; reset false]
  fifo     : List EvqEntry := []      -- event FIFO, head first, at most 256 [R369; reset empty]
  gapN     : Nat := 0                 -- gap record: events dropped [R369; reset 0]
  gapSeq   : Nat := 0                 -- gap record: PASS_SEQ of the first dropped [R369; reset 0]
  gapFrame : Nat := 0                 -- gap record: frame of the first dropped [R369; reset 0]
  gapFatal : Bool := false            -- gap record: FATAL_DROPPED [R369; reset false]
  deriving DecidableEq, Repr

/-- The service cluster and the keeper cores. -/
structure DxSt where
  cores   : SMap Core := []      -- service cores by number, unlisted ones at reset [R362; reset stopped]
  sram    : SMap Word := []      -- cluster SRAM words, by word index; zero words are not listed [R364, R370; reset 0]
  k0      : Bool := true         -- keeper core 0 runs [R367; reset true]
  k1      : Bool := true         -- keeper core 1 runs [R367; reset true]
  duty0   : Bool := true         -- the duties of keeper core 0 are performed [R367; reset true]
  duty1   : Bool := true         -- the duties of keeper core 1 are performed [R367; reset true]
  warm    : Bool := false        -- a warm restart runs: the cluster stops and is to start again [R435; reset false]
  deriving DecidableEq, Repr

/-- Operations of the code flash (R376). -/
inductive CfKind where
  | program | erase | hash
  deriving DecidableEq, Repr

/-- The operation running on the code flash (R376 to R382). -/
structure CfOp where
  kind    : CfKind
  page    : Nat            -- page of CF_ADDR
  len     : Nat            -- sectors of a HASH
  susp    : Bool           -- the erase is suspended
  tempHold : Bool          -- suspended for temperature (R382)
  starved : Bool           -- counted in ERASE_STARVED
  data    : List Word      -- page buffer of a PROGRAM
  deriving DecidableEq, Repr

/-- A line of 64 bytes of the code flash that the I-cache of a service core holds (R364). -/
structure ILine where
  core : Nat
  line : Nat               -- flash offset / 64
  data : List Word         -- its eight words as the refill gave them
  deriving DecidableEq, Repr

/-- The code flash behind the CFLASH block. -/
structure CfSt where
  words   : SMap Word := []              -- flash contents as words, stored complemented, by offset / 8: an erased word is not listed [R372; reset: kept]
  op      : Option CfOp := none          -- operation running [R376; reset none]
  bad     : List (Bool × Nat) := []      -- interrupted operations whose page or sector reads all ones [R383; reset: kept]
  pre0    : List Nat := []               -- prefetch buffer of bank 0: at most 4 lines, newest first [R373; reset empty]
  pre1    : List Nat := []               -- prefetch buffer of bank 1 [R373; reset empty]
  br      : List Nat := []               -- branch cache: at most 64 targets, newest first [R373; reset empty]
  icache  : List ILine := []             -- flash lines in the cores' I-caches: 4 ways in each of 256 sets of a core, newest first [R364; reset empty]
  deriving DecidableEq, Repr

/-! ## Chapter 16: the Rack and the Spike -/

/-- Orders of Rack writes (R388). -/
inductive RackOrder where
  | powerFail | ring | record | spike | firmware
  deriving DecidableEq, Repr

/-- What a queued Rack write is: words for consecutive groups, or the next unflushed Spike records, at most 8 (R388, R401). -/
inductive RackWhat where
  | data (group : Nat) (words : List Word)
  | spike
  deriving DecidableEq, Repr

/-- A Rack burst (R386, R388). -/
structure Burst where
  order : RackOrder
  what  : RackWhat
  deriving DecidableEq, Repr

/-- The Rack behind the RACK block. The cells hold counters, rings, two-copy records, the Hob log and the firmware area. -/
structure RackSt where
  cells   : SMap Word := []      -- groups of the Rack but the Spike area, by group; zero groups are not listed [R386, R390; reset: kept]
  bad     : List Nat := []       -- groups that read uncorrectable, ascending [R389; reset: kept]
  cnt     : SMap Nat := []       -- counter values as the keeper core serves them [R392, R393; reset: read from the cells in stage 0]
  queue   : List Burst := []     -- bursts queued, in order of request [R388; reset none]
  cur     : Option Burst := none -- burst in progress [R387; reset none]
  aonMv   : Nat := 0             -- always-on rail in mV as last read [R387, R407; reset 0 until read]
  ring    : SMap Nat := []       -- highest slot sequence of each ring [R391; reset: read from the cells in stage 0]
  mark    : SMap Nat := []       -- value in force of each mark ring [R391; reset: read from the cells in stage 0]
  deriving DecidableEq, Repr

/-- A Spike record (R400). -/
structure SpkRec where
  seq    : Nat
  frame  : Nat
  secs   : Nat
  cycles : Nat
  src    : Nat
  fatal  : Bool
  side   : Bool
  ev     : Event
  det    : Nat
  det2   : Nat
  deriving DecidableEq, Repr

/-- A reading window (R402). -/
structure SpkWin where
  cursor : Nat := 0
  lost   : Bool := false
  deriving DecidableEq, Repr

/-- The Spike behind the SPIKE block. -/
structure SpkSt where
  sram    : List SpkRec := []     -- SRAM ring, newest first, at most 16,384 [R401; reset empty]
  unfl    : Nat := 0              -- of these the newest that are not in the Rack [R401; reset 0]
  rack    : SMap SpkRec := []     -- Spike area of the Rack, by ring index below 32,768 [R401; reset: kept]
  rackAt  : Nat := 0              -- ring index after the newest record of the Spike area [R401; reset: found in stage 0]
  side    : List SpkRec := []     -- side buffer, oldest first, at most 64 [R404; reset empty]
  frozen  : Bool := false         -- frozen [R404; reset false]
  missed  : Nat := 0              -- MISSED_WHILE_FROZEN [R404; reset 0]
  sideFull : Nat := 0             -- SIDE_FULL [R404; reset 0]
  flushing : Option Nat := none   -- flush in progress: records still to be written [R401; reset none]
  pfFlush : Bool := false         -- the flush in progress is that of a power fail [R401; reset false]
  flushReq : Bool := false        -- a flush deferred by a freeze or asked for during a flush [R404; reset false]
  clearing : Option (Nat × Nat) := none  -- clear in progress: CLEAR_UPTO, root slot [R406; reset none]
  frzReq  : Bool := false         -- a freeze held until the CLEARED record is made [R406; reset false]
  chUsed  : Bool := true          -- the clear challenge was used, or none was made [R405; reset true]
  wins    : SMap SpkWin := []     -- windows: 0 firmware, 1 BMC, 2 + 16 × port + LD a host [R402; reset cursor 0]
  overTo  : Nat := 0              -- one above the highest PASS_SEQ overwritten everywhere [R403; reset 0]
  deriving DecidableEq, Repr

/-! ## Chapter 17: the Hob and the thermal monitor -/

/-- States of the Hob (R417), encoded 0 to 4. -/
inductive HobState where
  | off | poweringUp | up | flushing | poweringDown
  deriving DecidableEq, Repr

/-- States of a rail (R428), encoded 0 to 6. -/
inductive RailState where
  | off | rising | debouncing | up | failed | falling | minOff
  deriving DecidableEq, Repr

/-- Why an OFF is pending or a power-down runs (R416), encoded as LAST_DOWN_CAUSE: 0 none to 5 thermal trip. -/
inductive DownCause where
  | none | request | powerFail | railLost | thermal | trip
  deriving DecidableEq, Repr

/-- A rail (R409 to R419). -/
structure Rail where
  below   : Bool := true         -- its voltage is below OFF_MV [R414; reset true]
  timedOut : Bool := false       -- it timed out in the power-down in progress [R414; reset false]
  skip    : Bool := false        -- SKIP_WAIT was written [R414; reset false]
  retry   : Bool := false        -- its step runs as a RETRY [R413; reset false]
  fences  : List Nat := []       -- units it fences [R412; reset none]
  oob     : Bool := false        -- the last reading was out of band [R410; reset false]
  deriving DecidableEq, Repr

/-- A Hob log entry (R421). -/
structure HobLog where
  seq  : Nat
  secs : Nat
  rail : Nat
  ev   : Nat
  det  : Nat
  mv   : Nat
  us   : Nat
  deriving DecidableEq, Repr

/-- The Hob behind the HOB block. -/
structure HobSt where
  rails   : SMap Rail := []          -- rails by number, unlisted ones at reset [R409; reset off]
  table   : List RailDef := []       -- rail table handed over in stage 2, ascending UP_STEP [R409, R430; reset empty]
  step    : Nat := 0                 -- position in the table of the step in progress, or rails left in a power-down [R411, R414; reset 0]
  offWhy  : DownCause := .none       -- cause of the pending OFF or of the power-down [R416; reset none]
  resetAfter : Bool := false         -- a system reset waits for DOWN_DONE [R433; reset false]
  force   : Bool := false            -- R415 applies: every rail has FORCE_AFTER_TIMEOUT [R415; reset false]
  sagRun  : Nat := 0                 -- consecutive SAG_SENSE samples below SAG_MV [R410; reset 0]
  outs    : List Nat := []           -- reset outputs released, ascending [R420; reset: all asserted]
  log     : List HobLog := []        -- Hob area of the Rack, newest first, at most 8,192 [R421; reset: kept]
  present : Bool := false            -- the Hob has the RAILS, THERMAL and HOLDUP sections [R430; reset false]
  pfDown  : Bool := false            -- the last power-down was caused by a power fail [R416; reset false]
  thHold  : Bool := false            -- after thermal shutdown no ON is accepted [R416; reset false]
  deriving DecidableEq, Repr

/-- A sensor (R422, R426). -/
structure Sensor where
  temp  : Int := 0
  valid : Bool := false
  fails : Nat := 0        -- consecutive samples that could not be read
  fast  : Bool := false   -- sampled every 50 µs
  far   : Nat := 0        -- µs of staying farther than 5 °C from every limit
  hi    : Option Int := none  -- highest sample since reset
  deriving DecidableEq, Repr

/-- The thermal monitor behind the THERMAL block. -/
structure ThSt where
  die    : SMap Sensor := []   -- TS_00 to TS_23 [R422; reset not read]
  dimm   : SMap Sensor := []   -- DIMMs by Stockpot channel [R422; reset not read]
  media  : SMap Sensor := []   -- packages by 2 × channel + position [R422; reset not read]
  lvDie  : Nat := 0            -- level of the die class [R423; reset 0]
  lvDimm : Nat := 0            -- level of the DIMM class [R423; reset 0]
  lvMedia : Nat := 0           -- level of the media class [R423; reset 0]
  planLevel : Nat := 0         -- level in the frame plan in force [R423, R424; reset 0]
  deriving DecidableEq, Repr

/-! ## Chapter 18: boot, reset and readback -/

/-- Boot of the controller (R430, R433). -/
structure BootSt where
  powered : Bool := false        -- the always-on domain is powered [R433, R444; reset false]
  stage   : Nat := 0             -- stage in progress; 6 after stage 5, 7 recovery [R430; reset 0]
  cause   : Nat := 0             -- SYS_CAUSE of the system reset that waits for DOWN_DONE [R433, R440; reset 0]
  resetReq : Option Nat := none  -- a system reset begins with this command's end, with its SYS_CAUSE [R433; reset none]
  held    : Bool := false        -- units outside the always-on domain stay in reset [R434, R72; reset false]
  wdtOn   : Bool := false        -- the watchdog counts [R436; reset false]
  wdtTwice : Bool := false       -- ACTION 1 has raised its NMI and no kick has come since [R436; reset false]
  filled  : Bool := false        -- released after stage 5 [R124; reset false]
  deriving DecidableEq, Repr

/-- A readback shadow (R439). -/
structure Shadow where
  value : Word
  seq   : Nat
  actor : Nat
  deriving DecidableEq, Repr

/-- The STATE windows (R437, R439). -/
structure RbSt where
  shadows : SMap Shadow := []                  -- shadows by CSPACE address [R439; reset none]
  snap    : Option (Nat × Nat) := none         -- snapshot running: KIND, INDEX [R437; reset none]
  deriving DecidableEq, Repr

/-! ## What the block sends -/

/-- Responses of the SPDM responder (R355, R356). -/
inductive SpdmMsg where
  | version | capabilities | algorithms | digests (slots : Nat)
  | certificate (offset length : Nat)
  | challengeAuth
  | measurements (signed : Bool) (blocks : List (Nat × List Word))
  | keyExchangeRsp (session : Nat)
  | finishRsp (session : Nat)
  | endSessionAck (session : Nat)
  | error
  deriving DecidableEq, Repr

/-- Answers of the mailbox, the fabric manager API and DOE of a CXL port (R246, R255 to R258). -/
inductive CxlAns where
  | done | busy | invalid | invalidHandle | unsupported
  | identify
  | bgStatus (running : Bool) (percent : Nat)
  | supportedLogs | effectsLog
  | events (recs : List EvRecord) (more overflow : Bool) (lost first last : Nat)
  | policy (p : Nat)
  | fwInfo (revision : Nat)
  | timestamp (t : Nat)
  | memoryDevice (capacity : Nat)                -- bytes, all persistent
  | partition (persistent : Nat)
  | health (status : Nat) (ready : Bool) (life : Nat) (temp : Int) (dirty vol pers : Nat)
  | alerts (l : SMap Nat)
  | shutdown (dirty : Bool)
  | poison (l : List Nat) (more : Bool)
  | ldInfo (bytes lds : Nat)
  | ldAllocations (sizes : List Nat)
  | qos (load : Nat)
  | doeProtocol (index next : Nat)
  | cdat (seq size readNs writeNs readMBs writeMBs : Nat)
  deriving DecidableEq, Repr

/-- Connection messages (R270 to R272). -/
inductive CmMsg where
  | req (mode pd flags psn : Nat)
  | mra | rej | rtu | dreq | drep
  | rep (mode pd flags psn credits mtu : Nat)   -- with the record of R271 as granted
  deriving DecidableEq, Repr

/-- Why a packet is refused with a NAK (R273, R278, R279, R284). -/
inductive NakKind where
  | sequence | invalid | access | operational
  deriving DecidableEq, Repr

/-- A message, answer or pin change that leaves the block. -/
inductive Out where
  | railEn (rail : Nat) (on : Bool)
  | resetOut (n : Nat) (asserted : Bool)
  | flashData (who : FlashReader) (offset : Nat) (word : Word)      -- data of a fetch or read of the code flash (R373)
  | evqWord (core : Nat) (word : Word)                              -- word 0 of a popped event (R369)
  | accessFault (core : Nat) (kind : CoreAcc) (addr : Nat)          -- an access fault on a service core (R363, R365)
  | coreData (core : Nat) (word : Word)                             -- data of a core's load or fetch (R363)
  | dbgData (core : Nat) (word : Word)                              -- result of a debugger's abstract command (R371)
  | spdm (m : SpdmMsg)                                              -- a response of the SPDM responder (R355)
  | tsyncOut (advance : Nat)                                        -- TSYNC_OUT driven at a whole millisecond (R43)
  | twin (frame seq : Nat) (m : TwinMsg)                             -- a message of the twin link with its FRAME and MSG_SEQ word (R222)
  | twinResend (frame seq : Nat)                                    -- the identical bytes of an earlier message (R222)
  | trivet (m : TrivetMsg) (addr : Nat)                             -- a Trivet message to the image's address `addr` (R215, R216)
  | witness (m : TrivetMsg)                                         -- an answer of the controller as a Trivet (R217)
  | cxlData (port ld tag : Nat) (data : LineData) (poison : Bool) (load : Nat)  -- S2M DRS MemData with DevLoad (R248, R249)
  | cxlCmp (port ld tag load : Nat)                                 -- S2M NDR Cmp with DevLoad (R248, R249)
  | gpfDone (port phase tag : Nat)                                  -- a GPF response (R252)
  | cxlAns (port ld : Nat) (a : CxlAns)                             -- a mailbox, fabric manager or DOE answer
  | cxlRas (port : Nat)                                             -- a protocol error reported through CXL RAS (R248)
  | cxlIdeError (port : Nat)                                        -- a failure reported through CXL IDE error reporting (R259)
  | beacon (m : BeaconMsg) (ports : Nat)                            -- a discovery beacon (R52, R53)
  | readyBeacon (m : ReadyMsg) (port : Nat) (addrs : List Nat)      -- a ready beacon by unicast (R323, R324)
  | cm (port qpn : Nat) (m : CmMsg)                                 -- a connection message (R270 to R272)
  | rdmaAck (port qpn psn : Nat)                                    -- an acknowledgement (R269, R274)
  | rdmaNak (port qpn psn : Nat) (k : NakKind)                      -- a NAK
  | rdmaRnr (port qpn psn code : Nat)                               -- an RNR NAK with its timer code (R281)
  | rdmaData (port qpn psn : Nat) (data : List Byte)                -- a packet of a READ response (R269)
  | atomicAck (port qpn psn orig : Nat)                             -- an atomic acknowledgement (R269)
  | sack (port qpn psn : Nat) (ranges : List (Nat × Nat))           -- a selective acknowledgement (R277)
  | poisonNak (port qpn psn delivered start length : Nat)           -- POISON_NAK (R284)
  | cnp (port qpn : Nat)                                            -- a congestion notification (R281)
  | rdmaReq (port qpn first last : Nat) (w : WorkReq) (paths : Nat) (data : List Byte)  -- the packets of a request (R286), over UDP source ports in turn
  | rdmaAgain (port qpn first count : Nat)                          -- packets sent again (R277, R286)
  | qWord (slot : Nat) (word : Word) (poison : Bool)                -- the word a read of Q_POP returns (R306, R307)
  deriving DecidableEq, Repr

/-! ## The whole state -/

/-- What one unit asks of another within the same command: start or stop steps to begin (R29), an OFF that a fault forces (R416), a
handoff of the role (R141), units put in reset with the Hob OFF (R434), a system reset (R433), the ports to look at their opening conditions again (R250, R282),
commits that a change held to be decided (R247), a delivery of the schedule
engine that has completed (R328). -/
inductive Todo where
  | startSteps (unit : Nat)
  | stopSteps (unit : Nat)
  | started (unit : Nat)
  | hobOff (why : DownCause)
  | hobFlushed
  | hobDown
  | handoff
  | systemReset (cause : Nat)
  | resetNow
  | changeEnd
  | ports
  | persisted (w : AckWaiter)
  | lossAccepted
  | refetch (req : Requester)
  | delivered (tag : Nat) (ok : Bool)
  | answer (req : Requester) (line : Nat) (data : LineData) (poison : Bool) (held : Option PoisonAt)
  | admitted (req : Requester) (line : Nat)
  deriving DecidableEq, Repr

/-- Everything of the block but the Pass and the queue of commands. -/
structure Body where
  regs    : SMap Word := []   -- register file of CSPACE by address; a register whose value is 0 is not listed [R5, R35 and the register rules of each chapter; reset as each register's table]
  frame   : FrameSt := {}
  time    : TimeSt := {}
  cfg     : CfgSt := {}
  tier    : TierSt := {}
  nc      : NcSt := {}
  sp      : SpSt := {}
  mtl     : MtlSt := {}
  per     : PerSt := {}
  twin    : TwinSt := {}
  cxl     : CxlSt := {}
  rdma    : RdmaSt := {}
  rk      : RkSt := {}
  q       : QSt := {}
  sched   : SchedSt := {}
  ciph    : CipherSt := {}
  dx      : DxSt := {}
  cf      : CfSt := {}
  rack    : RackSt := {}
  spk     : SpkSt := {}
  hob     : HobSt := {}
  th      : ThSt := {}
  boot    : BootSt := {}
  rb      : RbSt := {}
  out     : List Out := []    -- what the block has sent, newest first: the model's own record [R24; reset none; log entry 133]
  evs     : List PassEvent := []  -- events the command in progress has raised, oldest first, not yet at the Pass [R24; reset none]
  todo    : List Todo := []   -- what units have asked of each other in the command in progress [the model's own; reset none; log entry 133]
  freeCtr : Nat := 0          -- the model's own counter of free values used [no rule of the spec; DESIGN CHOICE 0, log entry 1]
  deriving DecidableEq, Repr

/-- The state of the block. -/
structure State where
  body    : Body := {}        -- the units
  pass    : PassSt := {}      -- the single event arbiter
  pending : List Instr := []  -- commands that wait, first in, first out [the block's command queue; reset empty]
  deriving DecidableEq, Repr

/-- The registers whose reset value the spec gives as a constant other than zero. -/
def resetRegs : SMap Word := 
  [(0x0, 0x1f4c6420b1000000), (0x20000, 0x1), (0x4c000, 0x40), (0x80018, 0x258), (0x8a018, 0x1), (0x120000, 0x1), (0x120100, 0x1), (0x120118, 0xffffffffffffffff)] ++
  [(0x120158, 0xffffffffffffffff), (0x120198, 0xffffffffffffffff), (0x1201d8, 0xffffffffffffffff), (0x120218, 0xffffffffffffffff), (0x120258, 0xffffffffffffffff), (0x120298, 0xffffffffffffffff), (0x1202d8, 0xffffffffffffffff)] ++
  [(0x120318, 0xffffffffffffffff), (0x120358, 0xffffffffffffffff), (0x120398, 0xffffffffffffffff), (0x1203d8, 0xffffffffffffffff), (0x120418, 0xffffffffffffffff), (0x120458, 0xffffffffffffffff), (0x120498, 0xffffffffffffffff), (0x1204d8, 0xffffffffffffffff)]

/-- The block right after reset, before the always-on domain is powered: every register at its reset value, nothing queued. -/
def State.reset : State := { body := { regs := resetRegs } }

end Sys2Proof.Machine
end

