-- ==== Sys2Proof/Machine/Ops.lean ====
section
/-! DEFINITION. The named operations every unit is written over: sparse maps, register fields, events, messages sent. -/

namespace Sys2Proof.Machine

/-! ## Sparse maps: keys strictly rising -/

/-- The value at a key. -/
def mget {α : Type} : SMap α → Nat → Option α
  | [], _ => none
  | (k, v) :: r, a => if a = k then some v else mget r a

/-- The value at a key, or a default. -/
def mgetD {α : Type} (m : SMap α) (a : Nat) (d : α) : α := (mget m a).getD d

/-- Set the value at a key, keeping the keys strictly rising. -/
def mset {α : Type} : SMap α → Nat → α → SMap α
  | [], a, x => [(a, x)]
  | (k, v) :: r, a, x =>
    if a < k then (a, x) :: (k, v) :: r
    else if a = k then (a, x) :: r
    else (k, v) :: mset r a x

/-- Drop a key. -/
def merase {α : Type} : SMap α → Nat → SMap α
  | [], _ => []
  | (k, v) :: r, a => if a = k then merase r a else (k, v) :: merase r a

/-- Set the value at a key, where a value equal to what an unlisted key reads as is not listed. -/
def mput {α : Type} [DecidableEq α] (d : α) (m : SMap α) (a : Nat) (x : α) : SMap α :=
  if x = d then merase m a else mset m a x

/-- The canonical form of a memory: keys strictly rising from `lo`, no entry equal to what an unlisted key reads as. -/
def Memory.wfFrom {α : Type} [DecidableEq α] (d : Nat → α) : Nat → SMap α → Bool
  | _, [] => true
  | lo, (k, v) :: r => decide (lo ≤ k) && decide (v ≠ d k) && Memory.wfFrom d (k + 1) r

/-- The canonical form of a memory. -/
def Memory.wf {α : Type} [DecidableEq α] (d : Nat → α) (m : SMap α) : Bool := Memory.wfFrom d 0 m

/-- Insert into an ascending list without repeats. -/
def insertNat : List Nat → Nat → List Nat
  | [], a => [a]
  | k :: r, a => if a < k then a :: k :: r else if a = k then k :: r else k :: insertNat r a

/-- Replace the element at a position. -/
def setAt {α : Type} : List α → Nat → α → List α
  | [], _, _ => []
  | _ :: r, 0, x => x :: r
  | y :: r, n + 1, x => y :: setAt r n x

/-- Insert into a list sorted by a key, after equal keys. -/
def insertBy {α : Type} (k : α → Nat) (x : α) : List α → List α
  | [] => [x]
  | y :: r => if k x < k y then x :: y :: r else y :: insertBy k x r

/-- Sort by a key, keeping the order of equal keys. -/
def sortBy {α : Type} (k : α → Nat) (l : List α) : List α := l.foldl (fun a x => insertBy k x a) []

/-! ## Numbers -/

/-- Ceiling of a quotient; 0 for a divisor of 0. -/
def cdiv (a b : Nat) : Nat := if b = 0 then 0 else (a + b - 1) / b

/-- Bit `i` of a number. -/
def nbit (n i : Nat) : Bool := n / 2 ^ i % 2 == 1

/-- Bits [lo+w-1 : lo] of a number. -/
def nbits (n lo w : Nat) : Nat := n / 2 ^ lo % 2 ^ w

/-- 1 for true. -/
def b2n (b : Bool) : Nat := if b then 1 else 0

/-- A signed value of `w` bits read from a field. -/
def sgn (w n : Nat) : Int := if n % 2 ^ w < 2 ^ (w - 1) then ((n % 2 ^ w : Nat) : Int) else ((n % 2 ^ w : Nat) : Int) - ((2 ^ w : Nat) : Int)

/-- A signed value as a field of `w` bits. -/
def unsgn (w : Nat) (i : Int) : Nat := (i % ((2 ^ w : Nat) : Int)).toNat

/-- `n` consecutive numbers from `a`. -/
def range' (a n : Nat) : List Nat := (List.range n).map (a + ·)

/-! ## Register fields -/

/-- The part of a 64-bit word that a field covers. -/
def Fld.ofWord (f : Fld) (x : Word) : Nat := x.toNat / 2 ^ f.lo % 2 ^ f.w

/-- A word with a field replaced; bits of the value beyond the field are dropped. -/
def Fld.insert (f : Fld) (x : Word) (v : Nat) : Word :=
  let m : Word := BitVec.ofNat 64 ((2 ^ f.w - 1) * 2 ^ f.lo)
  (x &&& ~~~m) ||| (BitVec.ofNat 64 (v % 2 ^ f.w * 2 ^ f.lo) &&& m)

/-- Fields that share no bit. -/
def Fld.apart (f g : Fld) : Bool :=
  decide (g.addr ≠ f.addr) || (decide (g.lo + g.w ≤ 64) && (decide (g.lo + g.w ≤ f.lo) || decide (f.lo + f.w ≤ g.lo)))

namespace Body

/-- The word a register holds. -/
def word (s : Body) (a : Nat) : Word := mgetD s.regs a 0
/-- Set the word a register holds. -/
def setWord (s : Body) (a : Nat) (x : Word) : Body := { s with regs := mput 0 s.regs a x }
/-- The value of a field. -/
def get (s : Body) (f : Fld) : Nat := f.ofWord (s.word f.addr)
/-- A field of one bit as a truth value. -/
def flag (s : Body) (f : Fld) : Bool := s.get f != 0
/-- Set a field. -/
def put (s : Body) (f : Fld) (v : Nat) : Body := s.setWord f.addr (f.insert (s.word f.addr) v)
/-- Set a one-bit field. -/
def putB (s : Body) (f : Fld) (b : Bool) : Body := s.put f (b2n b)
/-- Add to a counter that wraps. -/
def addWrap (s : Body) (f : Fld) (n : Nat) : Body := s.put f (s.get f + n)
/-- Count one in a counter that wraps. -/
def inc (s : Body) (f : Fld) : Body := s.addWrap f 1
/-- Add to a counter that saturates. -/
def addSat (s : Body) (f : Fld) (n : Nat) : Body := s.put f (min (s.get f + n) (2 ^ f.w - 1))
/-- Count one in a counter that saturates. -/
def incSat (s : Body) (f : Fld) : Body := s.addSat f 1

/-! ## Events and messages -/

/-- Present an event to the Pass (R24). -/
def post (s : Body) (src : Nat) (ev : Event) (arg : Nat := 0) : Body := { s with evs := s.evs ++ [⟨src, ev, arg⟩] }
/-- Present a named event. -/
def postN (s : Body) (src : Nat) (n : EvName) (arg : Nat := 0) : Body := s.post src (.named n) arg
/-- Set a bit of an EVENTS register and present its event. -/
def raise (s : Body) (src : Nat) (f : Fld) (arg : Nat := 0) : Body := (s.put f 1).post src (.bit f) arg
/-- Send something out of the block. -/
def send (s : Body) (o : Out) : Body := { s with out := o :: s.out }
/-- Apply a change when a condition holds. -/
def when (s : Body) (c : Bool) (f : Body → Body) : Body := if c then f s else s
/-- Apply a change for each element of a list in order. -/
def forEach {α : Type} (s : Body) (l : List α) (f : Body → α → Body) : Body := l.foldl f s
/-- Use up a number for a free value. -/
def fresh (s : Body) : Body := { s with freeCtr := s.freeCtr + 1 }
/-- Use up `n` numbers for free values. -/
def freshN (s : Body) (n : Nat) : Body := { s with freeCtr := s.freeCtr + n }

/-- The frame number (R38). -/
def frameNo (s : Body) : Nat := s.get F.FRAME_NOW_FRAME

end Body

/-! ## Unit indices (R34) -/

namespace U
def time : Nat := 0
def nc : Nat := 1
def sp (c : Nat) : Nat := 2 + c
def md (c : Nat) : Nat := 14 + c
def mtl : Nat := 46
def scourer : Nat := 47
def persist : Nat := 48
def twin : Nat := 49
def cxl (p : Nat) : Nat := 50 + p
def eth (p : Nat) : Nat := 66 + p
def rdma : Nat := 74
def ramekin : Nat := 75
def queue : Nat := 76
def sched : Nat := 77
def cipher : Nat := 78
def dexith : Nat := 79
def flash : Nat := 80
def rack : Nat := 81
def spike : Nat := 82
def hob : Nat := 83
def thermal : Nat := 84
def boot : Nat := 85
def checker : Nat := 86
def pass : Nat := 87
end U

namespace Body

/-- Lifecycle state of a unit (R29, R35). -/
def unit (s : Body) (u : Nat) : UnitState :=
  match s.get (F.UNIT_STATE_STATE u) with
  | 0 => .off | 1 => .starting | 2 => .on | _ => .stopping

/-- Whether a unit is ON. -/
def isOn (s : Body) (u : Nat) : Bool := s.unit u == .on

end Body

end Sys2Proof.Machine
end

