-- ==== Sys2Proof/Machine/QueueOps.lean ====
section
/-! DEFINITION. The hardware queues (R305 to R311, R313). -/

namespace Sys2Proof.Machine

namespace Body

/-- Words of the queue SRAM (R305). -/
def qSram (s : Body) : Nat := s.cfg.img.fix.queueMib * 131072
/-- A queue. -/
def queue (s : Body) (k : Nat) : Queue := mgetD s.q.qs k {}
/-- Whether a queue works: it is enabled and the unit is not OFF (R305, R313). -/
def qWorks (s : Body) (k : Nat) : Bool := (s.queue k).enabled && s.unit U.queue != .off
/-- Words of the head item already popped (R306, R309): items are whole but for the head's. -/
def qPopped (q : Queue) : Nat := (q.item - q.words.length % max 1 q.item) % max 1 q.item
/-- Free words of a queue. -/
def qFree (q : Queue) : Nat := q.size - q.words.length

/-- Q_CFG, Q_PTR and Q_STAT show the selected queue (R313). -/
def qShow (s : Body) : Body :=
  let k := s.get F.Q_CFG_SEL_QUEUE
  let q := s.queue k
  let s := ((s.put F.Q_CFG_BASE q.base).put F.Q_CFG_SIZE q.size).put F.Q_CFG_ITEM_WORDS q.item
  let s := ((s.put F.Q_CFG_PROD q.prod).put F.Q_CFG_CONS q.cons).putB F.Q_CFG_ENABLE q.enabled
  let s := (s.put F.Q_PTR_HEAD q.head).put F.Q_PTR_TAIL ((q.head + q.words.length) % max 1 q.size)
  let s := (s.put F.Q_PTR_ECHO k).put F.Q_STAT_DROPPED q.dropped
  (s.put F.Q_STAT_PARITY q.parity).put F.Q_STAT_FLUSHES q.flushes

/-- Replace a queue. -/
def setQueue (s : Body) (k : Nat) (q : Queue) : Body := ({ s with q := { s.q with qs := mput {} s.q.qs k q } }).qShow

/-! ## Items in and out (R306 to R310) -/

/-- Empty a queue as a write of Q_FLUSH does (R309). -/
def qFlush (s : Body) (k : Nat) : Body :=
  let q := s.queue k
  s.setQueue k { q with head := (q.head + q.words.length) % max 1 q.size, words := [], staged := [], dropped := 0, dropF := 0,
                        flushes := (q.flushes + 1) % 65536 }

/-- Commit an item (R308, R310): whole, or dropped into the gap record, or dropped because the queue is disabled. The flag says whether
the item entered. -/
def qCommit (s : Body) (k : Nat) (l : List Word) : Body × Bool :=
  let q := s.queue k
  if !s.qWorks k then (s.raise U.queue F.Q_EVENTS_DISABLED_PUSH k, false)
  else if q.dropped != 0 || qFree q < q.item then
    (s.setQueue k { q with dropped := min (q.dropped + 1) (2 ^ 32 - 1), dropF := if q.dropped = 0 then s.frameNo else q.dropF }, false)
  else (s.setQueue k { q with words := q.words ++ l.map fun w => QWord.mk w false false }, true)

/-- The gap marker enters as soon as there is room for an item (R308). -/
def qGapMarker (s : Body) (k : Nat) : Body :=
  let q := s.queue k
  if !s.qWorks k || q.dropped = 0 || qFree q < q.item then s
  else
    let w0 : Word := BitVec.ofNat 64 (q.dropped + q.dropF % 2 ^ 32 * 2 ^ 32)
    let item := (List.range q.item).map fun i => QWord.mk (if i = 0 then w0 else 0) true false
    (s.setQueue k { q with words := q.words ++ item, dropped := 0, dropF := 0 }).raise U.queue F.Q_EVENTS_GAP k

/-- A firmware producer writes one word of an item (R306). -/
def qPush (s : Body) (slot : Nat) (w : Word) : Body :=
  if !s.flag (F.Q_BIND_BOUND slot) then s
  else
    let k := s.get (F.Q_BIND_QUEUE slot)
    let q := s.queue k
    if q.prod != 0 then s.raise U.queue F.Q_EVENTS_WRONG_SIDE k
    else if q.staged.length + 1 < q.item then s.setQueue k { q with staged := q.staged ++ [w] }
    else ((s.setQueue k { q with staged := [] }).qCommit k (q.staged ++ [w])).1

/-- The checker finds that the parity of a word held fails (R307): `i` words from the head. -/
def qSpoil (s : Body) (k i : Nat) : Body :=
  let q := s.queue k
  match q.words[i]? with
  | some w => s.setQueue k { q with words := setAt q.words i { w with bad := true } }
  | none => s

/-- Count words read whose parity fails (R307). -/
def qParity (s : Body) (k n : Nat) : Body :=
  if n = 0 then s
  else
    let q := s.queue k
    (s.setQueue k { q with parity := min (q.parity + n) 65535 }).raise U.queue F.Q_EVENTS_PARITY k

/-- Take the head word (R306, R307). -/
def qTake (s : Body) (k : Nat) : Body × Option QWord :=
  let q := s.queue k
  match q.words with
  | [] => (s, none)
  | w :: r => ((s.setQueue k { q with words := r, head := (q.head + 1) % max 1 q.size }).qParity k (b2n w.bad), some w)

/-- A hardware consumer takes the head item whole, its words with their poison (R306, R307). -/
def qTakeItem (s : Body) (k : Nat) : Body × List QWord :=
  let q := s.queue k
  let n := q.item
  let l := q.words.take n
  ((s.setQueue k { q with words := q.words.drop n, head := (q.head + n) % max 1 q.size }).qParity k (l.filter (·.bad)).length, l)

/-- A read of Q_POP (R306, R309): the head word, or zero. -/
def qPop (s : Body) (slot : Nat) : Body :=
  if !s.flag (F.Q_BIND_BOUND slot) then s.send (.qWord slot 0 false)
  else
    let k := s.get (F.Q_BIND_QUEUE slot)
    if (s.queue k).cons != 0 then (s.send (.qWord slot 0 false)).raise U.queue F.Q_EVENTS_WRONG_SIDE k
    else match s.qTake k with
      | (s, some w) => s.send (.qWord slot w.data w.bad)
      | (s, none) => (s.send (.qWord slot 0 false)).raise U.queue F.Q_EVENTS_UNDERFLOW k

/-! ## Asynchronous RDMA events (R289) -/

/-- Class of an asynchronous event: its index in RDMA_EQ_MAP. -/
def rdmaClass (code : Nat) : Nat := if code = 0x40 then 4 else code / 16
/-- What an asynchronous event carries, as one number: the port, OBJECT and DETAIL. -/
def rdmaArg (port object detail : Nat) : Nat := port % 2 ^ 8 + object % 2 ^ 32 * 2 ^ 8 + detail % 2 ^ 64 * 2 ^ 40
/-- Post an asynchronous event. -/
def rdmaPost (s : Body) (code port object detail : Nat) : Body := s.postN U.rdma (.rdmaAsync code) (rdmaArg port object detail)
/-- The 32-byte entry of a stamped event enters the event queue of its class. -/
def rdmaEntry (s : Body) (code arg seq frame : Nat) : Body :=
  let k := s.get ⟨A.RDMA_EQ_MAP, 12 * rdmaClass code, 12⟩
  let w0 := code + nbits arg 0 8 * 2 ^ 16 + nbits arg 8 32 * 2 ^ 32
  (s.qCommit k [BitVec.ofNat 64 w0, BitVec.ofNat 64 seq, BitVec.ofNat 64 frame, BitVec.ofNat 64 (nbits arg 40 64)]).1

/-! ## Configuration (R305) -/

/-- Whether two word ranges overlap. -/
def qOverlap (a b : Queue) : Bool := a.base < b.base + b.size && b.base < a.base + a.size

/-- Whether a queue may be enabled (R305). -/
def qMayEnable (s : Body) (k : Nat) (q : Queue) : Bool :=
  1 ≤ q.item && q.item ≤ 16 && q.size % q.item == 0 && 2 * q.item ≤ q.size && q.base + q.size ≤ s.qSram
    && !s.q.qs.any fun p => p.1 != k && p.2.enabled && qOverlap p.2 q

/-- The fields of a word of Q_CFG laid over a queue. -/
def qOf (w : Word) (q : Queue) : Queue :=
  { q with base := F.Q_CFG_BASE.ofWord w, size := F.Q_CFG_SIZE.ofWord w, item := F.Q_CFG_ITEM_WORDS.ofWord w
           prod := F.Q_CFG_PROD.ofWord w, cons := F.Q_CFG_CONS.ofWord w }

/-- A word written to Q_CFG of a queue (R305). -/
def qConfigure (s : Body) (k : Nat) (w : Word) : Body :=
  let q := s.queue k
  let en := F.Q_CFG_ENABLE.ofWord w == 1
  let n := qOf w q
  let refuse := fun (s : Body) => s.qShow.raise U.queue F.Q_EVENTS_CFG_REFUSED k
  if q.enabled then
    let s := if en then s else (s.setQueue k { q with enabled := false }).qFlush k
    if n != q then refuse s else s.qShow
  else if n.prod > 2 || n.cons > 2 then refuse s
  else
    let n := { n with head := if n.base = q.base && n.size = q.size then q.head else 0, staged := if n.item = q.item then q.staged else [] }
    if !en then s.setQueue k n
    else if s.qMayEnable k n then s.setQueue k { n with enabled := true }
    else refuse (s.setQueue k n)

/-! ## Snapshots and reports (R311, R313) -/

/-- Snapshot a word of a queue (R311). -/
def qWinSnap (s : Body) : Body :=
  let k := s.get F.Q_WIN_SEL_QUEUE
  let o := s.get F.Q_WIN_SEL_OFFSET
  let s := ((s.setWord A.Q_WIN_TAG 0).put F.Q_WIN_TAG_ECHO_QUEUE k).put F.Q_WIN_TAG_ECHO_OFFSET o
  match (s.queue k).words[o]? with
  | some w =>
    let s := (s.setWord A.Q_WIN_DATA w.data).put F.Q_WIN_TAG_VALID 1
    ((s.putB F.Q_WIN_TAG_GAP w.gap).putB F.Q_WIN_TAG_POISON w.bad).qParity k (b2n w.bad)
  | none => s.setWord A.Q_WIN_DATA 0

/-- The word that Q_PEEK of a slot shows (R311). -/
def qPeek (s : Body) (slot : Nat) : Word :=
  if !s.flag (F.Q_BIND_BOUND slot) then 0
  else (((s.queue (s.get (F.Q_BIND_QUEUE slot))).words.head?).map (·.data)).getD 0

/-- The word that Q_HEAD of a slot shows (R311). -/
def qHead (s : Body) (slot : Nat) : Word :=
  if !s.flag (F.Q_BIND_BOUND slot) then 0
  else
    let q := s.queue (s.get (F.Q_BIND_QUEUE slot))
    let item := q.words.take (q.item - qPopped q)
    let n := b2n q.words.isEmpty + 2 * b2n (item.any (·.gap)) + 4 * b2n (item.any (·.bad)) + 8 * qPopped q + 256 * q.words.length
    BitVec.ofNat 64 n

/-! ## Lifecycle (R313) -/

/-- The start step: every word of the queue SRAM is zero with good parity. -/
def qStart (s : Body) : Body :=
  ({ s with q := { s.q with qs := s.q.qs.map fun (p : Nat × Queue) =>
    (p.1, { p.2 with words := p.2.words.map fun _ => QWord.mk 0 false false }) } }).qShow

/-- Whether the engines that use queues and pools are OFF (R304, R313). -/
def enginesOff (s : Body) : Bool := s.unit U.rdma == .off && s.unit U.sched == .off

/-- The stop steps clear every ENABLE, which discards the contents (R305, R313). -/
def qStop (s : Body) : Body :=
  s.forEach (s.q.qs.map (·.1)) fun s k =>
    if (s.queue k).enabled then (s.setQueue k { s.queue k with enabled := false }).qFlush k else s

end Body

end Sys2Proof.Machine
end

