-- ==== Sys2Proof/Config.lean ====
section
/-! DEFINITION. What an implementation fixes and the spec leaves open: free values and uninterpreted functions. None has a body, so
nothing can be proved of a value of one. -/

namespace Sys2Proof.Config

/-- A fresh open value for each use: random bytes (R358, R405, R345), the reads of a plane that the spec gives no value for.
Log entry 1. -/
opaque freeWord : Nat → Word

/-- The FCLK cycle of a stamp, by PASS_SEQ (R24). Log entry 4. -/
opaque stampCycle : Nat → Nat

/-- The source index a gap marker shows, by its PASS_SEQ: the spec gives none (R368). Log entry 4. -/
opaque gapSource : Nat → BitVec 8

/-- The 16-bit code of an event, from what names it (R24, R400 gives three of them). Log entry 5. -/
opaque eventCode : Nat → Nat → Nat → BitVec 16

/-- SHA-384 as an uninterpreted function: word `n` of the digest of a byte string held as words (R66, R356, R381). Log entry 6. -/
opaque sha384 : List Word → Nat → Word

/-- The hash functions that pick a cache or Stockpot index where the spec names no function. Log entry 6. -/
opaque hash : Nat → Nat → Nat

/-- The tag and ciphertext of AES-256-GCM as uninterpreted functions of key generation, nonce and words (R348). Log entry 6. -/
opaque gcm : Nat → Nat → List Word → Nat → Word

/-- The inverse of the GCM stream (R348). Log entry 6. -/
opaque gcmOpen : Nat → Nat → Nat → LineData → LineData

/-- The GCM stream over one line: key generation, nonce, line index, plaintext (R348). Log entry 6. -/
opaque gcmSeal : Nat → Nat → Nat → LineData → LineData

/-- Keys a key-store slot or page derives: the key-agreement public key's words (R337, R361). Log entry 6. -/
opaque kaPub : Nat → Word

/-- Word `n` of a CXL event record, which CXL 3.1 lays out: code, handle, timestamp, DPA (R254, R255, R438). Log entry 6. -/
opaque eventRecord : Nat → Nat → Nat → Nat → Nat → Word

/-- Word `n` of a logical device's CDAT, which CXL 3.1 lays out: sequence number, size, link rate (R258, R438). Log entry 6. -/
opaque cdatWord : Nat → Nat → Nat → Nat → Word

/-- Payload length of a mailbox answer, which CXL 3.1 gives: opcode, return code (R438). Log entry 6. -/
opaque mailboxLength : Nat → Nat → BitVec 20

/-- Word `n` of the digest of the boot ROM (R356, R367). Log entry 6. -/
opaque bootRom : Nat → Word

end Sys2Proof.Config
end

