-- ==== Sys2Proof/Machine/Rack.lean ====
section
/-! DEFINITION. The Rack (R386 to R399): bursts, rings, counters, two-copy records. -/

namespace Sys2Proof.Machine

/-! ## CRC-32 -/

/-- One bit of the reflected IEEE 802.3 CRC-32. -/
def crcBit (c : BitVec 32) : BitVec 32 := if c.getLsbD 0 then (c >>> 1) ^^^ 0xEDB88320#32 else c >>> 1
/-- One byte. -/
def crcByte (c : BitVec 32) (b : BitVec 8) : BitVec 32 :=
  crcBit (crcBit (crcBit (crcBit (crcBit (crcBit (crcBit (crcBit (c ^^^ b.zeroExtend 32))))))))
/-- IEEE 802.3 CRC-32 of bytes. -/
def crc32 (l : List (BitVec 8)) : BitVec 32 := ~~~(l.foldl crcByte 0xFFFFFFFF#32)
/-- The bytes of a word, byte 0 in bits [7:0] (R459). -/
def wordBytes (x : Word) : List (BitVec 8) := (List.range 8).map fun i => BitVec.ofNat 8 (x.toNat / 2 ^ (8 * i))
/-- A word with the CRC-32 of the words before it and of its own low half in its high half (R395, R400). -/
def sealWords (l : List Word) (low : Nat) : List Word :=
  let bs := l.flatMap wordBytes ++ (wordBytes (BitVec.ofNat 64 low)).take 4
  l ++ [BitVec.ofNat 64 (low % 2 ^ 32 + (crc32 bs).toNat * 2 ^ 32)]
/-- Whether the CRC-32 in the high half of the last word matches. -/
def crcOk (l : List Word) : Bool :=
  let n := l.length - 1
  (l.drop n) == (sealWords (l.take n) ((l.getLastD 0).toNat % 2 ^ 32)).drop n

namespace Body

/-! ## Bursts (R386 to R388) -/

/-- Queue a burst. -/
def rackPut (s : Body) (o : RackOrder) (w : RackWhat) : Body :=
  { s with rack := { s.rack with queue := s.rack.queue ++ [⟨o, w⟩] } }

/-- Order number of R388. -/
def orderNo : RackOrder → Nat
  | .powerFail => 1 | .ring => 2 | .record => 3 | .spike => 4 | .firmware => 5

/-- The first burst of the lowest order number, with the rest of the queue (R388). -/
def pickBurst (q : List Burst) : Option (Burst × List Burst) :=
  let best := q.foldl (fun m b => min m (orderNo b.order)) 6
  match q.findIdx? (fun b => orderNo b.order == best) with
  | none => none
  | some i => (q[i]?).map (fun b => (b, q.eraseIdx i))

/-- Whether the supply, or the temperature at TS_21, forbids a burst (R387). -/
def rackSupplyHold (s : Body) : Bool := s.rack.aonMv < 760
/-- TS_21 below −45 °C (R387). -/
def rackTempHold (s : Body) : Bool :=
  match mget s.th.die 21 with
  | some t => t.valid && t.temp < -360
  | none => false

/-- A group as the cells hold it. -/
def group (s : Body) (g : Nat) : Word := mgetD s.rack.cells g 0
/-- Write words into consecutive groups; a written group reads well again. -/
def writeGroups (s : Body) (g : Nat) (l : List Word) : Body :=
  { s with rack := { s.rack with
      cells := (l.zip (range' g l.length)).foldl (fun m p => mput 0 m p.2 p.1) s.rack.cells
      bad := s.rack.bad.filter (fun b => b < g || g + l.length ≤ b) } }

/-! ## Rings (R391) -/

/-- First group of ring `r`, slot `i`. -/
def ringGroup (r i : Nat) : Nat := 0x4000 + 128 * r + 2 * i

/-- Store a mark: the value goes into two successive slots, first then second (R391). -/
def storeMark (s : Body) (r v : Nat) : Body :=
  let q := mgetD s.rack.ring r 0
  let one (k : Nat) : Burst := ⟨.ring, .data (ringGroup r ((q + k) % 64)) [BitVec.ofNat 64 v, BitVec.ofNat 64 ((q + k) % 2 ^ 56 + r * 2 ^ 56)]⟩
  { s with rack := { s.rack with queue := s.rack.queue ++ [one 1, one 2], ring := mset s.rack.ring r (q + 2), mark := mset s.rack.mark r v } }

/-- Whether a burst for ring `r` still waits or runs. -/
def ringBusy (s : Body) (r : Nat) : Bool :=
  let is (b : Burst) : Bool := match b.what with
    | .data g _ => b.order == .ring && ringGroup r 0 ≤ g && g < ringGroup (r + 1) 0
    | .spike => false
  s.rack.queue.any is || (s.rack.cur.map is).getD false

/-- The valid slot of highest sequence of a ring: its sequence and value (R391). -/
def ringInForce (s : Body) (r : Nat) : Option (Nat × Nat) :=
  (List.range 64).foldl (fun best i =>
    let g := ringGroup r i
    let t := (s.group (g + 1)).toNat
    if s.rack.bad.contains g || s.rack.bad.contains (g + 1) || t / 2 ^ 56 != r || t % 2 ^ 56 == 0 then best
    else match best with
      | some (q, _) => if q < t % 2 ^ 56 then some (t % 2 ^ 56, (s.group g).toNat) else best
      | none => some (t % 2 ^ 56, (s.group g).toNat)) none

/-! ## Counters (R392 to R394) -/

/-- Cells of counter k. -/
def cellCount (k : Nat) : Nat := if k = 0 then 3 else 2
/-- Highest value of counter k: counter 0 has 40 bits, the others 32. -/
def counterMax (k : Nat) : Nat := if k = 0 then 2 ^ 40 - 1 else 2 ^ 32 - 1
/-- A counter as the keeper core serves it. -/
def counter (s : Body) (k : Nat) : Nat := mgetD s.rack.cnt k 0
/-- Cell `i` of a value. -/
def digit (v i : Nat) : Nat := v / 65536 ^ i % 65536
/-- A cell group: DIGIT, CARRY, TARGET. -/
def cellWord (d c t : Nat) : Word := BitVec.ofNat 64 (d + c * 2 ^ 16 + t * 2 ^ 32)

/-- The cell writes of one increment of one copy, as R393's procedure orders them. -/
def incrementWrites (k v copy : Nat) : List Burst :=
  let n := cellCount k
  let carries := ((List.range (n - 1)).filter fun i => (List.range (i + 1)).all fun j => digit v j == 65535).length
  let at_ (i : Nat) (x : Word) : Burst := ⟨.record, .data (8 * k + 4 * copy + i) [x]⟩
  let up := (List.range carries).map fun i => at_ i (cellWord 0 1 ((digit v (i + 1) + 1) % 65536))
  let top := at_ carries (cellWord (digit v carries + 1) 0 0)
  let clear := (List.range carries).reverse.map fun i => at_ i (cellWord 0 0 ((digit v (i + 1) + 1) % 65536))
  up ++ [top] ++ clear

/-- Increment a counter: copy A, then copy B, one cell a burst; at its highest value it stays (R392, R393). -/
def incCounter (s : Body) (k : Nat) : Body :=
  let v := s.counter k
  if v ≥ counterMax k then s
  else { s with rack := { s.rack with
    cnt := mset s.rack.cnt k (v + 1)
    queue := s.rack.queue ++ incrementWrites k v 0 ++ incrementWrites k v 1 } }

/-- Cell `i` of a copy of a counter as a reader takes it: TARGET of the cell below where that has CARRY (R393). -/
def readCell (s : Body) (k copy i : Nat) : Nat :=
  let w (j : Nat) : Nat := (s.group (8 * k + 4 * copy + j)).toNat
  let own := w i % 65536
  match i with
  | 0 => own
  | j + 1 => if nbit (w j) 16 then nbits (w j) 32 16 else own

/-- Whether a cell of a copy reads uncorrectable. -/
def cellBad (s : Body) (k copy i : Nat) : Bool := s.rack.bad.contains (8 * k + 4 * copy + i)

/-- A counter rebuilt or read at boot (R393, R394): its value, whether a carry or a copy was completed, whether it was lost. -/
def bootCounter (s : Body) (k : Nat) (newest : Option SpkRec) : Nat × Bool × Bool :=
  let n := cellCount k
  let idx := List.range n
  let copyVal (c : Nat) : Nat := idx.foldl (fun a i => a + s.readCell k c i * 65536 ^ i) 0
  let badIn (c : Nat) : Bool := idx.any (s.cellBad k c)
  let lost := idx.any fun i => s.cellBad k 0 i && s.cellBad k 1 i
  let carry := idx.any fun i => (List.range 2).any fun c => nbit (s.group (8 * k + 4 * c + i)).toNat 16
  if lost then
    let byCells := idx.foldl (fun a i =>
      let one (c : Nat) : Nat := if s.cellBad k c i then 0 else s.readCell k c i
      a + max (one 0) (one 1) * 65536 ^ i) 0
    let v := match newest with
      | some r => if k = 0 then r.secs + 1 else if k = 1 then r.cycles + 1 else byCells
      | none => byCells
    (min v (counterMax k), false, true)
  else
    let v := if badIn 0 then copyVal 1 else if badIn 1 then copyVal 0 else max (copyVal 0) (copyVal 1)
    let v := if badIn 0 && badIn 1 then idx.foldl (fun a i =>
        a + (if s.cellBad k 0 i then s.readCell k 1 i else if s.cellBad k 1 i then s.readCell k 0 i
          else max (s.readCell k 0 i) (s.readCell k 1 i)) * 65536 ^ i) 0 else v
    (v, carry || (copyVal 0 != copyVal 1), false)

/-- Write a counter's value into both copies (R393, R394). -/
def writeCounter (s : Body) (k v : Nat) : Body :=
  let w := (List.range (cellCount k)).map fun i => cellWord (digit v i) 0 0
  let s := { s with rack := { s.rack with cnt := mput 0 s.rack.cnt k v } }
  (s.writeGroups (8 * k) w).writeGroups (8 * k + 4) w

/-! ## Two-copy records (R395) -/

/-- First group of a copy of the record at byte offset `off`. -/
def recGroup (off copy : Nat) : Nat := 0x8000 + 0x8000 * copy + off / 8

/-- The words of a copy of a record of `n` words when it is valid. -/
def recCopy (s : Body) (off n copy : Nat) : Option (List Word) :=
  let g := recGroup off copy
  let l := (range' g n).map s.group
  if (range' g n).any s.rack.bad.contains || l.all (· == 0) || !crcOk l then none else some l

/-- The record in force: the valid copy of higher SEQUENCE, the second when they are equal (R69, R395). -/
def recRead (s : Body) (off n : Nat) : Option (List Word) :=
  match s.recCopy off n 0, s.recCopy off n 1 with
  | some a, some b => if (b.headD 0).toNat < (a.headD 0).toNat then some a else some b
  | some a, none => some a
  | none, b => b

/-- Write a record in two copies, SEQUENCE one above the one it replaces (R395): `body` holds the words between SEQUENCE and the last
word, whose low half is `low`. -/
def recWrite (s : Body) (o : RackOrder) (off : Nat) (body : List Word) (low : Nat) : Body :=
  let n := body.length + 2
  let pend := s.rack.queue.filterMap fun b => match b.what with
    | .data g w => if g == recGroup off 1 then w.head? else none
    | .spike => none
  let q := pend.foldl (fun m x => max m x.toNat) (match s.recRead off n with | some l => (l.headD 0).toNat | none => 0)
  let l := sealWords (BitVec.ofNat 64 (q + 1) :: body) low
  (s.rackPut o (.data (recGroup off 0) l)).rackPut o (.data (recGroup off 1) l)

end Body

/-! ## The commands of the Rack -/

/-- A burst is done (R386): its groups are written; a firmware burst reports (R398). Spike bursts are the Spike's. -/
def Body.burstData (s : Body) (b : Burst) (g : Nat) (l : List Word) : Body :=
  let s := (s.writeGroups g l).inc F.RACK_COUNT_WRITES
  if b.order == .firmware then (s.put F.RACK_FW_STATUS_STATE 2).raise U.rack F.RACK_EVENTS_FW_DONE else s

/-- A Rack write may start (R387, R388). -/
def Body.burstStart (s : Body) (mv : Nat) : Body :=
  let s := { s with rack := { s.rack with aonMv := mv } }
  if s.rack.cur.isSome then s
  else match Body.pickBurst s.rack.queue with
    | none => s
    | some (b, rest) =>
      if s.rackSupplyHold || s.rackTempHold then
        (s.when s.rackSupplyHold (·.raise U.rack F.RACK_EVENTS_SUPPLY_HOLD)).when s.rackTempHold (·.raise U.rack F.RACK_EVENTS_TEMP_HOLD)
      else { s with rack := { s.rack with cur := some b, queue := rest } }

/-- What a read of a group returns, and whether it is uncorrectable. -/
def Body.groupRead (s : Body) (g : Nat) (spike : Nat → Word) (ecc : Ecc) : Word × Bool :=
  if ecc == .uncorrectable || s.rack.bad.contains g then (0, true)
  else if 0xC0000 ≤ g then (spike (g - 0xC0000), false) else (s.group g, false)

end Sys2Proof.Machine
end

