-- ==== Sys2Proof/Machine/Spike.lean ====
section
/-! DEFINITION. The Spike (R400 to R406) and the event FIFOs of the service cores (R368, R369). -/

namespace Sys2Proof.Machine

/-! ## Records -/

/-- The words of a Spike record (R400). -/
def SpkRec.words (r : SpkRec) : List Word :=
  let code : Nat := match r.ev with
    | .named .bootRecord => 1
    | .named .clearedRecord => 2
    | .named .freezeEndRecord => 3
    | .named _ => (Config.eventCode r.src 0 0).toNat
    | .bit f => (Config.eventCode r.src f.addr f.lo).toNat
  let w (n : Nat) : Word := BitVec.ofNat 64 n
  sealWords [w r.seq, w r.frame, w (r.secs % 2 ^ 40),
    w (r.cycles % 2 ^ 32 + r.src * 2 ^ 32 + (b2n r.fatal + 2 * b2n r.side) * 2 ^ 40 + code * 2 ^ 48),
    w r.det, w r.det2, 0] (Config.stampCycle r.seq % 2 ^ 16)

namespace Body

/-- Word `g` of the Spike area of the Rack (R390, R401). -/
def spikeAreaWord (s : Body) (g : Nat) : Word :=
  match mget s.spk.rack (g / 8) with
  | some r => (r.words[g % 8]?).getD 0
  | none => 0

/-- Whether no group of a record of the Spike area is uncorrectable (R402). -/
def spkGood (s : Body) (k : Nat) : Bool := !s.rack.bad.any fun g => 0xC0000 + 8 * k ≤ g && g < 0xC0000 + 8 * k + 8

/-- Whether the Spike records every event of a source (R400). -/
def spkSource (s : Body) (src : Nat) : Bool :=
  if src < 64 then nbit (s.get F.SPK_SRC_EN_0_SOURCES) src else nbit (s.get F.SPK_SRC_EN_1_SOURCES) (src - 64)

/-- Events that another chapter states the Spike records (R22, R331, R358, R404, R406). -/
def spkAlways : Event → Bool
  | .named .cutChange => true
  | .named .forcedRequest => true
  | .named .poisonRecord => true
  | .named .debugOpened => true
  | .named .bootRecord => true
  | .named .clearedRecord => true
  | .named .freezeEndRecord => true
  | .bit f => f == F.PERSIST_EVENTS_POISON_CREATED
  | _ => false

/-- Windows that lose a record of this PASS_SEQ (R403). -/
def spkDropped (s : Body) (seq : Nat) : Body :=
  { s with spk := { s.spk with
      overTo := max s.spk.overTo (seq + 1)
      wins := s.spk.wins.map fun p => (p.1, if p.2.cursor != 0 && p.2.cursor ≤ seq then { p.2 with lost := true } else p.2) } }

/-- Whether the Rack's area holds a record of this PASS_SEQ. -/
def inRackArea (s : Body) (seq : Nat) : Bool := s.spk.rack.any fun p => p.2.seq == seq

/-- Start a flush, or defer it (R401, R404). -/
def spkFlush (s : Body) (pf : Bool) : Body :=
  if s.spk.frozen && !pf then { s with spk := { s.spk with flushReq := true } }
  else match s.spk.flushing with
    | some _ => { s with spk := { s.spk with flushReq := true } }
    | none =>
      let s := { s with spk := { s.spk with flushing := some s.spk.unfl, pfFlush := pf, flushReq := false } }
      if s.spk.unfl = 0 then s else s.rackPut (if pf then .powerFail else .spike) .spike

/-- Enter a record into the SRAM ring (R401): a full ring replaces its oldest record. -/
def spkEnter (s : Body) (r : SpkRec) : Body :=
  let full := s.spk.sram.length ≥ 16384
  let oldest := s.spk.sram.getLast?
  let lostOne := full && s.spk.unfl ≥ 16384
  let s := { s with spk := { s.spk with
    sram := r :: s.spk.sram.take 16383
    unfl := min (s.spk.unfl + 1) 16384 } }
  let s := s.inc F.SPK_COUNT_RECORDED
  let s := match oldest with
    | some o => if full && !s.inRackArea o.seq then s.spkDropped o.seq else s
    | none => s
  let s := if lostOne then
      let first := !s.flag F.SPK_EVENTS_OVERWRITE
      (s.incSat F.SPK_COUNT_OVERWRITTEN).when first (·.raise U.spike F.SPK_EVENTS_OVERWRITE)
    else s
  if s.spk.unfl ≥ 12288 && s.spk.flushing.isNone then s.spkFlush false else s

/-- End a freeze (R404): the side buffer, then the record that ended it, then FREEZE_END with both counts, then a deferred flush. -/
def spkThaw (s : Body) (ender : Option SpkRec) : Body :=
  let side := s.spk.side.map fun r => { r with side := true }
  let (m, f, again) := (s.spk.missed, s.spk.sideFull, s.spk.flushReq)
  let s := { s with spk := { s.spk with frozen := false, side := [], missed := 0, sideFull := 0, flushReq := false } }
  let s := (s.forEach side spkEnter).put F.SPK_CTL_FREEZE 0
  let s := match ender with
    | some r => s.spkEnter r
    | none => s
  let s := (s.post U.spike (.named .freezeEndRecord) (m + f * 2 ^ 32)).raise U.spike F.SPK_EVENTS_FREEZE_END
  s.when again (·.spkFlush false)

/-- The Spike takes a record (R400, R404). -/
def spkTake (s : Body) (r : SpkRec) : Body :=
  if s.spk.frozen then
    if !r.fatal then { s with spk := { s.spk with missed := s.spk.missed + 1 } }
    else if s.spk.side.length < 64 then { s with spk := { s.spk with side := s.spk.side ++ [r] } }
    else
      let s := { s with spk := { s.spk with sideFull := s.spk.sideFull + 1 } }
      ((s.raise U.spike F.SPK_EVENTS_SIDE_FULL).spkThaw (some r)).spkFlush false
  else
    let s := s.spkEnter r
    s.when r.fatal (·.spkFlush false)

/-- Write the next unflushed records, at most 8, oldest first, into the Spike area (R401). -/
def spkWrite8 (s : Body) : Body :=
  match s.spk.flushing with
  | none => s
  | some left =>
    let n := min 8 (min left s.spk.unfl)
    let recs := ((s.spk.sram.drop (s.spk.unfl - n)).take n).reverse
    let s := recs.foldl (fun s r =>
      let s := match mget s.spk.rack s.spk.rackAt with
        | some o => if s.spk.sram.any (fun q => q.seq == o.seq) then s else s.spkDropped o.seq
        | none => s
      let k := s.spk.rackAt
      { s with spk := { s.spk with rack := mset s.spk.rack k r, rackAt := (k + 1) % 32768 }
               rack := { s.rack with bad := s.rack.bad.filter fun g => g < 0xC0000 + 8 * k || 0xC0000 + 8 * k + 8 ≤ g } }) s
    let s := { s with spk := { s.spk with unfl := s.spk.unfl - n, flushing := some (left - n) } }
    let s := s.inc F.RACK_COUNT_WRITES
    if left - n = 0 then s else s.rackPut (if s.spk.pfFlush then .powerFail else .spike) .spike

/-! ## Reading windows (R402, R403) -/

/-- Window number: 0 firmware, 1 BMC, 2 + 16 × port + LD a host. -/
def spkWin : Actor → Nat
  | .firmware => 0
  | .bmc => 1
  | .host p l => 2 + 16 * p + l
  | .debugPort => 0

/-- Whether a window shows records of a source: a host's shows its own port's and fatal-class ones (R402). -/
def spkVisible (w : Nat) (r : SpkRec) : Bool := w < 2 || r.fatal || r.src == U.cxl ((w - 2) / 16)

/-- Every record held, once each: SRAM and the Spike area; one with an uncorrectable group is skipped (R402). -/
def spkHeld (s : Body) : List SpkRec :=
  let rs := (s.spk.rack.filter fun p => s.spkGood p.1).map (·.2)
  s.spk.sram ++ rs.filter fun r => !(s.spk.sram.any fun q => q.seq == r.seq)

/-- The record a window shows: the oldest visible one at or above the cursor (R402). -/
def spkShown (s : Body) (w : Nat) : Option SpkRec :=
  let c := (mgetD s.spk.wins w {}).cursor
  if c = 2 ^ 64 - 1 then none
  else s.spkHeld.foldl (fun best r =>
    if r.seq < c || !spkVisible w r then best
    else match best with
      | some b => if r.seq < b.seq then some r else best
      | none => some r) none

/-- Set a window's cursor; LOST begins anew (R402, R403). -/
def spkSetCursor (s : Body) (w c : Nat) : Body :=
  { s with spk := { s.spk with wins := mset s.spk.wins w { cursor := c, lost := c != 0 && c < s.spk.overTo } } }
    |>.when (w < 2) (·.put (F.SPK_W_CURSOR_SEQ w) c)

/-- Pass the record a window shows (R402, R403). -/
def spkStep (s : Body) (w : Nat) : Body :=
  match s.spkShown w with
  | some r => s.spkSetCursor w (r.seq + 1)
  | none => { s with spk := { s.spk with wins := mset s.spk.wins w { (mgetD s.spk.wins w {}) with lost := false } } }

/-! ## Event FIFOs (R368, R369) -/

/-- A service core. -/
def core (s : Body) (c : Nat) : Core := mgetD s.dx.cores c {}
/-- Set a service core. -/
def setCore (s : Body) (c : Nat) (k : Core) : Body := { s with dx := { s.dx with cores := mset s.dx.cores c k } }

/-- Place a gap marker when a record stands and an entry is free (R369). -/
def evqGap (s : Body) (c : Nat) : Body :=
  let k := s.core c
  if k.gapN = 0 || k.fifo.length ≥ 256 then s
  else
    let s := s.addWrap (F.EVQ_STATUS_DROPPED c) k.gapN
    s.setCore c { k with fifo := k.fifo ++ [.gap k.gapSeq k.gapFrame k.gapN k.gapFatal], gapN := 0, gapSeq := 0, gapFrame := 0, gapFatal := false }

/-- A core that waits for an interrupt goes on (R366): the cores' own masks are part of the program that runs on them. -/
def coreWake (s : Body) (c : Nat) : Body :=
  let k := s.core c
  if k.st == .waiting then (s.setCore c { k with st := .running }).put (F.DX_CORE_STATUS_STATE c) 1 else s

/-- Deliver a stamped event to a core's FIFO, or add it to the gap record (R369). -/
def evqDeliver (s : Body) (c : Nat) (e : Stamp) : Body :=
  let s := s.evqGap c
  let k := s.core c
  if k.gapN != 0 || k.fifo.length ≥ (if e.fatal then 256 else 240) then
    s.setCore c { k with
      gapN := k.gapN + 1, gapFatal := k.gapFatal || e.fatal,
      gapSeq := (if k.gapN = 0 then e.seq else k.gapSeq), gapFrame := (if k.gapN = 0 then e.frame else k.gapFrame) }
  else
    let s := s.setCore c { k with fifo := k.fifo ++ [.ev e] }
    if s.flag (F.EVQ_CTL_IE c) then s.coreWake c else s

end Body

/-- The four words of an event FIFO entry (R368). -/
def EvqEntry.words : EvqEntry → List Word
  | .ev e =>
    let code : Nat := match e.ev with
      | .named _ => (Config.eventCode e.src 0 0).toNat
      | .bit f => (Config.eventCode e.src f.addr f.lo).toNat
    [BitVec.ofNat 64 e.seq, BitVec.ofNat 64 e.frame,
     BitVec.ofNat 64 (Config.stampCycle e.seq % 2 ^ 13 + e.src * 2 ^ 16 + b2n e.fatal * 2 ^ 24 + code * 2 ^ 32), BitVec.ofNat 64 e.arg]
  | .gap q f n ft =>
    [BitVec.ofNat 64 q, BitVec.ofNat 64 f, BitVec.ofNat 64 (Config.stampCycle q % 2 ^ 13 + (Config.gapSource q).toNat * 2 ^ 16 + 2 ^ 25), BitVec.ofNat 64 (n % 2 ^ 32 + b2n ft * 2 ^ 32)]

end Sys2Proof.Machine
end

