-- ==== Sys2Proof/Machine/Window.lean ====
section
/-! DEFINITION. A host's management window (R262, R402): what each logical device sees of CSPACE and of the Spike, and vector 6, which tells
it of a change (R263). -/

namespace Sys2Proof.Machine

namespace Body

/-- How many CXL ports the split gives (R62, R243). -/
def cxlPortCount (s : Body) : Nat := match s.cfg.img.fix.cxlSplit with
  | 0 => 4 | 1 => 8 | _ => 16

/-- Logical devices of a port: 0 to the highest LD that a partition names (R246). -/
def ldCount (s : Body) (p : Nat) : Nat :=
  (((s.cfg.img.qui.parts.filter fun d => nbit d.flags 0 && d.port == p).map (·.ld + 1)).foldl max 0)
/-- The partition of a logical device (R246). -/
def ldPart (s : Body) (p k : Nat) : Option PartDef := s.cfg.img.qui.parts.find? fun d => nbit d.flags 0 && d.port == p && d.ld == k

/-- A port is present and its link is up (R243, R260). -/
def cxlUp (s : Body) (p : Nat) : Bool :=
  p < s.cxlPortCount && (s.isOn (U.cxl p) || s.unit (U.cxl p) == .stopping) && (s.get (F.CXP_STATUS_LINK p) == 2 || s.get (F.CXP_STATUS_LINK p) == 3)
/-- A logical device exists and its host reaches it. -/
def ldUp (s : Body) (p k : Nat) : Bool := s.cxlUp p && k < s.ldCount p

/-- A register of a reading window of the Spike (R402, R403, R408), by its offset in the window. -/
def spkWindowWord (s : Body) (w off : Nat) : Word :=
  let shown := s.spkShown w
  if off = 0 then BitVec.ofNat 64 (mgetD s.spk.wins w {}).cursor
  else if off = 0x10 then
    let ahead := match shown with
      | some r => (s.spkHeld.filter fun x => r.seq < x.seq && spkVisible w x).length
      | none => 0
    let rack : Bool := match shown with
      | some r => !(s.spk.sram.any fun x => x.seq == r.seq)
      | none => false
    BitVec.ofNat 64 (b2n shown.isSome + 2 * b2n (mgetD s.spk.wins w {}).lost + 4 * b2n rack + ahead % 2 ^ 16 * 2 ^ 16)
  else if 0x40 ≤ off && off < 0x80 then ((shown.map (·.words)).getD []).getD ((off - 0x40) / 8) 0
  else 0

/-- The CSPACE register that a host's management window shows at an offset (R262): none for any other offset. -/
def windowReg (s : Body) (p k off : Nat) : Option Nat :=
  if off < 0x20 then (s.ldPart p k).map fun d => A.PART_BASE d.id + off
  else if off = 0x40 then some A.FRAME_NOW
  else if off = 0x48 then some A.FRAME_PERIOD
  else if off = 0x50 then some A.COMMIT_FRAME
  else if off = 0x58 then some A.PERSIST_STATUS
  else if off = 0x60 then some A.TWIN_STATUS
  else if off = 0x100 then some (A.CXP_LD p k)
  else none

/-- The words that a logical device's management window shows: the CSPACE registers it maps and its reading window of the Spike (R262). -/
def windowWords (s : Body) (p k : Nat) : List Word :=
  (([0, 8, 0x10, 0x18, 0x40, 0x48, 0x50, 0x58, 0x60, 0x100].filterMap (s.windowReg p k)).map s.word)
  ++ [0, 0x10, 0x40, 0x48, 0x50, 0x58, 0x60, 0x68, 0x70, 0x78].map (s.spkWindowWord (spkWin (.host p k)))

/-- The vectors 6 that are due: one for each logical device that is reached and whose window shows another word than it did (R263). -/
def windowEvents (old s : Body) : List PassEvent :=
  (List.range 16).flatMap fun p => if !s.cxlUp p then [] else
    ((List.range (s.ldCount p)).filter fun k => s.windowWords p k != old.windowWords p k).map fun k => ⟨U.cxl p, .named .msix, k * 8 + 6⟩

end Body

end Sys2Proof.Machine
end

