-- ==== Sys2Proof/Machine/Pass.lean ====
section
/-! DEFINITION. The Pass (R24 to R28, R458): presenting, stamping and delivering events, and the frame around every command's effect. -/

namespace Sys2Proof.Machine

/-- The asynchronous RDMA event that is fatal-class (R289, R458). -/
def fatalName : EvName → Nat → Bool
  | .unitEntry, arg => arg == 3 + 8
  | .declareLost, _ => true
  | .lostRole, _ => true
  | .selfTestFailed, _ => true
  | .debugOpened, _ => true
  | .keeperHalted, _ => true
  | .deviceFatal, _ => true
  | _, _ => false

/-- Whether an event is fatal-class (R458). A rail's events carry the rail, WDT_FIRED carries ACTION, a unit entry its state and
FAULT_STOP in bit 3. -/
def Body.fatalClass (s : Body) (e : PassEvent) : Bool :=
  match e.ev with
  | .named n => fatalName n e.arg
  | .bit f =>
    let chip := s.hob.table.any fun r => r.rail == e.arg % 32 && r.kind == 0
    ((List.range 12).any fun c => f == F.SP_CH_EVENTS_FREEZE c)
    || ((List.range 32).any fun c => f == F.MD_EVENTS_SPARE_EXHAUSTED c)
    || f == F.MTL_EVENTS_MAP_UNCORRECTABLE
    || f == F.PERSIST_EVENTS_PFAIL || f == F.PERSIST_EVENTS_VAULT_INCOMPLETE || f == F.PERSIST_EVENTS_LOSS_ACCEPTED
    || f == F.TWIN_EVENTS_LEASE_LOST || f == F.TWIN_EVENTS_TAKEOVER
    || ((f == F.HOB_EVENTS_FAIL_UP || f == F.HOB_EVENTS_PG_LOST) && chip)
    || f == F.TH_EVENTS_SHUTDOWN || f == F.CIPHER_EVENTS_AUTH_FAIL
    || f == F.PASS_STATUS_MARK_STALLED
    || (f == F.BOOT_EVENTS_WDT_FIRED && e.arg == 3)
    || f == F.RACK_EVENTS_COUNTER_LOST

namespace State

/-- The PASS_SEQ the next stamp gets: the seed first, then one above the last (R27). -/
def nextSeq (p : PassSt) : Nat := if p.last < p.seed then p.seed else p.last + 1

/-- Whether the Pass may stamp: the boot mark store has finished, and the next PASS_SEQ stays below M + 2^32 (R27). -/
def mayStamp (p : PassSt) : Bool := p.ready && nextSeq p < p.mark + 2 ^ 32

/-- Deliver a stamped event to the units: registers that report it, the event FIFOs, the Spike (R24, R29, R368, R400). -/
def deliver (b : Body) (e : Stamp) : Body :=
  let b := b.put F.PASS_SEQ_LAST_SEQ e.seq
  let b := match e.ev with
    | .named .unitEntry => b.put (F.UNIT_STATE_LAST_SEQ e.src) (e.seq % 2 ^ 32)
    | _ => b
  let b := match e.ev with
    | .named (.rdmaAsync code) => b.rdmaEntry code e.arg e.seq e.frame
    | _ => b
  let route := b.get (F.EVT_ROUTE_CORES e.src)
  let b := b.forEach ((List.range 16).filter (nbit route)) (fun b c => b.evqDeliver c e)
  if e.fatal || b.spkSource e.src || Body.spkAlways e.ev then
    b.spkTake { seq := e.seq, frame := e.frame, secs := b.counter 0, cycles := b.counter 1, src := e.src, fatal := e.fatal,
                side := false, ev := e.ev, det := e.arg,
                det2 := (if e.ev == .named .bootRecord then b.get F.PASS_SEQ_SEED_SEQ
                  else if e.ev == .named .clearedRecord then b.get F.SPK_CLR_STATUS_REMOVED else 0) }
  else b

/-- Stamp one event (R24). -/
def stamp (s : State) (e : PassEvent) : State :=
  let st : Stamp := { seq := nextSeq s.pass, frame := s.body.frameNo, src := e.src, fatal := s.body.fatalClass e, ev := e.ev, arg := e.arg }
  { s with pass := { s.pass with last := st.seq, log := st :: s.pass.log }, body := deliver s.body st }

/-- Present an event to the Pass (R26): stamped at once when nothing waits, else held in the source's buffer; a non-fatal event that
finds 14 of its kind held is discarded and counted. -/
def present (s : State) (e : PassEvent) : State :=
  if mayStamp s.pass && s.pass.bufs.isEmpty then s.stamp e
  else
    let buf := mgetD s.pass.bufs e.src []
    let fatal := s.body.fatalClass e
    if !fatal && (buf.filter (!s.body.fatalClass ·)).length ≥ 14 then
      { s with pass := { s.pass with lost := mset s.pass.lost e.src (mgetD s.pass.lost e.src 0 + 1) }
               body := s.body.inc (F.PASS_LOST_COUNT e.src) }
    else { s with pass := { s.pass with bufs := mset s.pass.bufs e.src (buf ++ [e]) } }

/-- The waiting event the Pass serves next: the BOOT record, which is the first of its boot (R400); else fatal-class first, then ascending
source, each source in its own order (R25, R26). -/
def nextWaiting (s : State) : Option PassEvent :=
  match s.pass.bufs.findSome? (fun p => p.2.find? (·.ev == Event.named EvName.bootRecord)) with
  | some e => some e
  | none => match s.pass.bufs.findSome? (fun p => p.2.find? s.body.fatalClass) with
    | some e => some e
    | none => s.pass.bufs.findSome? (fun p => p.2.head?)

/-- Take an event out of its source's buffer. -/
def unbuffer (p : PassSt) (e : PassEvent) : PassSt :=
  let r := (mgetD p.bufs e.src []).erase e
  { p with bufs := if r.isEmpty then merase p.bufs e.src else mset p.bufs e.src r }

/-- Stamp waiting events while the Pass may. -/
def drainBufs : Nat → State → State
  | 0, s => s
  | n + 1, s =>
    if !mayStamp s.pass then s
    else match s.nextWaiting with
      | none => s
      | some e => drainBufs n ({ s with pass := unbuffer s.pass e }.stamp e)

/-- Present the events raised so far, oldest first; stamping may raise more (the Spike's own events). -/
def settle : Nat → State → State
  | 0, s => s
  | n + 1, s =>
    match s.body.evs with
    | [] => s
    | e :: r => settle n ({ s with body := { s.body with evs := r } }.present e)

/-- How many events one command may put through the Pass; any beyond it stay raised and go with the next command. -/
def settleFuel : Nat := 4096

/-- The frame of every command: the units change, then the Pass takes the events they raised. -/
def finish (s : State) : State := settle settleFuel (drainBufs 2048 s)

/-- The vectors 6 of the hosts whose windows have changed since the command began go through the Pass (R263). -/
def windowTold (s : State) (old : Body) : State :=
  if (Body.windowEvents old s.body).isEmpty then s
  else finish { s with body := { s.body with evs := s.body.evs ++ Body.windowEvents old s.body } }

/-- The state once the Pass has taken what the units, as a command left them, raised. -/
def taken (s : State) (b : Body) : State := (finish { s with body := b }).windowTold s.body

/-- A command whose effect lies in the units alone. -/
def run (s : State) (f : Body → Body) : Host.Outcome State Fault Refusal := .next (s.taken (f s.body))

end State

end Sys2Proof.Machine
end

