-- ==== Sys2Proof/Machine/RegMap.lean ====
section
/-! DEFINITION. The register map of CSPACE as the spec's tables give it (R35, R56, R78, R99 to R101, R121, R148, R149, R183, R184,
R210, R241, R264, R290 to R293, R312, R313, R336, R361, R384, R385, R407, R408, R428, R429, R440, R441): for every register its
address, its array strides, and for every field its bits, its access type (R7) and its Writers column (R11). -/

namespace Sys2Proof.Machine

/-- One field of a register map row: lowest bit, width, access type, Writers. -/
abbrev fieldRow (lo w : Nat) (t : FType) (ws : Writers) : FieldDef := ⟨lo, w, t, ws, false⟩
/-- The same for a field whose reset is "image" (R65). -/
abbrev imageRow (lo w : Nat) (t : FType) (ws : Writers) : FieldDef := ⟨lo, w, t, ws, true⟩

def regs_GLOBAL_0 : List RegDef := [
  ⟨"GLOBAL_ID", 0x0, [], none, [fieldRow 48 16 .ro .nobody, fieldRow 32 16 .ro .nobody, fieldRow 24 8 .ro .nobody]⟩,
  ⟨"PASS_SEQ_LAST", 0x10, [], none, [fieldRow 0 64 .ro .nobody]⟩,
  ⟨"PASS_SEQ_SEED", 0x18, [], none, [fieldRow 0 64 .ro .nobody]⟩,
  ⟨"PASS_MARK", 0x20, [], none, [fieldRow 0 64 .ro .nobody]⟩,
  ⟨"PASS_STATUS", 0x28, [], none, [fieldRow 0 1 .ro .nobody, fieldRow 1 1 .w1c .fw]⟩,
  ⟨"FRAME_OVR_COUNT", 0x30, [], none, [fieldRow 0 64 .ro .nobody]⟩,
  ⟨"FRAME_OVR_STATUS", 0x38, [], none, [fieldRow 0 8 .ro .nobody, fieldRow 8 7 .ro .nobody, fieldRow 16 3 .ro .nobody, fieldRow 20 3 .ro .nobody]⟩,
  ⟨"FRAME_OVR_CTL", 0x40, [], none, [fieldRow 0 1 .rw .fw, fieldRow 1 1 .rw .fw, fieldRow 2 3 .rw .fw]⟩,
  ⟨"WRITE_BLOCK", 0x48, [], (some (0x48, 63)), [imageRow 0 23 .rwl .fw, imageRow 32 23 .rwl .fw, fieldRow 63 1 .w1s .fw]⟩,
  ⟨"UNIT_STATE", 0x1000, [(80, 0x8)], none, [fieldRow 0 2 .ro .nobody, fieldRow 2 1 .ro .nobody, fieldRow 3 1 .ro .nobody, fieldRow 4 1 .w1c .fw, fieldRow 5 1 .w1c .fw, fieldRow 32 32 .ro .nobody]⟩,
  ⟨"PASS_LOST", 0x2000, [(88, 0x8)], none, [fieldRow 0 64 .ro .nobody]⟩]
/-- The registers of block GLOBAL. -/
def regs_GLOBAL : List RegDef := regs_GLOBAL_0

def regs_CONFIG_0 : List RegDef := [
  ⟨"CONFIG_STATUS", 0x10000, [], none, [fieldRow 0 1 .ro .nobody, fieldRow 1 1 .ro .nobody, fieldRow 2 1 .ro .nobody, fieldRow 4 3 .ro .nobody, imageRow 8 6 .ro .nobody]⟩,
  ⟨"CONFIG_SEQ", 0x10008, [], none, [imageRow 0 64 .ro .nobody]⟩,
  ⟨"CONFIG_LENGTH", 0x10010, [], none, [imageRow 0 23 .ro .nobody]⟩,
  ⟨"CONFIG_HASH", 0x10018, [(6, 0x8)], none, [fieldRow 0 64 .ro .nobody]⟩,
  ⟨"CONFIG_SHARED_HASH", 0x10048, [], none, [fieldRow 0 64 .ro .nobody]⟩,
  ⟨"CONFIG_READ_ADDR", 0x10050, [], none, [fieldRow 3 19 .rw .fwBmc]⟩,
  ⟨"CONFIG_READ_DATA", 0x10058, [], none, [fieldRow 0 64 .ro .nobody]⟩,
  ⟨"SLOT_A_STATUS", 0x10060, [], none, [fieldRow 0 4 .ro .nobody, fieldRow 32 32 .ro .nobody]⟩,
  ⟨"SLOT_B_STATUS", 0x10068, [], none, [fieldRow 0 4 .ro .nobody, fieldRow 32 32 .ro .nobody]⟩,
  ⟨"SLOT_CHECK", 0x10070, [], none, [fieldRow 0 1 .wo .fwBmc, fieldRow 1 1 .wo .fwBmc]⟩,
  ⟨"CHANGE_CTL", 0x10078, [], none, [fieldRow 0 1 .wo .fwBmcPolicy, fieldRow 1 1 .wo .fwBmcPolicy, fieldRow 2 1 .wo .fwBmcPolicy]⟩,
  ⟨"CHANGE_FRAME", 0x10080, [], none, [fieldRow 0 64 .rw .fwBmc]⟩]
def regs_CONFIG_1 : List RegDef := [
  ⟨"CHANGE_STATUS", 0x10088, [], none, [fieldRow 0 3 .ro .nobody, fieldRow 8 4 .ro .nobody]⟩,
  ⟨"CHANGE_APPLIED", 0x10090, [], none, [fieldRow 0 64 .ro .nobody]⟩,
  ⟨"SVN_FUSE", 0x10098, [], none, [fieldRow 0 6 .ro .nobody]⟩,
  ⟨"SVN_COMMIT", 0x100a0, [], none, [fieldRow 0 1 .wo .fw]⟩,
  ⟨"CONFIG_EVENTS", 0x100a8, [], none, [fieldRow 0 1 .w1c .fw, fieldRow 1 1 .w1c .fw, fieldRow 2 1 .w1c .fw, fieldRow 3 1 .w1c .fw, fieldRow 4 1 .w1c .fw, fieldRow 5 1 .w1c .fw]⟩]
/-- The registers of block CONFIG. -/
def regs_CONFIG : List RegDef := regs_CONFIG_0 ++ regs_CONFIG_1

def regs_TIME_0 : List RegDef := [
  ⟨"TIME_CTL", 0x20000, [], none, [fieldRow 0 1 .rw .fw, imageRow 1 1 .rw .fw, imageRow 2 1 .rw .fw, imageRow 3 1 .rw .fw, imageRow 4 1 .rw .fw, imageRow 5 1 .rw .fw, fieldRow 6 1 .rw .fw]⟩,
  ⟨"TIME_STATUS", 0x20008, [], none, [fieldRow 0 3 .ro .nobody, fieldRow 3 3 .ro .nobody, fieldRow 6 1 .ro .nobody, fieldRow 7 1 .ro .nobody, fieldRow 8 1 .ro .nobody, fieldRow 9 1 .ro .nobody]⟩,
  ⟨"FRAME_NOW", 0x20010, [], none, [fieldRow 0 64 .ro .nobody]⟩,
  ⟨"EPOCH_TIME", 0x20020, [], none, [imageRow 0 64 .ro .nobody]⟩,
  ⟨"EPOCH_BASE", 0x20028, [], none, [imageRow 0 64 .ro .nobody]⟩,
  ⟨"FRAME_PERIOD", 0x20018, [], none, [imageRow 0 13 .ro .nobody, imageRow 16 13 .ro .nobody]⟩,
  ⟨"OFFSET", 0x20030, [], none, [fieldRow 0 32 .ro .nobody, fieldRow 32 32 .ro .nobody]⟩,
  ⟨"HOLDOVER_EST", 0x20038, [], none, [fieldRow 0 32 .ro .nobody, fieldRow 32 32 .ro .nobody]⟩,
  ⟨"HOLDOVER_CFG", 0x20040, [], none, [imageRow 0 16 .rw .fw]⟩,
  ⟨"TSYNC_CFG", 0x20050, [], none, [imageRow 0 8 .rw .fw, imageRow 8 8 .rw .fw, imageRow 16 8 .rw .fw]⟩,
  ⟨"TSYNC_COUNT", 0x20058, [], none, [fieldRow 0 32 .ro .nobody, fieldRow 32 32 .ro .nobody]⟩,
  ⟨"PTP_CFG", 0x20060, [], none, [imageRow 0 8 .rw .fw, imageRow 8 4 .rw .fw, imageRow 12 1 .rw .fw, imageRow 13 2 .rw .fw]⟩]
def regs_TIME_1 : List RegDef := [
  ⟨"PTP_PARENT", 0x20068, [], none, [fieldRow 0 64 .ro .nobody]⟩,
  ⟨"BEACON_CFG", 0x20080, [], none, [imageRow 0 16 .rw .fw, imageRow 16 16 .rw .fw, imageRow 32 16 .rw .fw, imageRow 48 9 .rw .fw]⟩,
  ⟨"DOMAIN_ID", 0x20088, [], none, [imageRow 0 32 .ro .nobody, imageRow 32 12 .ro .nobody]⟩,
  ⟨"BEACON_TX", 0x20090, [], none, [fieldRow 0 64 .ro .nobody]⟩,
  ⟨"BEACON_RX", 0x20098, [], none, [fieldRow 0 32 .ro .nobody, fieldRow 32 32 .ro .nobody]⟩,
  ⟨"PEER_COUNT", 0x200a0, [], none, [fieldRow 0 13 .ro .nobody, fieldRow 32 32 .ro .nobody]⟩,
  ⟨"TIME_EVENTS", 0x200a8, [], none, [fieldRow 0 1 .w1c .fw, fieldRow 1 1 .w1c .fw, fieldRow 2 1 .w1c .fw, fieldRow 3 1 .w1c .fw, fieldRow 4 1 .w1c .fw, fieldRow 5 1 .w1c .fw, fieldRow 6 1 .w1c .fw, fieldRow 7 1 .w1c .fw]⟩]
/-- The registers of block TIME. -/
def regs_TIME : List RegDef := regs_TIME_0 ++ regs_TIME_1

def regs_NEARCACHE_0 : List RegDef := [
  ⟨"NC_CTL", 0x30000, [], none, [imageRow 0 1 .rw .fw]⟩,
  ⟨"NC_STATUS", 0x30008, [], none, [imageRow 0 5 .ro .nobody, imageRow 5 3 .ro .nobody, fieldRow 8 13 .ro .nobody, fieldRow 21 10 .ro .nobody, fieldRow 31 1 .ro .nobody, fieldRow 32 22 .ro .nobody]⟩,
  ⟨"NC_WAY_MASK", 0x30040, [(16, 0x8)], none, [imageRow 0 16 .rw .notClass15, fieldRow 16 16 .ro .nobody]⟩,
  ⟨"NC_LD_CLASS", 0x30100, [(16, 0x8)], none, [imageRow 0 4 .rw .fw, imageRow 4 4 .rw .fw, imageRow 8 4 .rw .fw, imageRow 12 4 .rw .fw, imageRow 16 4 .rw .fw, imageRow 20 4 .rw .fw, imageRow 24 4 .rw .fw, imageRow 28 4 .rw .fw, imageRow 32 4 .rw .fw, imageRow 36 4 .rw .fw, imageRow 40 4 .rw .fw, imageRow 44 4 .rw .fw, imageRow 48 4 .rw .fw, imageRow 52 4 .rw .fw, imageRow 56 4 .rw .fw, imageRow 60 4 .rw .fw]⟩,
  ⟨"NC_SRC_CLASS", 0x30180, [], none, [imageRow 0 4 .rw .fw, imageRow 4 4 .rw .fw]⟩,
  ⟨"NC_OP_START", 0x30200, [], none, [fieldRow 6 41 .rw .fw]⟩,
  ⟨"NC_OP_END", 0x30208, [], none, [fieldRow 6 41 .rw .fw]⟩,
  ⟨"NC_OP_CTL", 0x30210, [], none, [fieldRow 0 2 .wo .fw, fieldRow 2 1 .wo .fw]⟩,
  ⟨"NC_OP_STATUS", 0x30218, [], none, [fieldRow 0 2 .ro .nobody, fieldRow 2 18 .ro .nobody, fieldRow 32 32 .ro .nobody]⟩,
  ⟨"NC_CRC_COUNT", 0x30300, [], none, [fieldRow 0 16 .ro .nobody, fieldRow 16 16 .ro .nobody, fieldRow 32 16 .ro .nobody, fieldRow 48 16 .ro .nobody]⟩,
  ⟨"NC_STALL_COUNT", 0x30308, [], none, [fieldRow 0 32 .ro .nobody, fieldRow 32 32 .ro .nobody]⟩,
  ⟨"NC_EVENTS", 0x30310, [], none, [fieldRow 0 1 .w1c .fw, fieldRow 1 1 .w1c .fw, fieldRow 2 1 .w1c .fw, fieldRow 3 1 .w1c .fw, fieldRow 4 1 .w1c .fw, fieldRow 5 1 .w1c .fw]⟩]
def regs_NEARCACHE_1 : List RegDef := [
  ⟨"NC_MR_SEL", 0x30400, [], none, [fieldRow 0 12 .rw .fwBmc]⟩,
  ⟨"NC_MR_PEEK_0", 0x30408, [], none, [fieldRow 0 1 .ro .nobody, fieldRow 1 2 .ro .nobody, fieldRow 3 5 .ro .nobody, fieldRow 8 1 .ro .nobody, fieldRow 9 1 .ro .nobody, fieldRow 10 1 .ro .nobody, fieldRow 12 12 .ro .nobody, fieldRow 24 40 .ro .nobody]⟩,
  ⟨"NC_MR_PEEK_1", 0x30410, [], none, [fieldRow 6 41 .ro .nobody]⟩,
  ⟨"NC_COL_SEL", 0x30420, [], none, [fieldRow 0 9 .rw .fwBmc]⟩,
  ⟨"NC_COL_PEEK_0", 0x30428, [], none, [fieldRow 0 1 .ro .nobody, fieldRow 1 1 .ro .nobody, fieldRow 2 1 .ro .nobody, fieldRow 3 1 .ro .nobody, fieldRow 4 1 .ro .nobody, fieldRow 8 9 .ro .nobody]⟩,
  ⟨"NC_COL_PEEK_1", 0x30430, [], none, [fieldRow 6 41 .ro .nobody]⟩,
  ⟨"NC_COL_DATA", 0x30440, [(8, 0x8)], none, [fieldRow 0 64 .ro .nobody]⟩]
/-- The registers of block NEARCACHE. -/
def regs_NEARCACHE : List RegDef := regs_NEARCACHE_0 ++ regs_NEARCACHE_1

def regs_STOCKPOT_0 : List RegDef := [
  ⟨"SP_CH_CTL", 0x40000, [(12, 0x1000)], none, [imageRow 0 1 .rw .fw, fieldRow 1 1 .wo .fw, fieldRow 2 1 .wo .fw]⟩,
  ⟨"SP_CH_STATUS", 0x40008, [(12, 0x1000)], none, [fieldRow 0 2 .ro .nobody, fieldRow 2 1 .ro .nobody, fieldRow 3 1 .ro .nobody, fieldRow 4 1 .ro .nobody, fieldRow 8 8 .ro .nobody, fieldRow 16 16 .ro .nobody, fieldRow 32 32 .ro .nobody]⟩,
  ⟨"SP_CH_DIMM", 0x40010, [(12, 0x1000)], none, [fieldRow 0 9 .ro .nobody, fieldRow 9 1 .ro .nobody, fieldRow 10 14 .ro .nobody, fieldRow 24 1 .ro .nobody, fieldRow 25 2 .ro .nobody, fieldRow 27 2 .ro .nobody, fieldRow 29 3 .ro .nobody, fieldRow 32 8 .ro .nobody]⟩,
  ⟨"SP_CH_LAYOUT", 0x40018, [(12, 0x1000)], none, [fieldRow 0 16 .ro .nobody, fieldRow 16 20 .ro .nobody, fieldRow 36 12 .ro .nobody]⟩,
  ⟨"SP_CH_ECC", 0x40020, [(12, 0x1000)], none, [fieldRow 0 32 .ro .nobody, fieldRow 32 16 .ro .nobody, fieldRow 48 16 .ro .nobody]⟩,
  ⟨"SP_CH_ECC_ADDR", 0x40028, [(12, 0x1000)], none, [fieldRow 0 38 .ro .nobody, fieldRow 38 1 .ro .nobody]⟩,
  ⟨"SP_CH_REF", 0x40030, [(12, 0x1000)], none, [fieldRow 0 32 .ro .nobody, fieldRow 32 32 .ro .nobody]⟩,
  ⟨"SP_CH_FREEZE", 0x40038, [(12, 0x1000)], none, [fieldRow 0 3 .ro .nobody, fieldRow 8 56 .ro .nobody]⟩,
  ⟨"SP_CH_TRAIN", 0x40040, [(12, 0x1000)], none, [fieldRow 0 4 .ro .nobody, fieldRow 32 32 .ro .nobody]⟩,
  ⟨"SP_CH_EVENTS", 0x40048, [(12, 0x1000)], none, [fieldRow 0 1 .w1c .fw, fieldRow 1 1 .w1c .fw, fieldRow 2 1 .w1c .fw, fieldRow 3 1 .w1c .fw, fieldRow 4 1 .w1c .fw, fieldRow 5 1 .w1c .fw, fieldRow 6 1 .w1c .fw, fieldRow 7 1 .w1c .fw]⟩,
  ⟨"SP_CFG", 0x4c000, [], none, [imageRow 0 3 .rw .fw, imageRow 3 3 .rw .fw, fieldRow 6 1 .rw .fw, imageRow 8 16 .rw .fw, imageRow 24 16 .rw .fw]⟩,
  ⟨"SP_NRR_CFG", 0x4c008, [], none, [imageRow 0 16 .rw .fw]⟩]
def regs_STOCKPOT_1 : List RegDef := [
  ⟨"SP_DIRTY", 0x4c010, [], none, [fieldRow 0 32 .ro .nobody, fieldRow 32 32 .ro .nobody]⟩,
  ⟨"SP_DIRTY_STATE", 0x4c018, [], none, [fieldRow 0 2 .ro .nobody, fieldRow 2 1 .ro .nobody, fieldRow 16 24 .ro .nobody, fieldRow 40 24 .ro .nobody]⟩,
  ⟨"SP_CAPACITY", 0x4c020, [], none, [fieldRow 0 32 .ro .nobody, fieldRow 32 32 .ro .nobody]⟩,
  ⟨"SP_WB_COUNT", 0x4c028, [], none, [fieldRow 0 32 .ro .nobody, fieldRow 32 32 .ro .nobody]⟩,
  ⟨"SP_RT_CFG", 0x4c030, [], none, [imageRow 0 8 .rw .fw, imageRow 8 8 .rw .fw, imageRow 16 8 .rw .fw]⟩,
  ⟨"SP_RT_STATUS", 0x4c038, [], none, [fieldRow 0 12 .ro .nobody, fieldRow 32 32 .ro .nobody]⟩,
  ⟨"SP_FILL_START", 0x4c040, [], none, [fieldRow 0 14 .rw .fw]⟩,
  ⟨"SP_FILL_LEN", 0x4c048, [], none, [fieldRow 0 14 .rw .fw]⟩,
  ⟨"SP_FILL_PATTERN", 0x4c050, [], none, [fieldRow 0 64 .rw .fw]⟩,
  ⟨"SP_FILL_CTL", 0x4c058, [], none, [fieldRow 0 1 .wo .fw, fieldRow 1 12 .wo .fw]⟩,
  ⟨"SP_FILL_STATUS", 0x4c060, [], none, [fieldRow 0 2 .ro .nobody, fieldRow 32 32 .ro .nobody]⟩,
  ⟨"SP_SCRUB_CH", 0x4c068, [], none, [fieldRow 0 4 .rw .fwBmc]⟩]
def regs_STOCKPOT_2 : List RegDef := [
  ⟨"SP_SCRUB_START", 0x4c070, [], none, [fieldRow 6 32 .rw .fwBmc]⟩,
  ⟨"SP_SCRUB_LEN", 0x4c078, [], none, [fieldRow 6 32 .rw .fwBmc]⟩,
  ⟨"SP_SCRUB_CTL", 0x4c080, [], none, [fieldRow 0 1 .wo .fwBmc]⟩,
  ⟨"SP_SCRUB_SUM_0", 0x4c088, [], none, [fieldRow 0 32 .ro .nobody, fieldRow 32 32 .ro .nobody]⟩,
  ⟨"SP_SCRUB_SUM_1", 0x4c090, [], none, [fieldRow 0 38 .ro .nobody, fieldRow 38 26 .ro .nobody]⟩,
  ⟨"SP_SCRUB_SUM_2", 0x4c098, [], none, [fieldRow 0 2 .ro .nobody, fieldRow 2 30 .ro .nobody, fieldRow 32 32 .ro .nobody]⟩,
  ⟨"SP_EVENTS", 0x4c0a0, [], none, [fieldRow 0 1 .w1c .fw, fieldRow 1 1 .w1c .fw, fieldRow 2 1 .w1c .fwBmc, fieldRow 3 1 .w1c .fwBmc, fieldRow 4 1 .w1c .fw, fieldRow 5 1 .w1c .fw]⟩]
/-- The registers of block STOCKPOT. -/
def regs_STOCKPOT : List RegDef := regs_STOCKPOT_0 ++ regs_STOCKPOT_1 ++ regs_STOCKPOT_2

def regs_MEDIA_0 : List RegDef := [
  ⟨"MD_CTL", 0x60000, [(32, 0x800)], none, [imageRow 0 1 .rw .fw, fieldRow 1 1 .wo .fw, fieldRow 2 1 .wo .fw, fieldRow 3 2 .wo .fw]⟩,
  ⟨"MD_STATUS", 0x60008, [(32, 0x800)], none, [fieldRow 0 2 .ro .nobody, fieldRow 2 2 .ro .nobody, fieldRow 4 2 .ro .nobody, fieldRow 16 16 .ro .nobody, fieldRow 32 16 .ro .nobody, fieldRow 48 5 .ro .nobody]⟩,
  ⟨"MD_TRAIN", 0x60010, [(32, 0x800)], none, [fieldRow 0 4 .ro .nobody, fieldRow 32 32 .ro .nobody]⟩,
  ⟨"MD_PKG_0", 0x60018, [(32, 0x800)], none, [fieldRow 0 16 .ro .nobody, fieldRow 16 8 .ro .nobody, fieldRow 24 8 .ro .nobody, fieldRow 32 32 .ro .nobody]⟩,
  ⟨"MD_PKG_1", 0x60020, [(32, 0x800)], none, [fieldRow 0 16 .ro .nobody, fieldRow 16 8 .ro .nobody, fieldRow 24 8 .ro .nobody, fieldRow 32 32 .ro .nobody]⟩,
  ⟨"MD_ECC", 0x60028, [(32, 0x800)], none, [fieldRow 0 32 .ro .nobody, fieldRow 32 16 .ro .nobody, fieldRow 48 16 .ro .nobody]⟩,
  ⟨"MD_PROG", 0x60030, [(32, 0x800)], none, [fieldRow 0 32 .ro .nobody, fieldRow 32 16 .ro .nobody, fieldRow 48 16 .ro .nobody]⟩,
  ⟨"MD_SPARE_0", 0x60038, [(32, 0x800)], none, [fieldRow 0 32 .ro .nobody, fieldRow 32 32 .ro .nobody]⟩,
  ⟨"MD_SPARE_1", 0x60040, [(32, 0x800)], none, [fieldRow 0 32 .ro .nobody, fieldRow 32 32 .ro .nobody]⟩,
  ⟨"MD_WEAR_0", 0x60048, [(32, 0x800)], none, [fieldRow 0 32 .ro .nobody, fieldRow 32 32 .ro .nobody]⟩,
  ⟨"MD_WEAR_1", 0x60050, [(32, 0x800)], none, [fieldRow 0 32 .ro .nobody, fieldRow 32 32 .ro .nobody]⟩,
  ⟨"MD_EVENTS", 0x60058, [(32, 0x800)], none, [fieldRow 0 1 .w1c .fw, fieldRow 1 1 .w1c .fw, fieldRow 2 1 .w1c .fw, fieldRow 3 1 .w1c .fw, fieldRow 4 1 .w1c .fw, fieldRow 5 1 .w1c .fw, fieldRow 6 1 .w1c .fw, fieldRow 7 1 .w1c .fw, fieldRow 8 1 .w1c .fw]⟩]
/-- The registers of block MEDIA. -/
def regs_MEDIA : List RegDef := regs_MEDIA_0

def regs_MTL_0 : List RegDef := [
  ⟨"PLACE_CFG", 0x8a000, [], none, [imageRow 0 1 .rw .fw, imageRow 4 4 .rw .fw, imageRow 16 16 .rw .fw]⟩,
  ⟨"PLACE_STATUS", 0x8a008, [], none, [fieldRow 0 32 .ro .nobody, fieldRow 32 32 .ro .nobody]⟩,
  ⟨"PLACE_COUNT", 0x8a010, [], none, [fieldRow 0 32 .ro .nobody, fieldRow 32 32 .ro .nobody]⟩,
  ⟨"ASSIST_CTL", 0x8a018, [], none, [fieldRow 0 1 .rw .fw]⟩,
  ⟨"ASSIST_COUNT", 0x8a020, [], none, [fieldRow 0 32 .ro .nobody, fieldRow 32 32 .ro .nobody]⟩,
  ⟨"ASSIST_FAIL", 0x8a028, [], none, [fieldRow 0 32 .ro .nobody, fieldRow 32 32 .ro .nobody]⟩,
  ⟨"XLATE_ADDR", 0x8a040, [], none, [fieldRow 6 41 .rw .fwBmc]⟩,
  ⟨"XLATE_RESULT_0", 0x8a048, [], none, [fieldRow 0 1 .ro .nobody, fieldRow 1 8 .ro .nobody, fieldRow 9 1 .ro .nobody, fieldRow 10 1 .ro .nobody, fieldRow 11 1 .ro .nobody, fieldRow 12 1 .ro .nobody, fieldRow 13 1 .ro .nobody, fieldRow 14 1 .ro .nobody, fieldRow 15 1 .ro .nobody, fieldRow 16 5 .ro .nobody, fieldRow 21 1 .ro .nobody, fieldRow 22 4 .ro .nobody, fieldRow 26 1 .ro .nobody, fieldRow 27 4 .ro .nobody, fieldRow 32 32 .ro .nobody]⟩,
  ⟨"XLATE_RESULT_1", 0x8a050, [], none, [fieldRow 0 32 .ro .nobody, fieldRow 32 32 .ro .nobody]⟩,
  ⟨"XLATE_ECHO", 0x8a058, [], none, [fieldRow 6 41 .ro .nobody]⟩,
  ⟨"XLATE_FRAME", 0x8a060, [], none, [fieldRow 0 64 .ro .nobody]⟩,
  ⟨"PLACE_EVENTS", 0x8a068, [], none, [fieldRow 0 1 .w1c .fw, fieldRow 1 1 .w1c .fw, fieldRow 2 1 .w1c .fw, fieldRow 3 1 .w1c .fw, fieldRow 4 1 .w1c .fw]⟩]
def regs_MTL_1 : List RegDef := [
  ⟨"MTL_PART_RES", 0x8b000, [(256, 0x10)], none, [fieldRow 0 32 .ro .nobody, fieldRow 32 32 .ro .nobody]⟩,
  ⟨"MTL_PART_CNT", 0x8b008, [(256, 0x10)], none, [fieldRow 0 32 .ro .nobody, fieldRow 32 32 .ro .nobody]⟩,
  ⟨"MTL_CTL", 0x80000, [], none, [imageRow 0 1 .rw .fw, fieldRow 1 1 .wo .fw]⟩,
  ⟨"MTL_STATUS", 0x80008, [], none, [fieldRow 0 1 .ro .nobody, fieldRow 1 1 .ro .nobody, fieldRow 32 32 .ro .nobody]⟩,
  ⟨"MTL_WINDOW_OUT", 0x80010, [], none, [fieldRow 0 64 .ro .nobody]⟩,
  ⟨"MTL_PROG_CFG", 0x80018, [], none, [fieldRow 0 10 .ro .nobody, imageRow 10 3 .rw .fw, fieldRow 16 10 .ro .nobody]⟩,
  ⟨"MTL_DRIFT_CFG", 0x80020, [], none, [imageRow 0 32 .rw .fw, imageRow 32 5 .rw .fw, imageRow 37 3 .rw .fw]⟩,
  ⟨"MTL_ASSIST_CFG", 0x80028, [], none, [imageRow 0 3 .rw .fw, imageRow 3 5 .rw .fw, imageRow 8 3 .rw .fw]⟩,
  ⟨"MTL_DISTURB_CFG", 0x80030, [], none, [imageRow 0 24 .rw .fw, imageRow 32 16 .rw .fw]⟩,
  ⟨"MTL_WEAR_CFG", 0x80038, [], none, [imageRow 0 16 .rw .fw, imageRow 16 16 .rw .fw, imageRow 32 1 .rw .fw]⟩,
  ⟨"MTL_COUNT_0", 0x80040, [], none, [fieldRow 0 32 .ro .nobody, fieldRow 32 32 .ro .nobody]⟩,
  ⟨"MTL_COUNT_1", 0x80048, [], none, [fieldRow 0 32 .ro .nobody, fieldRow 32 32 .ro .nobody]⟩]
def regs_MTL_2 : List RegDef := [
  ⟨"MTL_COUNT_2", 0x80050, [], none, [fieldRow 0 32 .ro .nobody, fieldRow 32 32 .ro .nobody]⟩,
  ⟨"MTL_UNTRUST", 0x80100, [(12, 0x10)], none, [fieldRow 0 1 .ro .nobody, fieldRow 1 4 .ro .nobody, fieldRow 5 4 .ro .nobody]⟩,
  ⟨"MTL_UNTRUST_CLR", 0x801c0, [], none, [fieldRow 0 12 .wo .fw]⟩,
  ⟨"MTL_UNTRUST_FRAME", 0x80108, [(12, 0x10)], none, [fieldRow 0 64 .ro .nobody]⟩,
  ⟨"SCOUR_CTL", 0x80200, [], none, [imageRow 0 1 .rw .fw, imageRow 32 32 .rw .fw]⟩,
  ⟨"SCOUR_LAP", 0x80208, [], none, [fieldRow 0 32 .ro .nobody, fieldRow 32 32 .ro .nobody]⟩,
  ⟨"SCOUR_POS", 0x80210, [], none, [fieldRow 0 40 .ro .nobody]⟩,
  ⟨"SCOUR_PROJ", 0x80218, [], none, [fieldRow 0 32 .ro .nobody, fieldRow 32 32 .ro .nobody]⟩,
  ⟨"SCOUR_FOUND", 0x80220, [], none, [fieldRow 0 32 .ro .nobody, fieldRow 32 16 .ro .nobody, fieldRow 48 16 .ro .nobody]⟩,
  ⟨"VAULT_CAP", 0x80300, [], none, [fieldRow 0 32 .ro .nobody, fieldRow 32 32 .ro .nobody]⟩,
  ⟨"VAULT_HDR", 0x80308, [], none, [fieldRow 0 2 .ro .nobody, fieldRow 32 32 .ro .nobody]⟩,
  ⟨"VAULT_FRAME", 0x80310, [], none, [fieldRow 0 64 .ro .nobody]⟩]
def regs_MTL_3 : List RegDef := [
  ⟨"VAULT_SAVE", 0x80318, [], none, [fieldRow 0 32 .ro .nobody, fieldRow 32 32 .ro .nobody]⟩,
  ⟨"VAULT_SKIP", 0x80320, [], none, [fieldRow 0 64 .ro .nobody]⟩,
  ⟨"MTL_EVENTS", 0x80330, [], none, [fieldRow 0 1 .w1c .fw, fieldRow 1 1 .w1c .fw, fieldRow 2 1 .w1c .fw, fieldRow 3 1 .w1c .fwBmc, fieldRow 4 1 .w1c .fwBmc, fieldRow 5 1 .w1c .fw, fieldRow 6 1 .w1c .fw]⟩]
/-- The registers of block MTL. -/
def regs_MTL : List RegDef := regs_MTL_0 ++ regs_MTL_1 ++ regs_MTL_2 ++ regs_MTL_3

def regs_PERSIST_0 : List RegDef := [
  ⟨"PART_CAPACITY", 0x93ff8, [], none, [fieldRow 0 32 .ro .nobody, fieldRow 32 32 .ro .nobody]⟩,
  ⟨"PART_BASE", 0x94000, [(256, 0x20)], none, [imageRow 0 17 .ro .nobody]⟩,
  ⟨"PART_SIZE", 0x94008, [(256, 0x20)], none, [imageRow 0 18 .ro .nobody, fieldRow 32 32 .ro .nobody]⟩,
  ⟨"PART_ATTR", 0x94010, [(256, 0x20)], none, [imageRow 0 1 .ro .nobody, imageRow 1 1 .ro .nobody, imageRow 2 1 .ro .nobody, imageRow 8 4 .ro .nobody, imageRow 12 4 .ro .nobody, fieldRow 16 2 .ro .nobody, fieldRow 20 4 .ro .nobody, fieldRow 24 1 .ro .nobody, fieldRow 32 32 .ro .nobody]⟩,
  ⟨"PART_CTL", 0x94018, [(256, 0x20)], none, [imageRow 0 2 .rw .fw, imageRow 2 1 .rw .fw, fieldRow 3 1 .rw .fwHost]⟩,
  ⟨"PERSIST_CTL", 0x90000, [], none, [imageRow 0 1 .rw .fw, fieldRow 1 1 .rw .fw, fieldRow 2 1 .wo .fw, fieldRow 3 1 .rw .fw]⟩,
  ⟨"PERSIST_STATUS", 0x90008, [], none, [fieldRow 0 2 .ro .nobody, fieldRow 2 1 .ro .nobody, fieldRow 3 1 .ro .nobody, fieldRow 4 1 .ro .nobody, fieldRow 8 10 .ro .nobody]⟩,
  ⟨"COMMIT_FRAME", 0x90010, [], none, [fieldRow 0 64 .ro .nobody]⟩,
  ⟨"ACK_LAG", 0x90018, [], none, [fieldRow 0 16 .ro .nobody, fieldRow 32 32 .ro .nobody]⟩,
  ⟨"CREDIT_NOW", 0x90020, [], none, [fieldRow 0 16 .ro .nobody, fieldRow 16 16 .ro .nobody, fieldRow 32 16 .ro .nobody, fieldRow 48 16 .ro .nobody]⟩,
  ⟨"CREDIT_IN", 0x90028, [], none, [fieldRow 0 16 .ro .nobody, fieldRow 16 16 .ro .nobody, fieldRow 32 3 .ro .nobody]⟩,
  ⟨"CREDIT_CFG", 0x90030, [], none, [fieldRow 0 16 .rw .fw, imageRow 16 4 .rw .fw]⟩]
def regs_PERSIST_1 : List RegDef := [
  ⟨"FLUSH_PARAM", 0x90038, [], none, [imageRow 0 32 .ro .nobody, fieldRow 32 16 .ro .nobody, fieldRow 48 16 .ro .nobody]⟩,
  ⟨"BUDGET", 0x90040, [], none, [fieldRow 0 16 .ro .nobody, fieldRow 16 16 .ro .nobody, fieldRow 32 2 .ro .nobody]⟩,
  ⟨"PFAIL_STATUS", 0x90048, [], none, [fieldRow 0 2 .ro .nobody, fieldRow 8 56 .ro .nobody]⟩,
  ⟨"PFAIL_TIME", 0x90050, [], none, [fieldRow 0 32 .ro .nobody, fieldRow 32 32 .ro .nobody]⟩,
  ⟨"REPLAY_STATUS", 0x90058, [], none, [fieldRow 0 3 .ro .nobody, fieldRow 32 32 .ro .nobody]⟩,
  ⟨"POISON_COUNT", 0x90060, [], none, [fieldRow 0 16 .ro .nobody, fieldRow 16 16 .ro .nobody, fieldRow 32 16 .ro .nobody, fieldRow 48 16 .ro .nobody]⟩,
  ⟨"PERSIST_EVENTS", 0x90068, [], none, [fieldRow 0 1 .w1c .fw, fieldRow 1 1 .w1c .fw, fieldRow 2 1 .w1c .fw, fieldRow 3 1 .w1c .fw, fieldRow 4 1 .w1c .fw, fieldRow 5 1 .w1c .fw, fieldRow 6 1 .w1c .fw, fieldRow 7 1 .w1c .fw, fieldRow 8 1 .w1c .fw]⟩,
  ⟨"ADMIT_Q", 0x90100, [(24, 0x8)], none, [fieldRow 0 15 .ro .nobody, imageRow 16 8 .rw .fw, fieldRow 32 32 .ro .nobody]⟩]
/-- The registers of block PERSIST. -/
def regs_PERSIST : List RegDef := regs_PERSIST_0 ++ regs_PERSIST_1

def regs_TWIN_0 : List RegDef := [
  ⟨"TWIN_CTL", 0xa0000, [], none, [imageRow 0 1 .rw .fw, fieldRow 1 1 .wo .fw, fieldRow 2 1 .wo .fw, fieldRow 3 1 .rw .fw, fieldRow 4 2 .rw .fw, imageRow 6 1 .rw .fw, fieldRow 7 1 .rw .fw]⟩,
  ⟨"TWIN_CFG", 0xa0008, [], none, [imageRow 0 16 .rw .fw, imageRow 16 16 .rw .fw]⟩,
  ⟨"TWIN_STATUS", 0xa0010, [], none, [fieldRow 0 3 .ro .nobody, fieldRow 3 1 .ro .nobody, fieldRow 4 2 .ro .nobody, fieldRow 6 1 .ro .nobody, fieldRow 7 1 .ro .nobody, fieldRow 8 7 .ro .nobody, imageRow 16 12 .ro .nobody, imageRow 28 1 .ro .nobody, fieldRow 32 32 .ro .nobody]⟩,
  ⟨"TWIN_LEASE", 0xa0018, [], none, [fieldRow 0 64 .ro .nobody]⟩,
  ⟨"TWIN_EXPIRY", 0xa0020, [], none, [fieldRow 0 64 .ro .nobody]⟩,
  ⟨"TWIN_BATCH", 0xa0028, [], none, [fieldRow 0 64 .ro .nobody]⟩,
  ⟨"SPLIT_INFO", 0xa0030, [], none, [fieldRow 0 64 .ro .nobody]⟩,
  ⟨"TWIN_LINK", 0xa0038, [], none, [fieldRow 0 16 .ro .nobody, fieldRow 16 16 .ro .nobody, fieldRow 32 32 .ro .nobody]⟩,
  ⟨"TWIN_ERR", 0xa0040, [], none, [fieldRow 0 32 .ro .nobody, fieldRow 32 32 .ro .nobody]⟩,
  ⟨"TWIN_HB", 0xa0048, [], none, [fieldRow 0 32 .ro .nobody, fieldRow 32 32 .ro .nobody]⟩,
  ⟨"TWIN_OVR", 0xa0050, [], none, [fieldRow 0 32 .ro .nobody, fieldRow 32 32 .ro .nobody]⟩,
  ⟨"RESYNC_STATUS", 0xa0058, [], none, [fieldRow 0 3 .ro .nobody, fieldRow 3 1 .ro .nobody, fieldRow 4 1 .ro .nobody, fieldRow 5 1 .ro .nobody, fieldRow 24 40 .ro .nobody]⟩]
def regs_TWIN_1 : List RegDef := [
  ⟨"RESYNC_DONE", 0xa0060, [], none, [fieldRow 0 40 .ro .nobody]⟩,
  ⟨"SPLIT_LOG", 0xa0068, [], none, [fieldRow 0 19 .ro .nobody, fieldRow 19 1 .ro .nobody]⟩,
  ⟨"TRIVET_STATUS", 0xa0070, [], none, [fieldRow 0 2 .ro .nobody, fieldRow 2 3 .ro .nobody, fieldRow 5 1 .ro .nobody, fieldRow 8 8 .ro .nobody, fieldRow 16 16 .ro .nobody, fieldRow 32 32 .ro .nobody]⟩,
  ⟨"TRIVET_COUNT", 0xa0078, [], none, [fieldRow 0 32 .ro .nobody, fieldRow 32 32 .ro .nobody]⟩,
  ⟨"TWIN_TAKEOVER", 0xa0080, [], none, [fieldRow 0 32 .ro .nobody, fieldRow 32 32 .ro .nobody]⟩,
  ⟨"WITNESS_STATUS", 0xa0088, [], none, [fieldRow 0 7 .ro .nobody, fieldRow 7 1 .ro .nobody, fieldRow 32 32 .ro .nobody]⟩,
  ⟨"TWIN_EVENTS", 0xa0090, [], none, [fieldRow 0 1 .w1c .fwBmc, fieldRow 1 1 .w1c .fw, fieldRow 2 1 .w1c .fwBmc, fieldRow 3 1 .w1c .fw, fieldRow 4 1 .w1c .fw, fieldRow 5 1 .w1c .fw, fieldRow 6 1 .w1c .fw, fieldRow 7 1 .w1c .fw, fieldRow 8 1 .w1c .fwBmc, fieldRow 9 1 .w1c .fw, fieldRow 10 1 .w1c .fw, fieldRow 11 1 .w1c .fw, fieldRow 12 1 .w1c .fw, fieldRow 13 1 .w1c .fw]⟩]
/-- The registers of block TWIN. -/
def regs_TWIN : List RegDef := regs_TWIN_0 ++ regs_TWIN_1

def regs_CXLPORT_0 : List RegDef := [
  ⟨"CXP_CTL", 0xb0000, [(16, 0x1000)], none, [imageRow 0 1 .rw .fw, fieldRow 1 1 .rw .fw, imageRow 2 2 .rw .fw, imageRow 4 1 .ro .nobody]⟩,
  ⟨"CXP_STATUS", 0xb0008, [(16, 0x1000)], none, [fieldRow 0 3 .ro .nobody, fieldRow 3 3 .ro .nobody, fieldRow 6 5 .ro .nobody, fieldRow 11 1 .ro .nobody, imageRow 12 1 .ro .nobody, imageRow 13 5 .ro .nobody, fieldRow 18 2 .ro .nobody, fieldRow 20 2 .ro .nobody, fieldRow 32 32 .ro .nobody]⟩,
  ⟨"CXP_CREDIT", 0xb0010, [(16, 0x1000)], none, [imageRow 0 13 .rw .fw, fieldRow 16 13 .ro .nobody, fieldRow 32 13 .ro .nobody]⟩,
  ⟨"CXP_COUNT_0", 0xb0018, [(16, 0x1000)], none, [fieldRow 0 32 .ro .nobody, fieldRow 32 32 .ro .nobody]⟩,
  ⟨"CXP_COUNT_1", 0xb0020, [(16, 0x1000)], none, [fieldRow 0 32 .ro .nobody, fieldRow 32 16 .ro .nobody, fieldRow 48 16 .ro .nobody]⟩,
  ⟨"CXP_HELD", 0xb0028, [(16, 0x1000)], none, [fieldRow 0 16 .ro .nobody, fieldRow 32 32 .ro .nobody]⟩,
  ⟨"CXP_ERR", 0xb0030, [(16, 0x1000)], none, [fieldRow 0 16 .ro .nobody, fieldRow 16 16 .ro .nobody, fieldRow 32 16 .ro .nobody, fieldRow 48 16 .ro .nobody]⟩,
  ⟨"CXP_LD", 0xb0100, [(16, 0x1000), (16, 0x8)], none, [imageRow 0 1 .ro .nobody, imageRow 1 8 .ro .nobody, fieldRow 9 1 .ro .nobody, fieldRow 10 2 .ro .nobody, fieldRow 12 1 .ro .nobody, fieldRow 13 1 .ro .nobody, fieldRow 14 1 .ro .nobody, fieldRow 32 11 .ro .nobody]⟩,
  ⟨"CXP_HDM_SEL", 0xb0200, [(16, 0x1000)], none, [fieldRow 0 4 .rw .fwBmc, fieldRow 4 1 .rw .fwBmc]⟩,
  ⟨"CXP_HDM_PEEK_0", 0xb0208, [(16, 0x1000)], none, [fieldRow 0 36 .ro .nobody, fieldRow 36 1 .ro .nobody, fieldRow 37 1 .ro .nobody, fieldRow 38 3 .ro .nobody, fieldRow 41 3 .ro .nobody, fieldRow 44 1 .ro .nobody, fieldRow 45 5 .ro .nobody]⟩,
  ⟨"CXP_HDM_PEEK_1", 0xb0210, [(16, 0x1000)], none, [fieldRow 0 36 .ro .nobody]⟩,
  ⟨"CXP_HDM_PEEK_2", 0xb0218, [(16, 0x1000)], none, [fieldRow 0 36 .ro .nobody]⟩]
def regs_CXLPORT_1 : List RegDef := [
  ⟨"CXP_EVENTS", 0xb0220, [(16, 0x1000)], none, [fieldRow 0 1 .w1c .fw, fieldRow 1 1 .w1c .fw, fieldRow 2 1 .w1c .fw, fieldRow 3 1 .w1c .fw, fieldRow 4 1 .w1c .fw, fieldRow 5 1 .w1c .fw, fieldRow 6 1 .w1c .fw, fieldRow 7 1 .w1c .fw, fieldRow 8 1 .w1c .fw]⟩]
/-- The registers of block CXLPORT. -/
def regs_CXLPORT : List RegDef := regs_CXLPORT_0 ++ regs_CXLPORT_1

def regs_RDMA_0 : List RegDef := [
  ⟨"ETH_CTL", 0xc0000, [(8, 0x1000)], none, [imageRow 0 1 .rw .fw, imageRow 1 1 .rw .fw, imageRow 2 3 .rw .fw, imageRow 5 12 .rw .fw]⟩,
  ⟨"ETH_STATUS", 0xc0008, [(8, 0x1000)], none, [fieldRow 0 2 .ro .nobody, imageRow 2 2 .ro .nobody, fieldRow 4 1 .ro .nobody, fieldRow 32 32 .ro .nobody]⟩,
  ⟨"ETH_MAC", 0xc0010, [(8, 0x1000)], none, [imageRow 0 48 .rw .fw]⟩,
  ⟨"ETH_IPV4", 0xc0018, [(8, 0x1000)], none, [imageRow 0 32 .rw .fw]⟩,
  ⟨"ETH_IPV6_HI", 0xc0020, [(8, 0x1000)], none, [imageRow 0 64 .rw .fw]⟩,
  ⟨"ETH_IPV6_LO", 0xc0028, [(8, 0x1000)], none, [imageRow 0 64 .rw .fw]⟩,
  ⟨"ETH_COUNT_0", 0xc0030, [(8, 0x1000)], none, [fieldRow 0 32 .ro .nobody, fieldRow 32 32 .ro .nobody]⟩,
  ⟨"ETH_COUNT_1", 0xc0038, [(8, 0x1000)], none, [fieldRow 0 32 .ro .nobody, fieldRow 32 16 .ro .nobody, fieldRow 48 16 .ro .nobody]⟩,
  ⟨"ETH_COUNT_2", 0xc0040, [(8, 0x1000)], none, [fieldRow 0 32 .ro .nobody, fieldRow 32 32 .ro .nobody]⟩,
  ⟨"ETH_EVENTS", 0xc0048, [(8, 0x1000)], none, [fieldRow 0 1 .w1c .fw, fieldRow 1 1 .w1c .fw, fieldRow 2 1 .w1c .fw]⟩,
  ⟨"RDMA_CTL", 0xd0000, [], none, [imageRow 0 1 .rw .fw, imageRow 1 1 .rw .fw]⟩,
  ⟨"RDMA_CFG", 0xd0008, [], none, [imageRow 0 2 .rw .fw, imageRow 2 16 .rw .fw, imageRow 18 5 .rw .fw, imageRow 23 8 .rw .fw, imageRow 31 8 .rw .fw, imageRow 39 6 .rw .fw]⟩]
def regs_RDMA_1 : List RegDef := [
  ⟨"RDMA_USE", 0xd0010, [], none, [fieldRow 0 17 .ro .nobody, fieldRow 32 21 .ro .nobody]⟩,
  ⟨"RDMA_DOORBELL", 0xd0018, [], none, [fieldRow 0 24 .wo .fw]⟩,
  ⟨"RDMA_EQ_MAP", 0xd0020, [], none, [imageRow 0 4 .rw .fw, imageRow 4 4 .rw .fw, imageRow 8 4 .rw .fw, imageRow 12 4 .rw .fw, imageRow 16 4 .rw .fw, imageRow 20 4 .rw .fw, imageRow 24 4 .rw .fw, imageRow 28 4 .rw .fw, imageRow 32 4 .rw .fw, imageRow 36 4 .rw .fw, imageRow 40 4 .rw .fw, imageRow 44 4 .rw .fw, imageRow 48 4 .rw .fw, imageRow 52 4 .rw .fw, imageRow 56 4 .rw .fw, imageRow 60 4 .rw .fw]⟩,
  ⟨"RDMA_COUNT_0", 0xd0028, [], none, [fieldRow 0 32 .ro .nobody, fieldRow 32 32 .ro .nobody]⟩,
  ⟨"RDMA_COUNT_1", 0xd0030, [], none, [fieldRow 0 16 .ro .nobody, fieldRow 16 16 .ro .nobody, fieldRow 32 16 .ro .nobody, fieldRow 48 16 .ro .nobody]⟩,
  ⟨"RDMA_EVENTS", 0xd0038, [], none, [fieldRow 0 1 .w1c .fw, fieldRow 1 1 .w1c .fw, fieldRow 2 1 .w1c .fw, fieldRow 3 1 .w1c .fw]⟩,
  ⟨"RDMA_CMD_STATUS", 0xd0068, [], none, [fieldRow 0 2 .ro .nobody, fieldRow 2 6 .ro .nobody, fieldRow 8 24 .ro .nobody, fieldRow 32 32 .ro .nobody]⟩,
  ⟨"RDMA_ARG", 0xd0040, [(4, 0x8)], none, [fieldRow 0 64 .rw .fw]⟩,
  ⟨"RDMA_CMD", 0xd0060, [], none, [fieldRow 0 4 .wo .fw, fieldRow 4 24 .wo .fw]⟩,
  ⟨"RDMA_PEEK_SEL", 0xd0070, [], none, [fieldRow 0 2 .rw .fwBmc, fieldRow 2 24 .rw .fwBmc]⟩,
  ⟨"RDMA_PEEK", 0xd0078, [(4, 0x8)], none, [fieldRow 0 64 .ro .nobody]⟩]
/-- The registers of block RDMA. -/
def regs_RDMA : List RegDef := regs_RDMA_0 ++ regs_RDMA_1

def regs_RAMEKIN_0 : List RegDef := [
  ⟨"RK_CTL", 0xe0000, [], none, [imageRow 0 1 .rw .fw]⟩,
  ⟨"RK_STATUS", 0xe0008, [], none, [fieldRow 0 1 .ro .nobody]⟩,
  ⟨"RK_POOL_CFG", 0xe0040, [(6, 0x8)], none, [imageRow 0 16 .rw .fw, imageRow 32 28 .rw .fw]⟩,
  ⟨"RK_POOL_STAT", 0xe0080, [(6, 0x8)], none, [fieldRow 0 28 .ro .nobody, fieldRow 28 28 .ro .nobody, fieldRow 56 1 .ro .nobody, fieldRow 57 1 .ro .nobody, fieldRow 58 6 .ro .nobody]⟩,
  ⟨"RK_POOL_PTR", 0xe00c0, [(6, 0x8)], none, [fieldRow 0 28 .ro .nobody, fieldRow 28 28 .ro .nobody, fieldRow 56 7 .ro .nobody]⟩,
  ⟨"RK_POOL_CNT", 0xe0100, [(6, 0x8)], none, [fieldRow 0 32 .ro .nobody, fieldRow 32 32 .ro .nobody]⟩,
  ⟨"RK_ALLOC", 0xe0200, [(16, 0x8)], none, [fieldRow 0 19 .wo .fw, fieldRow 20 4 .wo .fw, fieldRow 24 8 .wo .fw]⟩,
  ⟨"RK_ALLOC_RES", 0xe0280, [(16, 0x8)], none, [fieldRow 0 36 .ro .nobody, fieldRow 36 4 .ro .nobody, fieldRow 40 8 .ro .nobody]⟩,
  ⟨"RK_FREE", 0xe0300, [(16, 0x8)], none, [fieldRow 0 36 .wo .fw, fieldRow 36 4 .wo .fw, fieldRow 40 1 .wo .fw]⟩,
  ⟨"RK_MIN", 0xe1000, [(16, 0x30), (6, 0x8)], none, [imageRow 0 28 .rw .fw, fieldRow 32 28 .ro .nobody]⟩,
  ⟨"RK_PEEK_SEL", 0xe0400, [], none, [fieldRow 0 3 .rw .fwBmc, fieldRow 3 6 .rw .fwBmc]⟩,
  ⟨"RK_PEEK", 0xe0408, [], none, [fieldRow 0 36 .ro .nobody, fieldRow 36 1 .ro .nobody, fieldRow 37 9 .ro .nobody]⟩]
def regs_RAMEKIN_1 : List RegDef := [
  ⟨"RK_REBUILD", 0xe0410, [], none, [fieldRow 0 3 .wo .fw, fieldRow 3 1 .wo .fw]⟩,
  ⟨"RK_EVENTS", 0xe0418, [], none, [fieldRow 0 1 .w1c .fw, fieldRow 1 1 .w1c .fw, fieldRow 2 1 .w1c .fw, fieldRow 3 1 .w1c .fw, fieldRow 4 1 .w1c .fw, fieldRow 5 1 .w1c .fw, fieldRow 6 1 .w1c .fw]⟩]
/-- The registers of block RAMEKIN. -/
def regs_RAMEKIN : List RegDef := regs_RAMEKIN_0 ++ regs_RAMEKIN_1

def regs_QUEUE_0 : List RegDef := [
  ⟨"Q_CTL", 0xf0000, [], none, [imageRow 0 1 .rw .fw]⟩,
  ⟨"Q_CFG_SEL", 0xf0008, [], none, [fieldRow 0 12 .rw .fwBmc]⟩,
  ⟨"Q_CFG", 0xf0010, [], none, [imageRow 0 22 .rw .fw, imageRow 22 22 .rw .fw, imageRow 44 5 .rw .fw, imageRow 49 3 .rw .fw, imageRow 52 3 .rw .fw, imageRow 55 1 .rw .fw]⟩,
  ⟨"Q_PTR", 0xf0018, [], none, [fieldRow 0 22 .ro .nobody, fieldRow 22 22 .ro .nobody, fieldRow 44 12 .ro .nobody]⟩,
  ⟨"Q_STAT", 0xf0020, [], none, [fieldRow 0 32 .ro .nobody, fieldRow 32 16 .ro .nobody, fieldRow 48 16 .ro .nobody]⟩,
  ⟨"Q_EVENTS", 0xf0028, [], none, [fieldRow 0 1 .w1c .fw, fieldRow 1 1 .w1c .fw, fieldRow 2 1 .w1c .fw, fieldRow 3 1 .w1c .fw, fieldRow 4 1 .w1c .fw, fieldRow 5 1 .w1c .fw]⟩,
  ⟨"Q_WIN_SEL", 0xf0040, [], none, [fieldRow 0 12 .rw .fwBmc, fieldRow 12 22 .rw .fwBmc]⟩,
  ⟨"Q_WIN_DATA", 0xf0048, [], none, [fieldRow 0 64 .ro .nobody]⟩,
  ⟨"Q_WIN_TAG", 0xf0050, [], none, [fieldRow 0 1 .ro .nobody, fieldRow 1 1 .ro .nobody, fieldRow 2 1 .ro .nobody, fieldRow 3 12 .ro .nobody, fieldRow 15 22 .ro .nobody]⟩,
  ⟨"Q_BIND", 0xf8000, [(256, 0x40)], none, [fieldRow 0 12 .rw .fw, fieldRow 12 1 .rw .fw]⟩,
  ⟨"Q_PUSH", 0xf8008, [(256, 0x40)], none, [fieldRow 0 64 .wo .fw]⟩,
  ⟨"Q_POP", 0xf8010, [(256, 0x40)], none, [fieldRow 0 64 .ro .nobody]⟩]
def regs_QUEUE_1 : List RegDef := [
  ⟨"Q_PEEK", 0xf8018, [(256, 0x40)], none, [fieldRow 0 64 .ro .nobody]⟩,
  ⟨"Q_HEAD", 0xf8020, [(256, 0x40)], none, [fieldRow 0 1 .ro .nobody, fieldRow 1 1 .ro .nobody, fieldRow 2 1 .ro .nobody, fieldRow 3 5 .ro .nobody, fieldRow 8 22 .ro .nobody]⟩,
  ⟨"Q_FLUSH", 0xf8028, [(256, 0x40)], none, [fieldRow 0 1 .wo .fw]⟩]
/-- The registers of block QUEUE. -/
def regs_QUEUE : List RegDef := regs_QUEUE_0 ++ regs_QUEUE_1

def regs_SCHED_0 : List RegDef := [
  ⟨"SCHED_CTL", 0x100000, [], none, [imageRow 0 1 .rw .fw, imageRow 1 1 .rw .fw]⟩,
  ⟨"SCHED_CFG", 0x100008, [], none, [imageRow 0 8 .rw .fw, imageRow 8 16 .rw .fw]⟩,
  ⟨"SCHED_STATUS", 0x100010, [], none, [imageRow 0 13 .ro .nobody, fieldRow 13 5 .ro .nobody, imageRow 18 10 .ro .nobody, fieldRow 28 10 .ro .nobody, imageRow 38 16 .ro .nobody]⟩,
  ⟨"SCHED_TBL_SEL", 0x100040, [], none, [fieldRow 0 3 .rw .fwBmc, fieldRow 3 16 .rw .fwBmc]⟩,
  ⟨"SCHED_TBL_CMD", 0x100048, [], none, [fieldRow 0 2 .wo (.fwBmcOp 2)]⟩,
  ⟨"SCHED_TBL_STATUS", 0x100050, [], none, [fieldRow 0 2 .ro .nobody, fieldRow 2 4 .ro .nobody, fieldRow 6 3 .ro .nobody, fieldRow 9 16 .ro .nobody, fieldRow 32 32 .ro .nobody]⟩,
  ⟨"SCHED_TBL_WDATA", 0x100080, [(8, 0x8)], none, [fieldRow 0 64 .rw .fw]⟩,
  ⟨"SCHED_TBL_RDATA", 0x1000c0, [(8, 0x8)], none, [fieldRow 0 64 .ro .nobody]⟩,
  ⟨"SCHED_COUNT_0", 0x100100, [], none, [fieldRow 0 32 .ro .nobody, fieldRow 32 32 .ro .nobody]⟩,
  ⟨"SCHED_COUNT_1", 0x100108, [], none, [fieldRow 0 16 .ro .nobody, fieldRow 16 16 .ro .nobody, fieldRow 32 32 .ro .nobody]⟩,
  ⟨"SCHED_COUNT_2", 0x100110, [], none, [fieldRow 0 32 .ro .nobody, fieldRow 32 32 .ro .nobody]⟩,
  ⟨"SCHED_BEACON", 0x100118, [], none, [fieldRow 0 32 .ro .nobody, fieldRow 32 16 .ro .nobody, fieldRow 48 16 .ro .nobody]⟩]
def regs_SCHED_1 : List RegDef := [
  ⟨"SCHED_EVENTS", 0x100120, [], none, [fieldRow 0 1 .w1c .fwBmc, fieldRow 1 1 .w1c .fwBmc, fieldRow 2 1 .w1c .fwBmc, fieldRow 3 1 .w1c .fw, fieldRow 4 1 .w1c .fw, fieldRow 5 1 .w1c .fw, fieldRow 6 1 .w1c .fw, fieldRow 7 1 .w1c .fw, fieldRow 8 1 .w1c .fw, fieldRow 9 1 .w1c .fw]⟩]
/-- The registers of block SCHED. -/
def regs_SCHED : List RegDef := regs_SCHED_0 ++ regs_SCHED_1

def regs_CIPHER_0 : List RegDef := [
  ⟨"CIPHER_CTL", 0x110000, [], none, [imageRow 0 1 .rw .fw]⟩,
  ⟨"CIPHER_STATUS", 0x110008, [], none, [fieldRow 0 2 .ro .nobody, fieldRow 2 1 .ro .nobody, fieldRow 3 1 .ro .nobody, fieldRow 4 1 .ro .nobody, fieldRow 5 7 .ro .nobody]⟩,
  ⟨"KEY_GEN_NOW", 0x110010, [], none, [fieldRow 0 32 .ro .nobody, fieldRow 32 32 .ro .nobody]⟩,
  ⟨"KEY_GEN_PREV", 0x110018, [], none, [fieldRow 0 32 .ro .nobody]⟩,
  ⟨"KEY_ACTIVATE", 0x110020, [], none, [fieldRow 0 64 .ro .nobody]⟩,
  ⟨"KEY_CMD", 0x110028, [], none, [fieldRow 0 2 .wo .fwBmc]⟩,
  ⟨"KEY_CMD_STATUS", 0x110030, [], none, [fieldRow 0 2 .ro .nobody, fieldRow 2 4 .ro .nobody]⟩,
  ⟨"KEY_PKG", 0x110800, [(80, 0x8)], none, [fieldRow 0 64 .rw .fwBmc]⟩,
  ⟨"KEY_SLOT_SEL", 0x110038, [], none, [fieldRow 0 7 .rw .fwBmc]⟩,
  ⟨"KEY_SLOT_PEEK", 0x110040, [], none, [fieldRow 0 1 .ro .nobody, fieldRow 1 3 .ro .nobody, fieldRow 4 7 .ro .nobody, fieldRow 32 32 .ro .nobody]⟩,
  ⟨"KA_PUB", 0x110c00, [(12, 0x8)], none, [fieldRow 0 64 .ro .nobody]⟩,
  ⟨"FUSE_HASH", 0x110048, [(6, 0x8)], none, [fieldRow 0 64 .rw .fw]⟩]
def regs_CIPHER_1 : List RegDef := [
  ⟨"FUSE_CMD", 0x110078, [], none, [fieldRow 0 2 .wo .fw, fieldRow 2 3 .wo .fw]⟩,
  ⟨"FUSE_STATUS", 0x110080, [], none, [fieldRow 0 10 .ro .nobody, fieldRow 10 3 .ro .nobody]⟩,
  ⟨"JOB_OP", 0x110100, [(2, 0x80)], none, [fieldRow 0 2 .rw .fw, fieldRow 2 1 .rw .fw, fieldRow 3 1 .rw .fw]⟩,
  ⟨"JOB_SRC", 0x110108, [(2, 0x80)], none, [fieldRow 0 47 .rw .fw]⟩,
  ⟨"JOB_DST", 0x110110, [(2, 0x80)], none, [fieldRow 0 47 .rw .fw]⟩,
  ⟨"JOB_LEN", 0x110118, [(2, 0x80)], none, [fieldRow 0 31 .rw .fw]⟩,
  ⟨"JOB_AAD", 0x110120, [(2, 0x80), (2, 0x8)], none, [fieldRow 0 64 .rw .fw]⟩,
  ⟨"JOB_GO", 0x110130, [(2, 0x80)], none, [fieldRow 0 1 .wo .fw, fieldRow 1 1 .wo .fw]⟩,
  ⟨"JOB_STATUS", 0x110138, [(2, 0x80)], none, [fieldRow 0 3 .ro .nobody, fieldRow 3 4 .ro .nobody, fieldRow 32 32 .ro .nobody]⟩,
  ⟨"JOB_NONCE", 0x110140, [(2, 0x80), (2, 0x8)], none, [fieldRow 0 64 .ro .nobody]⟩,
  ⟨"JOB_TAG", 0x110150, [(2, 0x80), (2, 0x8)], none, [fieldRow 0 64 .ro .nobody]⟩,
  ⟨"JOB_POISON", 0x110160, [(2, 0x80)], none, [fieldRow 0 32 .ro .nobody, fieldRow 32 32 .ro .nobody]⟩]
def regs_CIPHER_2 : List RegDef := [
  ⟨"UNTRUST_SEL", 0x110300, [], none, [fieldRow 0 6 .rw .fwBmc]⟩,
  ⟨"UNTRUST_PEEK_0", 0x110308, [], none, [fieldRow 0 1 .ro .nobody, fieldRow 1 2 .ro .nobody, fieldRow 3 1 .ro .nobody, fieldRow 4 6 .ro .nobody, fieldRow 10 47 .ro .nobody]⟩,
  ⟨"UNTRUST_PEEK_1", 0x110310, [], none, [fieldRow 0 31 .ro .nobody, fieldRow 31 33 .ro .nobody]⟩,
  ⟨"UNTRUST_ARG_0", 0x110318, [], none, [fieldRow 0 47 .rw .fw]⟩,
  ⟨"UNTRUST_ARG_1", 0x110320, [], none, [fieldRow 0 31 .rw .fw]⟩,
  ⟨"UNTRUST_CMD", 0x110328, [], none, [fieldRow 0 2 .wo .fw, fieldRow 2 6 .wo .fw]⟩,
  ⟨"FW_MEASURE_DATA", 0x110380, [(6, 0x8)], none, [fieldRow 0 64 .rw .fw]⟩,
  ⟨"FW_MEASURE_CMD", 0x1103b0, [], none, [fieldRow 0 1 .wo .fw]⟩,
  ⟨"FW_MEASURE_VALUE", 0x1103c0, [(6, 0x8)], none, [fieldRow 0 64 .ro .nobody]⟩,
  ⟨"DBG_CTL", 0x110400, [], none, [fieldRow 0 1 .wo .fwBmcDbg, fieldRow 1 1 .wo .fwBmcDbg, fieldRow 2 2 .wo .fwBmcDbg]⟩,
  ⟨"DBG_STATUS", 0x110408, [], none, [fieldRow 0 2 .ro .nobody, fieldRow 2 4 .ro .nobody, fieldRow 6 4 .ro .nobody, fieldRow 32 32 .ro .nobody]⟩,
  ⟨"DBG_CHALLENGE", 0x110410, [(4, 0x8)], none, [fieldRow 0 64 .ro .nobody]⟩]
def regs_CIPHER_3 : List RegDef := [
  ⟨"DBG_RESP", 0x110500, [(56, 0x8)], none, [fieldRow 0 64 .rw .fwBmcDbg]⟩,
  ⟨"CIPHER_EVENTS", 0x110440, [], none, [fieldRow 0 1 .w1c .fw, fieldRow 1 1 .w1c .fw, fieldRow 2 1 .w1c .fw, fieldRow 3 1 .w1c .fw, fieldRow 4 1 .w1c .fw, fieldRow 5 1 .w1c .fw, fieldRow 6 1 .w1c .fw, fieldRow 7 1 .w1c .fwBmc, fieldRow 8 1 .w1c .fwBmc]⟩]
/-- The registers of block CIPHER. -/
def regs_CIPHER : List RegDef := regs_CIPHER_0 ++ regs_CIPHER_1 ++ regs_CIPHER_2 ++ regs_CIPHER_3

def regs_DEXITH_0 : List RegDef := [
  ⟨"DX_CTL", 0x120000, [], none, [fieldRow 0 1 .rw .fwBmc]⟩,
  ⟨"DX_STATUS", 0x120008, [], none, [fieldRow 0 16 .ro .nobody, fieldRow 16 16 .ro .nobody, fieldRow 32 1 .ro .nobody, fieldRow 33 1 .ro .nobody]⟩,
  ⟨"DX_RESET_VEC", 0x120010, [], none, [imageRow 0 64 .rw .fwBmc]⟩,
  ⟨"DX_MTIME", 0x120018, [], none, [fieldRow 0 64 .ro .nobody]⟩,
  ⟨"DX_ECC", 0x120020, [], none, [fieldRow 0 32 .ro .nobody, fieldRow 32 16 .ro .nobody]⟩,
  ⟨"DX_IPI", 0x120028, [], none, [fieldRow 0 16 .w1s .fw]⟩,
  ⟨"DX_IPI_CLR", 0x120030, [], none, [fieldRow 0 16 .w1c .fw]⟩,
  ⟨"DX_FRAME_ACK", 0x120038, [], none, [fieldRow 0 16 .w1c .fw]⟩,
  ⟨"DX_EVENTS", 0x120040, [], none, [fieldRow 0 1 .w1c .fw, fieldRow 1 1 .w1c .fw, fieldRow 2 1 .w1c .fw]⟩,
  ⟨"DX_CORE_CTL", 0x120100, [(16, 0x40)], none, [fieldRow 0 1 .rw .fwBmc, fieldRow 1 1 .wo .fwBmc, fieldRow 2 1 .wo .fwBmc, fieldRow 3 1 .wo .fwBmc]⟩,
  ⟨"DX_CORE_STATUS", 0x120108, [(16, 0x40)], none, [fieldRow 0 2 .ro .nobody, fieldRow 2 1 .ro .nobody, fieldRow 32 32 .ro .nobody]⟩,
  ⟨"DX_CORE_PC", 0x120110, [(16, 0x40)], none, [fieldRow 0 64 .ro .nobody]⟩]
def regs_DEXITH_1 : List RegDef := [
  ⟨"DX_MTIMECMP", 0x120118, [(16, 0x40)], none, [fieldRow 0 64 .rw .fw]⟩,
  ⟨"EVQ_CTL", 0x120800, [(16, 0x80)], none, [fieldRow 0 1 .rw .fw, fieldRow 1 1 .rw .fw, fieldRow 2 1 .wo .fw]⟩,
  ⟨"EVQ_STATUS", 0x120808, [(16, 0x80)], none, [fieldRow 0 9 .ro .nobody, fieldRow 9 1 .ro .nobody, fieldRow 32 32 .ro .nobody]⟩,
  ⟨"EVQ_POP", 0x120810, [(16, 0x80)], none, [fieldRow 0 64 .ro .nobody]⟩,
  ⟨"EVQ_LATCH", 0x120818, [(16, 0x80), (3, 0x8)], none, [fieldRow 0 64 .ro .nobody]⟩,
  ⟨"EVQ_PEEK", 0x120830, [(16, 0x80), (4, 0x8)], none, [fieldRow 0 64 .ro .nobody]⟩,
  ⟨"EVT_ROUTE", 0x121000, [(88, 0x8)], none, [imageRow 0 16 .rw .fw]⟩]
/-- The registers of block DEXITH. -/
def regs_DEXITH : List RegDef := regs_DEXITH_0 ++ regs_DEXITH_1

def regs_CFLASH_0 : List RegDef := [
  ⟨"CF_STATUS", 0x130000, [], none, [fieldRow 0 2 .ro .nobody, fieldRow 2 2 .ro .nobody, fieldRow 4 1 .ro .nobody, fieldRow 5 1 .ro .nobody]⟩,
  ⟨"CF_ADDR", 0x130008, [], none, [fieldRow 9 19 .rw .fwBmc]⟩,
  ⟨"CF_CMD", 0x130010, [], none, [fieldRow 0 2 .wo (.fwBmcOp 3)]⟩,
  ⟨"CF_OP_STATUS", 0x130018, [], none, [fieldRow 0 2 .ro .nobody, fieldRow 2 4 .ro .nobody, fieldRow 6 2 .ro .nobody, fieldRow 32 32 .ro .nobody]⟩,
  ⟨"CF_OP_TIME", 0x130020, [], none, [fieldRow 0 32 .ro .nobody, fieldRow 32 32 .ro .nobody]⟩,
  ⟨"CF_HASH_LEN", 0x130028, [], none, [fieldRow 0 13 .rw .fwBmc]⟩,
  ⟨"CF_WP_CTL", 0x130030, [], none, [fieldRow 0 1 .w1s .fw]⟩,
  ⟨"CF_STARVE", 0x130038, [], none, [fieldRow 0 32 .ro .nobody]⟩,
  ⟨"CF_INTERRUPTED", 0x130040, [], none, [fieldRow 0 1 .ro .nobody, fieldRow 1 1 .ro .nobody, fieldRow 9 19 .ro .nobody]⟩,
  ⟨"CF_XO_VIOL", 0x130048, [], none, [fieldRow 0 28 .ro .nobody, fieldRow 32 32 .ro .nobody]⟩,
  ⟨"CF_READ_STAT", 0x130050, [], none, [fieldRow 0 32 .ro .nobody, fieldRow 32 32 .ro .nobody]⟩,
  ⟨"CF_EVENTS", 0x130058, [], none, [fieldRow 0 1 .w1c .fw, fieldRow 1 1 .w1c .fw, fieldRow 2 1 .w1c .fw, fieldRow 3 1 .w1c .fw, fieldRow 4 1 .w1c .fwBmc, fieldRow 5 1 .w1c .fw, fieldRow 6 1 .w1c .fw]⟩]
def regs_CFLASH_1 : List RegDef := [
  ⟨"CF_PAGE_BUF", 0x130100, [(64, 0x8)], none, [fieldRow 0 64 .rw .fw]⟩,
  ⟨"CF_WP", 0x130400, [(64, 0x8)], (some (0x130030, 0)), [imageRow 0 64 .rwl .fw]⟩,
  ⟨"CF_XO", 0x130600, [(16, 0x8)], none, [imageRow 0 16 .ro .nobody, imageRow 16 16 .ro .nobody]⟩,
  ⟨"CF_HASH", 0x130680, [(6, 0x8)], none, [fieldRow 0 64 .ro .nobody]⟩]
/-- The registers of block CFLASH. -/
def regs_CFLASH : List RegDef := regs_CFLASH_0 ++ regs_CFLASH_1

def regs_RACK_0 : List RegDef := [
  ⟨"RACK_STATUS", 0x140000, [], none, [fieldRow 0 1 .ro .nobody, fieldRow 1 1 .ro .nobody, fieldRow 2 10 .ro .nobody, fieldRow 16 16 .ro .nobody]⟩,
  ⟨"RACK_COUNT", 0x140008, [], none, [fieldRow 0 32 .ro .nobody, fieldRow 32 32 .ro .nobody]⟩,
  ⟨"RACK_ERR", 0x140010, [], none, [fieldRow 3 20 .ro .nobody, fieldRow 48 16 .ro .nobody]⟩,
  ⟨"RACK_OPSEC", 0x140018, [], none, [fieldRow 0 40 .ro .nobody]⟩,
  ⟨"RACK_PWRCYC", 0x140020, [], none, [fieldRow 0 32 .ro .nobody]⟩,
  ⟨"RACK_LOSS", 0x140028, [], none, [fieldRow 0 32 .ro .nobody]⟩,
  ⟨"RACK_RD_ADDR", 0x140040, [], none, [fieldRow 3 20 .rw .fwBmc]⟩,
  ⟨"RACK_RD_DATA", 0x140048, [], none, [fieldRow 0 64 .ro .nobody]⟩,
  ⟨"RACK_RD_TAG", 0x140050, [], none, [fieldRow 0 1 .ro .nobody, fieldRow 1 1 .ro .nobody, fieldRow 2 20 .ro .nobody]⟩,
  ⟨"RACK_FW_CMD", 0x140060, [], none, [fieldRow 3 20 .wo .fw, fieldRow 23 7 .wo .fw]⟩,
  ⟨"RACK_FW_STATUS", 0x140068, [], none, [fieldRow 0 2 .ro .nobody]⟩,
  ⟨"RACK_FW_BUF", 0x140200, [(64, 0x8)], none, [fieldRow 0 64 .rw .fw]⟩]
def regs_RACK_1 : List RegDef := [
  ⟨"RACK_EVENTS", 0x140070, [], none, [fieldRow 0 1 .w1c .fw, fieldRow 1 1 .w1c .fw, fieldRow 2 1 .w1c .fwBmc, fieldRow 3 1 .w1c .fw, fieldRow 4 1 .w1c .fwBmc, fieldRow 5 1 .w1c .fw, fieldRow 6 1 .w1c .fw]⟩]
/-- The registers of block RACK. -/
def regs_RACK : List RegDef := regs_RACK_0 ++ regs_RACK_1

def regs_SPIKE_0 : List RegDef := [
  ⟨"SPK_CTL", 0x150000, [], none, [fieldRow 0 1 .rw .fwBmc, fieldRow 1 1 .wo .fw]⟩,
  ⟨"SPK_CFG", 0x150008, [], none, [imageRow 0 16 .rw .fw]⟩,
  ⟨"SPK_SRC_EN_0", 0x150010, [], none, [imageRow 0 64 .rw .fw]⟩,
  ⟨"SPK_SRC_EN_1", 0x150018, [], none, [imageRow 0 24 .rw .fw]⟩,
  ⟨"SPK_STATUS", 0x150020, [], none, [fieldRow 0 15 .ro .nobody, fieldRow 15 1 .ro .nobody, fieldRow 16 1 .ro .nobody, fieldRow 17 1 .ro .nobody, fieldRow 18 7 .ro .nobody]⟩,
  ⟨"SPK_COUNT", 0x150028, [], none, [fieldRow 0 32 .ro .nobody, fieldRow 32 16 .ro .nobody, fieldRow 48 16 .ro .nobody]⟩,
  ⟨"SPK_MISSED", 0x150030, [], none, [fieldRow 0 32 .ro .nobody, fieldRow 32 32 .ro .nobody]⟩,
  ⟨"SPK_OLDEST", 0x150038, [], none, [fieldRow 0 64 .ro .nobody]⟩,
  ⟨"SPK_NEWEST", 0x150040, [], none, [fieldRow 0 64 .ro .nobody]⟩,
  ⟨"SPK_W_CURSOR", 0x150100, [(2, 0x100)], none, [fieldRow 0 64 .rw .window]⟩,
  ⟨"SPK_W_STEP", 0x150108, [(2, 0x100)], none, [fieldRow 0 1 .wo .window]⟩,
  ⟨"SPK_W_STATUS", 0x150110, [(2, 0x100)], none, [fieldRow 0 1 .ro .nobody, fieldRow 1 1 .ro .nobody, fieldRow 2 1 .ro .nobody, fieldRow 16 16 .ro .nobody]⟩]
def regs_SPIKE_1 : List RegDef := [
  ⟨"SPK_W_REC", 0x150140, [(2, 0x100), (8, 0x8)], none, [fieldRow 0 64 .ro .nobody]⟩,
  ⟨"SPK_CLR_CTL", 0x150300, [], none, [fieldRow 0 1 .wo .fwBmc, fieldRow 1 1 .wo .fwBmc]⟩,
  ⟨"SPK_CLR_STATUS", 0x150308, [], none, [fieldRow 0 2 .ro .nobody, fieldRow 2 4 .ro .nobody, fieldRow 6 4 .ro .nobody, fieldRow 32 32 .ro .nobody]⟩,
  ⟨"SPK_CLR_UPTO", 0x150310, [], none, [fieldRow 0 64 .rw .fwBmc]⟩,
  ⟨"SPK_CLR_CHALLENGE", 0x150320, [(4, 0x8)], none, [fieldRow 0 64 .ro .nobody]⟩,
  ⟨"SPK_CLR_RESP", 0x150400, [(56, 0x8)], none, [fieldRow 0 64 .rw .fwBmc]⟩,
  ⟨"SPK_EVENTS", 0x150340, [], none, [fieldRow 0 1 .w1c .fw, fieldRow 1 1 .w1c .fwBmc, fieldRow 2 1 .w1c .fwBmc, fieldRow 3 1 .w1c .fwBmc, fieldRow 4 1 .w1c .fwBmc, fieldRow 5 1 .w1c .fwBmc]⟩]
/-- The registers of block SPIKE. -/
def regs_SPIKE : List RegDef := regs_SPIKE_0 ++ regs_SPIKE_1

def regs_HOB_0 : List RegDef := [
  ⟨"HOB_REQ", 0x160000, [], none, [fieldRow 0 2 .wo .fwBmc]⟩,
  ⟨"HOB_STATUS", 0x160008, [], none, [fieldRow 0 3 .ro .nobody, fieldRow 3 1 .ro .nobody, fieldRow 4 1 .ro .nobody, fieldRow 5 1 .ro .nobody, fieldRow 8 5 .ro .nobody, fieldRow 16 16 .ro .nobody, fieldRow 32 4 .ro .nobody]⟩,
  ⟨"HOB_RAILS", 0x160010, [], none, [fieldRow 0 24 .ro .nobody, fieldRow 24 24 .ro .nobody]⟩,
  ⟨"HOB_RAIL_FAULT", 0x160018, [], none, [fieldRow 0 24 .ro .nobody, fieldRow 24 24 .ro .nobody]⟩,
  ⟨"HOB_FENCE_0", 0x160020, [], none, [fieldRow 0 64 .ro .nobody]⟩,
  ⟨"HOB_FENCE_1", 0x160028, [], none, [fieldRow 0 24 .ro .nobody]⟩,
  ⟨"HOB_EVENTS", 0x160030, [], none, [fieldRow 0 1 .w1c .fwBmc, fieldRow 1 1 .w1c .fwBmc, fieldRow 2 1 .w1c .fwBmc, fieldRow 3 1 .w1c .fwBmc, fieldRow 4 1 .w1c .fwBmc, fieldRow 5 1 .w1c .fwBmc, fieldRow 6 1 .w1c .fwBmc, fieldRow 7 1 .w1c .fwBmc, fieldRow 8 1 .w1c .fwBmc, fieldRow 9 1 .w1c .fwBmc, fieldRow 10 1 .w1c .fwBmc, fieldRow 11 1 .w1c .fwBmc]⟩,
  ⟨"HOB_LOG", 0x160038, [], none, [fieldRow 0 13 .ro .nobody, fieldRow 32 32 .ro .nobody]⟩,
  ⟨"HOB_RAIL_CTL", 0x160100, [(24, 0x40)], none, [fieldRow 0 1 .wo .fwBmc, fieldRow 1 1 .wo .fwBmc, imageRow 8 8 .rw .fw]⟩,
  ⟨"HOB_RAIL_STATE", 0x160108, [(24, 0x40)], none, [fieldRow 0 3 .ro .nobody, imageRow 3 1 .ro .nobody, fieldRow 16 16 .ro .nobody]⟩,
  ⟨"HOB_RAIL_RANGE", 0x160110, [(24, 0x40)], none, [fieldRow 0 16 .ro .nobody, fieldRow 16 16 .ro .nobody]⟩,
  ⟨"HOB_RAIL_CNT", 0x160118, [(24, 0x40)], none, [fieldRow 0 16 .ro .nobody, fieldRow 16 16 .ro .nobody]⟩]
def regs_HOB_1 : List RegDef := [
  ⟨"HOB_RAIL_TIME", 0x160120, [(24, 0x40)], none, [fieldRow 0 32 .ro .nobody, fieldRow 32 32 .ro .nobody]⟩,
  ⟨"HOB_RAIL_LIFE", 0x160128, [(24, 0x40)], none, [fieldRow 0 32 .ro .nobody, fieldRow 32 32 .ro .nobody]⟩,
  ⟨"HOB_RST", 0x160800, [(8, 0x8)], none, [imageRow 0 24 .rw .fw, imageRow 24 20 .rw .fw, fieldRow 44 1 .rw .fwBmc, fieldRow 45 1 .wo .fwBmc, fieldRow 46 1 .ro .nobody]⟩]
/-- The registers of block HOB. -/
def regs_HOB : List RegDef := regs_HOB_0 ++ regs_HOB_1

def regs_THERMAL_0 : List RegDef := [
  ⟨"TH_STATUS", 0x170000, [], none, [fieldRow 0 3 .ro .nobody, fieldRow 3 3 .ro .nobody, fieldRow 6 3 .ro .nobody, fieldRow 9 3 .ro .nobody, fieldRow 12 3 .ro .nobody, fieldRow 15 1 .ro .nobody, fieldRow 16 1 .ro .nobody]⟩,
  ⟨"TH_CTL", 0x170008, [], none, [fieldRow 0 1 .rw .fw, fieldRow 1 3 .rw .fw]⟩,
  ⟨"TH_HOT", 0x170010, [], none, [fieldRow 0 16 .ro .nobody, fieldRow 16 16 .ro .nobody, fieldRow 32 16 .ro .nobody]⟩,
  ⟨"TH_COUNT", 0x170018, [], none, [fieldRow 0 32 .ro .nobody, fieldRow 32 32 .ro .nobody]⟩,
  ⟨"TH_EVENTS", 0x170020, [], none, [fieldRow 0 1 .w1c .fwBmc, fieldRow 1 1 .w1c .fwBmc, fieldRow 2 1 .w1c .fwBmc, fieldRow 3 1 .w1c .fwBmc, fieldRow 4 1 .w1c .fw]⟩,
  ⟨"TH_SENSOR", 0x170100, [(24, 0x8)], none, [fieldRow 0 16 .ro .nobody, fieldRow 16 1 .ro .nobody, fieldRow 17 1 .ro .nobody, fieldRow 32 16 .ro .nobody]⟩]
/-- The registers of block THERMAL. -/
def regs_THERMAL : List RegDef := regs_THERMAL_0

def regs_BOOT_0 : List RegDef := [
  ⟨"BOOT_STATUS", 0x180000, [], none, [fieldRow 0 3 .ro .nobody, fieldRow 3 1 .ro .nobody, fieldRow 4 4 .ro .nobody, fieldRow 8 4 .ro .nobody, fieldRow 12 1 .ro .nobody, fieldRow 13 1 .ro .nobody]⟩,
  ⟨"BOOT_CTL", 0x180008, [], none, [fieldRow 0 1 .wo .fwBmc, fieldRow 1 1 .wo .fwBmc]⟩,
  ⟨"BOOT_TIME", 0x180010, [(8, 0x8)], none, [fieldRow 0 32 .ro .nobody]⟩,
  ⟨"BOOT_COUNT", 0x180050, [], none, [fieldRow 0 32 .ro .nobody, fieldRow 32 32 .ro .nobody]⟩,
  ⟨"BOOT_WDT_CFG", 0x180058, [], (some (0x180058, 18)), [imageRow 0 16 .rwl .fw, imageRow 16 2 .rwl .fw, fieldRow 18 1 .w1s .fw]⟩,
  ⟨"BOOT_WDT_KICK", 0x180060, [], none, [fieldRow 0 1 .wo .fw]⟩,
  ⟨"BOOT_WDT_STATUS", 0x180068, [], none, [fieldRow 0 16 .ro .nobody, fieldRow 32 32 .ro .nobody]⟩,
  ⟨"BOOT_EVENTS", 0x180070, [], none, [fieldRow 0 1 .w1c .fwBmc, fieldRow 1 1 .w1c .fw, fieldRow 2 1 .w1c .fwBmc]⟩]
/-- The registers of block BOOT. -/
def regs_BOOT : List RegDef := regs_BOOT_0

def regs_STATE_0 : List RegDef := [
  ⟨"STATE_SEL", 0x190000, [], none, [fieldRow 0 8 .rw .fwBmc, fieldRow 8 40 .rw .fwBmc]⟩,
  ⟨"STATE_CMD", 0x190008, [], none, [fieldRow 0 1 .wo .fwBmc]⟩,
  ⟨"STATE_STATUS", 0x190010, [], none, [fieldRow 0 2 .ro .nobody, fieldRow 2 1 .ro .nobody, fieldRow 3 1 .ro .nobody, fieldRow 4 1 .ro .nobody, fieldRow 5 8 .ro .nobody, fieldRow 13 40 .ro .nobody, fieldRow 53 1 .ro .nobody]⟩,
  ⟨"STATE_FRAME", 0x190018, [], none, [fieldRow 0 64 .ro .nobody]⟩,
  ⟨"STATE_SEQ", 0x190020, [], none, [fieldRow 0 64 .ro .nobody]⟩,
  ⟨"STATE_LEN", 0x190028, [], none, [fieldRow 0 10 .ro .nobody]⟩,
  ⟨"STATE_DATA", 0x190100, [(64, 0x8)], none, [fieldRow 0 64 .ro .nobody]⟩,
  ⟨"SHADOW_SEL", 0x190400, [], none, [fieldRow 3 22 .rw .fwBmc]⟩,
  ⟨"SHADOW_VALUE", 0x190408, [], none, [fieldRow 0 64 .ro .nobody]⟩,
  ⟨"SHADOW_SEQ", 0x190410, [], none, [fieldRow 0 64 .ro .nobody]⟩,
  ⟨"SHADOW_INFO", 0x190418, [], none, [fieldRow 0 1 .ro .nobody, fieldRow 1 2 .ro .nobody, fieldRow 3 22 .ro .nobody]⟩]
/-- The registers of block STATE. -/
def regs_STATE : List RegDef := regs_STATE_0

/-- The registers of the block of index `b` (R33). -/
def blockRegs : Nat → List RegDef
  | 0 => regs_GLOBAL
  | 1 => regs_CONFIG
  | 2 => regs_TIME
  | 3 => regs_NEARCACHE
  | 4 => regs_STOCKPOT
  | 5 => regs_MEDIA
  | 6 => regs_MTL
  | 7 => regs_PERSIST
  | 8 => regs_TWIN
  | 9 => regs_CXLPORT
  | 10 => regs_RDMA
  | 11 => regs_RAMEKIN
  | 12 => regs_QUEUE
  | 13 => regs_SCHED
  | 14 => regs_CIPHER
  | 15 => regs_DEXITH
  | 16 => regs_CFLASH
  | 17 => regs_RACK
  | 18 => regs_SPIKE
  | 19 => regs_HOB
  | 20 => regs_THERMAL
  | 21 => regs_BOOT
  | 22 => regs_STATE
  | _ => []

/-- Block bases in the order of R33 (index 0 GLOBAL to 22 STATE). -/
def blockBases : List Nat := [0x0, 0x10000, 0x20000, 0x30000, 0x40000, 0x60000, 0x80000, 0x90000, 0xa0000, 0xb0000, 0xc0000, 0xe0000, 0xf0000, 0x100000, 0x110000, 0x120000, 0x130000, 0x140000, 0x150000, 0x160000, 0x170000, 0x180000, 0x190000]

end Sys2Proof.Machine
end

