-- ==== Sys2Proof/Machine/Access.lean ====
section
/-! DEFINITION. How a register write is judged, field by field (R5 to R12, R33, R439). -/

namespace Sys2Proof.Machine

/-- Index of the block that holds a CSPACE address, none outside every block (R33). -/
def blockOf (a : Nat) : Option Nat :=
  if a ≥ 0x200000 then none else some ((blockBases.filter (· ≤ a)).length - 1)

/-- Whether an address is one of an array of registers, strides (count, stride) from `a0`. -/
def inArray (a0 : Nat) : List (Nat × Nat) → Nat → Bool
  | [], a => a == a0
  | (n, st) :: r, a => a0 ≤ a && (a - a0) / st < n && inArray (a0 + (a - a0) / st * st) r a

/-- The register of the map at a CSPACE address (R33). -/
def findReg (a : Nat) : Option RegDef :=
  match blockOf a with
  | some b => (blockRegs b).find? fun r => inArray r.addr r.dims a
  | none => none

/-- First index of an array register at an address. -/
def regIndex (r : RegDef) (a : Nat) : Nat :=
  match r.dims with
  | (_, st) :: _ => (a - r.addr) / st
  | [] => 0

namespace Body

/-- How many Ethernet ports the split gives (R62, R265). -/
def ethPortCount (s : Body) : Nat := match s.cfg.img.fix.ethSplit with
  | 0 => 2 | 1 => 4 | _ => 8

/-- Whether a field is the ENABLE of a port that the split does not give: it reads zero and a write of it
is discarded (R243, R266). -/
def portAbsent (s : Body) (f : Fld) : Bool :=
  f.lo == 0 && ((0xb0000 ≤ f.addr && (range' s.cxlPortCount (16 - s.cxlPortCount)).any (fun p => f.addr == (F.CXP_CTL_ENABLE p).addr))
    || (0xc0000 ≤ f.addr && (range' s.ethPortCount (8 - s.ethPortCount)).any (fun p => f.addr == (F.ETH_CTL_ENABLE p).addr)))

/-- Whether the Writers column names the actor for a field (R11), with the conditions some columns carry. `value` is the word
written. -/
def namesActor (s : Body) (r : RegDef) (a : Nat) (f : FieldDef) (actor : Actor) (value : Word) : Bool :=
  match f.writers, actor with
  | .nobody, _ => false
  | .window, .firmware => regIndex r a == 0
  | .window, .bmc => regIndex r a == 1
  | .window, _ => false
  | .notClass15, .firmware => regIndex r a != 15
  | .notClass15, _ => false
  | _, .firmware => true
  | .fwBmc, .bmc => true
  | .fwBmcDbg, .bmc => true
  | .fwBmcDbg, .debugPort => true
  | .fwHost, .host _ _ => !(s.flag (F.PART_CTL_HOST_HINT_LOCK (regIndex r a)))
  | .fwBmcPolicy, .bmc => nbit s.cfg.img.fix2.secFlags 3
  | .fwBmcOp n, .bmc => value.toNat / 2 ^ f.lo % 2 ^ f.w == n
  | _, _ => false

/-- Whether firmware has blocked the actor's writes to the block (R12, R35). -/
def blocked (s : Body) (b : Nat) : Actor → Bool
  | .host _ _ => nbit (s.get F.WRITE_BLOCK_HOST) b
  | .bmc => nbit (s.get F.WRITE_BLOCK_BMC) b
  | _ => false

/-- Actor codes of SHADOW_INFO (R441). -/
def actorNo : Actor → Nat
  | .firmware => 1
  | .host _ _ => 2
  | .bmc => 3
  | .debugPort => 0

/-- One access-violation event, naming the actor and the address (R5, R11, R33). -/
def violation (s : Body) (actor : Actor) (a : Nat) : Body :=
  s.postN U.checker .accessViolation (a % 2 ^ 25 + actorNo actor * 2 ^ 25)

/-- What judging a write has come to so far: the register's word, the WO bits taken, whether some WO field was taken, whether a field
that the write would have changed was left unchanged. -/
structure Judged where
  word  : Word
  wo    : Word
  taken : Bool
  viol  : Bool
  deriving DecidableEq, Repr

/-- Judge one field (R7, R11). -/
def judgeField (s : Body) (r : RegDef) (a : Nat) (actor : Actor) (value : Word) (blk : Bool) (j : Judged) (f : FieldDef) : Judged :=
  let fld : Fld := ⟨a, f.lo, f.w⟩
  let cur := fld.ofWord j.word
  let v := fld.ofWord value
  let may := s.namesActor r a f actor value && !blk && !s.portAbsent fld
  let locked := match r.lock with
    | some (la, lb) => (s.word la).getLsbD lb
    | none => false
  match f.typ with
  | .ro => j
  | .rw => if may then { j with word := fld.insert j.word v } else { j with viol := j.viol || v != cur }
  | .rwl => if may && !locked then { j with word := fld.insert j.word v } else { j with viol := j.viol || v != cur }
  | .w1c =>
    if may then { j with word := fld.insert j.word (cur &&& (2 ^ f.w - 1 - v)) } else { j with viol := j.viol || (cur &&& v) != 0 }
  | .w1s => if may then { j with word := fld.insert j.word (cur ||| v) } else { j with viol := j.viol || (cur ||| v) != cur }
  | .wo =>
    if may then { j with wo := fld.insert j.wo v, taken := true } else { j with viol := j.viol || v != 0 }

/-- Judge every field of a register (R11, R12). -/
def judgeAll (s : Body) (actor : Actor) (a : Nat) (value : Word) (r : RegDef) : Judged :=
  let blk := match blockOf a with
    | some b => s.blocked b actor
    | none => false
  r.fields.foldl (s.judgeField r a actor value blk) { word := s.word a, wo := 0, taken := false, viol := false }

/-- What a judged write leaves: the register's word, the readback shadow (R439), one violation where one is due. -/
def judgeDone (s : Body) (actor : Actor) (a : Nat) (j : Judged) : Body :=
  let s := s.setWord a j.word
  let s := if j.taken then
      { s with rb := { s.rb with shadows := mset s.rb.shadows a ⟨j.wo, s.get F.PASS_SEQ_LAST_SEQ, actorNo actor⟩ } }
    else s
  if j.viol then s.violation actor a else s

/-- Judge a full-width write (R11, R12). The WO bits taken are the command that the unit's logic then acts on. -/
def judge (s : Body) (actor : Actor) (a : Nat) (value : Word) : Body × Word :=
  match findReg a with
  | none => (s.violation actor a, 0)
  | some r => (s.judgeDone actor a (s.judgeAll actor a value r), (s.judgeAll actor a value r).wo)

/-- Write a command register and, when the WO field that carries the command is taken, act on it. -/
def command (s : Body) (actor : Actor) (a : Nat) (value : Nat) (act : Body → Body) : Body :=
  let r := s.judge actor a (BitVec.ofNat 64 value)
  if r.2 = 0 then r.1 else act r.1

/-- Whether a write takes a field of an RW or WO kind: its Writers column names the actor, nothing blocks or locks it (R11, R12). -/
def takes (s : Body) (actor : Actor) (f : Fld) (value : Word) : Bool :=
  match findReg f.addr, blockOf f.addr with
  | some r, some b =>
    !s.blocked b actor && !s.portAbsent f
    && (match r.lock with
      | some (la, lb) => !(s.word la).getLsbD lb
      | none => true)
    && r.fields.any fun d => d.lo == f.lo && s.namesActor r f.addr d actor value
  | _, _ => false

/-- Whether an actor may write some field of a register (R11, R12). -/
def mayAct (s : Body) (actor : Actor) (a : Nat) (value : Word) : Bool :=
  match findReg a, blockOf a with
  | some d, some b => !s.blocked b actor && d.fields.any (fun f => s.namesActor d a f actor value)
  | _, _ => false

/-- Write a selector register and act on the snapshot it takes, or the value it carries, when the actor may write it. -/
def select (s : Body) (actor : Actor) (a : Nat) (value : Nat) (act : Body → Body) : Body :=
  let r := s.judge actor a (BitVec.ofNat 64 value)
  if s.mayAct actor a (BitVec.ofNat 64 value) then act r.1 else r.1

end Body

end Sys2Proof.Machine
end

