-- ==== Sys2Proof/Machine/Life.lean ====
section
/-! DEFINITION. The unit lifecycle (R29, R30, R35) and the commands of the Pass (R26, R27). The start and stop steps themselves are
the units' own and follow as what a unit asks for (Todo). -/

namespace Sys2Proof.Machine

namespace Body

/-- Ask for something of another unit in this command. -/
def later (s : Body) (t : Todo) : Body := { s with todo := s.todo ++ [t] }

/-- Encoding of a lifecycle state (R35). -/
def unitCode : UnitState → Nat
  | .off => 0 | .starting => 1 | .on => 2 | .stopping => 3

/-- A unit enters a state, which the Pass reports (R29). -/
def unitEnter (s : Body) (u : Nat) (st : UnitState) : Body :=
  let s := s.put (F.UNIT_STATE_STATE u) (unitCode st)
  s.postN u .unitEntry (unitCode st + (if st == .stopping && s.flag (F.UNIT_STATE_FAULT_STOP u) then 8 else 0))

/-- Hold a pending request, or clear it. -/
def unitPend (s : Body) (u : Nat) (p : Option Bool) : Body :=
  match p with
  | none => (s.put (F.UNIT_STATE_PENDING u) 0).put (F.UNIT_STATE_PENDING_ENABLE u) 0
  | some e => (s.put (F.UNIT_STATE_PENDING u) 1).putB (F.UNIT_STATE_PENDING_ENABLE u) e

/-- Whether an enable, or a disable, is pending. -/
def unitPending (s : Body) (u : Nat) (e : Bool) : Bool :=
  s.flag (F.UNIT_STATE_PENDING u) && s.flag (F.UNIT_STATE_PENDING_ENABLE u) == e

/-- Enter STARTING and begin the start steps. -/
def unitStart (s : Body) (u : Nat) : Body := (s.unitEnter u .starting).later (.startSteps u)
/-- Enter STOPPING and begin the stop steps. -/
def unitStop (s : Body) (u : Nat) : Body := (s.unitEnter u .stopping).later (.stopSteps u)

/-- An enable request (R29). In recovery and while the Hob is OFF after a power-down the unit stays in reset (R72, R434). -/
def unitEnable (s : Body) (u : Nat) : Body :=
  match s.unit u with
  | .off => if s.boot.held then s else s.unitStart u
  | .starting => s.unitPend u none
  | .on => s
  | .stopping => s.unitPend u (some true)

/-- A disable request (R29). -/
def unitDisable (s : Body) (u : Nat) : Body :=
  match s.unit u with
  | .off => s
  | .starting => s.unitPend u (some false)
  | .on => s.unitStop u
  | .stopping => s.unitPend u none

/-- The start steps are complete (R29). -/
def unitStarted (s : Body) (u : Nat) : Body :=
  if s.unit u != .starting then s
  else
    let p := s.unitPending u false
    let s := (s.unitEnter u .on).later (.started u)
    if p then (s.unitPend u none).unitStop u else s

/-- A start step failed (R29). -/
def unitFail (s : Body) (u : Nat) : Body :=
  if s.unit u != .starting then s
  else ((s.put (F.UNIT_STATE_START_FAILED u) 1).unitPend u none).unitStop u

/-- The stop steps are complete (R29). -/
def unitStopped (s : Body) (u : Nat) : Body :=
  if s.unit u != .stopping then s
  else
    let p := s.unitPending u true
    let s := s.unitEnter u .off
    if p then (s.unitPend u none).unitStart u else s

/-- A fault that the unit's chapter names as stopping (R29). -/
def unitFault (s : Body) (u : Nat) : Body :=
  if s.unit u != .on then s
  else (s.put (F.UNIT_STATE_FAULT_STOP u) 1).unitStop u

/-- The ENABLE field of a unit's control register (R29, R34). -/
def enableFld (u : Nat) : Option Fld :=
  if u = 0 then some F.TIME_CTL_ENABLE
  else if u = 1 then some F.NC_CTL_ENABLE
  else if u < 14 then some (F.SP_CH_CTL_ENABLE (u - 2))
  else if u < 46 then some (F.MD_CTL_ENABLE (u - 14))
  else if u = 46 then some F.MTL_CTL_ENABLE
  else if u = 47 then some F.SCOUR_CTL_ENABLE
  else if u = 48 then some F.PERSIST_CTL_ENABLE
  else if u = 49 then some F.TWIN_CTL_ENABLE
  else if u < 66 then some (F.CXP_CTL_ENABLE (u - 50))
  else if u < 74 then some (F.ETH_CTL_ENABLE (u - 66))
  else if u = 74 then some F.RDMA_CTL_ENABLE
  else if u = 75 then some F.RK_CTL_ENABLE
  else if u = 76 then some F.Q_CTL_ENABLE
  else if u = 77 then some F.SCHED_CTL_ENABLE
  else if u = 78 then some F.CIPHER_CTL_ENABLE
  else if u = 79 then some F.DX_CTL_ENABLE
  else none

/-- A write of a unit's control register with ENABLE at `e` and the other fields as they stand; the request is what the field then says. -/
def writeEnable (s : Body) (actor : Actor) (u : Nat) (e : Bool) : Body :=
  match enableFld u with
  | none => s
  | some f =>
    let r := (s.judge actor f.addr (f.insert (s.word f.addr) (b2n e))).1
    if r.flag f == e then (if e then r.unitEnable u else r.unitDisable u) else r

/-- Units of R34 that a mask of 88 bits names. -/
def unitsOf (mask : Nat) : List Nat := (List.range 88).filter (nbit mask)

/-- Whether a unit is fenced (R413). -/
def fenced (s : Body) (u : Nat) : Bool :=
  if u < 64 then nbit (s.get F.HOB_FENCE_0_UNITS) u else nbit (s.get F.HOB_FENCE_1_UNITS) (u - 64)

end Body

/-! ## The commands of the Pass -/

/-- PASS_OVERFLOW (R26): an entry of the source's buffer is free and discards stand uncounted. -/
def execPassOverflow (src : Nat) (s : State) : Host.Outcome State Fault Refusal :=
  let n := mgetD s.pass.lost src 0
  let held := ((mgetD s.pass.bufs src []).filter (!s.body.fatalClass ·)).length
  if n = 0 || held ≥ 14 then .next s
  else .next (State.finish { s with
    pass := { s.pass with lost := merase s.pass.lost src }
    body := s.body.postN src .passOverflow n })

/-- PASS_MARK_STORE (R27, R391): PASS_SEQ has reached M + 2^31. -/
def execPassMarkStore (s : State) : Host.Outcome State Fault Refusal :=
  if s.pass.storing.isSome || !s.pass.ready || s.pass.last < s.pass.mark + 2 ^ 31 then .next s
  else .next (State.finish { s with
    pass := { s.pass with storing := some (s.pass.mark + 2 ^ 31) }
    body := s.body.storeMark 0 (s.pass.mark + 2 ^ 31) })

/-- PASS_MARK_STALL (R27): PASS_SEQ has reached M + 2^32 − 1 and the mark store has not finished. -/
def execPassMarkStall (s : State) : Host.Outcome State Fault Refusal :=
  if s.pass.stall || !s.pass.ready || s.pass.last < s.pass.mark + 2 ^ 32 - 1 then .next s
  else .next (State.finish { s with
    pass := { s.pass with stall := true }
    body := (s.body.put F.PASS_STATUS_MARK_STALL 1).raise U.pass F.PASS_STATUS_MARK_STALLED })

/-- PASS_MARK_STORE_DONE (R27): both slots of the ring are written. -/
def execPassMarkStoreDone (s : State) : Host.Outcome State Fault Refusal :=
  match s.pass.storing with
  | none => .next s
  | some v =>
    if s.body.ringBusy 0 then .next s
    else .next (State.finish { s with
      pass := { s.pass with mark := v, storing := none, ready := true, stall := false }
      body := (s.body.put F.PASS_MARK_MARK v).put F.PASS_STATUS_MARK_STALL 0 })

end Sys2Proof.Machine
end

