-- ==== Sys2Proof/Machine/Hob.lean ====
section
/-! DEFINITION. The Hob (R409 to R421): rails, power-up and power-down, fences, reset outputs, its log and counters. -/

namespace Sys2Proof.Machine

namespace Body

/-- State of the Hob (R417, R428). -/
def hobState (s : Body) : HobState :=
  match s.get F.HOB_STATUS_STATE with
  | 0 => .off | 1 => .poweringUp | 2 => .up | 3 => .flushing | _ => .poweringDown
/-- Encoding of a Hob state (R428). -/
def hobCode : HobState → Nat
  | .off => 0 | .poweringUp => 1 | .up => 2 | .flushing => 3 | .poweringDown => 4
/-- State of a rail (R428). -/
def railState (s : Body) (r : Nat) : RailState :=
  match s.get (F.HOB_RAIL_STATE_STATE r) with
  | 0 => .off | 1 => .rising | 2 => .debouncing | 3 => .up | 4 => .failed | 5 => .falling | _ => .minOff
/-- Encoding of a rail state (R428). -/
def railCode : RailState → Nat
  | .off => 0 | .rising => 1 | .debouncing => 2 | .up => 3 | .failed => 4 | .falling => 5 | .minOff => 6
/-- Encoding of a cause (R428). -/
def downCode : DownCause → Nat
  | .none => 0 | .request => 1 | .powerFail => 2 | .railLost => 3 | .thermal => 4 | .trip => 5

/-- Set a rail's state. -/
def setRailState (s : Body) (r : Nat) (st : RailState) : Body := s.put (F.HOB_RAIL_STATE_STATE r) (railCode st)
/-- The Hob's own record of a rail. -/
def rail (s : Body) (r : Nat) : Rail := mgetD s.hob.rails r {}
/-- Set the Hob's own record of a rail. -/
def setRail (s : Body) (r : Nat) (x : Rail) : Body := { s with hob := { s.hob with rails := mset s.hob.rails r x } }
/-- The table entry of a rail (R409). -/
def railDef (s : Body) (r : Nat) : Option RailDef := s.hob.table.find? (·.rail == r)
/-- Position of a rail in the table. -/
def railPos (s : Body) (r : Nat) : Option Nat := s.hob.table.findIdx? (·.rail == r)
/-- A bit of a mask set or cleared. -/
def putBit (s : Body) (f : Fld) (i : Nat) (b : Bool) : Body :=
  let v := s.get f
  s.put f (if b then v ||| 2 ^ i else v &&& (2 ^ f.w - 1 - 2 ^ i))

/-- One entry of the Hob log in the Rack, and its burst at order 3 (R421). -/
def hobLog (s : Body) (rail ev det us : Nat) : Body :=
  let n := s.get F.HOB_LOG_NEXT
  let mv := if rail < 24 then s.get (F.HOB_RAIL_STATE_SENSE_MV rail) else 0
  let q := s.get F.PASS_SEQ_LAST_SEQ
  let secs := s.counter 0
  let e : HobLog := { seq := q, secs := secs, rail := rail, ev := ev, det := det, mv := mv, us := us }
  let w1 := secs % 2 ^ 40 + rail % 256 * 2 ^ 40 + ev * 2 ^ 48 + det * 2 ^ 56
  let w2 := mv + us % 2 ^ 32 * 2 ^ 32
  let l := sealWords [BitVec.ofNat 64 q, BitVec.ofNat 64 w1, BitVec.ofNat 64 w2] 0
  let s := { s with hob := { s.hob with log := (e :: s.hob.log).take 8192 } }
  ((s.put F.HOB_LOG_NEXT ((n + 1) % 8192)).inc F.HOB_LOG_WRITTEN).rackPut .record (.data (0x18000 + 4 * n) l)

/-- The Hob enters a state: reported through the Pass, logged (R417, R421). -/
def setHob (s : Body) (st : HobState) : Body :=
  ((s.put F.HOB_STATUS_STATE (hobCode st)).postN U.hob .hobState (hobCode st)).hobLog 0xFF 7 (hobCode st) 0

/-! ## Fences (R412, R413) -/

/-- Recompute the fence registers from what the rails fence. -/
def fenceRegs (s : Body) : Body :=
  let all := s.hob.rails.flatMap (·.2.fences)
  let m (lo n : Nat) : Nat := (List.range n).foldl (fun a i => if all.contains (lo + i) then a + 2 ^ i else a) 0
  (s.put F.HOB_FENCE_0_UNITS (m 0 64)).put F.HOB_FENCE_1_UNITS (m 64 24)

/-- A rail fences its units: one that is ON stops with FAULT_STOP, one that is STARTING fails its start (R412, R413). -/
def fence (s : Body) (r : Nat) : Body :=
  match s.railDef r with
  | none => s
  | some d =>
    let us := unitsOf d.fence
    let s := (s.setRail r { s.rail r with fences := us }).fenceRegs
    let s := s.when (!us.isEmpty) (·.raise U.hob F.HOB_EVENTS_FENCED)
    s.forEach us fun s u => (s.unitFault u).unitFail u

/-- A recovered rail lifts every fence bit that no other failed rail holds (R413). -/
def unfence (s : Body) (r : Nat) : Body := (s.setRail r { s.rail r with fences := [] }).fenceRegs

/-! ## Reset outputs (R420) -/

/-- Whether a reset output names a rail. -/
def rstNames (s : Body) (n r : Nat) : Bool := nbit (s.get (F.HOB_RST_RAIL_MASK n)) r

/-- Assert a reset output. -/
def rstAssert (s : Body) (n : Nat) : Body :=
  let was := s.hob.outs.contains n
  let s := { s with hob := { s.hob with outs := s.hob.outs.filter (· != n) } }
  s.when was (·.send (.resetOut n true))

/-- Assert every reset output that names a rail. -/
def rstRail (s : Body) (r : Nat) : Body :=
  s.forEach ((List.range 8).filter fun n => s.rstNames n r) rstAssert

/-- Whether a reset output may be released: its rails are up, or the Hob is UP when its mask is zero; no HOLD (R420). -/
def rstMay (s : Body) (n : Nat) : Bool :=
  let m := s.get (F.HOB_RST_RAIL_MASK n)
  !s.flag (F.HOB_RST_HOLD n)
  && (if m = 0 then s.hobState == .up
      else (List.range 24).all fun r => !nbit m r || s.railState r == .up)

/-! ## Enables -/

/-- Assert a rail's enable. -/
def railOn (s : Body) (r : Nat) : Body := (s.putBit F.HOB_RAILS_ENABLED r true).send (.railEn r true)
/-- Deassert a rail's enable. -/
def railOff (s : Body) (r : Nat) : Body :=
  if nbit (s.get F.HOB_RAILS_ENABLED) r then (s.putBit F.HOB_RAILS_ENABLED r false).send (.railEn r false) else s

/-! ## Power-down (R414, R415) -/

/-- Rails still to be taken, highest step first: the table below position `n`. -/
def downRail (s : Body) (n : Nat) : Option Nat := if n = 0 then none else (s.hob.table[n - 1]?).map (·.rail)

/-- Go through rails from position `n` down: one whose voltage is below OFF_MV with its enable off is passed, the first other one is
taken (R414). Fuel counts the rails left. -/
def downFrom : Nat → Body → Body
  | 0, s => s
  | fuel + 1, s =>
    match s.downRail s.hob.step with
    | none => s
    | some r =>
      let on := nbit (s.get F.HOB_RAILS_ENABLED) r
      if !on && (s.rail r).below then downFrom fuel { s with hob := { s.hob with step := s.hob.step - 1 } }
      else
        let s := (s.rstRail r).railOff r
        let s := s.when on (fun s => s.setRailState r .falling)
        s.setRail r { s.rail r with timedOut := false, skip := false, below := (s.rail r).below && !on }

/-- Begin a power-up at the lowest step (R411). Its first rail waits for its minimum off time (R418). -/
def upBegin (s : Body) : Body :=
  let s := (s.setHob .poweringUp).put F.HOB_STATUS_PENDING_ON 0
  let s := { s with hob := { s.hob with step := 0 } }
  let s := s.put F.HOB_STATUS_STEP 0
  match s.hob.table[0]? with
  | some d => s.setRailState d.rail .minOff
  | none => (s.setHob .up).raise U.hob F.HOB_EVENTS_UP_DONE

/-- The last rail is below OFF_MV: the Hob powers up again when an ON is held, else it is OFF (R417). A system reset that waited for
this goes on (R433). -/
def downDone (s : Body) : Body :=
  let s := s.put F.HOB_STATUS_PENDING_OFF 0
  let s := { s with hob := { s.hob with pfDown := s.hob.offWhy == DownCause.powerFail, force := false, offWhy := .none } }
  if s.flag F.HOB_STATUS_PENDING_ON && !s.hob.resetAfter then
    (s.put F.HOB_RAIL_FAULT_DOWN_TIMEOUT 0).upBegin
  else
    let again := s.hob.resetAfter
    let s := (s.setHob .off).raise U.hob F.HOB_EVENTS_DOWN_DONE
    let s := (s.put F.HOB_STATUS_PFAIL 0).put F.HOB_STATUS_PENDING_ON 0
    let s := { s with hob := { s.hob with resetAfter := false } }.later .hobDown
    s.when again (·.later .resetNow)

/-- Take the next rail of a power-down; with none left the power-down is over. -/
def downNext (s : Body) : Body :=
  let s := downFrom 24 s
  let s := s.put F.HOB_STATUS_STEP (s.hob.step - 1)
  if s.hob.step = 0 then s.downDone else s

/-- Begin a power-down from position `n` of the table (R414). -/
def downBegin (s : Body) (n : Nat) : Body :=
  let s := (s.setHob .poweringDown).put F.HOB_RAIL_FAULT_DOWN_TIMEOUT 0
  let s := s.put F.HOB_STATUS_LAST_DOWN_CAUSE (downCode s.hob.offWhy)
  let s := s.put F.HOB_STATUS_PENDING_OFF 0
  let s := { s with hob := { s.hob with step := n, force := s.hob.force || s.hob.offWhy == DownCause.powerFail } }
  s.downNext

/-- The rail in front of the power-down is done: its voltage fell, or the Hob waits for it no longer. -/
def downPass (s : Body) : Body :=
  let s := { s with hob := { s.hob with step := s.hob.step - 1 } }
  s.downNext

/-- Whether `r` is the rail that the power-down waits for. -/
def downAt (s : Body) (r : Nat) : Bool := s.hobState == .poweringDown && s.downRail s.hob.step == some r

/-! ## Power-up (R411) -/

/-- A step ends: the OFF that is pending begins, or the next step, or the Hob is UP (R411, R417). -/
def stepEnd (s : Body) : Body :=
  let n := s.hob.step
  if s.flag F.HOB_STATUS_PENDING_OFF then s.downBegin (n + 1)
  else match s.hob.table[n + 1]? with
    | some d =>
      let s := { s with hob := { s.hob with step := n + 1 } }
      (s.put F.HOB_STATUS_STEP (n + 1)).setRailState d.rail .minOff
    | none => (s.setHob .up).raise U.hob F.HOB_EVENTS_UP_DONE

/-! ## Requests (R416, R417) -/

/-- An OFF request: the first cause of a forced OFF is kept over a request. -/
def hobOffReq (s : Body) (why : DownCause) : Body :=
  let pend (s : Body) : Body :=
    let s := { s with hob := { s.hob with offWhy := (if s.hob.offWhy == DownCause.none || s.hob.offWhy == DownCause.request then why else s.hob.offWhy)
                                          force := s.hob.force || why == DownCause.powerFail } }
    s.put F.HOB_STATUS_PENDING_OFF 1
  match s.hobState with
  | .off => s
  | .poweringUp =>
    if s.flag F.HOB_STATUS_PENDING_OFF then pend s else (pend s).raise U.hob F.HOB_EVENTS_REVERSED
  | .up =>
    let s := { s with hob := { s.hob with offWhy := why } }
    if s.isOn U.persist then (s.setHob .flushing).put F.HOB_STATUS_LAST_DOWN_CAUSE (downCode why)
    else s.downBegin s.hob.table.length
  | .flushing => if why == DownCause.powerFail then { s with hob := { s.hob with force := true } } else s
  | .poweringDown => if why == DownCause.powerFail then { s with hob := { s.hob with force := true } } else s

/-- An ON request from HOB_REQ or the return of the input (R416, R417). -/
def hobOnReq (s : Body) : Body :=
  if s.hob.thHold then s
  else match s.hobState with
    | .off => s.later (.systemReset 4)
    | .poweringUp =>
      if s.flag F.HOB_STATUS_PENDING_OFF && s.hob.offWhy == DownCause.request && !s.hob.resetAfter then
        ({ s with hob := { s.hob with offWhy := .none } }).put F.HOB_STATUS_PENDING_OFF 0
      else s
    | .up => s
    | .flushing => if s.flag F.HOB_STATUS_PENDING_ON then s else (s.put F.HOB_STATUS_PENDING_ON 1).raise U.hob F.HOB_EVENTS_REVERSED
    | .poweringDown => if s.flag F.HOB_STATUS_PENDING_ON then s else (s.put F.HOB_STATUS_PENDING_ON 1).raise U.hob F.HOB_EVENTS_REVERSED

/-- Step 5 of the power-fail sequence is complete: the rails go down (R204, R415, R417). -/
def hobFlushDone (s : Body) : Body :=
  if s.hobState == .flushing then
    let s := { s with hob := { s.hob with force := true } }
    s.downBegin s.hob.table.length
  else s

/-! ## What happens on the rails -/

/-- The enable of the rail whose turn it is (R411, R418). -/
def railEnable (s : Body) (r : Nat) : Body :=
  if s.railState r != .minOff then s
  else ((s.railOn r).setRailState r .rising).setRail r { s.rail r with below := false }

/-- The power-good input changes (R411). -/
def railPg (s : Body) (r : Nat) (high : Bool) : Body :=
  let s := s.putBit F.HOB_RAILS_GOOD r high
  if (s.railDef r).isNone then s
  else match s.railState r, high with
    | .rising, true => s.setRailState r .debouncing
    | .debouncing, false =>
      (((s.setRailState r .rising).incSat (F.HOB_RAIL_CNT_CHATTER r)).raise U.hob F.HOB_EVENTS_CHATTER r).hobLog r 2 0 0
    | _, _ => s

/-- The rail is up (R411, R413). -/
def railUp (s : Body) (r us : Nat) : Body :=
  if s.railState r != .debouncing then s
  else
    let retry := (s.rail r).retry
    let s := (s.setRailState r .up).put (F.HOB_RAIL_TIME_UP_US r) us
    let mv := s.get (F.HOB_RAIL_STATE_SENSE_MV r)
    let s := (s.put (F.HOB_RAIL_RANGE_MIN_MV r) mv).put (F.HOB_RAIL_RANGE_MAX_MV r) mv
    let s := s.setRail r { s.rail r with retry := false, below := false }
    let s := (s.putBit F.HOB_RAIL_FAULT_FAILED r false).unfence r
    if retry then (s.raise U.hob F.HOB_EVENTS_RETRY_OK r).hobLog r 5 0 us
    else s.stepEnd

/-- The rail failed to come up (R411 to R413, R420, R421). -/
def railFail (s : Body) (r us : Nat) : Body :=
  if s.railState r != .rising && s.railState r != .debouncing then s
  else
    let retry := (s.rail r).retry
    let s := ((s.railOff r).setRailState r .failed).setRail r { s.rail r with retry := false }
    let s := (s.putBit F.HOB_RAIL_FAULT_FAILED r true).incCounter (16 + 2 * r)
    let s := s.put (F.HOB_RAIL_LIFE_FAIL_UP r) (s.counter (16 + 2 * r))
    let s := s.rstRail r
    if retry then ((s.fence r).raise U.hob F.HOB_EVENTS_RETRY_FAILED r).hobLog r 6 0 us
    else (((s.raise U.hob F.HOB_EVENTS_FAIL_UP r).fence r).hobLog r 1 0 us).stepEnd

/-- A rail in service holds its power-good low for DEBOUNCE_US (R419). -/
def railLost (s : Body) (r us : Nat) : Body :=
  if s.railState r != .up || nbit (s.get F.HOB_RAILS_GOOD) r then s
  else
    let s := ((s.railOff r).setRailState r .failed).putBit F.HOB_RAIL_FAULT_FAILED r true
    let s := s.incCounter (17 + 2 * r)
    let s := s.put (F.HOB_RAIL_LIFE_PG_LOST r) (s.counter (17 + 2 * r))
    let s := ((s.raise U.hob F.HOB_EVENTS_PG_LOST r).fence r).rstRail r
    let s := s.hobLog r 3 0 us
    match s.railDef r with
    | some d => s.when (d.kind == 0) (·.hobOffReq .railLost)
    | none => s

/-- The rail did not fall in time (R414, R415). -/
def railTimeout (s : Body) (r us : Nat) : Body :=
  if !s.downAt r || (s.rail r).below || (s.rail r).timedOut then s
  else
    let s := s.setRail r { s.rail r with timedOut := true }
    let s := (s.putBit F.HOB_RAIL_FAULT_DOWN_TIMEOUT r true).incSat (F.HOB_RAIL_CNT_DOWN_TIMEOUTS r)
    let s := (s.raise U.hob F.HOB_EVENTS_DOWN_TIMEOUT r).hobLog r 4 0 us
    let forced := match s.railDef r with
      | some d => nbit d.flags 0
      | none => false
    if forced || s.hob.force || (s.rail r).skip then (s.setRailState r .off).downPass else s

/-- SKIP_WAIT of a rail (R414): it ends the wait once the timeout has passed. -/
def railSkip (s : Body) (r : Nat) : Body :=
  if !s.downAt r then s
  else if (s.rail r).timedOut then (s.setRailState r .off).downPass
  else s.setRail r { s.rail r with skip := true }

/-- RETRY of a failed rail while the Hob is UP; of any other it is discarded (R413, R419). -/
def railRetry (s : Body) (r : Nat) : Body :=
  if s.hobState != .up || s.railState r != .failed || (s.railDef r).isNone then s
  else (s.setRailState r .minOff).setRail r { s.rail r with retry := true }

/-- A rail's voltage is below OFF_MV (R414), `us` after its enable was deasserted. -/
def railBelow (s : Body) (r us : Nat) : Body :=
  let here := s.downAt r
  let was := (s.rail r).below
  let s := s.setRail r { s.rail r with below := true }
  let s := s.when (s.railState r == .falling) (fun s => (s.setRailState r .off).put (F.HOB_RAIL_TIME_DOWN_US r) us)
  if here && !was && !nbit (s.get F.HOB_RAILS_ENABLED) r then s.downPass else s

/-- The scaled reading of a sense input, in mV (R410). -/
def senseMv (s : Body) (r reading : Nat) : Nat :=
  let d := s.get (F.HOB_RAIL_CTL_DIV_16THS r)
  reading * 1800 / 4096 * (if d = 0 then 16 else d) / 16

/-- One conversion of the ADC (R410): bands, off thresholds, the 12 V input. A sag declared is answered true. -/
def adc (s : Body) (r reading us : Nat) : Body × Bool :=
  let mv := s.senseMv r reading
  let s := s.put (F.HOB_RAIL_STATE_SENSE_MV r) mv
  let q := s.cfg.img.qui
  let sagOn := s.hob.present && nbit q.pfailSrc 1 && r == q.sagSense
  let s := s.when (s.hob.present && r == q.sagSense) (·.put F.HOB_STATUS_V12_MV mv)
  let run := if mv < q.sagMv then s.hob.sagRun + 1 else 0
  let s := if sagOn then { s with hob := { s.hob with sagRun := run } } else s
  let s := match s.railDef r with
    | none => s
    | some d =>
      let s := if s.railState r == .up then
          let s := (s.put (F.HOB_RAIL_RANGE_MIN_MV r) (min mv (s.get (F.HOB_RAIL_RANGE_MIN_MV r)))).put
            (F.HOB_RAIL_RANGE_MAX_MV r) (max mv (s.get (F.HOB_RAIL_RANGE_MAX_MV r)))
          let oob : Bool := mv * 20 < d.nominal * 19 || mv * 20 > d.nominal * 21
          let s := s.when (oob && !(s.rail r).oob) (·.raise U.hob F.HOB_EVENTS_OUT_OF_BAND r)
          s.setRail r { s.rail r with oob := oob }
        else s
      if mv < d.offMv then s.railBelow r us else s.setRail r { s.rail r with below := false }
  (s, sagOn && run == 3)

/-- The always-on comparator trips (R425): every enable goes at once, without the flush. While the Hob is OFF only the cause is recorded.
DEDUCED (log 141): the Hob then waits in POWERING_DOWN for the rails to fall. -/
def thermalTrip (s : Body) : Body :=
  let s := s.forEach (List.range 24) (fun s r => (s.rstRail r).railOff r)
  let s := s.forEach (s.hob.table.map (·.rail)) (fun s r => s.when (s.railState r != .failed && s.railState r != .off) (·.setRailState r .falling))
  let s := s.put F.HOB_STATUS_LAST_DOWN_CAUSE (downCode .trip)
  if s.hobState == .off then s
  else
    let s := ({ s with hob := { s.hob with offWhy := .trip, force := true } }).setHob .poweringDown
    let s := { s with hob := { s.hob with step := s.hob.table.length } }
    s.downNext

end Body

end Sys2Proof.Machine
end

