-- ==== Sys2Proof/Machine/Thermal.lean ====
section
/-! DEFINITION. The thermal monitor (R422 to R427): samples, class levels, the Simmer level, shutdown. -/

namespace Sys2Proof.Machine

/-- A value that has failed to read 3 times in a row is invalid (R426). -/
def Sensor.bad (x : Sensor) : Bool := x.fails ≥ 3

/-- Index of a class in THRESH (R62). -/
def classNo : SensClass → Nat
  | .die => 0 | .dimm => 1 | .media => 2

namespace Body

/-- Threshold `i` of a class: the starts of Simmer 1 to 7 at 0 to 6, shutdown at 7 (R62, R423). -/
def thresh (s : Body) (c : SensClass) (i : Nat) : Int := ((s.cfg.img.qui.thresh[classNo c]?).getD [])[i]?.getD 0

/-- Sensors of a class. -/
def sensors (s : Body) : SensClass → SMap Sensor
  | .die => s.th.die | .dimm => s.th.dimm | .media => s.th.media

/-- Set a sensor. -/
def setSensor (s : Body) (c : SensClass) (n : Nat) (x : Sensor) : Body :=
  match c with
  | .die => { s with th := { s.th with die := mset s.th.die n x } }
  | .dimm => { s with th := { s.th with dimm := mset s.th.dimm n x } }
  | .media => { s with th := { s.th with media := mset s.th.media n x } }

/-- The temperatures that count for a class's level: those of valid sensors, and for an invalid DIMM or package the start of Simmer 4
(R423, R426). -/
def classTemps (s : Body) (c : SensClass) : List Int :=
  (s.sensors c).filterMap fun p =>
    if p.2.valid then some p.2.temp else if p.2.bad && c != .die then some (s.thresh c 3) else none

/-- The level of a class (R423): the highest start reached, or a level not left yet. -/
def classLevel (s : Body) (c : SensClass) (old : Nat) : Nat :=
  let ts := s.classTemps c
  let h := s.cfg.img.qui.hyst
  let up := (List.range 8).foldl (fun m k => if k ≥ 1 && ts.any (fun t => t ≥ s.thresh c (k - 1)) then k else m) 0
  let hold := (List.range (old + 1)).foldl (fun m k => if k ≥ 1 && ts.any (fun t => t > s.thresh c (k - 1) - h) then k else m) 0
  let lost := c == .die && (s.th.die.filter (·.2.bad)).length ≥ 4
  max (max up hold) (if lost then 4 else 0)

/-- Hottest valid temperature of a class, 0 with no valid sensor. -/
def hottest (s : Body) (c : SensClass) : Int :=
  match (s.sensors c).filterMap fun p => if p.2.valid then some p.2.temp else none with
  | [] => 0
  | t :: r => r.foldl max t

/-- Whether a valid sensor has reached its class's shutdown value (R425). -/
def anyShutdown (s : Body) : Bool :=
  [SensClass.die, .dimm, .media].any fun c => (s.sensors c).any fun p => p.2.valid && s.cfg.loaded && p.2.temp ≥ s.thresh c 7

/-- Whether every valid sensor lies below its class's shutdown value by HYST (R416). -/
def allBelowShutdown (s : Body) : Bool :=
  [SensClass.die, .dimm, .media].all fun c =>
    (s.sensors c).all fun p => !p.2.valid || p.2.temp ≤ s.thresh c 7 - s.cfg.img.qui.hyst

/-- The limits that apply to a sensor (R422), in 1/8 °C. -/
def limits (s : Body) (c : SensClass) (n : Nat) : List Int :=
  let own := match c with
    | .die => if n = 21 then [-360] else if n = 22 then [-320, 920] else []
    | .dimm => [680, 664]
    | .media => match mget ((mgetD s.mtl.ch (n / 2) {}).pkgs) (n % 2) with
      | some p => [max s.cfg.img.qui.mediaMin p.writeMin, min s.cfg.img.qui.mediaMax p.writeMax]
      | none => [s.cfg.img.qui.mediaMin, s.cfg.img.qui.mediaMax]
  (List.range 8).map (s.thresh c) ++ own

/-- Levels, the level applied and its change, shutdown (R423, R425, R427). -/
def thLevels (s : Body) : Body :=
  let (d, m, p) := (s.classLevel .die s.th.lvDie, s.classLevel .dimm s.th.lvDimm, s.classLevel .media s.th.lvMedia)
  let auto := max d (max m p)
  let s := { s with th := { s.th with lvDie := d, lvDimm := m, lvMedia := p } }
  let s := (((s.put F.TH_STATUS_LEVEL_DIE d).put F.TH_STATUS_LEVEL_DIMM m).put F.TH_STATUS_LEVEL_MEDIA p).put F.TH_STATUS_AUTO_LEVEL auto
  let forced := s.flag F.TH_CTL_FORCE_EN
  let lvl := if forced then s.get F.TH_CTL_FORCE_LEVEL else auto
  let old := s.get F.TH_STATUS_LEVEL
  let s := s.when (forced && lvl != auto && !s.flag F.TH_EVENTS_FORCED) (·.raise U.thermal F.TH_EVENTS_FORCED)
  let s := if lvl == old then s
    else
      let s := (s.put F.TH_STATUS_LEVEL lvl).inc F.TH_COUNT_LEVEL_CHANGES
      s.raise U.thermal (if lvl > old then F.TH_EVENTS_LEVEL_UP else F.TH_EVENTS_LEVEL_DOWN) lvl
  let hot := s.anyShutdown
  let was := s.flag F.TH_STATUS_SHUTDOWN
  let s := s.putB F.TH_STATUS_SHUTDOWN hot
  let s := if hot && !was then
      let s := { s with hob := { s.hob with thHold := true } }
      (s.raise U.thermal F.TH_EVENTS_SHUTDOWN).later (.hobOff .thermal)
    else s
  if !hot && s.hob.thHold && s.allBelowShutdown then { s with hob := { s.hob with thHold := false } } else s

/-- One sample of a sensor (R422, R426); `us` is the time since its last sample. -/
def thSample (s : Body) (c : SensClass) (n : Nat) (temp : Option Int) (us : Nat) : Body :=
  let x := mgetD (s.sensors c) n {}
  let wasBad := x.bad
  let x : Sensor := match temp with
    | some t => { x with temp := t, valid := true, fails := 0, hi := some (max t (x.hi.getD t)) }
    | none => { x with fails := x.fails + 1, valid := x.valid && x.fails + 1 < 3 }
  let near := x.valid && (s.limits c n).any fun l => (x.temp - l ≤ 40) && (l - x.temp ≤ 40)
  let x : Sensor := if near then { x with fast := true, far := 0 }
    else if x.fast && x.far + us ≥ 10000 then { x with fast := false, far := 0 }
    else if x.fast then { x with far := x.far + us } else x
  let s := s.setSensor c n x
  let s := s.when (x.bad && !wasBad) (·.raise U.thermal F.TH_EVENTS_SENSOR_FAIL)
  let s := match c with
    | .die =>
      let s := (s.put (F.TH_SENSOR_TEMP n) (unsgn 16 x.temp)).putB (F.TH_SENSOR_VALID n) x.valid
      let s := s.putB (F.TH_SENSOR_FAST n) x.fast
      s.put (F.TH_SENSOR_MAX n) (unsgn 16 (x.hi.getD 0))
    | .dimm => s.put (F.SP_CH_STATUS_DIMM_TEMP n) (unsgn 8 (x.temp / 8))
    | .media => s.put (if n % 2 = 0 then F.MD_STATUS_TEMP_0 (n / 2) else F.MD_STATUS_TEMP_1 (n / 2)) (unsgn 16 x.temp)
  let fast := [SensClass.die, .dimm, .media].any fun c => (s.sensors c).any (·.2.fast)
  let s := s.putB F.TH_STATUS_FAST fast
  let s := ((s.put F.TH_HOT_DIE (unsgn 16 (s.hottest .die))).put F.TH_HOT_DIMM (unsgn 16 (s.hottest .dimm))).put F.TH_HOT_MEDIA (unsgn 16 (s.hottest .media))
  s.thLevels

end Body

end Sys2Proof.Machine
end

