-- ==== Sys2Proof/Machine/Flash.lean ====
section
/-! DEFINITION. The code flash (R372 to R383). -/

namespace Sys2Proof.Machine

namespace Body

/-- A word of the flash; an erased one is all ones (R372). -/
def flashWord (s : Body) (n : Nat) : Word := ~~~(mgetD s.cf.words n 0)
/-- A byte of the flash. -/
def flashByte (s : Body) (off : Nat) : Byte := BitVec.ofNat 8 ((s.flashWord (off / 8)).toNat / 2 ^ (8 * (off % 8)))
/-- Program a word: bits can be cleared, never set (R377). -/
def flashAnd (s : Body) (n : Nat) (x : Word) : Body :=
  { s with cf := { s.cf with words := mput 0 s.cf.words n (mgetD s.cf.words n 0 ||| ~~~x) } }
/-- Erase `len` words from `n` (R378). -/
def flashErase (s : Body) (n len : Nat) : Body :=
  { s with cf := { s.cf with words := s.cf.words.filter fun p => p.1 < n || n + len ≤ p.1 } }

/-- Bank of a page (R372). -/
def bankOf (page : Nat) : Nat := page / 0x40000
/-- Sector of a page. -/
def sectorOf (page : Nat) : Nat := page / 128

/-- TS_22 as far as it is known to lie outside −40 °C to +115 °C (R376). -/
def flashHot (s : Body) : Bool :=
  match mget s.th.die 22 with
  | some t => t.valid && (t.temp < -320 || t.temp > 920)
  | none => false

/-- Whether a sector is write-protected; none is in recovery (R375). -/
def sectorProtected (s : Body) (sec : Nat) : Bool :=
  !s.flag F.CONFIG_STATUS_RECOVERY && (s.word (A.CF_WP (sec / 64))).getLsbD (sec % 64)

/-- Write or remove the flash operation record of the Rack (R376, R395): the first word after SEQUENCE holds a present bit, the kind
and the page (DESIGN CHOICE, log entry 9). -/
def flashRecord (s : Body) (r : Option (Bool × Nat)) : Body :=
  let w : Nat := match r with
    | some (e, p) => 1 + 2 * b2n e + 4 * p
    | none => 0
  s.recWrite .record 0x80 [BitVec.ofNat 64 w, 0, 0, 0, 0, 0] 0

/-- Bank status in CF_STATUS: 0 idle, 1 programming, 2 erasing, 3 erase suspended (R385). -/
def flashStatus (s : Body) : Body :=
  let code (b : Nat) : Nat := match s.cf.op with
    | some o => if bankOf o.page != b then 0 else match o.kind with
        | .program => 1
        | .erase => if o.susp then 3 else 2
        | .hash => 0
    | none => 0
  (s.put F.CF_STATUS_BANK_0 (code 0)).put F.CF_STATUS_BANK_1 (code 1)

/-- Empty the prefetch buffer and the branch cache of a bank (R373). -/
def flashEmpty (s : Body) (b : Nat) : Body :=
  { s with cf := { s.cf with
    pre0 := if b = 0 then [] else s.cf.pre0
    pre1 := if b = 1 then [] else s.cf.pre1
    br := s.cf.br.filter fun t => t / 0x8000000 != b } }

/-- Operation number of CF_CMD (R385). -/
def cfNo : CfKind → Nat
  | .program => 1 | .erase => 2 | .hash => 3

/-- Why a command is refused, 0 for taken (R376). -/
def cfCode (s : Body) (k : CfKind) : Nat :=
  let page := s.get F.CF_ADDR_PAGE
  if s.cf.op.isSome then 1
  else if k != .hash && s.sectorProtected (sectorOf page) then 2
  else if k != .hash && s.flashHot then 3
  else if k == .hash && (s.get F.CF_HASH_LEN_SECTORS == 0 || sectorOf page + s.get F.CF_HASH_LEN_SECTORS > 4096) then 4
  else 0

/-- A command of the code flash is taken or refused (R376). A refusal while an operation runs leaves that operation's status. -/
def cfCommand (s : Body) (k : CfKind) : Body :=
  let c := s.cfCode k
  let page := s.get F.CF_ADDR_PAGE
  if c != 0 then
    let s := if c == 1 then s
      else ((s.put F.CF_OP_STATUS_STATE 3).put F.CF_OP_STATUS_RESULT c).put F.CF_OP_STATUS_OP (cfNo k)
    s.raise U.flash F.CF_EVENTS_OP_REFUSED c
  else
    let data := (List.range 64).map fun i => s.word (A.CF_PAGE_BUF i)
    let op : CfOp := { kind := k, page := page, len := s.get F.CF_HASH_LEN_SECTORS, susp := false, tempHold := false, starved := false,
                       data := if k == .program then data else [] }
    let s := if k == .hash then s else (s.flashRecord (some (k == .erase, page))).flashEmpty (bankOf page)
    let s := { s with cf := { s.cf with op := some op } }
    let s := ((s.put F.CF_OP_STATUS_STATE 1).put F.CF_OP_STATUS_RESULT 0).put F.CF_OP_STATUS_OP (cfNo k)
    (s.when (k == .erase) (·.put F.CF_OP_STATUS_SUSPENDS 0)).flashStatus

/-- An operation ends: status, times, event; the Rack record of a program or erase is removed (R376). -/
def cfEnd (s : Body) (k : CfKind) (us active : Nat) : Body :=
  let s := { s with cf := { s.cf with op := none } }
  let s := if k == .hash then s else s.flashRecord none
  let s := (s.put F.CF_OP_TIME_ELAPSED_US us).put F.CF_OP_TIME_ACTIVE_US active
  ((s.put F.CF_OP_STATUS_STATE 2).put F.CF_OP_STATUS_RESULT 0).flashStatus.raise U.flash F.CF_EVENTS_OP_DONE (cfNo k)

/-- Invalidate in every I-cache `n` lines of the flash from line `first` (R377, R378). -/
def icDrop (s : Body) (first n : Nat) : Body :=
  { s with cf := { s.cf with icache := s.cf.icache.filter fun x => x.line < first || first + n ≤ x.line } }

/-- A program completes (R377). -/
def cfProgramDone (s : Body) (us : Nat) : Body :=
  match s.cf.op with
  | some o =>
    if o.kind != .program then s
    else
      let s := (o.data.zip (List.range 64)).foldl (fun s p => s.flashAnd (o.page * 64 + p.2) p.1) s
      (s.icDrop (o.page * 8) 8).cfEnd .program us us
  | none => s

/-- An erase completes; an interrupted program or erase of its sector is forgotten (R378, R383). -/
def cfEraseDone (s : Body) (us active : Nat) : Body :=
  match s.cf.op with
  | some o =>
    if o.kind != .erase || o.susp then s
    else
      let sec := sectorOf o.page
      let s := s.flashErase (sec * 8192) 8192
      let s := { s with cf := { s.cf with bad := s.cf.bad.filter fun b => sectorOf b.2 != sec } }
      let s := s.when (sectorOf (s.get F.CF_INTERRUPTED_PAGE) == sec) (·.put F.CF_INTERRUPTED_VALID 0)
      (s.icDrop (sec * 1024) 1024).cfEnd .erase us active
  | none => s

/-- A hash completes: the digest of every word of the sectors, execute-only ones included (R381). -/
def cfHashDone (s : Body) (us : Nat) : Body :=
  match s.cf.op with
  | some o =>
    if o.kind != .hash then s
    else
      let ws := (range' (sectorOf o.page * 8192) (o.len * 8192)).map s.flashWord
      let s := s.forEach (List.range 6) fun s i => s.setWord (A.CF_HASH i) (Config.sha384 ws i)
      s.cfEnd .hash us us
  | none => s

/-- Suspend the erase that runs, counting one suspension (R378, R382). -/
def cfSuspend (s : Body) (temp : Bool) : Body :=
  match s.cf.op with
  | some o =>
    if o.kind != .erase then s
    else
      let s' := { s with cf := { s.cf with op := some { o with susp := true, tempHold := o.tempHold || temp } } }
      (s'.when (!o.susp) (·.inc F.CF_OP_STATUS_SUSPENDS)).flashStatus
  | none => s

/-- A suspended erase resumes after 10 µs without an access, unless the temperature holds it (R378, R382). -/
def cfResume (s : Body) : Body :=
  match s.cf.op with
  | some o => if o.kind == .erase && o.susp && !o.tempHold then
      { s with cf := { s.cf with op := some { o with susp := false } } }.flashStatus else s
  | none => s

/-- 1,000 ms have passed since an erase was commanded (R378). -/
def cfStarved (s : Body) : Body :=
  match s.cf.op with
  | some o => if o.kind == .erase && !o.starved then
      ({ s with cf := { s.cf with op := some { o with starved := true } } }.inc F.CF_STARVE_ERASE_STARVED).raise U.flash F.CF_EVENTS_ERASE_STARVED
      else s
  | none => s

/-- TS_22 has been sampled (R382). -/
def cfTemp (s : Body) : Body :=
  let s := s.putB F.CF_STATUS_TEMP_OK (!s.flashHot)
  match s.cf.op, mget s.th.die 22 with
  | some o, some t =>
    if o.kind != .erase then s
    else if s.flashHot && !o.tempHold then (s.cfSuspend true).raise U.flash F.CF_EVENTS_TEMP_PAUSE
    else if o.tempHold && t.valid && t.temp ≥ -304 && t.temp ≤ 904 then
      { s with cf := { s.cf with op := some { o with tempHold := false } } }
    else s
  | _, _ => s

/-- Whether a flash offset lies in an execute-only region (R374). -/
def inXo (s : Body) (off : Nat) : Bool :=
  (List.range 16).any fun n =>
    let a := s.get (F.CF_XO_FIRST n)
    a ≤ off / 0x10000 && off / 0x10000 < a + s.get (F.CF_XO_COUNT n)

/-- Whether reads of an offset give all ones: its sector is being erased, or an operation on it was interrupted (R379, R383). -/
def allOnes (s : Body) (off : Nat) : Bool :=
  (match s.cf.op with
   | some o => o.kind == .erase && sectorOf o.page == off / 0x10000
   | none => false)
  || s.cf.bad.any fun b => if b.1 then sectorOf b.2 == off / 0x10000 else b.2 == off / 512

/-- Whether a program occupies the bank: an access to it waits until the program ends (R377). -/
def bankProgramming (s : Body) (b : Nat) : Bool :=
  match s.cf.op with
  | some o => o.kind == .program && bankOf o.page == b
  | none => false

/-- The line that serves a fetch from the core's own I-cache (R364). -/
def icFind (s : Body) (who : FlashReader) (off : Nat) : Option ILine :=
  match who with
  | .fetch core _ => s.cf.icache.find? fun x => x.core == core && x.line == off / 64
  | _ => none

/-- A refill brings a line into the core's I-cache (R364). Which of four ways gives way is left open: a free value. -/
def icFill (s : Body) (who : FlashReader) (off : Nat) (ones : Bool) : Body :=
  match who with
  | .fetch core _ =>
    let l := off / 64
    let set := s.cf.icache.filter fun x => x.core == core && x.line % 256 == l % 256
    let gone := if set.length < 4 then none else set[(Config.freeWord s.freeCtr).toNat % 4]?
    let keep := s.cf.icache.filter fun x => some x != gone
    let new : ILine := { core := core, line := l, data := (List.range 8).map fun i => if ones then BitVec.allOnes 64 else s.flashWord (l * 8 + i) }
    { s.fresh with cf := { s.cf with icache := new :: keep } }
  | _ => s

/-- Note a line in the prefetch buffer of its bank, with the line after it when the bank stands idle (R373). -/
def prefetch (s : Body) (line : Nat) (idle : Bool) : Body :=
  let b := line / 0x80000
  let add (l : List Nat) : List Nat :=
    let l := (line :: l.filter (· != line)).take 4
    if idle && (line + 1) / 0x80000 == b then ((line + 1) :: l.filter (· != line + 1)).take 4 else l
  { s with cf := { s.cf with
    pre0 := if b = 0 then add s.cf.pre0 else s.cf.pre0
    pre1 := if b = 1 then add s.cf.pre1 else s.cf.pre1 } }

/-- A fetch or read of the code flash (R373, R374, R377 to R379): the word at the offset goes to the reader. A fetch that the core's I-cache holds
is served from there (R364). -/
def flashRead (s : Body) (who : FlashReader) (off : Nat) : Body :=
  let off := off % 0x10000000
  let b := off / 0x8000000
  let data : Bool := match who with
    | .fetch _ _ => false
    | _ => true
  match s.icFind who off with
  | some x => s.send (.flashData who off (x.data.getD (off / 8 % 8) 0))
  | none =>
  if s.bankProgramming b then s
  else
    let erasing := match s.cf.op with
      | some o => o.kind == .erase && bankOf o.page == b
      | none => false
    let s := s.when erasing (·.cfSuspend false)
    if data && s.inXo off then
      let s := (s.put F.CF_XO_VIOL_ADDR off).inc F.CF_XO_VIOL_COUNT
      (s.raise U.flash F.CF_EVENTS_XO_VIOLATION off).send (.flashData who off 0)
    else if s.allOnes off then
      ((s.raise U.flash F.CF_EVENTS_SUSPENDED_SECTOR_READ off).icFill who off true).send (.flashData who off (BitVec.allOnes 64))
    else
      let line := off / 256
      let held := (if b = 0 then s.cf.pre0 else s.cf.pre1).contains line
      let target := off / 32 * 32
      let branch := match who with
        | .fetch _ br => br
        | _ => false
      let brHit := branch && s.cf.br.contains target
      let s := s.when held (·.inc F.CF_READ_STAT_PREFETCH_HITS)
      let s := s.when brHit (·.inc F.CF_READ_STAT_BRANCH_HITS)
      let s := if branch then { s with cf := { s.cf with br := (target :: s.cf.br.filter (· != target)).take 64 } } else s
      ((s.prefetch line (!erasing)).icFill who off false).send (.flashData who off (s.flashWord (off / 8)))

end Body

/-- CF_PROGRAM (R376, R377). -/
def execCfProgram (actor : Actor) (s : State) : Host.Outcome State Fault Refusal := s.run (·.command actor A.CF_CMD 1 (·.cfCommand .program))
/-- CF_PROGRAM_DONE (R377). -/
def execCfProgramDone (us : Nat) (s : State) : Host.Outcome State Fault Refusal := s.run (·.cfProgramDone us)
/-- CF_ERASE (R376, R378). -/
def execCfErase (actor : Actor) (s : State) : Host.Outcome State Fault Refusal := s.run (·.command actor A.CF_CMD 2 (·.cfCommand .erase))
/-- CF_ERASE_DONE (R378). -/
def execCfEraseDone (us activeUs : Nat) (s : State) : Host.Outcome State Fault Refusal := s.run (·.cfEraseDone us activeUs)
/-- CF_HASH (R376, R381). -/
def execCfHash (actor : Actor) (s : State) : Host.Outcome State Fault Refusal := s.run (·.command actor A.CF_CMD 3 (·.cfCommand .hash))
/-- CF_HASH_DONE (R381). -/
def execCfHashDone (us : Nat) (s : State) : Host.Outcome State Fault Refusal := s.run (·.cfHashDone us)
/-- FLASH_READ (R373, R374, R379). -/
def execFlashRead (who : FlashReader) (offset : Nat) (s : State) : Host.Outcome State Fault Refusal := s.run (·.flashRead who offset)
/-- ERASE_RESUME (R378). -/
def execEraseResume (s : State) : Host.Outcome State Fault Refusal := s.run (·.cfResume)
/-- ERASE_STARVED (R378). -/
def execEraseStarved (s : State) : Host.Outcome State Fault Refusal := s.run (·.cfStarved)

end Sys2Proof.Machine
end

