-- ==== Sys2Proof/Machine/Dexith.lean ====
section
/-! DEFINITION. The service cores, the keeper cores and the event FIFOs as software reaches them (R362 to R371). -/

namespace Sys2Proof.Machine

namespace Body

/-! ## Words of a core's memories, one byte at a time -/

/-- A byte of a memory held as words. -/
def memByte (m : SMap Word) (a : Nat) : Nat := (mgetD m (a / 8) 0).toNat / 2 ^ (8 * (a % 8)) % 256
/-- Set a byte of a memory held as words. -/
def memSet (m : SMap Word) (a v : Nat) : SMap Word := mput 0 m (a / 8) ((⟨0, 8 * (a % 8), 8⟩ : Fld).insert (mgetD m (a / 8) 0) v)
/-- `n` bytes from `a`, little-endian. -/
def memLoad (m : SMap Word) (a n : Nat) : Word := BitVec.ofNat 64 ((List.range n).foldl (fun x i => x + memByte m (a + i) * 256 ^ i) 0)
/-- Store `n` bytes from `a`, little-endian. -/
def memStore (m : SMap Word) (a n : Nat) (v : Word) : SMap Word :=
  (List.range n).foldl (fun m i => memSet m (a + i) (v.toNat / 256 ^ i)) m
/-- The words that `n` bytes from `a` touch. -/
def memWords (a n : Nat) : List Nat := if n = 0 then [] else range' (a / 8) ((a + n - 1) / 8 - a / 8 + 1)

/-! ## Cores -/

/-- State code of a core (R384). -/
def coreCode : CoreState → Nat
  | .stopped => 0 | .running => 1 | .halted => 2 | .waiting => 3

/-- The registers that report a core: its state, its TCM clear, the sampled pc, the cluster's masks (R384). -/
def coreRegs (s : Body) (c : Nat) : Body :=
  let k := s.core c
  let s := (s.put (F.DX_CORE_STATUS_STATE c) (coreCode k.st)).putB (F.DX_CORE_STATUS_TCM_CLEARING c) k.clearing
  let kib := if k.cleared then 512 else
    ((List.range 512).filter fun b => (range' (b * 128) 128).all k.written.contains).length
  let s := (s.put (F.DX_CORE_STATUS_TCM_WRITTEN_KIB c) kib).put (F.DX_CORE_PC_PC c) k.pc.toNat
  let run := k.st == .running || k.st == .waiting
  (s.putBit F.DX_STATUS_RUNNING c run).putBit F.DX_STATUS_HALTED c (!run)

/-- Set a core and the registers that report it. -/
def putCore (s : Body) (c : Nat) (k : Core) : Body := (s.setCore c k).coreRegs c

/-- Whether the service cluster is ON. -/
def clusterOn (s : Body) : Bool := s.isOn U.dexith

/-- A pending non-maskable interrupt is entered (R371). -/
def nmiEnter (s : Body) (c : Nat) : Body :=
  let k := s.core c
  if k.nmi && (k.st == .running || k.st == .waiting) then
    s.putCore c { k with nmi := false, st := .running, pc := BitVec.ofNat 64 (s.get F.DX_RESET_VEC_VECTOR + 0x40)
                         mcause := 0x80000000000000FF }
  else s

/-- RUN set: a stopped core resumes where it stopped (R371). -/
def coreRun (s : Body) (c : Nat) : Body :=
  let k := s.core c
  if s.clusterOn && k.st == .stopped then
    (s.putCore c { k with st := if k.wasWfi then .waiting else .running, wasWfi := false }).nmiEnter c
  else s

/-- A core stops at an instruction boundary (R370, R371). -/
def coreStop (s : Body) (c : Nat) : Body :=
  let k := s.core c
  if k.st == .stopped then s else s.putCore c { k with st := .stopped, wasWfi := k.st == .waiting }

/-- A core restarts at DX_RESET_VEC with its TCM written bits cleared (R371). It runs when the cluster is ON and its RUN bit is set. -/
def coreRestart (s : Body) (c : Nat) : Body :=
  let k := s.core c
  s.putCore c { k with
    st := if s.clusterOn && s.flag (F.DX_CORE_CTL_RUN c) then .running else .stopped
    wasWfi := false, pc := BitVec.ofNat 64 (s.get F.DX_RESET_VEC_VECTOR), written := [], cleared := false, nmi := false }

/-- The cluster's start steps 1 to 3 (R370). -/
def clusterStart (s : Body) : Body :=
  let s := { s with dx := { s.dx with sram := [] } }
  s.forEach (List.range 16) fun s c =>
    let k := s.core c
    s.putCore c { k with
      written := [], cleared := false, clearing := false, fifo := [], gapN := 0, gapSeq := 0, gapFrame := 0, gapFatal := false
      pc := BitVec.ofNat 64 (s.get F.DX_RESET_VEC_VECTOR), wasWfi := false }

/-- The cluster's start step 4: each core whose RUN bit is set starts (R370). -/
def clusterStarted (s : Body) : Body :=
  let s := s.forEach (List.range 16) fun s c => s.when (s.flag (F.DX_CORE_CTL_RUN c)) (·.coreRun c)
  if s.dx.warm then
    { s with dx := { s.dx with warm := false } }.raise U.boot F.BOOT_EVENTS_WARM_DONE
  else s

/-- The cluster's stop steps (R370). -/
def clusterStop (s : Body) : Body := s.forEach (List.range 16) coreStop

/-! ## Event FIFOs -/

/-- A read of EVQ_POP (R369): the head entry leaves, words 1 to 3 are latched, a gap marker may enter. An empty FIFO returns zero
and keeps the latches. -/
def evqPop (s : Body) (c : Nat) : Body :=
  let k := s.core c
  match k.fifo with
  | [] => s.send (.evqWord c 0)
  | e :: r =>
    let w := e.words
    let s := s.setCore c { k with fifo := r }
    let s := s.forEach [0, 1, 2] fun s i => s.setWord (A.EVQ_LATCH c i) (w[i + 1]?.getD 0)
    (s.evqGap c).send (.evqWord c (w.headD 0))

/-- EVQ_CTL.FLUSH (R369). -/
def evqFlush (s : Body) (c : Nat) : Body :=
  s.setCore c { s.core c with fifo := [], gapN := 0, gapSeq := 0, gapFrame := 0, gapFatal := false }

/-! ## A core's own memories (R363 to R365) -/

/-- An access fault on a core (R363): recorded in mtval, with the RISC-V cause of the access. -/
def coreFault (s : Body) (c : Nat) (kind : CoreAcc) (addr : Nat) : Body :=
  let cause : Word := match kind with
    | .fetch => 1 | .load => 5 | .store => 7
  (s.setCore c { s.core c with mtval := BitVec.ofNat 64 addr, mcause := cause }).send (.accessFault c kind addr)

/-- What ECC does with a word of a core's memory: a corrected one is counted, an uncorrectable one faults (R364). -/
def coreEcc (s : Body) (c : Nat) (kind : CoreAcc) (addr : Nat) (ecc : Ecc) (ok : Body → Body) : Body :=
  match ecc with
  | .good => ok s
  | .corrected => ok (s.inc F.DX_ECC_CORRECTED)
  | .uncorrectable =>
    if kind == .store then ok s
    else ((s.incSat F.DX_ECC_UNCORRECTABLE).raise U.dexith F.DX_EVENTS_ECC_UE c).coreFault c kind addr

/-- An access to the TCM of core `t` at byte `off` (R363, R365). -/
def tcmAccess (s : Body) (c t : Nat) (kind : CoreAcc) (addr off size : Nat) (data : Word) (ecc : Ecc) : Body :=
  let k := s.core t
  if k.clearing && c == t then s
  else if kind == .store then
    let ws := memWords off size
    s.putCore t { k with
      tcm := memStore k.tcm off size data
      written := if k.cleared then k.written else ws.foldl insertNat k.written }
  else if !k.cleared && !((memWords off size).all k.written.contains) then
    ((s.raise U.dexith F.DX_EVENTS_TCM_UNINIT c).send (.coreData c 0)).coreFault c kind addr
  else s.coreEcc c kind addr ecc (·.send (.coreData c (memLoad k.tcm off size)))

/-- An access to the cluster SRAM at byte `off` (R363, R364). -/
def sramAccess (s : Body) (c : Nat) (kind : CoreAcc) (addr off size : Nat) (data : Word) (ecc : Ecc) : Body :=
  if kind == .store then { s with dx := { s.dx with sram := memStore s.dx.sram off size data } }
  else s.coreEcc c kind addr ecc (·.send (.coreData c (memLoad s.dx.sram off size)))

/-- A write of DX_CORE_CTL with the given command bits and RUN as it stands. -/
def coreCtl (s : Body) (actor : Actor) (c bits : Nat) (act : Body → Body) : Body :=
  s.command actor (A.DX_CORE_CTL c) (bits + s.get (F.DX_CORE_CTL_RUN c)) act

/-- NMI (R371). -/
def coreNmi (s : Body) (c : Nat) : Body := (s.setCore c { s.core c with nmi := true }).nmiEnter c

/-- mtime (R366): the domain-time counter in units of 10 ns. -/
def mtime (s : Body) : Nat := s.get F.DX_MTIME_MTIME

/-- Whether debug is open at level 1 or above (R358, R371). -/
def debugOpen (s : Body) : Bool := s.get F.DBG_STATUS_LEVEL ≥ 1

end Body

/-- CORE_RUN_SET (R371). -/
def execCoreRunSet (actor : Actor) (core : Nat) (s : State) : Host.Outcome State Fault Refusal :=
  s.run fun b => let r := (b.judge actor (A.DX_CORE_CTL core) 1).1
    r.when (r.flag (F.DX_CORE_CTL_RUN core)) (·.coreRun core)
/-- CORE_RUN_CLEAR (R371). -/
def execCoreRunClear (actor : Actor) (core : Nat) (s : State) : Host.Outcome State Fault Refusal :=
  s.run fun b => let r := (b.judge actor (A.DX_CORE_CTL core) 0).1
    r.when (!r.flag (F.DX_CORE_CTL_RUN core)) (·.coreStop core)
/-- CORE_RESET (R371). -/
def execCoreReset (actor : Actor) (core : Nat) (s : State) : Host.Outcome State Fault Refusal :=
  s.run (·.coreCtl actor core 2 (·.coreRestart core))
/-- TCM_CLEAR (R365). -/
def execTcmClear (actor : Actor) (core : Nat) (s : State) : Host.Outcome State Fault Refusal :=
  s.run (·.coreCtl actor core 4 fun b => b.putCore core { b.core core with clearing := true })
/-- TCM_CLEAR_DONE (R365): every word is zero and written. -/
def execTcmClearDone (core : Nat) (s : State) : Host.Outcome State Fault Refusal :=
  s.run fun b => b.when (b.core core).clearing (fun b =>
    b.putCore core { b.core core with clearing := false, tcm := [], written := [], cleared := true })
/-- CORE_NMI (R371). -/
def execCoreNmi (actor : Actor) (core : Nat) (s : State) : Host.Outcome State Fault Refusal :=
  s.run (·.coreCtl actor core 8 (·.coreNmi core))
/-- EVQ_POP (R369): a read, so no actor is judged. -/
def execEvqPop (_actor : Actor) (core : Nat) (s : State) : Host.Outcome State Fault Refusal := s.run (·.evqPop core)
/-- EVQ_FLUSH (R369). -/
def execEvqFlush (actor : Actor) (core : Nat) (s : State) : Host.Outcome State Fault Refusal :=
  s.run fun b => b.command actor (A.EVQ_CTL core) ((b.word (A.EVQ_CTL core)).toNat % 4 + 4) (·.evqFlush core)
/-- MTIMECMP_MATCH (R366): mtime is at or above the core's mtimecmp. -/
def execMtimecmpMatch (core : Nat) (s : State) : Host.Outcome State Fault Refusal :=
  s.run fun b => b.when (b.mtime ≥ b.get (F.DX_MTIMECMP_CMP core)) (fun b =>
    ((b.setCore core { b.core core with mtip := true }).coreWake core).coreRegs core)
/-- KEEPER_CORE_HALT (R367). -/
def execKeeperCoreHalt (k : Nat) (s : State) : Host.Outcome State Fault Refusal :=
  s.run fun b =>
    if k = 0 then
      if b.dx.k0 then
        ({ b with dx := { b.dx with k0 := false, duty0 := false } }.put F.DX_STATUS_KEEPER_0_OK 0).postN U.hob .keeperHalted 0
      else b
    else if b.dx.k1 then
      ({ b with dx := { b.dx with k1 := false, duty1 := false } }.put F.DX_STATUS_KEEPER_1_OK 0).postN U.hob .keeperHalted 1
    else b
/-- KEEPER_TAKEOVER (R367): the other keeper core takes over, unless it has halted too. -/
def execKeeperTakeover (k : Nat) (s : State) : Host.Outcome State Fault Refusal :=
  s.run fun b =>
    if k = 0 then b.when (!b.dx.k0 && b.dx.k1 && !b.dx.duty0) fun b =>
      { b with dx := { b.dx with duty0 := true } }.postN U.hob .keeperTakeover 0
    else b.when (!b.dx.k1 && b.dx.k0 && !b.dx.duty1) fun b =>
      { b with dx := { b.dx with duty1 := true } }.postN U.hob .keeperTakeover 1
/-- DEBUG_HALT (R371). -/
def execDebugHalt (core : Nat) (s : State) : Host.Outcome State Fault Refusal :=
  s.run fun b =>
    let k := b.core core
    b.when (b.debugOpen && (k.st == .running || k.st == .waiting)) fun b => b.putCore core { k with st := .halted }
/-- DEBUG_RESUME (R371). -/
def execDebugResume (core : Nat) (s : State) : Host.Outcome State Fault Refusal :=
  s.run fun b =>
    let k := b.core core
    b.when (b.debugOpen && k.st == .halted) fun b => (b.putCore core { k with st := .running }).nmiEnter core

end Sys2Proof.Machine
end

