-- ==== Sys2Proof/Machine/RackSpike.lean ====
section
/-! DEFINITION. The commands of the Rack and of the Spike (R386 to R408) but those that hand over to the Hob. -/

namespace Sys2Proof.Machine

namespace Body

/-- Whether a root-key slot is programmed and its revoke fuse intact (R67). -/
def rootIntact (s : Body) (slot : Nat) : Bool := s.ciph.slots.contains slot && !s.ciph.revoked.contains slot

/-- Four fresh words into four registers from `a` (R358, R405). -/
def freshWords (s : Body) (a n : Nat) : Body :=
  s.forEach (List.range n) fun s i => (s.setWord (a + 8 * i) (Config.freeWord s.freeCtr)).fresh

/-- A burst is done (R386, R398, R401). -/
def rackDone (s : Body) : Body :=
  match s.rack.cur with
  | none => s
  | some b =>
    let s := { s with rack := { s.rack with cur := none } }
    match b.what with
    | .data g l => s.burstData b g l
    | .spike => s.spkWrite8

/-- A snapshot of one group (R397). -/
def rackSnap (s : Body) (g : Nat) (ecc : Ecc) : Body :=
  let r := s.groupRead g s.spikeAreaWord ecc
  ((s.setWord A.RACK_RD_DATA r.1).putB F.RACK_RD_TAG_CORRECTED (ecc == .corrected && !r.2)).putB F.RACK_RD_TAG_UNCORRECTABLE r.2
    |>.put F.RACK_RD_TAG_ECHO g

/-- A firmware burst, queued or refused (R398). Groups below the firmware area are refused as well. -/
def rackFw (s : Body) (g n : Nat) : Body :=
  if n = 0 || n > 64 || g < 0x20000 || g + n > 0xC0000 || s.get F.RACK_FW_STATUS_STATE == 1 then
    (s.put F.RACK_FW_STATUS_STATE (if s.get F.RACK_FW_STATUS_STATE == 1 then 1 else 3)).raise U.rack F.RACK_EVENTS_FW_REFUSED
  else
    let l := (List.range n).map fun i => s.word (A.RACK_FW_BUF i)
    (s.put F.RACK_FW_STATUS_STATE 1).rackPut .firmware (.data g l)

/-- FREEZE written to one: the Spike freezes from the next cycle, or, during a clear, once it is done (R404, R406). -/
def spkFreeze (s : Body) : Body :=
  if s.spk.frozen then s
  else if s.spk.clearing.isSome then { s with spk := { s.spk with frzReq := true } }
  else { s with spk := { s.spk with frozen := true } }

/-- FREEZE written to zero (R404). -/
def spkUnfreeze (s : Body) : Body :=
  if s.spk.frozen then s.spkThaw none else { s with spk := { s.spk with frzReq := false } }

/-- A refused clear: the result, the count, the challenge used up (R405). -/
def clearRefuse (s : Body) (code : Nat) : Body :=
  let s := { s with spk := { s.spk with chUsed := true } }
  let s := (s.put F.SPK_CLR_STATUS_STATE 3).put F.SPK_CLR_STATUS_RESULT code
  (s.when (code != 6) (·.inc F.SPK_CLR_STATUS_FAILS)).raise U.spike F.SPK_EVENTS_CLEAR_REFUSED

/-- Why a clear is refused, 0 for accepted (R405). -/
def clearCode (s : Body) (root : Option Nat) (sigOk : Bool) : Nat :=
  if s.get F.SPK_CLR_STATUS_FAILS ≥ 8 then 6
  else if s.spk.frozen then 1
  else if s.spk.chUsed then 2
  else if s.get F.SPK_CLR_UPTO_SEQ ≥ s.get F.PASS_SEQ_LAST_SEQ then 3
  else match root with
    | some r => if 1 ≤ r && r ≤ 4 && s.rootIntact r then (if sigOk then 0 else 5) else 4
    | none => 4

/-- A submission of a clear (R405, R406). One that comes while a clear runs finds its challenge used. -/
def clearSubmit (s : Body) (root : Option Nat) (sigOk : Bool) : Body :=
  let c := s.clearCode root sigOk
  if c != 0 then s.clearRefuse c
  else
    let s := { s with spk := { s.spk with chUsed := true, clearing := some (s.get F.SPK_CLR_UPTO_SEQ, root.getD 0) } }
    (s.put F.SPK_CLR_STATUS_STATE 1).put F.SPK_CLR_STATUS_RESULT 0

/-- The clear ends: records up to CLEAR_UPTO are gone, CLEARED is made, a held freeze begins (R406). -/
def clearDone (s : Body) : Body :=
  match s.spk.clearing with
  | none => s
  | some (upTo, root) =>
    let keep (r : SpkRec) : Bool := r.seq > upTo
    let removed := (s.spkHeld.filter fun r => !keep r).length
    let unfl := ((s.spk.sram.take s.spk.unfl).filter keep).length
    let frz := s.spk.frzReq
    let s := { s with spk := { s.spk with
      sram := s.spk.sram.filter keep, unfl := unfl, rack := s.spk.rack.filter (fun p => keep p.2)
      flushing := s.spk.flushing.map (min unfl), clearing := none, frzReq := false } }
    let s := (s.put F.SPK_CLR_STATUS_REMOVED removed).put F.SPK_CLR_STATUS_STATE 2
    let s := (s.post U.spike (.named .clearedRecord) (upTo + root * 2 ^ 64)).raise U.spike F.SPK_EVENTS_CLEARED
    s.when frz (·.spkFreeze)

end Body

/-- RACK_BURST_START (R387, R388). -/
def execRackBurstStart (aonMv : Nat) (s : State) : Host.Outcome State Fault Refusal := s.run (·.burstStart aonMv)
/-- OPERATING_SECOND (R392): counter 0, while the always-on domain is powered. -/
def execOperatingSecond (s : State) : Host.Outcome State Fault Refusal :=
  s.run fun b => b.when b.boot.powered (·.incCounter 0)
/-- RACK_SNAPSHOT (R397). -/
def execRackSnapshot (actor : Actor) (group : Nat) (ecc : Ecc) (s : State) : Host.Outcome State Fault Refusal :=
  s.run fun b => b.select actor A.RACK_RD_ADDR (group % 2 ^ 20 * 8) (·.rackSnap (group % 2 ^ 20) ecc)
/-- RACK_FW_CMD (R398). -/
def execRackFwCmd (actor : Actor) (group count : Nat) (s : State) : Host.Outcome State Fault Refusal :=
  s.run fun b => b.command actor A.RACK_FW_CMD (group % 2 ^ 20 * 8 + count % 128 * 2 ^ 23) (·.rackFw (group % 2 ^ 20) (count % 128))
/-- SPIKE_FLUSH_REQUEST (R401, R404). -/
def execSpikeFlushRequest (actor : Actor) (s : State) : Host.Outcome State Fault Refusal :=
  s.run fun b => b.command actor A.SPK_CTL (2 + b.get F.SPK_CTL_FREEZE) (·.spkFlush false)
/-- SPIKE_FREEZE (R404). -/
def execSpikeFreeze (actor : Actor) (s : State) : Host.Outcome State Fault Refusal :=
  s.run fun b => let r := b.judge actor A.SPK_CTL 1
    r.1.when (r.1.flag F.SPK_CTL_FREEZE) (·.spkFreeze)
/-- SPIKE_UNFREEZE (R404). -/
def execSpikeUnfreeze (actor : Actor) (s : State) : Host.Outcome State Fault Refusal :=
  s.run fun b => let r := b.judge actor A.SPK_CTL 0
    r.1.when (!r.1.flag F.SPK_CTL_FREEZE) (·.spkUnfreeze)
/-- SPIKE_FREEZE_MAX (R404). -/
def execSpikeFreezeMax (s : State) : Host.Outcome State Fault Refusal := s.run fun b => b.when b.spk.frozen (·.spkThaw none)
/-- Whether an actor may write its own reading window (R12, R402). -/
def Body.ownWindow (b : Body) (actor : Actor) : Bool := actor != .debugPort && !b.blocked 18 actor
/-- SPIKE_STEP (R402, R403). -/
def execSpikeStep (actor : Actor) (s : State) : Host.Outcome State Fault Refusal :=
  s.run fun b => match actor with
    | .firmware => b.command actor (A.SPK_W_STEP 0) 1 (·.spkStep 0)
    | .bmc => b.command actor (A.SPK_W_STEP 1) 1 (·.spkStep 1)
    | _ => if b.ownWindow actor then b.spkStep (Body.spkWin actor) else b.violation actor 0x1008
/-- SPIKE_CURSOR_WRITE (R402, R403). -/
def execSpikeCursorWrite (actor : Actor) (seq : Nat) (s : State) : Host.Outcome State Fault Refusal :=
  s.run fun b => match actor with
    | .firmware => b.select actor (A.SPK_W_CURSOR 0) seq (·.spkSetCursor 0 (seq % 2 ^ 64))
    | .bmc => b.select actor (A.SPK_W_CURSOR 1) seq (·.spkSetCursor 1 (seq % 2 ^ 64))
    | _ => if b.ownWindow actor then b.spkSetCursor (Body.spkWin actor) (seq % 2 ^ 64) else b.violation actor 0x1000
/-- A fresh challenge for a clear (R405). -/
def Body.clrChallenge (b : Body) : Body := { b.freshWords (A.SPK_CLR_CHALLENGE 0) 4 with spk := { b.spk with chUsed := false } }
/-- SPIKE_CLEAR_CHALLENGE (R405). -/
def execSpikeClearChallenge (actor : Actor) (s : State) : Host.Outcome State Fault Refusal :=
  s.run fun b => b.command actor A.SPK_CLR_CTL 1 (·.clrChallenge)
/-- SPIKE_CLEAR_SUBMIT (R405, R406). -/
def execSpikeClearSubmit (actor : Actor) (root : Option Nat) (sigOk : Bool) (s : State) : Host.Outcome State Fault Refusal :=
  s.run fun b => b.command actor A.SPK_CLR_CTL 2 (·.clearSubmit root sigOk)
/-- SPIKE_CLEAR_DONE (R406). -/
def execSpikeClearDone (s : State) : Host.Outcome State Fault Refusal := s.run (·.clearDone)

end Sys2Proof.Machine
end

