-- ==== Sys2Proof/Machine/Keys.lean ====
section
/-! DEFINITION. The key store, fuses, attestation and debug access (R337 to R342, R355 to R359). -/

namespace Sys2Proof.Machine

namespace Body

/-- The live registers of the cipher engine (R361). -/
def cipherRegs (s : Body) : Body :=
  let s := (s.put F.KEY_GEN_NOW_CURRENT s.ciph.cur.gen).put F.KEY_GEN_NOW_NEXT s.ciph.next.gen
  let s := (s.put F.KEY_GEN_PREV_PREV s.ciph.prev.gen).put F.KEY_ACTIVATE_FRAME s.ciph.next.act
  let s := s.putB F.CIPHER_STATUS_KEYS_PENDING (s.ciph.cur.gen < s.cfg.img.fix2.keyGen)
  let s := (s.put F.CIPHER_STATUS_UNTRUST_USED s.ciph.table.length).putB F.CIPHER_STATUS_MARKING (!s.ciph.passes.isEmpty)
  let slots := (List.range 5).foldl (fun a i => a + (b2n (s.ciph.slots.contains i) + 2 * b2n (s.ciph.revoked.contains i)) * 4 ^ i) 0
  (s.put F.FUSE_STATUS_SLOTS slots).put F.DBG_STATUS_OPENS (s.counter 2)

/-- Whether cipher operations can run: keys derived, state normal (R359, R360). -/
def cipherOk (s : Body) : Bool := s.ciph.derived && s.get F.CIPHER_STATUS_STATE == 0

/-- Seal a generation into its Rack record, 0 PREV, 1 CURRENT, 2 NEXT (R338, R395): its generation, ACTIVATE_FRAME and sealed words. -/
def sealDmk (s : Body) (which : Nat) (d : DmkSt) : Body :=
  let w (n : Nat) : Word := BitVec.ofNat 64 n
  s.recWrite .record (0x100 + 128 * which) ([w d.gen, w d.act] ++ (List.range 12).map (Config.gcm d.gen 0 [])) 0

/-! ## Domain keys (R340, R341) -/

/-- Why a key package is refused, 0 for installed (R341). -/
def keyCode (s : Body) (root : Option Nat) (certOk sigOk wrapOk : Bool) : Nat :=
  let w0 := (s.word (A.KEY_PKG 0)).toNat
  let w1 := (s.word (A.KEY_PKG 1)).toNat
  let rootOk := match root with
    | some r => 1 ≤ r && r ≤ 4 && s.rootIntact r
    | none => false
  if !rootOk then 1
  else if !certOk then 2
  else if !sigOk then 3
  else if nbits w0 48 16 != s.cfg.img.fix.member || nbits w1 0 32 != s.cfg.img.fix.domain then 4
  else if nbits w1 32 32 ≤ s.ciph.cur.gen then 5
  else if !wrapOk || !s.cipherOk then 6
  else 0

/-- KEY_CMD INSTALL (R341). -/
def keyInstall (s : Body) (root : Option Nat) (certOk sigOk wrapOk : Bool) : Body :=
  let c := s.keyCode root certOk sigOk wrapOk
  if c != 0 then
    ((s.put F.KEY_CMD_STATUS_STATE 3).put F.KEY_CMD_STATUS_RESULT c).raise U.cipher F.CIPHER_EVENTS_KEY_REFUSED c
  else
    let d : DmkSt := { gen := nbits (s.word (A.KEY_PKG 1)).toNat 32 32, act := (s.word (A.KEY_PKG 2)).toNat }
    let s := { s with ciph := { s.ciph with next := d } }
    let s := ((s.sealDmk 2 d).put F.KEY_CMD_STATUS_STATE 2).put F.KEY_CMD_STATUS_RESULT 0
    (s.raise U.cipher F.CIPHER_EVENTS_KEY_INSTALLED d.gen).cipherRegs

/-- KEY_CMD DISCARD_NEXT (R341). -/
def keyDiscard (s : Body) : Body :=
  let s := { s with ciph := { s.ciph with next := {} } }
  (((s.sealDmk 2 {}).put F.KEY_CMD_STATUS_STATE 2).put F.KEY_CMD_STATUS_RESULT 0).cipherRegs

/-- NEXT becomes CURRENT, CURRENT becomes PREV, PREV is zeroized (R341, R342). -/
def keyActivate (s : Body) : Body :=
  if s.ciph.next.gen = 0 || s.frameNo < s.ciph.next.act then s
  else
    let (c, n) := (s.ciph.cur, s.ciph.next)
    let s := { s with ciph := { s.ciph with prev := c, cur := n, next := {}, prevTil := s.frameNo + 10000 } }
    ((((s.sealDmk 0 c).sealDmk 1 n).sealDmk 2 {}).raise U.cipher F.CIPHER_EVENTS_KEY_ACTIVATED n.gen).cipherRegs

/-- Whether a generation is held (R342, R348). -/
def genHeld (s : Body) (g : Nat) : Bool :=
  g != 0 && s.cfg.img.fix2.keyGen ≤ g && (g == s.ciph.prev.gen || g == s.ciph.cur.gen || g == s.ciph.next.gen)
/-- Whether a Trivet message whose tag a generation's key made verifies (R342): under CURRENT, and for 10,000 frames after an activation
under PREV. -/
def trivetKey (s : Body) (g : Nat) : Bool :=
  g != 0 && s.cfg.img.fix2.keyGen ≤ g && (g == s.ciph.cur.gen || (g == s.ciph.prev.gen && s.frameNo ≤ s.ciph.prevTil))

/-! ## Root-key fuses (R339) -/

/-- FUSE_CMD PROGRAM. A slot number above 4 names no slot and is refused like slot 0. -/
def fuseProgram (s : Body) (slot : Nat) : Body :=
  if slot = 0 || slot > 4 || s.ciph.slots.contains slot then s.put F.FUSE_STATUS_RESULT 1
  else
    let s := { s with ciph := { s.ciph with
      slots := insertNat s.ciph.slots slot
      hashes := (List.range 6).foldl (fun m i => mset m (6 * slot + i) (s.word (A.FUSE_HASH i))) s.ciph.hashes } }
    ((s.put F.FUSE_STATUS_RESULT 0).raise U.cipher F.CIPHER_EVENTS_FUSE_BLOWN slot).cipherRegs

/-- FUSE_CMD REVOKE. -/
def fuseRevoke (s : Body) (slot : Nat) : Body :=
  if slot > 4 then s.put F.FUSE_STATUS_RESULT 1
  else if s.cfg.loaded && slot == s.get F.CONFIG_STATUS_ROOT_SLOT then s.put F.FUSE_STATUS_RESULT 2
  else if !((List.range 5).any fun r => r != slot && s.rootIntact r) then s.put F.FUSE_STATUS_RESULT 3
  else
    let s := { s with ciph := { s.ciph with revoked := insertNat s.ciph.revoked slot } }
    ((s.put F.FUSE_STATUS_RESULT 0).raise U.cipher F.CIPHER_EVENTS_FUSE_BLOWN slot).cipherRegs

/-! ## Snapshots -/

/-- KEY_SLOT_SEL (R338, R361). -/
def keySlotSnap (s : Body) (slot : Nat) : Body :=
  let ch := slot / 2
  let label := mget (mgetD s.mtl.ch ch {}).labels (slot % 2)
  let (present, use, gen) : Bool × Nat × Nat :=
    if slot < 64 then (s.ciph.derived && label.isSome && s.isOn (U.md ch), 0, (label.map (·.seq)).getD 0 % 2 ^ 32)
    else if slot = 64 then (s.ciph.prev.gen != 0, 1, s.ciph.prev.gen)
    else if slot = 65 then (s.ciph.cur.gen != 0, 1, s.ciph.cur.gen)
    else if slot = 66 then (s.ciph.next.gen != 0, 1, s.ciph.next.gen)
    else if slot = 67 then (s.ciph.session != 0, 2, s.ciph.session)
    else (false, 0, 0)
  let s := (s.putB F.KEY_SLOT_PEEK_PRESENT present).put F.KEY_SLOT_PEEK_USE (if present then use else 0)
  (s.put F.KEY_SLOT_PEEK_ECHO slot).put F.KEY_SLOT_PEEK_GEN (if present then gen else 0)

/-- UNTRUST_SEL (R353, R361). -/
def untrustSnap (s : Body) (e : Nat) : Body :=
  let marking := s.ciph.passes.any fun p => p.entry == some e
  let (v, u) : Bool × Untrust := match mget s.ciph.table e with
    | some u => (true, u)
    | none => (false, ⟨0, 0, 0, 0⟩)
  let s := (s.putB F.UNTRUST_PEEK_0_VALID v).put F.UNTRUST_PEEK_0_CAUSE u.cause
  let s := (s.putB F.UNTRUST_PEEK_0_MARKING (v && marking)).put F.UNTRUST_PEEK_0_ECHO e
  let s := (s.put F.UNTRUST_PEEK_0_DPA u.dpa).put F.UNTRUST_PEEK_1_BYTES u.bytes
  s.put F.UNTRUST_PEEK_1_FRAME_LOW u.frame

/-- UNTRUST_CMD CLR: the record goes, stored poison stays (R353). -/
def untrustClr (s : Body) (e : Nat) : Body :=
  ({ s with ciph := { s.ciph with
      table := merase s.ciph.table e
      passes := s.ciph.passes.map fun (p : MarkPass) => if p.entry == some e then { p with entry := none } else p } }).cipherRegs

/-! ## Measurements and SPDM (R355 to R357) -/

/-- Extend measurement 4 (R356). -/
def fwExtend (s : Body) : Body :=
  let old := (List.range 6).map fun i => s.word (A.FW_MEASURE_VALUE i)
  let data := (List.range 6).map fun i => s.word (A.FW_MEASURE_DATA i)
  s.forEach (List.range 6) fun s i => s.setWord (A.FW_MEASURE_VALUE i) (Config.sha384 (old ++ data) i)

/-- A measurement block (R356). -/
def measurement (s : Body) (i : Nat) : List Word :=
  let w (n : Nat) : Word := BitVec.ofNat 64 n
  match i with
  | 1 => (List.range 6).map Config.bootRom
  | 2 => (List.range 6).map fun i => s.word (A.CONFIG_HASH i)
  | 3 => [w s.cfg.svnFuses, w s.cfg.img.svn, w s.ciph.cur.gen]
  | 4 => (List.range 6).map fun i => s.word (A.FW_MEASURE_VALUE i)
  | 5 => [w (s.counter 2), w (b2n (s.get F.DBG_STATUS_LEVEL != 0))]
  | 6 => [w (s.get F.CONFIG_STATUS_ROOT_SLOT), w (s.get F.FUSE_STATUS_SLOTS)]
  | 7 => (List.range 12).map Config.kaPub
  | _ => []

/-- Whether ports may open as far as attestation goes (R357). -/
def attestedOk (s : Body) : Bool := !nbit s.cfg.img.fix2.secFlags 2 || s.flag F.CIPHER_STATUS_ATTESTED
/-- The first signed answer over MCTP after reset sets ATTESTED (R357). -/
def attest (s : Body) (mctp : Bool) : Body :=
  if mctp && !s.flag F.CIPHER_STATUS_ATTESTED then (s.put F.CIPHER_STATUS_ATTESTED 1).later .ports else s

/-- Whether the exchange that must come before keyed requests is complete (R355, DSP0274). -/
def spdmReady (s : Body) : Bool := s.ciph.version && s.ciph.caps && s.ciph.algos

/-- CHALLENGE (R355, R357): certificate slot 0 alone. -/
def spdmChallenge (s : Body) (slot : Nat) (mctp : Bool) : Body :=
  if slot = 0 && s.spdmReady && s.cipherOk then (s.send (.spdm .challengeAuth)).attest mctp else s.send (.spdm .error)

/-- GET_MEASUREMENTS (R356, R357): one block, all (255) or their number (0). -/
def spdmMeasure (s : Body) (index : Nat) (signed mctp : Bool) : Body :=
  let idx := if index = 255 then [1, 2, 3, 4, 5, 6, 7] else if 1 ≤ index && index ≤ 7 then [index] else []
  if !s.spdmReady || (index > 7 && index != 255) || (signed && !s.cipherOk) then s.send (.spdm .error)
  else
    let s := s.send (.spdm (.measurements signed (if index = 0 then [(0, [7])] else idx.map fun i => (i, s.measurement i))))
    s.attest (mctp && signed)

/-- KEY_EXCHANGE: up to four sessions (R355). -/
def spdmKeyExchange (s : Body) (id : Nat) : Body :=
  if !s.spdmReady || !s.cipherOk || s.ciph.spdm.length ≥ 4 || s.ciph.spdm.any (·.id == id) then s.send (.spdm .error)
  else { s with ciph := { s.ciph with spdm := ⟨id, false⟩ :: s.ciph.spdm } }.send (.spdm (.keyExchangeRsp id))

/-- FINISH: the handshake completes, or the session is dropped (R355). -/
def spdmFinish (s : Body) (id : Nat) (ok : Bool) : Body :=
  match s.ciph.spdm.find? (·.id == id) with
  | some x =>
    if x.up then s.send (.spdm .error)
    else if ok then
      { s with ciph := { s.ciph with spdm := s.ciph.spdm.map fun (y : Spdm) => if y.id == id then { y with up := true } else y } }.send (.spdm (.finishRsp id))
    else { s with ciph := { s.ciph with spdm := s.ciph.spdm.filter (·.id != id) } }.send (.spdm .error)
  | none => s.send (.spdm .error)

/-- END_SESSION (R355). -/
def spdmEnd (s : Body) (id : Nat) : Body :=
  if s.ciph.spdm.any fun x => x.id == id && x.up then
    { s with ciph := { s.ciph with spdm := s.ciph.spdm.filter (·.id != id) } }.send (.spdm (.endSessionAck id))
  else s.send (.spdm .error)

/-! ## Debug access (R358, R359) -/

/-- A job runs (R358). -/
def jobRuns (s : Body) : Bool := s.ciph.job0.active || s.ciph.job1.active

/-- Why a debug submission is refused, 0 for accepted (R358). -/
def dbgCode (s : Body) (root : Option Nat) (sigOk : Bool) : Nat :=
  if s.get F.DBG_STATUS_FAILS ≥ 8 then 6
  else if !nbit s.cfg.img.fix2.secFlags 0 then 1
  else if s.unit U.persist != .off || s.unit U.twin != .off || s.unit U.mtl != .off || s.jobRuns then 2
  else if s.ciph.dbgUsed then 3
  else match root with
    | some r => if r ≤ 4 && s.rootIntact r then (if sigOk then 0 else 5) else 4
    | none => 4

/-- Zeroize every key of the key store and of the port IDE engines (R358). -/
def zeroize (s : Body) : Body :=
  let s := { s with ciph := { s.ciph with prev := {}, cur := {}, next := {}, session := 0, derived := false } }
  let s := { s with cxl := { s.cxl with ports := s.cxl.ports.map fun (p : Nat × CxlPort) => (p.1, { p.2 with memIde := false, ioIde := false }) } }
  (s.put F.CIPHER_STATUS_STATE 1).cipherRegs

/-- The counter is written: debug opens (R358). -/
def dbgOpen (s : Body) : Body :=
  let pendingOpen := s.rack.queue.any fun b => match b.what with
    | .data g _ => 16 ≤ g && g < 24
    | .spike => false
  if s.ciph.opens = 0 || pendingOpen then s
  else
    let lvl := s.ciph.opens
    let s := { s with ciph := { s.ciph with opens := 0 } }
    ((s.put F.DBG_STATUS_LEVEL lvl).put F.DBG_STATUS_RESULT 0).postN U.cipher .debugOpened lvl

/-- DBG_CTL.SUBMIT (R358). -/
def dbgSubmit (s : Body) (level : Nat) (root : Option Nat) (sigOk : Bool) : Body :=
  let c := s.dbgCode root sigOk
  let s := { s with ciph := { s.ciph with dbgUsed := true } }
  if c != 0 then
    let s := s.when (c != 6) (·.inc F.DBG_STATUS_FAILS)
    (s.put F.DBG_STATUS_RESULT c).raise U.cipher F.CIPHER_EVENTS_DEBUG_REFUSED c
  else
    let s := s.zeroize.incCounter 2
    ({ s with ciph := { s.ciph with opens := if level = 2 then 2 else 1 } }).cipherRegs

end Body

/-- RACK_BURST_DONE (R386); an opening of debug may have waited for it (R358). -/
def execRackBurstDone (s : State) : Host.Outcome State Fault Refusal := s.run (·.rackDone.dbgOpen)
/-- KEY_INSTALL (R341). -/
def execKeyInstall (actor : Actor) (root : Option Nat) (certOk sigOk wrapOk : Bool) (s : State) : Host.Outcome State Fault Refusal :=
  s.run (·.command actor A.KEY_CMD 1 (·.keyInstall root certOk sigOk wrapOk))
/-- KEY_DISCARD_NEXT (R341). -/
def execKeyDiscardNext (actor : Actor) (s : State) : Host.Outcome State Fault Refusal := s.run (·.command actor A.KEY_CMD 2 (·.keyDiscard))
/-- KEY_ACTIVATE (R341, R342). -/
def execKeyActivate (s : State) : Host.Outcome State Fault Refusal := s.run (·.keyActivate)
/-- FUSE_PROGRAM (R339). -/
def execFuseProgram (actor : Actor) (slot : Nat) (s : State) : Host.Outcome State Fault Refusal :=
  s.run (·.command actor A.FUSE_CMD (1 + slot % 8 * 4) (·.fuseProgram (slot % 8)))
/-- FUSE_REVOKE (R339). -/
def execFuseRevoke (actor : Actor) (slot : Nat) (s : State) : Host.Outcome State Fault Refusal :=
  s.run (·.command actor A.FUSE_CMD (2 + slot % 8 * 4) (·.fuseRevoke (slot % 8)))
/-- UNTRUST_CLR (R353). -/
def execUntrustClr (actor : Actor) (entry : Nat) (s : State) : Host.Outcome State Fault Refusal :=
  s.run (·.command actor A.UNTRUST_CMD (2 + entry % 64 * 4) (·.untrustClr (entry % 64)))
/-- UNTRUST_SNAPSHOT (R361). -/
def execUntrustSnapshot (actor : Actor) (entry : Nat) (s : State) : Host.Outcome State Fault Refusal :=
  s.run (·.select actor A.UNTRUST_SEL (entry % 64) (·.untrustSnap (entry % 64)))
/-- KEY_SLOT_SNAPSHOT (R338, R361). -/
def execKeySlotSnapshot (actor : Actor) (slot : Nat) (s : State) : Host.Outcome State Fault Refusal :=
  s.run (·.select actor A.KEY_SLOT_SEL (slot % 128) (·.keySlotSnap (slot % 128)))
/-- FW_MEASURE_EXTEND (R356). -/
def execFwMeasureExtend (actor : Actor) (s : State) : Host.Outcome State Fault Refusal := s.run (·.command actor A.FW_MEASURE_CMD 1 (·.fwExtend))
/-- A fresh debug challenge (R358). -/
def Body.dbgChallenge (b : Body) : Body := { b.freshWords (A.DBG_CHALLENGE 0) 4 with ciph := { b.ciph with dbgUsed := false } }
/-- DBG_NEW_CHALLENGE (R358). -/
def execDbgNewChallenge (actor : Actor) (s : State) : Host.Outcome State Fault Refusal :=
  s.run (·.command actor A.DBG_CTL 1 (·.dbgChallenge))
/-- DBG_SUBMIT (R358). -/
def execDbgSubmit (actor : Actor) (level : Nat) (root : Option Nat) (sigOk : Bool) (s : State) : Host.Outcome State Fault Refusal :=
  s.run (·.command actor A.DBG_CTL (2 + level % 4 * 4) (·.dbgSubmit (level % 4) root sigOk))
/-- SPDM_GET_VERSION (R355). -/
def execSpdmGetVersion (s : State) : Host.Outcome State Fault Refusal :=
  s.run fun b => { b with ciph := { b.ciph with version := true, caps := false, algos := false } }.send (.spdm .version)
/-- SPDM_GET_CAPABILITIES (R355). -/
def execSpdmGetCapabilities (s : State) : Host.Outcome State Fault Refusal :=
  s.run fun b => if b.ciph.version then { b with ciph := { b.ciph with caps := true } }.send (.spdm .capabilities) else b.send (.spdm .error)
/-- SPDM_NEGOTIATE_ALGORITHMS (R355): `common` says whether the requester offers the algorithms supported. -/
def execSpdmNegotiateAlgorithms (common : Bool) (s : State) : Host.Outcome State Fault Refusal :=
  s.run fun b => if b.ciph.version && b.ciph.caps && common then { b with ciph := { b.ciph with algos := true } }.send (.spdm .algorithms)
    else b.send (.spdm .error)
/-- SPDM_GET_DIGESTS (R355): certificate slot 0. -/
def execSpdmGetDigests (s : State) : Host.Outcome State Fault Refusal :=
  s.run fun b => if b.spdmReady && b.cipherOk then b.send (.spdm (.digests 1)) else b.send (.spdm .error)
/-- SPDM_GET_CERTIFICATE (R355): certificate slot 0 alone. -/
def execSpdmGetCertificate (slot offset length : Nat) (s : State) : Host.Outcome State Fault Refusal :=
  s.run fun b => if slot = 0 && b.spdmReady && b.cipherOk then b.send (.spdm (.certificate offset length)) else b.send (.spdm .error)
/-- SPDM_KEY_EXCHANGE (R355). -/
def execSpdmKeyExchange (session : Nat) (s : State) : Host.Outcome State Fault Refusal := s.run (·.spdmKeyExchange session)
/-- SPDM_FINISH (R355). -/
def execSpdmFinish (session : Nat) (ok : Bool) (s : State) : Host.Outcome State Fault Refusal := s.run (·.spdmFinish session ok)
/-- SPDM_END_SESSION (R355). -/
def execSpdmEndSession (session : Nat) (s : State) : Host.Outcome State Fault Refusal := s.run (·.spdmEnd session)

end Sys2Proof.Machine
end

