-- ==== Sys2Proof/Machine/Time.lean ====
section
/-! DEFINITION. The time unit (R36 to R56, R449, R460): domain time, SYNC_STATE, references, discovery beacons. -/

namespace Sys2Proof.Machine

namespace Body

/-- The frame period T in ns (R37). -/
def periodNs (s : Body) : Nat := s.get F.FRAME_PERIOD_PERIOD_NS
/-- N, FCLK cycles of a frame (R37). -/
def cyclesN (s : Body) : Nat := s.get F.FRAME_PERIOD_CYCLES

/-- The twin role (R211, R241). -/
def role (s : Body) : Role :=
  match s.get F.TWIN_STATUS_ROLE with
  | 1 => .active | 2 => .standby | 3 => .solo | 4 => .resync | _ => .none
/-- Encoding of a role (R53, R241). -/
def roleCode : Role → Nat
  | .none => 0 | .active => 1 | .standby => 2 | .solo => 3 | .resync => 4
/-- Whether the controller follows its twin's tick (R39, R46, R47). -/
def follows (s : Body) : Bool := s.role == .standby || s.role == .resync

/-- Encoding of a SYNC_STATE (R53, R56). -/
def syncCode : SyncState → Nat
  | .unset => 0 | .acquiring => 1 | .locked => 2 | .holdover => 3 | .adrift => 4
/-- SYNC_STATE as reported (R56). -/
def syncState (s : Body) : SyncState :=
  match s.get F.TIME_STATUS_SYNC_STATE with
  | 0 => .unset | 1 => .acquiring | 2 => .locked | 3 => .holdover | _ => .adrift
/-- Whether the controller is domain-aligned (R50). -/
def aligned (s : Body) : Bool := s.syncState == .locked || s.syncState == .holdover

/-- The holdover estimate in 1/16 ns, scaled by 10^9 (R49). -/
def holdEst (s : Body) : Nat := s.time.holdBase * 1000000000 + s.time.holdAcc

/-- The registers that report SYNC_STATE, the estimate and the domain time (R47, R49, R56, R366). -/
def timeRegs (s : Body) : Body :=
  let rep : Nat :=
    if s.time.sync != .unset && s.follows then (if s.flag F.TIME_STATUS_TWIN_ALIGN_OK then s.twin.hb.sync else 1)
    else syncCode s.time.sync
  let s := s.put F.TIME_STATUS_SYNC_STATE rep
  let hold := s.time.sync == .holdover
  let s := s.put F.HOLDOVER_EST_ERROR (if hold then s.holdEst / 1000000000 else 0)
  let s := s.put F.HOLDOVER_EST_ELAPSED_MS (if hold then min (s.time.holdNs / 1000000) (2 ^ 32 - 1) else 0)
  s.put F.DX_MTIME_MTIME (s.time.tai / 10)

/-- Set the state of R48. -/
def setSync (s : Body) (st : SyncState) : Body := ({ s with time := { s.time with sync := st, lockRun := 0 } }).timeRegs

/-- Enter HOLDOVER: the estimate starts from the last measured offset (R48, R49, R460). -/
def holdoverEnter (s : Body) : Body :=
  let s := { s with time := { s.time with holdBase := s.time.lastOff.natAbs, holdNs := 0, holdAcc := 0 } }
  (s.setSync .holdover).raise U.time F.TIME_EVENTS_HOLDOVER_ENTERED

/-- Every phase reference is lost, or FREEZE is set (R48, R460). -/
def referenceLost (s : Body) : Body :=
  match s.time.sync with
  | .locked => s.holdoverEnter
  | .acquiring => (s.setSync .adrift).raise U.time F.TIME_EVENTS_ALIGN_LOST
  | _ => s

/-- A reference is regained, with the measured offset (R48); not while FREEZE is set (R460). -/
def referenceRegained (s : Body) (off : Int) : Body :=
  if s.flag F.TIME_CTL_FREEZE then s
  else match s.time.sync with
    | .holdover => s.setSync (if off.natAbs ≤ 240 then .locked else .acquiring)
    | .adrift => s.setSync .acquiring
    | _ => s

/-- The first source in order that is enabled and healthy: 0 none, 1 TSYNC_IN, 2 PTP, 3 the twin link (R39). -/
def phaseSource (s : Body) : Nat :=
  if s.flag F.TIME_CTL_SRC_TSYNC_EN && s.flag F.TIME_STATUS_TSYNC_OK then 1
  else if s.flag F.TIME_CTL_SRC_PTP_EN && s.flag F.TIME_STATUS_PTP_OK then 2
  else if s.follows && s.time.twinOk then 3
  else 0

/-- Note an offset measured against the phase reference; beyond 20 ns LOCKED is left (R48). -/
def phaseMeasured (s : Body) (off : Int) : Body :=
  let s := { s with time := { s.time with lastOff := off } }
  if s.time.sync == .locked && !s.flag F.TIME_CTL_FREEZE && off.natAbs > 320 then
    (s.setSync .acquiring).raise U.time F.TIME_EVENTS_ALIGN_LOST
  else s

/-- Report an offset from domain time (R39, R56). -/
def putOffset (s : Body) (off : Int) : Body := s.put F.OFFSET_DOMAIN (unsgn 32 off)

/-- Whether an absolute time would set the counter now (R41). -/
def counterUnset (s : Body) : Bool := s.time.sync == .unset && s.unit U.persist == .off && s.isOn U.time

/-- The first absolute time `t` is received: the frame after the one in progress takes the number of the next tick of domain time, and
SYNC_STATE leaves UNSET (R38, R41, R48, R460). -/
def counterSet (s : Body) (t : Nat) : Body :=
  if !s.counterUnset || s.periodNs = 0 then s
  else
    let (e, b) := (s.get F.EPOCH_TIME_E, s.get F.EPOCH_BASE_B)
    let s := { s with time := { s.time with nextNo := some (b + (t - e) / s.periodNs + 1), pulseMs := (t - e) / 1000000 } }
    s.setSync (if s.flag F.TIME_CTL_FREEZE then .adrift else .acquiring)

/-- The time unit's work at a tick: the frame number, the local domain time, the holdover estimate, the lock count, references regained
after FREEZE, the choice of source (R38 to R41, R48, R49, R460). `steer` is what the discipline loop adds to the next frame. -/
def timeTick (s : Body) (steer : Int) : Body :=
  let t := s.periodNs
  let n : Option Nat := match s.time.nextNo with
    | some n => some n
    | none => if s.time.numbered then some (s.frameNo + 1) else none
  let s := match n with
    | some n =>
      let tai := s.get F.EPOCH_TIME_E + (n - s.get F.EPOCH_BASE_B) * t
      { s with time := { s.time with numbered := true, nextNo := none, tai := tai } }.put F.FRAME_NOW_FRAME n
    | none => { s with time := { s.time with tai := s.time.tai + t } }
  let s := { s with frame := { s.frame with ticks := s.frame.ticks + 1 } }
  let ppb := if s.flag F.TIME_STATUS_TREF_OK then s.get F.HOLDOVER_CFG_PPB else 1000
  let s := if s.time.sync == .holdover then
      { s with time := { s.time with holdNs := s.time.holdNs + t, holdAcc := s.time.holdAcc + 16 * t * ppb } } else s
  let s := { s with time := { s.time with
    lockRun := if s.time.sync == SyncState.acquiring && s.time.lastOff.natAbs ≤ 240 then s.time.lockRun + 1 else 0 } }
  let src := s.phaseSource
  let s := if s.isOn U.time then s.put F.TIME_STATUS_SOURCE src else s.put F.TIME_STATUS_SOURCE 0
  let again := s.time.regain && src != 0 && s.isOn U.time
  let s := { s with time := { s.time with regain := false } }
  let s := s.when again (fun s => s.referenceRegained s.time.lastOff)
  let lim : Int := if s.flag F.TIME_CTL_FREEZE || !s.isOn U.time then 0
    else match s.time.sync with
      | .acquiring => 8
      | .locked => 1
      | .holdover => 1
      | _ => 0
  let s := { s with time := { s.time with added := s.time.added + max (-lim) (min lim steer) } }
  s.timeRegs

/-! ## Discovery beacons (R52 to R55) -/

/-- BEACON_CFG.INTERVAL; values below 10 act as 10 (R56). -/
def beaconInterval (s : Body) : Nat := max 10 (s.get F.BEACON_CFG_INTERVAL)

/-- Whether beacons and Trivet messages may be tagged: keys held, CURRENT not below the image's KEY_GEN (R342). -/
def mayTag (s : Body) : Bool := s.cipherOk && s.ciph.cur.gen != 0 && s.cfg.img.fix2.keyGen ≤ s.ciph.cur.gen

/-- Take the next BEACON_SEQ, moving the mark of ring 2 on by the method of R27 (R53). -/
def beaconSeqNext (s : Body) : Nat × Body :=
  let n := s.time.beaconSeq
  let m := mgetD s.rack.mark 2 0
  let s := { s with time := { s.time with beaconSeq := n + 1 } }
  (n, if n ≥ m + 2 ^ 31 then s.storeMark 2 (m + 2 ^ 31) else s)

/-- Send a discovery beacon (R52, R53). The directory generation is a free value: the spec describes no region directory. -/
def beaconSend (s : Body) (leaving : Bool) : Body :=
  if !s.mayTag then s
  else
    let (q, s) := s.beaconSeqNext
    let m : BeaconMsg := {
      magic := 0x5342, version := 1, domain := s.get F.DOMAIN_ID_DOMAIN, member := s.get F.DOMAIN_ID_MEMBER
      twin := if nbit s.cfg.img.fix2.twinFlags 1 || nbit s.cfg.img.fix2.twinFlags 2 then s.cfg.img.fix2.twinMember else 0xFFFF
      frame := s.frameNo, period := s.periodNs, sync := s.get F.TIME_STATUS_SYNC_STATE, role := s.get F.TWIN_STATUS_ROLE
      offset := sgn 32 (s.get F.OFFSET_DOMAIN) / 16
      flags := b2n leaving + 2 * b2n (nbit s.cfg.img.fix2.twinFlags 0) + 4 * b2n (s.isOn U.sched)
      keyGen := s.ciph.cur.gen, dirGen := (Config.freeWord s.freeCtr).toNat, seq := q }
    (s.fresh.send (.beacon m (s.get F.BEACON_CFG_PORT_MASK))).inc F.BEACON_TX_SENT

/-- An epoch pulse: the whole milliseconds before the end of the frame in progress that have not been taken yet (R43, R52). -/
def epochPulse (s : Body) : Body :=
  let e := s.get F.EPOCH_TIME_E
  let k := (s.time.tai + s.periodNs - 1 - e) / 1000000
  if s.time.sync == .unset || !s.time.numbered || k ≤ s.time.pulseMs then s
  else
    let s := { s with time := { s.time with pulseMs := k } }
    let drive := s.flag F.TIME_CTL_TSYNC_OUT_EN && s.syncState != .unset && s.syncState != .adrift
    let s := s.when drive (·.send (.tsyncOut (s.get F.TSYNC_CFG_OUT_ADVANCE)))
    if s.flag F.TIME_CTL_BEACON_EN then
      let i := s.beaconInterval
      s.when (k % i == s.get F.DOMAIN_ID_MEMBER % i) (·.beaconSend false)
    else if s.time.leaving then ({ s with time := { s.time with leaving := false } }).beaconSend true
    else s

/-- PEER_COUNT.LIVE. -/
def peerRegs (s : Body) : Body := s.put F.PEER_COUNT_LIVE s.time.peers.length

/-- Drop a peer and post that it is lost (R55). -/
def peerDrop (s : Body) (m : Nat) : Body :=
  match mget s.time.peers m with
  | none => s
  | some _ => ({ s with time := { s.time with peers := merase s.time.peers m } }.peerRegs).postN U.time .peerLost m

/-- Whether a beacon is accepted (R54). In the period without frame numbers FRAME is not compared (R41). -/
def beaconOk (s : Body) (m : BeaconMsg) (tagOk : Bool) : Bool :=
  m.magic == 0x5342 && m.version == 1 && m.domain == s.get F.DOMAIN_ID_DOMAIN && m.period == s.periodNs
  && tagOk && s.genHeld m.keyGen
  && (match mget s.time.lastSeq m.member with
      | some q => q < m.seq
      | none => true)
  && (!s.time.numbered || (s.frameNo ≤ m.frame + s.get F.BEACON_CFG_AGE_MAX && m.frame ≤ s.frameNo + 1))

/-- A discovery beacon arrives (R37, R41, R54, R55). -/
def beaconRx (s : Body) (m : BeaconMsg) (src : Nat) (tagOk : Bool) : Body :=
  if !s.beaconOk m tagOk then
    let refuse := m.magic == 0x5342 && m.version == 1 && m.domain == s.get F.DOMAIN_ID_DOMAIN && tagOk && s.genHeld m.keyGen
      && m.period != s.periodNs
    (s.when refuse (·.raise U.time F.TIME_EVENTS_PEER_REFUSED m.member)).inc F.BEACON_RX_REJECTED
  else
    let s := s.inc F.BEACON_RX_ACCEPTED
    let s := { s with time := { s.time with lastSeq := mset s.time.lastSeq m.member m.seq } }
    let e := s.get F.EPOCH_TIME_E
    let t : Int := e + (m.frame - s.get F.EPOCH_BASE_B) * s.periodNs + m.offset
    let s := s.when (s.flag F.TIME_CTL_SRC_BEACON_EN) (·.counterSet t.toNat)
    let conflict := match mget s.time.peers m.member with
      | some p => p.addr != src
      | none => m.member == s.get F.DOMAIN_ID_MEMBER
    if conflict then (s.inc F.PEER_COUNT_CONFLICTS).raise U.time F.TIME_EVENTS_MEMBER_CONFLICT m.member
    else if nbit m.flags 0 then s.peerDrop m.member
    else
      let p : Peer := { addr := src, twin := m.twin, frame := m.frame, period := m.period, sync := m.sync, role := m.role,
                        offset := m.offset, flags := m.flags, keyGen := m.keyGen, dirGen := m.dirGen, seq := m.seq, at_ := s.time.pulseMs }
      { s with time := { s.time with peers := mset s.time.peers m.member p } }.peerRegs

/-- Three intervals have passed without an accepted beacon of a peer (R55). -/
def peerLost (s : Body) (m : Nat) : Body :=
  match mget s.time.peers m with
  | some p => s.when (p.at_ + 3 * s.beaconInterval ≤ s.time.pulseMs) (·.peerDrop m)
  | none => s

/-! ## References -/

/-- A PTP message on a port, over a transport, in a domain (R44): it counts when it comes on the selected port, over the selected
transport, in the selected domain, from the transmitter the best time-transmitter clock algorithm picks. -/
def ptpMessage (s : Body) (port transport domain : Nat) (clock : Word) (best : Bool) (time : Option Nat) (off : Option Int) : Body :=
  let sel := s.get F.PTP_CFG_PORT_SEL
  if port != sel || (sel > 7 && sel != 15) || transport != s.get F.PTP_CFG_TRANSPORT || transport > 2
      || domain != min 127 (s.get F.PTP_CFG_DOMAIN_NUM) || !best then s
  else
    let s := (s.put F.TIME_STATUS_PTP_OK 1).put F.PTP_PARENT_CLOCK_ID clock.toNat
    match time, off with
    | some t, none => s.counterSet t
    | some t, some o => if s.counterUnset then s.counterSet t
        else (s.putOffset o).when (s.get F.TIME_STATUS_SOURCE == 2) (·.phaseMeasured o)
    | none, some o => (s.putOffset o).when (s.get F.TIME_STATUS_SOURCE == 2) (·.phaseMeasured o)
    | none, none => s

/-- A rising edge of TSYNC_IN, `late` 1/16 ns after the whole millisecond expected (R42). With no counter set, none is expected. -/
def tsyncEdge (s : Body) (late : Int) : Body :=
  let d := (late - ((s.get F.TSYNC_CFG_IN_DELAY * 10 : Nat) : Int)).natAbs
  if s.time.sync != .unset && d ≤ s.get F.TSYNC_CFG_IN_WINDOW * 16 then
    ({ s with time := { s.time with tsyncMiss := 0 } }.put F.TIME_STATUS_TSYNC_OK 1).inc F.TSYNC_COUNT_GOOD
  else { s with time := { s.time with tsyncMiss := s.time.tsyncMiss + 1 } }.inc F.TSYNC_COUNT_OUT_OF_WINDOW

/-- A write of TIME_CTL with one field changed. -/
def timeCtl (s : Body) (actor : Actor) (f : Fld) (v : Nat) : Body := (s.judge actor A.TIME_CTL (f.insert (s.word A.TIME_CTL) v)).1

end Body

/-- TREF_LOST (R49, R449). -/
def execTrefLost (s : State) : Host.Outcome State Fault Refusal :=
  s.run fun b => b.when (b.flag F.TIME_STATUS_TREF_OK) fun b => (b.put F.TIME_STATUS_TREF_OK 0).raise U.time F.TIME_EVENTS_TREF_LOST
/-- TREF_RETURN (R36, R49). -/
def execTrefReturn (s : State) : Host.Outcome State Fault Refusal := s.run (·.put F.TIME_STATUS_TREF_OK 1)
/-- PTP_MESSAGE (R44, R41). -/
def execPtpMessage (port transport domain : Nat) (clock : Word) (best : Bool) (time : Option Nat) (offset : Option Int) (s : State) :
    Host.Outcome State Fault Refusal := s.run (·.ptpMessage port transport domain clock best time offset)
/-- PTP_LOST (R39). -/
def execPtpLost (s : State) : Host.Outcome State Fault Refusal :=
  s.run fun b => b.when (b.flag F.TIME_STATUS_PTP_OK) fun b =>
    ((b.put F.TIME_STATUS_PTP_OK 0).put F.PTP_PARENT_CLOCK_ID 0).raise U.time F.TIME_EVENTS_PTP_LOST
/-- TSYNC_IN_EDGE (R42). -/
def execTsyncInEdge (late : Int) (s : State) : Host.Outcome State Fault Refusal := s.run (·.tsyncEdge late)
/-- TSYNC_FAULT (R42): with the edges missing since the last one, three in a row are missing or out of window. -/
def execTsyncFault (missing : Nat) (s : State) : Host.Outcome State Fault Refusal :=
  s.run fun b => b.when (b.flag F.TIME_STATUS_TSYNC_OK && b.time.tsyncMiss + missing ≥ 3) fun b =>
    (b.put F.TIME_STATUS_TSYNC_OK 0).raise U.time F.TIME_EVENTS_TSYNC_FAULT
/-- EPOCH_PULSE (R43, R52). -/
def execEpochPulse (s : State) : Host.Outcome State Fault Refusal := s.run (·.epochPulse)
/-- DISCOVERY_BEACON_RX (R54, R55). -/
def execDiscoveryBeaconRx (m : BeaconMsg) (src : Nat) (tagOk : Bool) (s : State) : Host.Outcome State Fault Refusal :=
  s.run (·.beaconRx m src tagOk)
/-- PEER_LOST (R55). -/
def execPeerLost (member : Nat) (s : State) : Host.Outcome State Fault Refusal := s.run (·.peerLost member)
/-- PHASE_MEASUREMENT (R40, R48): an offset against TSYNC_IN or PTP. The twin's offset comes with its heartbeat (R230). -/
def execPhaseMeasurement (offset : Int) (s : State) : Host.Outcome State Fault Refusal :=
  s.run fun b =>
    let src := b.get F.TIME_STATUS_SOURCE
    b.when ((src == 1 || src == 2) && b.isOn U.time) fun b => (b.putOffset offset).phaseMeasured offset
/-- SYNC_LOCKED (R48). -/
def execSyncLocked (s : State) : Host.Outcome State Fault Refusal :=
  s.run fun b => b.when (b.time.sync == .acquiring && b.time.lockRun ≥ 16 && !b.flag F.TIME_CTL_FREEZE) fun b =>
    (b.setSync .locked).postN U.time .syncChange 2
/-- REFERENCE_LOST (R48): no source is enabled and healthy. -/
def execReferenceLost (s : State) : Host.Outcome State Fault Refusal :=
  s.run fun b => b.when (b.phaseSource == 0 && b.isOn U.time) (·.referenceLost)
/-- HOLDOVER_EXCEEDED (R49). -/
def execHoldoverExceeded (s : State) : Host.Outcome State Fault Refusal :=
  s.run fun b => b.when (b.time.sync == .holdover && b.holdEst > 320 * 1000000000) fun b =>
    (b.setSync .adrift).raise U.time F.TIME_EVENTS_ALIGN_LOST
/-- REFERENCE_REGAINED (R48): a source is enabled and healthy again, with the offset measured against it. -/
def execReferenceRegained (offset : Int) (s : State) : Host.Outcome State Fault Refusal :=
  s.run fun b => b.when (b.phaseSource != 0 && b.isOn U.time) fun b =>
    ({ b with time := { b.time with lastOff := offset } }).referenceRegained offset
/-- TIME_FREEZE_SET (R460). -/
def execTimeFreezeSet (actor : Actor) (s : State) : Host.Outcome State Fault Refusal :=
  s.run fun b => let r := b.timeCtl actor F.TIME_CTL_FREEZE 1
    r.when (r.flag F.TIME_CTL_FREEZE) (·.referenceLost)
/-- TIME_FREEZE_CLEAR (R460). -/
def execTimeFreezeClear (actor : Actor) (s : State) : Host.Outcome State Fault Refusal :=
  s.run fun b =>
    let was := b.flag F.TIME_CTL_FREEZE
    let r := b.timeCtl actor F.TIME_CTL_FREEZE 0
    if was && !r.flag F.TIME_CTL_FREEZE then { r with time := { r.time with regain := true } } else r

end Sys2Proof.Machine
end

