-- ==== Sys2Proof/Machine/Image.lean ====
section
/-! DEFINITION. The Agmar image (R57 to R78): its layout, the checks of a slot, the registers its sections carry, the structure change. -/

namespace Sys2Proof.Machine

/-! ## Reading an image from bytes -/

/-- An entry of the section directory (R60). -/
structure DirEntry where
  typ : Nat
  ver : Nat
  flags : Nat
  off : Nat
  len : Nat
  crc : Nat
  deriving DecidableEq, Repr

namespace Img

/-- Little-endian number of `n` bytes at `o`. -/
def le (rd : Nat → Nat) (o n : Nat) : Nat := (List.range n).foldl (fun a i => a + rd (o + i) * 256 ^ i) 0
/-- Signed value of `n` bytes. -/
def leS (rd : Nat → Nat) (o n : Nat) : Int := sgn (8 * n) (le rd o n)
/-- Whether bytes a to b−1 are all zero. -/
def zero (rd : Nat → Nat) (a b : Nat) : Bool := (List.range (b - a)).all fun i => rd (a + i) == 0
/-- Whether a body is zero outside the listed (offset, length) pairs, which ascend. -/
def zeroBut (rd : Nat → Nat) (len : Nat) : Nat → List (Nat × Nat) → Bool
  | a, [] => zero rd a len
  | a, (o, n) :: r => zero rd a o && zeroBut rd len (o + n) r

/-- The section directory (R60). -/
def dir (rd : Nat → Nat) : List DirEntry :=
  (List.range (le rd 6 2)).map fun i =>
    let o := 64 + 16 * i
    ⟨le rd o 2, rd (o + 2), rd (o + 3), le rd (o + 4) 4, le rd (o + 8) 4, le rd (o + 12) 4⟩

/-- Whether bodies stand after `a` in ascending order, aligned, with zeros between them and up to `sig` (R60). -/
def bodiesOk (rd : Nat → Nat) (sig : Nat) : Nat → List DirEntry → Bool
  | a, [] => a ≤ sig && zero rd a sig
  | a, e :: r => a ≤ e.off && e.off % 64 == 0 && e.off + e.len ≤ sig && zero rd a e.off && bodiesOk rd sig (e.off + e.len) r

/-- The header and directory layout of R59 to R61. -/
def layoutOk (rd : Nat → Nat) : Bool :=
  let n := le rd 6 2
  let len := le rd 8 4
  let sig := le rd 12 4
  let d := dir rd
  13 ≤ n && n ≤ 32 && len % 64 == 0 && len ≤ 4194304 && sig % 64 == 0 && sig < len
  && 1 ≤ le rd 16 8 && rd 27 ≤ 63 && le rd 32 2 ≤ 4095 && zero rd 34 36 && zero rd 48 64
  && d.all (fun e => e.ver == 1 && e.flags ≤ 1)
  && bodiesOk rd sig (64 + 16 * n) d
  && d.all (fun e => (1 ≤ e.typ && e.typ ≤ 13) || e.flags == 1)
  && (range' 1 13).all (fun t => d.any (·.typ == t))
  && decide (d.map (·.typ)).Nodup

/-- CRC-32 of `n` bytes. -/
def crc (rd : Nat → Nat) (o n : Nat) : Nat := (crc32 ((List.range n).map fun i => BitVec.ofNat 8 (rd (o + i)))).toNat
/-- Every section's CRC32 matches (R60, R69). -/
def crcsOk (rd : Nat → Nat) : Bool := (dir rd).all fun e => crc rd e.off e.len == e.crc

/-- Bytes of the body of a section, zero beyond it. -/
def body (rd : Nat → Nat) (t : Nat) : Nat × (Nat → Nat) :=
  match (dir rd).find? (·.typ == t) with
  | some e => (e.len, fun i => if i < e.len then rd (e.off + i) else 0)
  | none => (0, fun _ => 0)

/-- The BOOT-class sections LANES to MEDIA and the header identity (R59, R62). -/
def fixed (rd : Nat → Nat) : ImageFixed :=
  let l := (body rd 1).2; let r := (body rd 2).2; let p := (body rd 3).2; let m := (body rd 4).2
  { domain := le rd 28 4, member := le rd 32 2
    cxlSplit := l 0, ethSplit := l 1, laneMap := (List.range 100).map fun i => l (4 + i)
    ncWays := r 0, stagingWays := r 1, queueMib := r 2, schedBlocks := r 3
    spMask := le p 0 2, dimmKind := p 2, rateMts := le p 4 2, dimmGib := le p 6 2, ramekinGib := p 8
    mdMask := le m 0 4, pkgPerCh := m 4, stripeWidth := m 5, stripeUnit := m 6, vaultGib := le m 8 2 }

/-- The BOOT-class sections TIME, TWIN, FLASHPROT, SECURITY and RAILS (R62). -/
def fixed2 (rd : Nat → Nat) : ImageFixed2 :=
  let t := (body rd 6).2; let w := (body rd 7).2; let h := (body rd 8).2; let f := (body rd 11).2; let c := (body rd 12).2
  { periodNs := le t 0 2, epochE := le t 8 8, baseB := le t 16 8, groupV4 := le t 24 4, groupV6 := le t 32 16
    trivets := (List.range (w 0)).map fun i => ⟨le w (8 + 24 * i) 16, le w (24 + 24 * i) 2, w (26 + 24 * i)⟩
    twinFlags := w 1, twinMember := le w 2 2
    wpMap := (List.range 64).map fun i => le f (8 * i) 8
    wpLock := f 512
    xo := (List.range (f 513)).map fun i => (le f (528 + 8 * i) 2, le f (530 + 8 * i) 2)
    secFlags := le c 0 4, keyGen := le c 4 4
    rails := (List.range (h 0)).map fun i =>
      let o := 64 + 32 * i
      ⟨h o, h (o + 1), h (o + 2), h (o + 3), le h (o + 4) 2, le h (o + 6) 2, le h (o + 8) 2, le h (o + 10) 2, le h (o + 12) 2,
       le h (o + 14) 2, le h (o + 16) 12⟩ }

/-- The QUIESCE-class sections (R62). Partition bases and sizes are in GiB. -/
def quiesce (rd : Nat → Nat) : ImageQuiesce :=
  let p := (body rd 5).2; let t := (body rd 9).2; let h := (body rd 10).2; let g := (body rd 13).2
  { parts := (List.range (le p 0 2)).map fun i =>
      let o := 64 + 32 * i
      ⟨p o, p (o + 1), p (o + 2), p (o + 3), le p (o + 8) 8 / 2 ^ 30, le p (o + 16) 8 / 2 ^ 30⟩
    thresh := (List.range 3).map fun c => (List.range 8).map fun i => leS t (16 * c + 2 * i) 2
    hyst := t 48, mediaMin := leS t 50 2, mediaMax := leS t 52 2
    holdupMj := le h 0 4, pfailSrc := h 4, sagSense := h 5, sagMv := le h 6 2, budgetCap := le h 8 2
    regdefs := (List.range (le g 0 2)).map fun i => ⟨le g (8 + 24 * i) 4, le g (16 + 24 * i) 8, le g (24 + 24 * i) 8⟩ }

/-- The image (R59, R62). The shared hash is the digest of the TIME body followed by the PARTITIONS body. -/
def image (rd : Nat → Nat) : Image :=
  let ws (t : Nat) : List Word := (List.range (cdiv (body rd t).1 8)).map fun i => BitVec.ofNat 64 (le (body rd t).2 (8 * i) 8)
  { sequence := le rd 16 8, length := le rd 8 4, svn := rd 27, shared := Config.sha384 (ws 6 ++ ws 5) 0
    fix := fixed rd, fix2 := fixed2 rd, qui := quiesce rd }

/-! ## The values (R62, R63) -/

/-- Bits set in a number of `w` bits. -/
def ones (n w : Nat) : Nat := ((List.range w).filter (nbit n)).length

/-- The lane map: each physical lane to a distinct logical lane of its kind within its block (R63). -/
def lanesOk (l : List Nat) : Bool :=
  let at_ (i : Nat) : Nat := l.getD i 0 % 64
  let kind (a n b : Nat) : Bool :=
    let m := (range' a n).map at_
    decide m.Nodup && (List.range n).all fun i => at_ (a + i) < n && at_ (a + i) / b == i / b
  kind 0 64 16 && kind 64 16 16 && kind 80 16 16 && kind 96 4 4

/-- Ranges and relations of LANES to MEDIA (R62, R63). -/
def fixedOk (f : ImageFixed) : Bool :=
  f.cxlSplit ≤ 2 && f.ethSplit ≤ 2 && lanesOk f.laneMap
  && 8 ≤ f.ncWays && f.ncWays ≤ 16 && f.stagingWays ≤ 4 && 2 ≤ f.queueMib && f.queueMib ≤ 16 && f.schedBlocks ≤ 8
  && f.ncWays * 32 + f.queueMib * 4 + f.schedBlocks ≤ 146 * 4
  && (f.stagingWays + 8 ≤ f.ncWays || f.stagingWays == 0) && (f.schedBlocks == 0 || 1 ≤ f.stagingWays)
  && f.spMask < 4096 && f.dimmKind ≤ 1
  && (if f.dimmKind = 0 then 4800 ≤ f.rateMts && f.rateMts ≤ 6400 else 6400 ≤ f.rateMts && f.rateMts ≤ 8800) && f.rateMts % 400 == 0
  && [32, 64, 96, 128, 192, 256].contains f.dimmGib && f.ramekinGib ≤ 64
  && (f.pkgPerCh == 1 || f.pkgPerCh == 2) && [1, 2, 4, 8, 16, 32].contains f.stripeWidth && [1, 2, 4, 8, 16].contains f.stripeUnit
  && 2 ≤ f.vaultGib && f.vaultGib ≤ 258 && ones f.mdMask 32 % f.stripeWidth == 0

/-- Ranges and relations of TIME, TWIN, RAILS, FLASHPROT and SECURITY (R62, R63). -/
def fixed2Ok (f : ImageFixed2) (trivets xoCount rails : Nat) : Bool :=
  500 ≤ f.periodNs && f.periodNs ≤ 4000 && f.periodNs % 250 == 0
  && trivets ≤ 4 && f.twinFlags < 8 && (f.twinMember ≤ 4095 || f.twinMember == 0xFFFF) && f.trivets.all (·.paths < 4)
  && 1 ≤ rails && rails ≤ 24 && f.rails.all (fun r => r.rail < 24 && r.kind ≤ 1 && r.upStep < 24 && r.flags ≤ 1)
  && decide (f.rails.map (·.rail)).Nodup && decide (f.rails.map (·.upStep)).Nodup
  && f.wpLock ≤ 1 && xoCount ≤ 16 && f.secFlags < 16

/-- Whether two partitions overlap. -/
def overlap (a b : PartDef) : Bool := a.base < b.base + b.size && b.base < a.base + a.size

/-- Partitions (R62, R63). -/
def partsOk (l : List PartDef) : Bool :=
  1 ≤ l.length && l.length ≤ 256 && decide (l.map (·.id)).Nodup
  && l.all (fun p => p.flags < 8 && p.size != 0 && p.base + p.size ≤ 2 ^ 17
      && (if nbit p.flags 0 then p.port ≤ 15 && p.ld ≤ 15 else p.port == 0xFF && p.ld == 0))
  && l.all (fun p => l.all fun q => p.id == q.id
      || (!overlap p q && !(nbit p.flags 0 && nbit q.flags 0 && p.port == q.port && p.ld == q.ld)))

/-- Whether values rise. -/
def rises : List Int → Bool
  | a :: b :: r => a < b && rises (b :: r)
  | _ => true

/-- All addresses an array register has. -/
def addrsOf (r : RegDef) : List Nat :=
  r.dims.foldl (fun l d => l.flatMap fun a => (List.range d.1).map fun i => a + i * d.2) [r.addr]

/-- The fields whose reset is "image" that REGDEF carries: every one that no other section carries. The read-only ones and the write
protection come from their own sections (R62, R63). -/
def regdefFields (r : RegDef) : List FieldDef := if r.name == "CF_WP" then [] else r.fields.filter fun f => f.img && f.typ != .ro

/-- Bits of a register that REGDEF carries. -/
def regdefMask (r : RegDef) : Nat := (regdefFields r).foldl (fun m f => m ||| (2 ^ f.w - 1) * 2 ^ f.lo) 0

/-- Every field of REGDEF has an entry, and no mask touches a field of another reset type (R63). -/
def regdefsOk (l : List RegDefEntry) : Bool :=
  ((List.range 23).all fun b => (blockRegs b).all fun r =>
    let m := regdefMask r
    m == 0 || (addrsOf r).all fun a =>
      (l.foldl (fun c e => if e.addr == a then c ||| e.mask else c) 0) &&& m == m)
  && l.all fun e => match findReg e.addr with
    | some r => e.mask ||| regdefMask r == regdefMask r
    | none => e.mask == 0

/-- The QUIESCE-class sections but the partitions (R62, R63). -/
def quiesceOk (q : ImageQuiesce) : Bool :=
  partsOk q.parts && q.thresh.all rises && (q.thresh.headD []).getD 7 0 ≤ 1000
  && -160 ≤ q.mediaMin && q.mediaMax ≤ 800 && q.mediaMin < q.mediaMax
  && q.pfailSrc < 4 && q.sagSense < 24 && regdefsOk q.regdefs

/-- Fields not listed are zero (R62). -/
def restOk (rd : Nat → Nat) : Bool :=
  let z (t : Nat) (l : List (Nat × Nat)) : Bool := let b := body rd t; zeroBut b.2 b.1 0 l
  let n (t : Nat) : Nat → Nat := (body rd t).2
  z 1 [(0, 2), (4, 100)] && z 2 [(0, 4)] && z 3 [(0, 3), (4, 5)] && z 4 [(0, 7), (8, 2)]
  && z 5 ((0, 2) :: (List.range (le (n 5) 0 2)).flatMap fun i => [(64 + 32 * i, 4), (72 + 32 * i, 16)])
  && z 6 [(0, 2), (8, 20), (32, 16)]
  && z 7 ((0, 4) :: (List.range (n 7 0)).map fun i => (8 + 24 * i, 19))
  && z 8 ((0, 1) :: (List.range (n 8 0)).map fun i => (64 + 32 * i, 28))
  && z 9 [(0, 49), (50, 4)] && z 10 [(0, 10)]
  && z 11 ((0, 514) :: (List.range (n 11 513)).map fun i => (528 + 8 * i, 4))
  && z 12 [(0, 8)]
  && z 13 ((0, 2) :: (List.range (le (n 13) 0 2)).flatMap fun i => [(8 + 24 * i, 4), (16 + 24 * i, 16)])
  && (List.range (le (n 5) 0 2)).all fun i => le (n 5) (72 + 32 * i) 8 % 2 ^ 30 == 0 && le (n 5) (80 + 32 * i) 8 % 2 ^ 30 == 0

/-- The section values of R62 and R63. -/
def valuesOk (rd : Nat → Nat) : Bool :=
  fixedOk (fixed rd) && fixed2Ok (fixed2 rd) ((body rd 7).2 0) ((body rd 11).2 513) ((body rd 8).2 0) && quiesceOk (quiesce rd) && restOk rd

end Img

namespace Body

/-! ## Slots (R69) -/

/-- A byte of a slot: slot 0 is A, slot 1 is B. -/
def slotByte (s : Body) (slot o : Nat) : Nat := (s.flashByte (slot * 0x8000000 + o)).toNat

/-- Result code of a slot check: the code of the first check that fails, in the order of R69. -/
def slotCode (s : Body) (slot : Nat) (v : SlotVerdict) : Nat :=
  let rd := s.slotByte slot
  if (List.range 64).all fun i => rd i == 255 then 1
  else if Img.le rd 0 4 != 0x524D4741 || Img.le rd 4 2 != 1 then 2
  else if Img.le rd 24 2 != 0x6420 || rd 26 > 0xB1 then 3
  else if !Img.layoutOk rd then 4
  else if !Img.crcsOk rd then 9
  else if !Img.valuesOk rd then 5
  else match v.root with
    | some r =>
      if r > 4 || !s.rootIntact r then 6
      else if !v.sig then 7
      else if rd 27 < s.cfg.svnFuses then 8
      else 0
    | none => 6

/-- Report a slot's check (R78). -/
def slotReport (s : Body) (slot code : Nat) : Body :=
  let seq := Img.le (s.slotByte slot) 16 4
  if slot = 0 then (s.put F.SLOT_A_STATUS_RESULT code).put F.SLOT_A_STATUS_SEQ_LOW seq
  else (s.put F.SLOT_B_STATUS_RESULT code).put F.SLOT_B_STATUS_SEQ_LOW seq

/-- The words of a slot, as many as its image is long (R76). -/
def slotWords (s : Body) (slot : Nat) : SMap Word :=
  (List.range (Img.le (s.slotByte slot) 8 4 / 8)).foldl (fun m i => mput 0 m i (s.flashWord (slot * 0x1000000 + i))) []

/-! ## Registers that sections carry (R65, R71) -/

/-- Shared hash of the loaded image. -/
def sharedHash (s : Body) : Nat := s.cfg.img.shared.toNat

/-- Identity of the loaded image (R76, R78). -/
def imageRegs (s : Body) : Body :=
  let i := s.cfg.img
  let ws := (List.range (i.length / 8)).map fun k => mgetD s.cfg.sram k 0
  let s := ((s.put F.CONFIG_SEQ_SEQ i.sequence).put F.CONFIG_LENGTH_BYTES i.length).put F.CONFIG_STATUS_SVN i.svn
  let s := s.forEach (List.range 6) fun s k => s.setWord (A.CONFIG_HASH k) (Config.sha384 ws k)
  s.put F.CONFIG_SHARED_HASH_HASH i.shared.toNat

/-- Registers of the partitions that the image declares (R99). -/
def partRegs (s : Body) : Body :=
  s.forEach (List.range 256) fun s i =>
    match s.cfg.img.qui.parts.find? (·.id == i) with
    | some p =>
      let s := (s.put (F.PART_BASE_BASE_GIB i) p.base).put (F.PART_SIZE_SIZE_GIB i) p.size
      let s := ((s.put (F.PART_ATTR_CXL_VISIBLE i) (p.flags % 2)).put (F.PART_ATTR_RDMA_ALLOWED i) (p.flags / 2 % 2)).put
        (F.PART_ATTR_SCHED_SOURCE i) (p.flags / 4 % 2)
      let vis := nbit p.flags 0
      (s.put (F.PART_ATTR_CXL_PORT i) (if vis then p.port else 0)).put (F.PART_ATTR_CXL_LD i) (if vis then p.ld else 0)
    | none =>
      let s := (s.setWord (A.PART_BASE i) 0).setWord (A.PART_SIZE i) 0
      s.setWord (A.PART_ATTR i) 0

/-- Registers that show the logical devices (R246, R264). -/
def ldRegs (s : Body) : Body :=
  s.forEach (List.range 16) fun s p =>
    let n := if p < s.cxlPortCount then s.ldCount p else 0
    let s := ((s.put (F.CXP_STATUS_LD_COUNT p) n).putB (F.CXP_STATUS_MLD p) (n > 1)).put
      (F.CXP_CTL_IDE_REQUIRED p) (s.cfg.img.fix2.secFlags / 2 % 2)
    s.forEach (List.range 16) fun s k =>
      let s := s.putB (F.CXP_LD_PRESENT p k) (k < n)
      s.put (F.CXP_LD_PART p k) (if k < n then ((s.ldPart p k).map (·.id)).getD 0 else 0)

/-- Read quotas whose sum is above 2,048 load as 2,048 ÷ c (R249). -/
def quotaFix (s : Body) : Body :=
  let c := s.cxlPortCount
  if ((List.range c).map fun p => s.get (F.CXP_CREDIT_RD_QUOTA p)).foldl (· + ·) 0 ≤ 2048 then s
  else s.forEach (List.range c) fun s p => s.put (F.CXP_CREDIT_RD_QUOTA p) (2048 / c)

/-- LANES, SRAM, STOCKPOT, MEDIA, TIME and TWIN as registers show them (R71). -/
def fixedRegs (s : Body) : Body :=
  let (f, g) := (s.cfg.img.fix, s.cfg.img.fix2)
  let s := (s.put F.NC_STATUS_WAYS f.ncWays).put F.NC_STATUS_STAGING_WAYS f.stagingWays
  let s := ((s.put F.SCHED_STATUS_ENTRIES (f.schedBlocks * 512)).put F.SCHED_STATUS_STAGE_CAP (f.stagingWays * 128)).put
    F.SCHED_STATUS_DESC_CAP (f.schedBlocks * 6144)
  let s := ((s.put F.EPOCH_TIME_E g.epochE).put F.EPOCH_BASE_B g.baseB).put F.FRAME_PERIOD_PERIOD_NS g.periodNs
  let s := (s.put F.FRAME_PERIOD_CYCLES (g.periodNs * 8 / 5)).put F.DOMAIN_ID_DOMAIN f.domain
  let s := s.put F.DOMAIN_ID_MEMBER f.member
  let s := (s.put F.TWIN_STATUS_TWIN_MEMBER (if g.twinMember = 0xFFFF then 0 else g.twinMember)).putB F.TWIN_STATUS_NO_TWIN (g.twinMember == 0xFFFF)
  s.forEach (List.range 8) fun s p => s.put (F.ETH_STATUS_SPEED p) (2 - min 2 f.ethSplit)

/-- RAILS and HOLDUP handed to the Hob (R71): the rail table in ascending UP_STEP. -/
def hobTable (s : Body) : Body :=
  let ins (l : List RailDef) (r : RailDef) : List RailDef := (l.filter (·.upStep < r.upStep)) ++ r :: l.filter (·.upStep > r.upStep)
  let t := s.cfg.img.fix2.rails.foldl ins []
  let s := { s with hob := { s.hob with table := t, present := true } }
  let s := s.forEach (List.range 24) fun s r => s.putB (F.HOB_RAIL_STATE_IN_TABLE r) (t.any (·.rail == r))
  s.put F.FLUSH_PARAM_E_HOLDUP_MJ s.cfg.img.qui.holdupMj

/-- FLASHPROT and SECURITY set (R71, R375). -/
def protRegs (s : Body) : Body :=
  let g := s.cfg.img.fix2
  let s := s.forEach (List.range 64) fun s i => s.setWord (A.CF_WP i) (BitVec.ofNat 64 (g.wpMap.getD i 0))
  s.forEach (List.range 16) fun s i =>
    let x := g.xo.getD i (0, 0)
    (s.put (F.CF_XO_FIRST i) x.1).put (F.CF_XO_COUNT i) x.2

/-- Set the bits of one REGDEF entry (R65); ENABLE of an absent port stays zero (R243, R266). -/
def regdefSet (s : Body) (e : RegDefEntry) : Body :=
  let m := match findReg e.addr with
    | some r => if s.portAbsent ⟨e.addr, 0, 1⟩ then (e.mask &&& Img.regdefMask r) / 2 * 2 else e.mask &&& Img.regdefMask r
    | none => 0
  let w := s.word e.addr
  s.setWord e.addr ((w &&& ~~~(BitVec.ofNat 64 m)) ||| (BitVec.ofNat 64 (e.value &&& m)))

/-- Apply REGDEF at boot (R65, R71). -/
def regdefApply (s : Body) : Body := (s.forEach s.cfg.img.qui.regdefs regdefSet).quotaFix

/-! ## The structure change (R73) -/

/-- CHANGE_STATUS.STATE. -/
def changeState (s : Body) : Nat := s.get F.CHANGE_STATUS_STATE

/-- The change enters an end state: refusals lifted, held commits decided, what was announced withdrawn (R73). -/
def changeEnd (s : Body) (st cause : Nat) (ev : Fld) : Body :=
  let s := { s with cfg := { s.cfg with
    refuseIn := [], announced := none, newImg := none, newSram := [], checks := s.cfg.checks.filter (· != CheckFor.ofChange) } }
  (((s.put F.CHANGE_STATUS_STATE st).put F.CHANGE_STATUS_CAUSE cause).raise U.boot ev cause).later .changeEnd

/-- CANCEL (R73). -/
def changeCancel (s : Body) : Body :=
  if s.changeState == 1 || s.changeState == 2 then s.changeEnd 6 0 F.CONFIG_EVENTS_CHANGE_CANCELLED else s

/-- REQUEST naming a slot (R73). -/
def changeRequest (s : Body) (slot : Nat) : Body :=
  if 1 ≤ s.changeState && s.changeState ≤ 3 then s.raise U.boot F.CONFIG_EVENTS_CHANGE_BUSY
  else
    let s := { s with cfg := { s.cfg with checks := s.cfg.checks ++ [CheckFor.ofChange], changeSlot := slot } }
    (s.put F.CHANGE_STATUS_STATE 1).put F.CHANGE_STATUS_CAUSE 0

/-- A write of CHANGE_CTL: CANCEL first, then REQUEST (R73). -/
def changeWrite (s : Body) (req cancel : Bool) (slot : Nat) : Body := (s.when cancel changeCancel).when req (·.changeRequest slot)

/-- Whether the change removes, shrinks or moves a partition that holds a region or a committed decoder (R73). -/
def partInUse (s : Body) (new : List PartDef) : Bool :=
  s.cfg.img.qui.parts.any fun p =>
    (s.get (F.PART_ATTR_REGIONS p.id) != 0 || s.flag (F.PART_ATTR_HDM_COMMITTED p.id))
    && match new.find? (·.id == p.id) with
      | some q => q.size < p.size || q.base != p.base
      | none => true

/-- PART_IDs whose entry the change alters. -/
def partsAffected (s : Body) (new : List PartDef) : List Nat :=
  (List.range 256).filter fun i => s.cfg.img.qui.parts.find? (·.id == i) != new.find? (·.id == i)

/-- The check of a change ends (R73). -/
def changeChecked (s : Body) (v : SlotVerdict) : Body :=
  match s.cfg.checks with
  | .ofChange :: rest =>
    let s := { s with cfg := { s.cfg with checks := rest } }
    let slot := s.cfg.changeSlot
    let code := s.slotCode slot v
    let s := s.slotReport slot code
    let i := Img.image (s.slotByte slot)
    let refuse (c : Nat) : Body := s.changeEnd 5 c F.CONFIG_EVENTS_CHANGE_REFUSED
    if code != 0 then refuse 2
    else if i.fix != s.cfg.img.fix || i.fix2 != s.cfg.img.fix2 then refuse 1
    else if s.partInUse i.qui.parts then refuse 3
    else if s.frameNo + 32 > s.get F.CHANGE_FRAME_APPLY then refuse 4
    else
      let s := { s with cfg := { s.cfg with
        newImg := some i, newRoot := v.root.getD 0, newSram := s.slotWords slot, refuseIn := s.partsAffected i.qui.parts
        announced := some (i.shared.toNat, s.get F.CHANGE_FRAME_APPLY) } }
      (s.put F.CHANGE_STATUS_STATE 2).later .changeEnd
  | _ => s

/-- At A − 16: a twin in ACTIVE or STANDBY has not announced the same while the shared sections differ (R73). -/
def changeAgree (s : Body) : Body :=
  if s.changeState != 2 || s.frameNo + 16 < s.get F.CHANGE_FRAME_APPLY then s
  else match s.cfg.newImg with
    | none => s
    | some i =>
      let differ := i.qui.parts != s.cfg.img.qui.parts
      let twin := s.twin.link.session && (s.twin.hb.role == 1 || s.twin.hb.role == 2)
      if differ && twin && s.cfg.twinSaid != s.cfg.announced then s.changeEnd 6 5 F.CONFIG_EVENTS_CHANGE_CANCELLED else s

/-- The tick of A − 2: QUIESCING (R73, R74). Admission stops by R191. -/
def changeQuiesce (s : Body) : Body :=
  if s.changeState != 2 || s.frameNo + 2 < s.get F.CHANGE_FRAME_APPLY then s else s.put F.CHANGE_STATUS_STATE 3

/-! ## Slot checks and fuses -/

/-- A slot check that was asked for ends (R69, R78). -/
def slotChecked (s : Body) (v : SlotVerdict) : Body :=
  match s.cfg.checks with
  | .slotA :: rest => ({ s with cfg := { s.cfg with checks := rest } }).slotReport 0 (s.slotCode 0 v)
  | .slotB :: rest => ({ s with cfg := { s.cfg with checks := rest } }).slotReport 1 (s.slotCode 1 v)
  | _ => s

/-- Queue the check of a slot (R78). -/
def slotAsk (s : Body) (c : CheckFor) : Body := { s with cfg := { s.cfg with checks := s.cfg.checks ++ [c] } }

/-- SVN_COMMIT.COMMIT (R68). -/
def svnCommit (s : Body) : Body :=
  if !s.cfg.loaded || s.cfg.img.svn ≤ s.cfg.svnFuses then s
  else
    let s := { s with cfg := { s.cfg with svnFuses := s.cfg.img.svn } }
    (s.put F.SVN_FUSE_FUSED s.cfg.svnFuses).raise U.boot F.CONFIG_EVENTS_SVN_COMMITTED s.cfg.svnFuses

/-- The BMC writes words of an image into slot A through the recovery endpoint (R72). -/
def recoveryWrite (s : Body) (off : Nat) (ws : List Word) : Body :=
  if !s.flag F.CONFIG_STATUS_RECOVERY || off % 8 != 0 || off + 8 * ws.length > 0x400000 then s
  else { s with cf := { s.cf with
    words := (ws.zip (range' (off / 8) ws.length)).foldl (fun m p => mput 0 m p.2 (~~~p.1)) s.cf.words } }

end Body

/-- SLOT_CHECK_A (R78). -/
def execSlotCheckA (actor : Actor) (s : State) : Host.Outcome State Fault Refusal := s.run (·.command actor A.SLOT_CHECK 1 (·.slotAsk .slotA))
/-- SLOT_CHECK_B (R78). -/
def execSlotCheckB (actor : Actor) (s : State) : Host.Outcome State Fault Refusal := s.run (·.command actor A.SLOT_CHECK 2 (·.slotAsk .slotB))
/-- SLOT_CHECK_DONE (R69, R78). -/
def execSlotCheckDone (v : SlotVerdict) (s : State) : Host.Outcome State Fault Refusal := s.run (·.slotChecked v)
/-- SVN_COMMIT (R68). -/
def execSvnCommit (actor : Actor) (s : State) : Host.Outcome State Fault Refusal := s.run (·.command actor A.SVN_COMMIT 1 (·.svnCommit))
/-- RECOVERY_IMAGE_WRITE (R72). -/
def execRecoveryImageWrite (offset : Nat) (words : List Word) (s : State) : Host.Outcome State Fault Refusal :=
  s.run (·.recoveryWrite offset words)

end Sys2Proof.Machine
end

