-- ==== Sys2Proof/Machine/Tiers.lean ====
section
/-! DEFINITION. Partitions and chunks (R79 to R84, R462), placement on the media (R85, R159), the translation map with its cache
(R160, R161), slot pools (R167), untrusted rules (R174), age classes (R169), the Stockpot's sets (R124). -/

namespace Sys2Proof.Machine

/-- Where a granule lies: media channel, package position, package-local index (R85, R159). -/
structure Place where
  ch  : Nat
  pos : Nat
  q   : Nat
  deriving DecidableEq, Repr

/-- Bits of a mask set for a list of positions. -/
def maskOf (l : List Nat) : Mask := l.foldl (fun m i => m ||| BitVec.ofNat 64 (2 ^ i)) 0
/-- Positions of the bits set in a mask. -/
def bitsOf (m : Mask) : List Nat := (List.range 64).filter m.getLsbD

namespace Body

/-! ## Units, partitions, chunks -/

/-- 1 GiB unit of a line address (R79). -/
def unitOf (line : Nat) : Nat := line / 2 ^ 24
/-- Granule address of a line address (R79). -/
def granOf (line : Nat) : Nat := line / 64

/-- Partition that declares a unit. -/
def partAt (s : Body) (unit : Nat) : Option PartDef := s.cfg.img.qui.parts.find? fun p => p.base ≤ unit && unit < p.base + p.size

/-- The ONLINE partition that a line lies in (R84, R462). -/
def partOf (s : Body) (line : Nat) : Option PartDef :=
  (s.partAt (unitOf line)).filter fun p => s.get (F.PART_ATTR_STATE p.id) == 1

/-- Populated media channels, ascending (R85). -/
def mdChans (s : Body) : List Nat := (List.range 32).filter (nbit s.cfg.img.fix.mdMask)

/-- User capacity in GiB of the packages, that of the first one discovered (R155); 0 when none is. -/
def pkgGib (s : Body) : Nat := (s.mtl.ch.findSome? fun c => c.2.pkgs.head?.map (·.2.userGib)).getD 0

/-- User capacity in chunks, the vault's included; a channel that failed its start counts (R82, R155). -/
def allChunks (s : Body) : Nat := s.pkgGib * s.cfg.img.fix.pkgPerCh * s.mdChans.length
/-- Partitionable capacity in chunks (R82, R178). -/
def capChunks (s : Body) : Nat := s.allChunks - s.cfg.img.fix.vaultGib

/-- Logical granule of a line whose unit has a chunk (R85). -/
def lgOf (s : Body) (line : Nat) : Option Nat := (mget s.tier.chunkMap (unitOf line)).map fun c => c.chunk * 262144 + granOf line % 262144

/-- DPA granule address of a logical granule of an assigned chunk. -/
def granOfLg (s : Body) (lg : Nat) : Option Nat :=
  (s.tier.chunkMap.find? (·.2.chunk == lg / 262144)).map fun p => p.1 * 262144 + lg % 262144

/-- Where a logical granule lies (R85, R159). -/
def place (s : Body) (lg : Nat) : Place :=
  let c := s.mdChans
  let f := s.cfg.img.fix
  let m := max 1 c.length
  let w := max 1 f.stripeWidth
  let u := max 1 f.stripeUnit
  let k := lg / (w * u) % (m / w) * w + lg / u % w
  let i := lg / (m * u) * u + lg % u
  ⟨c.getD k 0, i % max 1 f.pkgPerCh, i / max 1 f.pkgPerCh⟩

/-- The logical granules whose entries share a map plane codeword with `lg` (R159). -/
def mapMates (s : Body) (lg : Nat) : List Nat :=
  let f := s.cfg.img.fix
  let m := max 1 s.mdChans.length
  let u := max 1 f.stripeUnit
  let p := s.place lg
  (List.range 8).map fun j =>
    let i := (p.q / 8 * 8 + j) * max 1 f.pkgPerCh + p.pos
    i / u * (m * u) + lg / u % m * u + i % u

/-- Index of a package over all channels. -/
def pkgIx (ch pos : Nat) : Nat := 2 * ch + pos

/-- Media channel state. -/
def mdCh (s : Body) (c : Nat) : MdCh := mgetD s.mtl.ch c {}
/-- Replace a media channel's state. -/
def setMdCh (s : Body) (c : Nat) (x : MdCh) : Body := { s with mtl := { s.mtl with ch := mset s.mtl.ch c x } }
/-- The package at a position. -/
def pkg (s : Body) (ch pos : Nat) : Option Pkg := mget (s.mdCh ch).pkgs pos
/-- Replace a package's record. -/
def setPkg (s : Body) (ch pos : Nat) (p : Pkg) : Body := s.setMdCh ch { s.mdCh ch with pkgs := mset (s.mdCh ch).pkgs pos p }

/-- Whether programs may go to a package now (R175): its channel is ON and it is inside its window. -/
def pkgWritable (s : Body) (ch pos : Nat) : Bool := s.isOn (U.md ch) && ((s.pkg ch pos).map (·.writable)).getD false

/-- The media write window (R175). -/
def windowOpen (s : Body) : Bool := s.mtl.ch.all fun c => c.2.pkgs.all fun p => !p.2.inService || p.2.writable

/-! ## Slots (R158, R166, R167) -/

/-- Key of a slot. -/
def slotKey (ch pos slot : Nat) : Nat := pkgIx ch pos * 2 ^ 29 + slot
/-- Slot record. -/
def slot (s : Body) (ch pos n : Nat) : SlotRec := mgetD s.mtl.slots (slotKey ch pos n) {}
/-- Replace a slot record. -/
def setSlot (s : Body) (ch pos n : Nat) (r : SlotRec) : Body :=
  { s with mtl := { s.mtl with slots := mput {} s.mtl.slots (slotKey ch pos n) r } }

/-- The slot records listed for a package, by slot. -/
def slotsOf (s : Body) (ch pos : Nat) : List (Nat × SlotRec) :=
  (s.mtl.slots.filter fun p => p.1 / 2 ^ 29 == pkgIx ch pos).map fun p => (p.1 % 2 ^ 29, p.2)

/-- First number from `n` on that an ascending list does not hold. -/
def firstGap : Nat → List Nat → Nat
  | n, [] => n
  | n, a :: r => if a = n then firstGap (n + 1) r else n

/-- The slot of least wear among the free ones; equal wear goes to the lowest slot (DESIGN CHOICE, log entry 36). -/
def leastFree (s : Body) (ch pos : Nat) : Option Nat :=
  let l := s.slotsOf ch pos
  let total := ((s.pkg ch pos).map (·.slots)).getD 0
  let fresh := firstGap 0 (l.map (·.1))
  let cand := (if fresh < total then [(0, fresh)] else []) ++
    (l.filter fun p => !p.2.used && !p.2.retired).map fun p => (p.2.wear, p.1)
  cand.foldl (fun b c => match b with
    | none => some c
    | some x => if c.1 < x.1 || (c.1 == x.1 && c.2 < x.2) then some c else some x) (none : Option (Nat × Nat)) |>.map (·.2)

/-- The slot of most wear among the free ones. -/
def mostFree (s : Body) (ch pos : Nat) : Option Nat :=
  let l := (s.slotsOf ch pos).filter fun p => !p.2.used && !p.2.retired
  match l.foldl (fun b c => match b with
    | none => some c
    | some x => if x.2.wear < c.2.wear then some c else some x) (none : Option (Nat × SlotRec)) with
  | some p => some p.1
  | none => s.leastFree ch pos

/-- Free slots and retired slots of a package. -/
def slotCount (s : Body) (ch pos : Nat) : Nat × Nat :=
  let l := s.slotsOf ch pos
  (((s.pkg ch pos).map (·.slots)).getD 0 - (l.filter fun p => p.2.used || p.2.retired).length, (l.filter (·.2.retired)).length)

/-- Report the state of a pool after a slot was taken or retired (R167). -/
def spareCheck (s : Body) (ch pos : Nat) : Body :=
  let total := ((s.pkg ch pos).map (·.slots)).getD 0
  let free := (s.slotCount ch pos).1
  let arg := ch * 2 + pos
  let up := fun (b : Body) (f : Fld) (c : Bool) => if c && !b.flag f then b.raise (U.md ch) f arg else b
  let s := up s (F.MD_EVENTS_SPARE_LOW ch) (free * 20 < total)
  let s := up s (F.MD_EVENTS_SPARE_CRIT ch) (free * 100 < total)
  up s (F.MD_EVENTS_SPARE_EXHAUSTED ch) (free == 0)

/-! ## The translation map (R160, R161) -/

/-- Map entry of a logical granule: the cache's, else the map plane's. -/
def mapGet (s : Body) (lg : Nat) : MapEntry :=
  match mget s.mtl.cache lg with
  | some c => c.ent
  | none => mgetD s.mtl.map lg {}

/-- Write a dirty entry to both map plane copies (R161), when its package may be programmed (R175). -/
def mapWriteback (s : Body) (lg : Nat) : Body :=
  match mget s.mtl.cache lg with
  | some c =>
    let p := s.place lg
    if c.dirty && s.pkgWritable p.ch p.pos then
      { s with mtl := { s.mtl with map := mput {} s.mtl.map lg c.ent, cache := mset s.mtl.cache lg { c with dirty := false } } }
    else s
  | none => s

/-- Set of the translation cache that an entry falls into; the spec names no index function. -/
def cacheSet (lg : Nat) : Nat := Config.hash 2 lg % 65536

/-- Room in the cache for an entry: a full set gives one up, which the model leaves free; a dirty one is written first, and one whose
only change is ERR is dropped while its package may not be programmed (R161, R175). -/
def cacheRoom (s : Body) (lg : Nat) : Body :=
  let l := (s.mtl.cache.filter fun c => cacheSet c.1 == cacheSet lg).map (·.1)
  if (mget s.mtl.cache lg).isSome || l.length < 16 then s
  else match l[(Config.freeWord s.freeCtr).toNat % 16]? with
    | none => s
    | some v =>
      let s := s.fresh.mapWriteback v
      let keep := (mget s.mtl.cache v).any fun c => c.dirty && !c.errOnly
      if keep then s else { s with mtl := { s.mtl with cache := merase s.mtl.cache v } }

/-- Dirty entries of the cache. -/
def dirtyMap (s : Body) : List (Nat × CacheEntry) := s.mtl.cache.filter (·.2.dirty)

/-- Change a map entry: it stays dirty in the cache (R161). The 262,145th dirty entry waits until one is written, so the oldest goes
first. -/
def mapPut (s : Body) (lg : Nat) (e : MapEntry) (errOnly : Bool := false) : Body :=
  let s := s.cacheRoom lg
  let old := mget s.mtl.cache lg
  let wasDirty := (old.map (·.dirty)).getD false
  let d := s.dirtyMap
  let s := if wasDirty || d.length < 262144 then s
    else match d.foldl (fun b c => match b with
        | none => some c
        | some x => if c.2.first < x.2.first then some c else some x) (none : Option (Nat × CacheEntry)) with
      | some v => s.mapWriteback v.1
      | none => s
  let c : CacheEntry := match old with
    | some o => { ent := e, dirty := true, first := if o.dirty then o.first else s.frameNo, errOnly := errOnly && (!o.dirty || o.errOnly) }
    | none => { ent := e, dirty := true, first := s.frameNo, errOnly := errOnly }
  { s with mtl := { s.mtl with cache := mset s.mtl.cache lg c } }

/-- A read placed by the MTL misses the translation cache: the map codeword is read (R161). -/
def mapTouch (s : Body) (lg : Nat) : Body :=
  if (mget s.mtl.cache lg).isSome || s.mtl.mapReads.contains lg then s
  else { (s.inc F.MTL_COUNT_2_MAP_READS) with mtl := { s.mtl with mapReads := s.mtl.mapReads ++ [lg] } }

/-! ## Age, rules, at-risk terms -/

/-- Age class of a granule (R169). -/
def ageClass (s : Body) (e : MapEntry) : Nat :=
  let ns := (s.frameNo - e.age) * s.periodNs
  ((List.range 7).filter fun k => ns ≥ 16 ^ k * 1000000000).length

/-- Age of a granule in seconds. -/
def ageSecs (s : Body) (e : MapEntry) : Nat := (s.frameNo - e.age) * s.periodNs / 1000000000

/-- Whether an untrusted rule covers a granule (R174). -/
def ruled (s : Body) (gran : Nat) (e : MapEntry) : Bool :=
  s.mtl.rules.any fun r => match r with
    | some r => gran % r.count == r.pos && (!e.mapped || e.age < r.frame)
    | none => false

/-- Show the untrusted rules (R184). -/
def ruleRegs (s : Body) : Body :=
  s.forEach (List.range 12) fun s i =>
    match (s.mtl.rules[i]?).getD none with
    | some r =>
      let s := ((s.put (F.MTL_UNTRUST_VALID i) 1).put (F.MTL_UNTRUST_POSITION i) r.pos).put (F.MTL_UNTRUST_COUNT i) r.count
      s.put (F.MTL_UNTRUST_FRAME_FRAME i) r.frame
    | none => (s.setWord (A.MTL_UNTRUST i) 0).setWord (A.MTL_UNTRUST_FRAME i) 0

/-- Whether a rule for (d, P) can be recorded: one like it is held, or fewer than 12 are (R174). -/
def ruleRoom (s : Body) (d p : Nat) : Bool :=
  let l := s.mtl.rules.filterMap id
  l.any (fun r => r.pos == d && r.count == p) || l.length < 12

/-- Record an untrusted rule (R174): it replaces the held rule for the same channel when its frame is later, and is dropped otherwise. -/
def ruleAdd (s : Body) (d p frame : Nat) : Body :=
  let l : List (Option Rule) := (List.range 12).map fun i => (s.mtl.rules[i]?).getD none
  let same := fun (r : Option Rule) => r.any fun r => r.pos == d && r.count == p
  let set := fun (i : Nat) =>
    ({ s with mtl := { s.mtl with rules := setAt l i (some ⟨d, p, frame⟩) } }).ruleRegs.raise U.mtl F.MTL_EVENTS_UNTRUST_SET
  match l.findIdx? same with
  | some i => if (((l[i]?).getD none).map Rule.frame).getD 0 < frame then set i else s
  | none => match l.findIdx? (fun (r : Option Rule) => r.isNone) with
    | some i => set i
    | none => s

/-! ## Bringing partitions up (R82, R83, R84, R462) -/

/-- Whether a chunk of the map still belongs to the partition it was assigned to. -/
def chunkKept (s : Body) (unit : Nat) (c : Chunk) : Bool :=
  s.cfg.img.qui.parts.any fun p => p.id == c.part && p.base == c.base && p.base ≤ unit && unit < p.base + p.size

/-- Forget every granule of a chunk: its map entries read as unmapped and its slots are free (R82). -/
def chunkDrop (s : Body) (chunk : Nat) : Body :=
  let mine := fun (lg : Nat) => lg / 262144 == chunk
  let lgs := ((s.mtl.map.filter (mine ·.1)).map (·.1)) ++ ((s.mtl.cache.filter (mine ·.1)).map (·.1))
  let s := s.forEach lgs fun s lg =>
    let e := s.mapGet lg
    if e.mapped then
      let c := (s.place lg).ch
      s.setSlot c e.pkg e.slot { s.slot c e.pkg e.slot with used := false }
    else s
  { s with mtl := { s.mtl with
      map := s.mtl.map.filter (!mine ·.1)
      cache := s.mtl.cache.filter (!mine ·.1)
      ops := s.mtl.ops.filter (!mine ·.lg) } }

/-- Release the chunks of units that no partition holds any more (R82); their bytes are under purge from then on (R462). -/
def chunkRelease (s : Body) : Body :=
  let gone := s.tier.chunkMap.filter fun p => !s.chunkKept p.1 p.2
  let s := s.forEach gone fun s p => s.chunkDrop p.2.chunk
  { s with tier := { s.tier with
      chunkMap := s.tier.chunkMap.filter fun p => !gone.contains p
      purge := s.tier.purge ++ (gone.map (·.1)).filter (!s.tier.purge.contains ·) } }

/-- Assign chunks to one partition, all its units or none (R82, R83). -/
def chunkAssign (s : Body) (p : PartDef) : Body :=
  let need := (range' p.base p.size).filter fun u => (mget s.tier.chunkMap u).isNone
  let used := s.tier.chunkMap.map (·.2.chunk)
  let free := ((List.range s.capChunks).filter (!used.contains ·)).take need.length
  if free.length < need.length then s
  else { s with tier := { s.tier with
    chunkMap := (need.zip free).foldl (fun m x => mset m x.1 ⟨x.2, p.id, p.base⟩) s.tier.chunkMap } }

/-- STATE and CAUSE of a partition (R83, R84, R71). -/
def partState (s : Body) (p : PartDef) : Nat × Nat :=
  let units := range' p.base p.size
  if !s.isOn U.mtl && s.unit U.mtl != .starting then (2, 2)
  else if units.any fun u => (mget s.tier.chunkMap u).isNone then (2, 1)
  else if units.any (s.tier.purge.contains ·) then (2, 3)
  else (1, 0)

/-- Show the partitions' states; entering OFFLINE is an event (R99, R100). -/
def partShow (s : Body) : Body :=
  let s := s.forEach s.cfg.img.qui.parts fun s p =>
    let old := s.get (F.PART_ATTR_STATE p.id)
    let st := s.partState p
    let s := (s.put (F.PART_ATTR_STATE p.id) st.1).put (F.PART_ATTR_CAUSE p.id) st.2
    let s := s.put (F.PART_SIZE_CHUNKS_MAPPED p.id) (if st.1 = 1 then p.size else 0)
    if st.1 = 2 && old != 2 then s.raise U.mtl F.PLACE_EVENTS_PART_OFFLINE p.id else s
  (s.put F.PART_CAPACITY_CHUNKS s.capChunks).put F.PART_CAPACITY_FREE (s.capChunks - s.tier.chunkMap.length)

/-- Apply the PARTITIONS section (R71, R82, R83): release, then assign in ascending PART_ID. -/
def bringUp (s : Body) : Body :=
  let s := s.chunkRelease
  (s.forEach (List.range 256) fun s i => match s.cfg.img.qui.parts.find? (·.id == i) with
    | some p => s.chunkAssign p
    | none => s).partShow

/-! ## The Stockpot's sets (R124) -/

/-- Stockpot channel state. -/
def spCh (s : Body) (c : Nat) : SpCh := mgetD s.sp.ch c {}
/-- Replace a Stockpot channel's state. -/
def setSpCh (s : Body) (c : Nat) (x : SpCh) : Body := { s with sp := { s.sp with ch := mset s.sp.ch c x } }
/-- Mode of a Stockpot channel (R148). -/
def spMode (s : Body) (c : Nat) : SpMode :=
  match s.get (F.SP_CH_STATUS_MODE c) with
  | 0 => .caching | 1 => .frozen | _ => .bypass

/-- Channel and set of a granule, once the channel set is fixed (R124). -/
def spPlace (s : Body) (gran : Nat) : Option (Nat × Nat) :=
  match s.sp.set with
  | none => none
  | some d =>
    if d.isEmpty then none
    else
      let c := d[gran % d.length]?.getD 0
      let sets := 4096 * s.get (F.SP_CH_LAYOUT_GROUPS c)
      if sets = 0 then none else some (c, gran / d.length % sets)

/-- The block that holds a granule: channel, key and block. -/
def spFind (s : Body) (gran : Nat) : Option (Nat × Nat × SpBlock) :=
  match s.spPlace gran with
  | none => none
  | some (c, set) => (range' (set * 8) 8).findSome? fun k =>
      match mget (s.spCh c).blocks k with
      | some b => if b.granule = gran then some (c, k, b) else none
      | none => none

/-- Replace a block. -/
def setBlock (s : Body) (c k : Nat) (b : SpBlock) : Body := s.setSpCh c { s.spCh c with blocks := mset (s.spCh c).blocks k b }
/-- Drop a block. -/
def dropBlock (s : Body) (c k : Nat) : Body := s.setSpCh c { s.spCh c with blocks := merase (s.spCh c).blocks k }

/-- Whether the Stockpot serves a granule: its channel is ON in CACHING mode (R124, R144). -/
def spServes (s : Body) (gran : Nat) : Bool :=
  match s.spPlace gran with
  | some (c, _) => s.spMode c == .caching && (s.isOn (U.sp c) || (s.unit (U.sp c) == .stopping && (s.spFind gran).isSome))
  | none => false

/-- Whether a granule's channel is frozen (R142). -/
def spFrozen (s : Body) (gran : Nat) : Bool :=
  match s.spPlace gran with
  | some (c, _) => s.spMode c == .frozen
  | none => false

/-- Effective placement mode of a partition (R88): 0 AUTO, 1 PIN, 2 NO_PROMOTE. -/
def placeMode (s : Body) (p : Nat) : Nat :=
  match s.get (F.PART_CTL_PLACE_MODE p) with
  | 1 => 1
  | 2 => 2
  | _ => if s.flag (F.PART_CTL_HOST_NO_PROMOTE p) then 2 else 0

/-- Stockpot capacity in MiB (R125). -/
def spMib (s : Body) : Nat := ((s.sp.set.getD []).map fun c => s.get (F.SP_CH_LAYOUT_GROUPS c) * 128).foldl (· + ·) 0

/-- Show the pin limit and what is pinned (R89, R100). -/
def pinRegs (s : Body) : Body :=
  let used := ((s.cfg.img.qui.parts.filter fun p => s.get (F.PART_CTL_PLACE_MODE p.id) == 1).map (·.size)).foldl (· + ·) 0
  (s.put F.PLACE_STATUS_PIN_LIMIT_GIB (s.spMib / 1024 - s.get F.BUDGET_APPLIED_GIB - s.cfg.img.fix.ramekinGib)).put
    F.PLACE_STATUS_PIN_USED_GIB used

end Body

/-! ## Commands -/

/-- What the purge drops: lines, entries, sectors and dirty map entries of the released units (R462). -/
def Body.purgeEnd (s : Body) : Body :=
  if s.tier.purge.isEmpty then s
  else
    let gone := fun (line : Nat) => s.tier.purge.contains (Body.unitOf line)
    let s := { s with nc := { s.nc with
      ways := s.nc.ways.filter fun (w : Nat × NcLine) => !gone w.2.line
      col := s.nc.col.filter fun (w : Nat × ColEntry) => !gone w.2.line } }
    let s := { s with sp := { s.sp with
      ch := s.sp.ch.map fun (c : Nat × SpCh) => (c.1, { c.2 with blocks := c.2.blocks.filter fun (b : Nat × SpBlock) => !gone (b.2.granule * 64) })
      wbs := s.sp.wbs.filter fun (w : WriteBack) => !gone (w.gran * 64) } }
    let s := { s with tier := { s.tier with purge := [] } }
    (s.raise U.mtl F.PLACE_EVENTS_PURGE_DONE).partShow

/-- PURGE_DONE (R462, R83). -/
def execPurgeDone (s : State) : Host.Outcome State Fault Refusal := s.run (·.purgeEnd)

/-- After a write of PLACE_MODE (R88, R89): PINNED is refused when what is pinned would pass the limit. -/
def Body.placeModeSettle (b : Body) (part old : Nat) : Body :=
  let f := F.PART_CTL_PLACE_MODE part
  let size := ((b.cfg.img.qui.parts.find? (·.id == part)).map (·.size)).getD 0
  let r := b.pinRegs
  if r.get f = 1 && old != 1 && r.get F.PLACE_STATUS_PIN_USED_GIB > r.get F.PLACE_STATUS_PIN_LIMIT_GIB && size > 0 then
    (((r.put f old).pinRegs).raise U.mtl F.PLACE_EVENTS_PIN_REFUSED part)
  else r

/-- PLACE_MODE_WRITE (R88, R89): PART_CTL with PLACE_MODE at `mode` and the other fields as they stand. -/
def execPlaceModeWrite (actor : Actor) (part mode : Nat) (s : State) : Host.Outcome State Fault Refusal :=
  s.run fun b =>
    let f := F.PART_CTL_PLACE_MODE part
    (b.judge actor f.addr (f.insert (b.word f.addr) mode)).1.placeModeSettle part (b.get f)

/-- PROMOTE_FILTER_DECAY (R86): every counter is halved. -/
def execPromoteFilterDecay (s : State) : Host.Outcome State Fault Refusal :=
  s.run fun b =>
    let n := 1024 * max 1 (b.get F.PLACE_CFG_DECAY_KF)
    if b.frameNo % n = 0 then
      { b with tier := { b.tier with filter := (b.tier.filter.map fun p => (p.1, p.2 / 2)).filter (·.2 != 0) } }
    else b

/-- DISTURB_DECAY (R168): every counter of the sketch is halved. -/
def execDisturbDecay (s : State) : Host.Outcome State Fault Refusal :=
  s.run fun b =>
    let n := 1024 * max 1 (b.get F.MTL_DISTURB_CFG_DISTURB_DECAY_KF)
    let half := fun (m : SMap Nat) => (m.map fun p => (p.1, p.2 / 2)).filter (·.2 != 0)
    if b.frameNo % n = 0 then
      { b with mtl := { b.mtl with sketchA := half b.mtl.sketchA, sketchB := half b.mtl.sketchB } }
    else b

/-- MAP_READ_DATA (R161, R172): a map codeword returns; `ok0` and `ok1` say whether the copies decode. When both fail, the 8 granules
are repaired from the twin or marked (the late arm of R172 is `mapLost`). -/
def Body.mapRead (s : Body) (lg : Nat) (ok0 ok1 : Bool) (mapLost : Body → Nat → Body) : Body :=
  if !s.mtl.mapReads.contains lg then s
  else
    let s := { s with mtl := { s.mtl with mapReads := s.mtl.mapReads.erase lg } }
    if ok0 || ok1 then
      if (mget s.mtl.cache lg).isSome then s
      else
        let s := s.cacheRoom lg
        { s with mtl := { s.mtl with
          cache := mset s.mtl.cache lg { ent := mgetD s.mtl.map lg {}, dirty := false, first := 0, errOnly := false } } }
    else mapLost (s.raise U.mtl F.MTL_EVENTS_MAP_UNCORRECTABLE) lg

/-- MAP_ENTRY_WRITEBACK (R161): an entry 65,536 frames after its first change. -/
def execMapEntryWriteback (lg : Nat) (s : State) : Host.Outcome State Fault Refusal :=
  s.run fun b => match mget b.mtl.cache lg with
    | some c => if c.dirty && b.frameNo ≥ c.first + 65536 then b.mapWriteback lg else b
    | none => b

/-- Every dirty map entry is written now (R184). -/
def Body.mapFlushAll (b : Body) : Body := b.forEach (b.dirtyMap.map (·.1)) Body.mapWriteback

/-- MAP_FLUSH (R184): every dirty entry is written now. -/
def execMapFlush (actor : Actor) (s : State) : Host.Outcome State Fault Refusal :=
  s.run (·.command actor A.MTL_CTL ((s.body.get F.MTL_CTL_ENABLE) + 2) (·.mapFlushAll))

/-- The untrusted rules of a mask are cleared (R174). -/
def Body.ruleClear (b : Body) (mask : Nat) : Body :=
  let l := (List.range 12).map fun i => if nbit mask i then none else (b.mtl.rules[i]?).getD none
  ({ b with mtl := { b.mtl with rules := l } }).ruleRegs

/-- UNTRUST_RULE_CLEAR (R174). -/
def execUntrustRuleClear (actor : Actor) (mask : Nat) (s : State) : Host.Outcome State Fault Refusal :=
  s.run (·.command actor A.MTL_UNTRUST_CLR mask (·.ruleClear mask))

end Sys2Proof.Machine
end

