-- ==== Sys2Proof/Machine/Link.lean ====
section
/-! DEFINITION. What the tiers ask of the twin link: mirror positions and records (R224, R225), the history window (R229), requests to
the twin (R95 to R98, R112, R113), poison origins (R199). -/

namespace Sys2Proof.Machine

/-- Whether a mirror position stands before another (R224). -/
def MPos.lt (a b : MPos) : Bool :=
  a.frame < b.frame || (a.frame == b.frame && (a.seg < b.seg || (a.seg == b.seg && a.idx < b.idx)))

namespace Body

/-- A session is held and a lane group is trained (R219, R221). -/
def linkUp (s : Body) : Bool := s.twin.link.session && s.twin.link.peerOk && (s.twin.link.mainUp || s.twin.link.fallUp)
/-- The twin's shared hash is the controller's own (R75, R219). -/
def sameImage (s : Body) : Bool := s.twin.hb.shared == s.cfg.img.shared.toNat
/-- Role the twin last reported (R230); one of another shared hash is accepted only as a twin in NONE (R75, R219). -/
def twinRole (s : Body) : Role :=
  if !s.sameImage then .none
  else match s.twin.hb.role with
  | 1 => .active | 2 => .standby | 3 => .solo | 4 => .resync | _ => .none
/-- The twin serves repairs (R112). -/
def twinServes (s : Body) : Bool := s.linkUp && (s.twinRole == .active || s.twinRole == .standby)
/-- Twin read assist is used (R94, R100). -/
def assists (s : Body) : Bool := s.twinServes && s.flag F.ASSIST_CTL_ASSIST_EN

/-- The controller holds the writes of hosts and peers (R211). -/
def holds (s : Body) : Bool := s.role == .active || s.role == .solo
/-- Writes are shipped to the twin: in ACTIVE, and in SOLO to a twin that resynchronises (R224, R237). -/
def ships (s : Body) : Bool := s.role == .active || (s.role == .solo && s.linkUp && s.twinRole == .resync)

/-- Batch in which the next record travels (R224). -/
def posFrame (s : Body) : Nat := if s.twin.sealed then s.frameNo + 1 else s.frameNo
/-- Records of the queue that stand in a segment of a batch. -/
def inSeg (s : Body) (frame seg : Nat) : List MRecord := s.twin.queue.filter fun r => r.pos.frame == frame && r.pos.seg == seg
/-- The mirror position at which the next record would stand (R224). -/
def nextPos (s : Body) : MPos := ⟨s.posFrame, s.twin.seg, (s.inSeg s.posFrame s.twin.seg).length⟩

/-- Records that the history window holds at most (R229). -/
def histMax : Nat := 52428

/-- Push a record into the history window (R229). -/
def histPush (s : Body) (pos : MPos) (line : Nat) (before : LineData × Bool) : Body :=
  { s with twin := { s.twin with hist := (⟨pos, line, before.1, before.2⟩ :: s.twin.hist).take histMax } }

/-- Put a record into the mirror queue (R224, R225). -/
def mirrorPut (s : Body) (pos : MPos) (line : Nat) (kind : RecKind) (mask : Mask) (data : LineData) : Body :=
  if s.ships then { s with twin := { s.twin with queue := s.twin.queue ++ [⟨pos, line, kind, mask, data⟩] } } else s

/-- Bytes of a record (R225). -/
def recBytes (r : MRecord) : Nat := if r.kind == .partial_ then 78 else 70

/-- Payload bytes of a message (R223, R230, R345). -/
def msgBytes : TwinMsg → Nat
  | .segment m => 16 + (m.recs.map recBytes).foldl (· + ·) 0
  | .seal _ => 24
  | .ack _ _ _ => 16
  | .heartbeat _ => 192
  | .assistReq _ _ _ _ => 32
  | .assistResp _ _ _ l => 16 + 64 * l.length
  | .resyncCtl _ _ g => 8 + 8 * g.length
  | .nak _ _ => 12
  | .hello _ => 192
  | .relay _ => 80

/-- Messages of the replay buffer, newest first, that fit in `room` bytes (R222). -/
def replayFit : Nat → List (Nat × Nat × Nat) → List (Nat × Nat × Nat)
  | _, [] => []
  | room, m :: r => if m.2.2 ≤ room then m :: replayFit (room - m.2.2) r else []

/-- Send a message to the twin (R222): MSG_SEQ counts within the frame, bit 30 names the group, bit 31 the direction. -/
def twinSend (s : Body) (m : TwinMsg) : Body :=
  let l := s.twin.link
  let seq := l.txSeq % 2 ^ 30 + b2n l.onFall * 2 ^ 30 + b2n (s.cfg.img.fix2.twinMember < s.cfg.img.fix.member) * 2 ^ 31
  let l := { l with txSeq := l.txSeq + 1, replayBuf := replayFit (512 * 1024) ((s.frameNo, seq, 32 + msgBytes m) :: l.replayBuf) }
  ({ s with twin := { s.twin with link := l } }).send (.twin s.frameNo seq m)

/-- Send a request to the twin. -/
def askTwin (s : Body) (kind : AssistKind) (addr : Nat) (pos : MPos) (ask : AskFor) : Body :=
  let n := s.tier.nextReq
  let s := { s with tier := { s.tier with assists := ⟨n, kind, addr, pos, ask⟩ :: s.tier.assists, nextReq := (n + 1) % 2 ^ 32 } }
  s.twinSend (.assistReq n kind addr pos)

/-- Hold a repair request until the segment that carries the line's last earlier write has left (R113). -/
def repairAsk (s : Body) (line : Nat) (pos : MPos) (ask : AskFor) : Body :=
  { s with nc := { s.nc with repairs := s.nc.repairs ++ [⟨line, pos, ask⟩] } }

/-- An origin stores poison (R199). -/
def poisonMade (s : Body) (src : Nat) (arg : Nat) : Body := (s.incSat F.POISON_COUNT_CREATED).raise src F.PERSIST_EVENTS_POISON_CREATED arg

/-- Merge bytes into a line (R91). -/
def mergeLine (old new : LineData) (m : Mask) : LineData :=
  (List.range 64).foldl (fun d i =>
    if m.getLsbD i then
      let k : LineData := BitVec.ofNat 512 (255 * 2 ^ (8 * i))
      (d &&& ~~~k) ||| (new &&& k)
    else d) old

/-- Every byte enabled. -/
def allBytes : Mask := BitVec.ofNat 64 (2 ^ 64 - 1)

/-- The 8 bytes of a line at byte `o`, little-endian (R91). -/
def word8 (d : LineData) (o : Nat) : Nat := d.toNat / 2 ^ (8 * o) % 2 ^ 64

/-- The line after an atomic, with the mask of its 8 bytes (R91): compare-swap stores on equal, fetch-add always. -/
def atomicLine (d : LineData) (o : Nat) (swap : Bool) (a b : Nat) : LineData × Mask :=
  let old := word8 d o
  let v := if swap then (if old = a % 2 ^ 64 then b % 2 ^ 64 else old) else (old + a) % 2 ^ 64
  let m : Mask := BitVec.ofNat 64 (255 * 2 ^ o)
  (mergeLine d (BitVec.ofNat 512 (v * 2 ^ (8 * o))) m, m)

end Body

end Sys2Proof.Machine
end

