-- ==== Sys2Proof/Machine/Media.lean ====
section
/-! DEFINITION. The Stockpot's blocks (R126 to R130), the codewords of the media and the operations of the translation layer on them
(R157 to R174): reads, programs, relocation, promotion. -/

namespace Sys2Proof.Machine

namespace Body

/-! ## Blocks of a set (R126 to R128) -/

/-- Whether partition `p` is pinned (R88). -/
def pinnedPart (s : Body) (p : Nat) : Bool := s.placeMode p == 1

/-- Make a block the most recent of its channel. -/
def spTouch (s : Body) (c k : Nat) (b : SpBlock) : Body :=
  let x := s.spCh c
  s.setSpCh c { x with blocks := mset x.blocks k { b with rank := x.clock }, clock := x.clock + 1 }

/-- Keys of a set. -/
def setKeys (set : Nat) : List Nat := range' (set * 8) 8

/-- Block of a set that gives way: an invalid one, else the least recent that is neither dirty nor pinned (R128). -/
def spVictim (s : Body) (c set : Nat) : Option Nat :=
  let x := s.spCh c
  match (setKeys set).find? fun k => (mget x.blocks k).isNone with
  | some k => some k
  | none =>
    let l := (setKeys set).filterMap fun k => (mget x.blocks k).map fun b => (b.rank, k, b)
    let l := l.filter fun p => p.2.2.dirty == 0 && !p.2.2.pinned
    (l.foldl (fun b p => match b with
      | none => some p
      | some q => if p.1 < q.1 then some p else some q) (none : Option (Nat × Nat × SpBlock))).map (·.2.1)

/-- Pinned blocks of a set. -/
def pinnedIn (s : Body) (c set : Nat) : Nat :=
  ((setKeys set).filter fun k => ((mget (s.spCh c).blocks k).map (·.pinned)).getD false).length

/-- Allocate an empty block for a granule (R128). -/
def spAlloc (s : Body) (gran part : Nat) : Option (Body × Nat × Nat) :=
  match s.spPlace gran with
  | none => none
  | some (c, set) =>
    match s.spVictim c set with
    | none => none
    | some k =>
      let b : SpBlock := { granule := gran, valid := 0, dirty := 0, poison := 0, again := 0, data := [],
                           pinned := s.pinnedPart part && s.pinnedIn c set < 6, rank := 0, frame := s.frameNo, part := part }
      some (s.spTouch c k b, c, k)

/-- Set sectors CLEAN that are INVALID (R127). -/
def spFillSectors (s : Body) (c k : Nat) (lines : List (Nat × LineData × Bool)) : Body :=
  match mget (s.spCh c).blocks k with
  | none => s
  | some b =>
    let b := lines.foldl (fun (b : SpBlock) l =>
      if b.valid.getLsbD l.1 then b
      else
        let m := maskOf [l.1]
        { b with valid := b.valid ||| m, data := mset b.data l.1 l.2.1,
                 poison := if l.2.2 then b.poison ||| m else b.poison &&& ~~~m }) b
    s.setBlock c k b

/-! ## Codewords -/

/-- Key of a codeword. -/
def cellKey (ch pos slot cw : Nat) : Nat := pkgIx ch pos * 2 ^ 33 + slot * 16 + cw

/-- Line `n` of a codeword. -/
def cwLine (c : Codeword) (n : Nat) : LineData := match n % 4 with
  | 0 => c.l0 | 1 => c.l1 | 2 => c.l2 | _ => c.l3

/-- The codeword at a slot; one never programmed reads as zeros. -/
def cell (s : Body) (ch pos slot cw : Nat) : Codeword := mgetD s.mtl.cells (cellKey ch pos slot cw) ⟨0, 0, 0, 0, 0, 0⟩

/-- Line `n` of a slot. -/
def slotLine (s : Body) (ch pos slot n : Nat) : LineData := cwLine (s.cell ch pos slot (n / 4)) n

/-- Lines of a codeword. -/
def cwLines (cw : Nat) : List Nat := range' (4 * cw) 4

/-- The newest bytes of a line beneath the Stockpot: those an operation on its way to the media carries, else the media's. A line whose
POISON bit is set, or whose granule a rule covers, is poisoned and its bytes are not returned (R160, R164, R174). -/
def mediaLine (s : Body) (lg gran n : Nat) : LineData × Bool :=
  match (s.mtl.ops.filter fun o => o.lg == lg && (o.kind == .lineWrite || o.kind == .replay) && o.carried.getLsbD n).getLast? with
  | some o => if o.carPoison.getLsbD n then (0, true) else (mgetD o.data n 0, false)
  | none =>
    let e := s.mapGet lg
    if s.ruled gran e || e.poison.getLsbD n then (0, true)
    else if !e.mapped then (0, false)
    else (s.slotLine (s.place lg).ch e.pkg e.slot n, false)

/-- The newest bytes of a line at the Stockpot or beneath. -/
def tierLine (s : Body) (line : Nat) : LineData × Bool :=
  let below := match s.lgOf line with
    | some lg => s.mediaLine lg (granOf line) (line % 64)
    | none => (0, false)
  match s.spFind (granOf line) with
  | some (_, _, b) => if b.valid.getLsbD (line % 64) then (mgetD b.data (line % 64) 0, b.poison.getLsbD (line % 64)) else below
  | none => below

/-! ## Media operations (R162 to R173) -/

/-- Maintenance programs: relocation, refresh rewrite and wear levelling (R162). -/
def OpKind.maint : OpKind → Bool
  | .hot | .static | .disturb | .refresh | .failMove => true
  | _ => false

/-- The operation of an id. -/
def mop (s : Body) (id : Nat) : Option MediaOp := s.mtl.ops.find? (·.id == id)
/-- Replace an operation. -/
def setMop (s : Body) (o : MediaOp) : Body :=
  { s with mtl := { s.mtl with ops := s.mtl.ops.map fun x => if x.id == o.id then o else x } }
/-- Drop an operation. -/
def dropMop (s : Body) (id : Nat) : Body := { s with mtl := { s.mtl with ops := s.mtl.ops.filter (·.id != id) } }

/-- Programs in flight: all, of maintenance, of one package (R162). -/
def inFlight (s : Body) (p : MediaOp → Bool) : Nat := ((s.mtl.ops.filter p).map (·.fly.length)).foldl (· + ·) 0

/-- Dirty level in force (R129, R228). -/
def dirtyLevel (s : Body) : Nat := s.get F.SP_DIRTY_STATE_LEVEL

/-- Whether a program of an operation may be issued now (R162, R175, R147). -/
def mayProgram (s : Body) (o : MediaOp) : Bool :=
  s.windowOpen && s.pkgWritable o.ch o.pkg && s.isOn (U.md o.ch)
  && s.inFlight (fun _ => true) < 600
  && s.inFlight (fun x => x.ch == o.ch && x.pkg == o.pkg) < 10
  && (!OpKind.maint o.kind || s.dirtyLevel < 2 ||
      s.inFlight (fun x => OpKind.maint x.kind) < max 1 (s.get F.MTL_PROG_CFG_MAINT_EIGHTHS) * 75)
  && (s.per.pf == .idle || s.per.pf == .detected || o.kind == .replay)

/-- Issue codewords of one operation while places are free. -/
def issueOne : Nat → Body → Nat → Body
  | 0, s, _ => s
  | n + 1, s, id =>
    match s.mop id with
    | some o =>
      match o.left with
      | c :: r =>
        if o.started && o.reads.isEmpty && s.mayProgram o then
          issueOne n ((s.setMop { o with left := r, fly := o.fly ++ [c] }).inc (F.MD_PROG_PROGRAMS o.ch)) id
        else s
      | [] => s
    | none => s

/-- Issue whatever programs the limits allow, oldest operation first; write-back, replay and line writes before maintenance at HIGH and
FULL, where maintenance has a cap only (R162). -/
def issueAll (s : Body) : Body := s.forEach (s.mtl.ops.map (·.id)) fun s id => issueOne 16 s id

/-- Start an operation: choose its slot and the codewords it must read first (R163, R166, R167, R170). None: it cannot run. -/
def opPlan (s : Body) (o : MediaOp) : Option MediaOp :=
  let e := s.mapGet o.lg
  let p := s.place o.lg
  let whole16 := List.range 16
  let full := fun cw => (cwLines cw).all o.carried.getLsbD
  let carry := whole16.filter fun cw => (cwLines cw).any o.carried.getLsbD
  let pos := if e.mapped then e.pkg else p.pos
  let dst := fun (slot : Option Nat) => slot.map fun n =>
    { o with started := true, pkg := pos, slot := n, move := true, whole := true,
             reads := if e.mapped then whole16.filter fun cw => !full cw else [], left := whole16 }
  let here := fun (whole : Bool) =>
    some { o with started := true, pkg := pos, slot := e.slot, move := false, whole := whole,
                  reads := (if whole then whole16 else carry).filter fun cw => !full cw
                  left := if whole then whole16 else carry }
  match o.kind with
  | .writeBack | .lineWrite | .replay | .repoison =>
    if e.mapped then here (s.ageClass e ≥ s.get F.MTL_DRIFT_CFG_MERGE_CLASS) else dst (s.leastFree p.ch pos)
  | .hot | .disturb | .failMove => if e.mapped then dst (s.leastFree p.ch pos) else none
  | .static => if e.mapped then dst (s.mostFree p.ch pos) else none
  | .refresh =>
    if !e.mapped then none
    else match s.leastFree p.ch pos with
      | some n =>
        if (s.slot p.ch pos e.slot).wear > (s.slot p.ch pos n).wear + s.get F.MTL_WEAR_CFG_WEAR_SPREAD then dst (some n) else here true
      | none => here true
  | .repair => (dst (s.leastFree p.ch pos)).map fun o => { o with reads := [] }

/-- Whether the operation marks its granule MOVING (R160, R173). -/
def OpKind.moves (k : OpKind) : Bool := OpKind.maint k || k == .repair

/-- A write-back whose operation cannot run ends without it: the sectors stay DIRTY (R166). -/
def wbForget (s : Body) (gran : Nat) : Body := { s with sp := { s.sp with wbs := s.sp.wbs.filter (·.gran != gran) } }

/-- Start an operation that stands first on its granule. -/
def opStart (s : Body) (id : Nat) : Body :=
  match s.mop id with
  | none => s
  | some o =>
    if o.started then s
    else match s.opPlan o with
      | none =>
        let s := if o.kind == .writeBack then s.wbForget o.gran else s
        (s.dropMop id).spareCheck o.ch (s.place o.lg).pos
      | some o =>
        let s := s.setMop o
        let s := if o.move then (s.setSlot o.ch o.pkg o.slot { s.slot o.ch o.pkg o.slot with used := true }).spareCheck o.ch o.pkg else s
        let s := if OpKind.moves o.kind then s.mapPut o.lg { s.mapGet o.lg with moving := true } else s
        issueOne 16 s id

/-- Start the operation that stands first on a granule, if it has not started (R173). -/
def opNext (s : Body) (lg : Nat) : Body :=
  match s.mtl.ops.find? (·.lg == lg) with
  | some o => s.opStart o.id
  | none => s

/-- Queue an operation on a granule (R173); one for a granule in no assigned chunk, or under purge, is discarded (R462). -/
def opQueue (s : Body) (kind : OpKind) (lg : Nat) (carried carPoison : Mask) (data : SMap LineData) (base : SMap LineData := [])
    (basePoison : Mask := 0) : Body :=
  match s.granOfLg lg with
  | none => s
  | some gran =>
    if s.tier.purge.contains (gran / 262144) then s
    else
      let o : MediaOp := { id := s.mtl.nextOp, kind := kind, lg := lg, gran := gran, ch := (s.place lg).ch, carried := carried,
                           carPoison := carPoison, data := data, base := base, basePoison := basePoison }
      ({ s with mtl := { s.mtl with ops := s.mtl.ops ++ [o], nextOp := s.mtl.nextOp + 1 } }).opNext lg

/-- Whether an operation of a kind stands on a granule. -/
def opOn (s : Body) (kind : OpKind) (lg : Nat) : Bool := s.mtl.ops.any fun o => o.kind == kind && o.lg == lg

/-- Queue a refresh rewrite unless one stands already (R170). -/
def refreshQueue (s : Body) (lg : Nat) : Body := if s.opOn .refresh lg then s else s.opQueue .refresh lg 0 0 []

/-- Bytes of line `n` as the operation programs it: what it carries, else what it read. -/
def opLine (o : MediaOp) (n : Nat) : LineData :=
  if o.carried.getLsbD n then (if o.carPoison.getLsbD n then 0 else mgetD o.data n 0) else mgetD o.base n 0

/-- The slot's program operations count one more (R160). -/
def slotWorn (s : Body) (ch pos n : Nat) : Body :=
  let r := s.slot ch pos n
  s.setSlot ch pos n (if r.sub + 1 ≥ 16 then { r with wear := r.wear + 1, sub := 0 } else { r with sub := r.sub + 1 })

/-- The POISON bits after an operation (R163, R164, R172, R174): a repair starts afresh from the twin's bytes. -/
def opPoison (s : Body) (o : MediaOp) (e : MapEntry) : Mask :=
  let old : Mask := if o.kind == .repair then 0 else if s.ruled o.gran e then allBytes else if e.mapped then e.poison else 0
  ((old ||| o.basePoison) &&& ~~~o.carried) ||| o.carPoison

/-- Every program of an operation has passed: the entry takes the new state in one step, the old slot becomes free (R163, R167, R173). -/
def opFinish (s : Body) (o : MediaOp) : Body :=
  let e := s.mapGet o.lg
  let s := s.slotWorn o.ch o.pkg o.slot
  let w := (s.slot o.ch o.pkg o.slot).wear
  let e' : MapEntry :=
    { slot := o.slot, pkg := o.pkg, mapped := true, moving := false, gen := (e.gen + b2n o.whole) % 65536,
      err := if o.kind == .refresh then 0 else e.err, age := s.frameNo, poison := s.opPoison o e,
      wear := w, wearAt := if o.move then w else e.wearAt }
  let s := if o.move && e.mapped then
      s.setSlot o.ch e.pkg e.slot { s.slot o.ch e.pkg e.slot with used := false }
    else s
  let s := (s.mapPut o.lg e').dropMop o.id
  let s := match o.kind with
    | .refresh => s.inc F.MTL_COUNT_0_REFRESHED
    | .disturb => s.inc F.MTL_COUNT_0_RELOC_DISTURB
    | .hot => s.inc F.MTL_COUNT_1_RELOC_HOT
    | .static => s.inc F.MTL_COUNT_1_RELOC_WEAR
    | .writeBack => { s with sp := { s.sp with wbs := s.sp.wbs.map fun (w : WriteBack) => if w.gran == o.gran then { w with ok := true } else w } }
    | _ => s
  -- hot relocation (R167) and retirement at rated endurance (R166)
  let free := (s.slotCount o.ch o.pkg).1
  let s := if !o.move && free > 0 && e'.wear - e'.wearAt ≥ s.get F.MTL_WEAR_CFG_HOT_THRESH && !s.opOn .hot o.lg then s.opQueue .hot o.lg 0 0 [] else s
  let lim := ((s.pkg o.ch o.pkg).map Pkg.endurance).getD 0 * 1000
  let s := if w * 16 ≥ lim && lim > 0 && !(s.slot o.ch o.pkg o.slot).retired then
      (s.setSlot o.ch o.pkg o.slot { s.slot o.ch o.pkg o.slot with retired := true }).opQueue .failMove o.lg 0 0 []
    else s
  (s.opNext o.lg).issueAll

/-- A slot after a failed program retires; the whole granule goes to a free slot of the package (R166). -/
def opFailed (s : Body) (o : MediaOp) : Body :=
  let e := s.mapGet o.lg
  let inForce := e.mapped && e.slot == o.slot && e.pkg == o.pkg
  let s := s.setSlot o.ch o.pkg o.slot { s.slot o.ch o.pkg o.slot with retired := true, used := inForce }
  let s := s.spareCheck o.ch o.pkg
  match s.leastFree o.ch o.pkg with
  | none =>
    let s := if o.kind == .writeBack then s.wbForget o.gran else s
    let s := if OpKind.moves o.kind then s.mapPut o.lg { s.mapGet o.lg with moving := false } else s
    ((s.dropMop o.id).raise (U.md o.ch) (F.MD_EVENTS_SPARE_EXHAUSTED o.ch) o.pkg).opNext o.lg
  | some n =>
    let need := (List.range 16).filter fun cw => !(cwLines cw).all fun l => o.carried.getLsbD l || (mget o.base l).isSome
    let o := { o with slot := n, move := true, whole := true, failed := false, left := List.range 16, fly := [],
                      reads := if e.mapped && o.kind != .repair then need else [] }
    let s := (s.setMop o).setSlot o.ch o.pkg n { s.slot o.ch o.pkg n with used := true }
    issueOne 16 (s.spareCheck o.ch o.pkg) o.id

/-- STATUS reports a program (R162, R166). A relocation whose programs have all passed waits for its switch. -/
def programStatus (s : Body) (id cw : Nat) (pass : Bool) : Body :=
  match s.mop id with
  | none => s
  | some o =>
    if !o.fly.contains cw then s
    else
      let e := s.mapGet o.lg
      let o := { o with fly := o.fly.erase cw, susp := merase o.susp cw, failed := o.failed || !pass }
      let s := s.setMop o
      let s := if pass then
          let l := fun i => opLine o (4 * cw + i)
          let c : Codeword := ⟨l 0, l 1, l 2, l 3, (e.gen + b2n o.whole) % 65536, s.ciph.cur.gen⟩
          { s with mtl := { s.mtl with cells := mset s.mtl.cells (cellKey o.ch o.pkg o.slot cw) c } }
        else (s.incSat (F.MD_PROG_PROG_FAIL o.ch)).raise (U.md o.ch) (F.MD_EVENTS_PROG_FAIL o.ch) o.pkg
      if !o.fly.isEmpty || (!o.left.isEmpty && !o.failed) then s.issueAll
      else if o.failed then (s.opFailed o).issueAll
      else if OpKind.moves o.kind && o.move then (s.setMop { o with done := true }).issueAll
      else s.opFinish o

/-! ## Reads of the media -/

/-- Sketch indices of a slot (R168). -/
def sketchIx (ch pos slot row : Nat) : Nat := Config.hash (10 + row) (slotKey ch pos slot) % 1048576

/-- Count a media read of a granule's slot; each counter counts 16 reads and saturates (R168). The part below 16 is kept with it. -/
def sketchCount (s : Body) (lg : Nat) : Body :=
  let e := s.mapGet lg
  let ch := (s.place lg).ch
  let ia := sketchIx ch e.pkg e.slot 0
  let ib := sketchIx ch e.pkg e.slot 1
  let top := 65535 * 16 + 15
  let a := min top (mgetD s.mtl.sketchA ia 0 + 1)
  let b := min top (mgetD s.mtl.sketchB ib 0 + 1)
  let s := { s with mtl := { s.mtl with sketchA := mset s.mtl.sketchA ia a, sketchB := mset s.mtl.sketchB ib b } }
  let thr := max 4096 (s.get F.MTL_DISTURB_CFG_DISTURB_THRESH)
  if min (a / 16) (b / 16) * 16 ≥ thr && !s.opOn .disturb lg && (s.slotCount ch e.pkg).1 > 0 then s.opQueue .disturb lg 0 0 [] else s

/-- Count what a decode found (R183): bits corrected at first, or by a retry. -/
def eccCount (s : Body) (ch : Nat) (first retried : Option Nat) : Body :=
  match first, retried with
  | some 0, _ => s
  | some _, _ => s.inc (F.MD_ECC_CORRECTED ch)
  | none, some _ => (s.incSat (F.MD_ECC_RETRY_OK ch)).inc (F.MD_ECC_CORRECTED ch)
  | none, none => s.incSat (F.MD_ECC_UNCORRECTABLE ch)

/-- Record the bits corrected (R160, R170): ERR, and a refresh rewrite at REFRESH_ERR bits or more. -/
def errRecord (s : Body) (lg bits : Nat) : Body :=
  let e := s.mapGet lg
  let s := if e.err = min 31 bits then s else s.mapPut lg { e with err := min 31 bits } true
  if bits ≥ min 30 (s.get F.MTL_DRIFT_CFG_REFRESH_ERR) && e.mapped then s.refreshQueue lg else s

/-- Mark lines poisoned on the media (R172). -/
def mediaPoison (s : Body) (lg : Nat) (lines : Mask) : Body :=
  let e := s.mapGet lg
  let n := (bitsOf lines).length
  ((s.mapPut lg { e with poison := e.poison ||| lines }).addWrap F.MTL_COUNT_2_POISON_SET n).poisonMade U.mtl lg

/-- A codeword that an operation reads returns (R163, R166, R172). -/
def opRead (s : Body) (id cw : Nat) (first retried : Option Nat) : Body :=
  let retried := if s.get F.MTL_ASSIST_CFG_RETRY_MAX = 0 then none else retried
  match s.mop id with
  | none => s
  | some o =>
    if !o.started || !o.reads.contains cw then s
    else
      let s := s.eccCount o.ch first retried
      match first, retried with
      | none, none =>
        if s.twinServes && !s.nc.repairs.any (·.ask == AskFor.op id) && !s.tier.assists.any (·.ask == AskFor.op id) then
          s.repairAsk (o.gran * 64) s.nextPos (.op id)
        else if s.twinServes then s
        else
          let lost := maskOf ((cwLines cw).filter fun n => !o.carried.getLsbD n)
          let o := { o with reads := o.reads.erase cw, basePoison := o.basePoison ||| lost }
          let s := ((s.setMop o).addWrap F.MTL_COUNT_2_POISON_SET (bitsOf lost).length).poisonMade U.mtl o.lg
          issueOne 16 s id
      | some b, _ | none, some b =>
        let e := s.mapGet o.lg
        let base := (cwLines cw).foldl (fun m n => mset m n (s.slotLine o.ch e.pkg e.slot n)) o.base
        let s := s.setMop { o with reads := o.reads.erase cw, base := base }
        let s := s.errRecord o.lg b
        issueOne 16 s id

/-- The lines of every codeword that a mask of lines touches. -/
def cwSpread (m : Mask) : Mask := maskOf (((List.range 16).filter fun cw => (cwLines cw).any m.getLsbD).flatMap cwLines)

/-- The twin's granule for an operation whose read stayed uncorrectable (R172): the operation programs the whole granule anew. An answer
that poisons a line of a codeword still to be read repairs none of that codeword's lines. -/
def opRepaired (s : Body) (id : Nat) (lines : SMap LineData) (poison : Mask) : Body :=
  match s.mop id with
  | none => s
  | some o =>
    let s := { s with nc := { s.nc with repairs := s.nc.repairs.filter (·.ask != AskFor.op id) } }
    let lost := cwSpread (poison &&& maskOf (o.reads.flatMap cwLines)) &&& ~~~o.carried
    let s := if lost == 0 then s else (s.addWrap F.MTL_COUNT_2_POISON_SET (bitsOf lost).length).poisonMade U.mtl o.lg
    let o := { o with base := (List.range 64).foldl (fun m n => mset m n (mgetD lines n 0)) [], basePoison := poison ||| lost, reads := [],
                      left := List.range 16, whole := true }
    if o.move then issueOne 16 (s.setMop o) id
    else match s.leastFree o.ch o.pkg with
      | none => issueOne 16 (s.setMop o) id
      | some n =>
        let s := (s.setMop { o with slot := n, move := true }).setSlot o.ch o.pkg n { s.slot o.ch o.pkg n with used := true }
        issueOne 16 (s.spareCheck o.ch o.pkg) id

/-- Without the twin's granule, the codewords the operation could not read are marked (R172). -/
def opUnrepaired (s : Body) (id : Nat) : Body :=
  match s.mop id with
  | none => s
  | some o =>
    let lost := maskOf ((o.reads.flatMap cwLines).filter fun n => !o.carried.getLsbD n)
    let s := s.setMop { o with reads := [], basePoison := o.basePoison ||| lost }
    let s := (s.addWrap F.MTL_COUNT_2_POISON_SET (bitsOf lost).length).poisonMade U.mtl o.lg
    issueOne 16 s id

/-! ## Promotion (R86, R87) -/

/-- Counter of a granule in the promotion filter. -/
def filterIx (gran : Nat) : Nat := Config.hash 1 gran % 262144

/-- Copy a granule from the media into a Stockpot block, clean (R87). None: no clean or free block. -/
def promote (s : Body) (lg gran part : Nat) : Option Body :=
  if !s.spServes gran || s.per.pf != .idle then none
  else
    let got := match s.spFind gran with
      | some (c, k, _) => some (s, c, k)
      | none => s.spAlloc gran part
    match got with
    | none => none
    | some (s, c, k) =>
      let s := s.spFillSectors c k ((List.range 64).map fun n => (n, s.mediaLine lg gran n))
      some ((s.inc F.PLACE_COUNT_PROMOTED).inc (F.MTL_PART_CNT_PROMOTED part))

/-- A media read counts in the filter and may promote its granule (R86, R87). -/
def promoteRead (s : Body) (lg gran part : Nat) : Body :=
  let i := filterIx gran
  let n := min 15 (mgetD s.tier.filter i 0 + 1)
  let s := { s with tier := { s.tier with filter := mset s.tier.filter i n } }
  let mode := s.placeMode part
  if !s.flag F.PLACE_CFG_PROMOTE_EN || mode == 2 || n < max 1 (s.get F.PLACE_CFG_PROMOTE_THRESH) then s
  else match s.promote lg gran part with
    | some s => s
    | none => s.inc F.PLACE_COUNT_PROMOTE_DECLINED

/-! ## At-risk reads and read slots (R19, R95, R171) -/

/-- Read slots of a frame on a channel: T / 30 ns transfers (R151), less the Simmer pause's share. -/
def readSlots (s : Body) : Nat := s.periodNs / 30 * (16 - min 16 s.frame.next.pause) / 16

/-- Whether a read slot of the next frame is open on a channel (R19, R95). -/
def slotOpen (s : Body) (ch : Nat) : Bool := s.isOn (U.md ch) && !(s.mdCh ch).hold && mgetD s.frame.next.readUsed ch 0 < s.readSlots

/-- Take a read slot of the next frame. -/
def slotTake (s : Body) (ch : Nat) : Body :=
  { s with frame := { s.frame with next := { s.frame.next with readUsed := mset s.frame.next.readUsed ch (mgetD s.frame.next.readUsed ch 0 + 1) } } }

/-- The program in flight in the bank that a read of line `n` of a granule takes (R158, R165): the operation and its codeword. -/
def readBank (s : Body) (lg n : Nat) : Option (MediaOp × Nat) :=
  let e := s.mapGet lg
  let ch := (s.place lg).ch
  s.mtl.ops.findSome? fun o =>
    if o.ch != ch || o.pkg != e.pkg then none
    else (o.fly.find? fun cw => (o.slot + cw) % 16 == (e.slot + n / 4) % 16).map fun cw => (o, cw)

/-- Whether a read slot is open for a line of a granule: none is in a bank whose program has used its 4 suspensions (R165). -/
def readOpen (s : Body) (lg n : Nat) : Bool :=
  s.slotOpen (s.place lg).ch && (match s.readBank lg n with
    | some (o, cw) => mgetD o.susp cw 0 < 4
    | none => true)

/-- Place a read of a line in a read slot of the next frame, suspending the program that its bank runs (R165). -/
def readTake (s : Body) (lg n : Nat) : Body :=
  let ch := (s.place lg).ch
  match s.readBank lg n with
  | some (o, cw) => ((s.setMop { o with susp := mset o.susp cw (mgetD o.susp cw 0 + 1) }).inc (F.MD_PROG_SUSPENDS ch)).slotTake ch
  | none => s.slotTake ch

/-- Whether a read of line `n` of a granule is at risk (R95, R171). -/
def atRisk (s : Body) (lg n : Nat) : Bool :=
  let e := s.mapGet lg
  !s.readOpen lg n || e.moving || s.mtl.ops.any (fun o => o.lg == lg && o.started && OpKind.moves o.kind)
    || s.ageClass e ≥ s.get F.MTL_ASSIST_CFG_ASSIST_CLASS || e.err ≥ s.get F.MTL_ASSIST_CFG_ASSIST_ERR

end Body

end Sys2Proof.Machine
end

