-- ==== Sys2Proof/Machine/Line.lean ====
section
/-! DEFINITION. The line order unit (R90 to R92), the near cache with its miss registers and the Colander (R102 to R117), and the
Stockpot beneath them (R127, R128, R130, R138 to R144). -/

namespace Sys2Proof.Machine

/-- Nothing wrong is found on the way of a read. -/
def TierObs.clean : TierObs := ⟨false, .good, false, false, false⟩

namespace Body

/-! ## Sets and ways (R102, R104, R105, R106) -/

/-- Set of a line (R102). -/
def ncSet (line : Nat) : Nat := (line % 2 ^ 17) ^^^ (line / 2 ^ 17 % 2 ^ 17)
/-- Ordinary ways: those below the staging ways (R104). -/
def ordWays (s : Body) : Nat := s.cfg.img.fix.ncWays - s.cfg.img.fix.stagingWays

/-- The ordinary way that holds a line. -/
def ncFind (s : Body) (line : Nat) : Option (Nat × NcLine) :=
  (range' (ncSet line * 16) s.ordWays).findSome? fun k => match mget s.nc.ways k with
    | some w => if w.line = line then some (k, w) else none
    | none => none

/-- The Colander entry that holds a line: a WAITING one before one that is being written. -/
def colFind (s : Body) (line : Nat) : Option (Nat × ColEntry) :=
  match s.nc.col.find? fun p => p.2.line == line && !p.2.writing with
  | some p => some p
  | none => s.nc.col.find? fun p => p.2.line == line

/-- The miss register of a line. -/
def mrFind (s : Body) (line : Nat) : Option (Nat × MissReg) := s.nc.mrs.find? fun p => p.2.line == line

/-- Ways a class may allocate (R105). -/
def classMask (s : Body) (cls : Nat) : Nat :=
  let ways := s.cfg.img.fix.ncWays
  let ord := 2 ^ s.ordWays - 1
  if cls = 15 then (2 ^ ways - 1) - ord
  else
    let m := s.get (F.NC_WAY_MASK_MASK cls) &&& ord
    if m = 0 then ord else m

/-- Point the tree away from a way: node 1 is the root, a set bit names the right half as the less recent (R106). -/
def plruTouch (p way : Nat) : Nat :=
  (List.range 4).foldl (fun p l =>
    let node := (way + 16) / 2 ^ (4 - l)
    let right := nbit way (3 - l)
    let p := if nbit p node then p - 2 ^ node else p
    if right then p else p + 2 ^ node) p

/-- The least recent way that a mask allows. -/
def plruPick (p mask : Nat) : Nat :=
  (List.range 4).foldl (fun node l =>
    let half := 2 ^ (3 - l)
    let any := fun (n : Nat) => (List.range half).any fun i => nbit mask (n * half + i - 16)
    let side := if nbit p node then 2 * node + 1 else 2 * node
    let other := if nbit p node then 2 * node else 2 * node + 1
    if any side then side else other) 1 - 16

/-- Update the pseudo-LRU on a hit or an install. -/
def ncTouch (s : Body) (k : Nat) : Body :=
  { s with nc := { s.nc with plru := mput 0 s.nc.plru (k / 16) (plruTouch (mgetD s.nc.plru (k / 16) 0) (k % 16)) } }

/-- Replace a way's line. -/
def setWay (s : Body) (k : Nat) (w : NcLine) : Body := { s with nc := { s.nc with ways := mset s.nc.ways k w } }
/-- Invalidate a way. -/
def dropWay (s : Body) (k : Nat) : Body := { s with nc := { s.nc with ways := merase s.nc.ways k } }
/-- Replace a Colander entry. -/
def setCol (s : Body) (i : Nat) (e : ColEntry) : Body := { s with nc := { s.nc with col := mset s.nc.col i e } }
/-- Free a Colander entry. -/
def dropCol (s : Body) (i : Nat) : Body := { s with nc := { s.nc with col := merase s.nc.col i } }
/-- Replace a miss register. -/
def setMr (s : Body) (i : Nat) (m : MissReg) : Body := { s with nc := { s.nc with mrs := mset s.nc.mrs i m } }
/-- Free a miss register. -/
def dropMr (s : Body) (i : Nat) : Body := { s with nc := { s.nc with mrs := merase s.nc.mrs i } }

/-- Put a dirty line into the Colander (R109). A WAITING entry of the line takes the newer bytes. None: it is full (R111). -/
def colPut (s : Body) (line : Nat) (data : LineData) (poison : Bool) : Option Body :=
  match s.nc.col.find? fun p => p.2.line == line && !p.2.writing with
  | some (i, e) => some (s.setCol i { e with data := data, poison := poison })
  | none =>
    let i := firstGap 0 (s.nc.col.map (·.1))
    if i < 512 then some (s.setCol i ⟨line, data, poison, false⟩) else none

/-- Cycles of a wait, which the model leaves open (R108, R111). -/
def stall (s : Body) (f : Fld) : Body := (s.fresh).addWrap f (Config.freeWord s.freeCtr).toNat

/-- Install a line for a class (R106): the victim is chosen now, a dirty one enters the Colander. None: the Colander is full (R111). -/
def install (s : Body) (line : Nat) (data : LineData) (dirty poison : Bool) (cls : Nat) : Option Body :=
  let set := ncSet line
  let mask := s.classMask cls
  let ways := (List.range 16).filter (nbit mask)
  let way := match ways.find? fun w => (mget s.nc.ways (set * 16 + w)).isNone with
    | some w => w
    | none => plruPick (mgetD s.nc.plru set 0) mask
  let k := set * 16 + way
  let go := fun (s : Body) => (s.setWay k ⟨line, data, dirty, poison⟩).ncTouch k
  match mget s.nc.ways k with
  | some v => if v.dirty then (s.colPut v.line v.data v.poison).map go else some (go s)
  | none => some (go s)

/-! ## Newest bytes of a line -/

/-- Apply an access's write to a line and its poison (R91, R114). -/
def accLine (l : LineData × Bool) : AccKind → LineData × Bool
  | .read => l
  | .write d m => (mergeLine l.1 d m, l.2 && m != allBytes)
  | .mark => (0, true)
  | .atomic o sw a b => if l.2 then l else ((atomicLine l.1 o sw a b).1, false)

/-- Whether a mark of R352 has been decided for a line and not yet been made. -/
def unmarked (s : Body) (line : Nat) : Bool :=
  s.ciph.passes.any fun p => p.line + p.next ≤ line && line < p.line + p.n && !p.early.contains line

/-- The bytes of every write ordered on a line so far, with its poison: the near cache's, the Colander's, or those beneath, under what
a miss register and the order unit hold (R90, R92). -/
def peek (s : Body) (line : Nat) : LineData × Bool :=
  if s.unmarked line then (0, true)
  else
    let base := match s.ncFind line with
      | some (_, w) => (w.data, w.poison)
      | none => match s.colFind line with
        | some (_, e) => (e.data, e.poison)
        | none => match s.mrFind line with
          | some (_, m) => m.accs.foldl (fun l a => accLine l a.kind) (m.fill.getD (s.tierLine line))
          | none => s.tierLine line
    (s.nc.held.filter (·.line == line)).foldl (fun l a => accLine l a.kind) base

/-! ## The Stockpot beneath the Colander (R127, R128, R130, R139 to R144) -/

/-- A channel freezes (R141): no further command; the last 64 commands are captured, which the model leaves open. The role acts as
R142 states. -/
def spFreeze (s : Body) (c cause : Nat) : Body :=
  if s.spMode c != .caching || !s.isOn (U.sp c) then s
  else
    let s := (s.put (F.SP_CH_STATUS_MODE c) 1).put (F.SP_CH_FREEZE_CAUSE c) cause
    let s := s.put (F.SP_CH_FREEZE_FRAME_LOW c) s.frameNo
    let s := (s.setSpCh c { s.spCh c with capture := range' s.freeCtr 64 }).freshN 64
    let s := s.put F.RESYNC_STATUS_BITMAP_VALID 0
    (s.raise (U.sp c) (F.SP_CH_EVENTS_FREEZE c) cause).later .handoff

/-- SPA of a sector (R125). -/
def spaOf (s : Body) (c k n : Nat) : Nat :=
  (s.get (F.SP_CH_LAYOUT_SYS_MIB c) + s.get (F.SP_CH_LAYOUT_RAMEKIN_MIB c)) * 2 ^ 20 + k * 4096 + n * 64

/-- What ECC finds in one burst (R139, R140): counters, the address, CE_REPEAT at the third correction in a row. -/
def spEcc (s : Body) (c spa : Nat) (e : Ecc) : Body :=
  match e with
  | .good => s.setSpCh c { s.spCh c with ceRun := merase (s.spCh c).ceRun spa }
  | .corrected =>
    let n := mgetD (s.spCh c).ceRun spa 0 + 1
    let s := (s.setSpCh c { s.spCh c with ceRun := mset (s.spCh c).ceRun spa n }).inc (F.SP_CH_ECC_CORRECTED c)
    let s := (s.put (F.SP_CH_ECC_ADDR_SPA c) spa).put (F.SP_CH_ECC_ADDR_UE c) 0
    if n = 3 then s.raise (U.sp c) (F.SP_CH_EVENTS_CE_REPEAT c) spa else s
  | .uncorrectable =>
    let s := (s.incSat (F.SP_CH_ECC_UNCORRECTABLE c)).put (F.SP_CH_ECC_ADDR_SPA c) spa
    (s.put (F.SP_CH_ECC_ADDR_UE c) 1).raise (U.sp c) (F.SP_CH_EVENTS_UE c) spa

/-- Start the write-back of a block (R130): its DIRTY sectors go to the MTL. -/
def wbStart (s : Body) (c k : Nat) : Body :=
  match mget (s.spCh c).blocks k with
  | none => s
  | some b =>
    if b.dirty == 0 || s.sp.wbs.any (·.gran == b.granule) then s
    else match s.lgOf (b.granule * 64) with
      | none => s.setBlock c k { b with dirty := 0 }
      | some lg =>
        let s := s.setBlock c k { b with again := 0 }
        let s := { s with sp := { s.sp with wbs := s.sp.wbs ++ [WriteBack.mk c k b.granule b.dirty false] } }
        s.opQueue .writeBack lg b.dirty (b.poison &&& b.dirty) (b.data.filter fun p => b.dirty.getLsbD p.1)

/-- The Stockpot accepts a line from the Colander (R127, R128), or the MTL does in BYPASS (R144). None: it cannot now. -/
def spAccept (s : Body) (line : Nat) (data : LineData) (poison : Bool) : Option Body :=
  let gran := granOf line
  let n := line % 64
  let m := maskOf [n]
  match s.lgOf line with
  | none => some s
  | some lg =>
    if s.spFrozen gran then none
    else if s.spServes gran then
      let part := ((s.partAt (unitOf line)).map (·.id)).getD 0
      let got := match s.spFind gran with
        | some (c, k, _) => some (s, c, k)
        | none => s.spAlloc gran part
      match got with
      | none => none
      | some (s, c, k) =>
        match mget (s.spCh c).blocks k with
        | none => none
        | some b =>
          let wb := s.sp.wbs.any (·.gran == gran)
          let b : SpBlock := { b with
            valid := b.valid ||| m, dirty := b.dirty ||| m
            poison := if poison then b.poison ||| m else b.poison &&& ~~~m
            again := if wb then b.again ||| m else b.again
            data := mset b.data n data, frame := s.frameNo, part := part }
          some (s.spTouch c k b)
    else
      let p := s.place lg
      let o : MediaOp := { id := 0, kind := .lineWrite, lg := lg, gran := gran, ch := p.ch, carried := m, carPoison := 0, data := [],
                           pkg := if (s.mapGet lg).mapped then (s.mapGet lg).pkg else p.pos }
      if s.isOn U.mtl && s.mayProgram o && !s.mtl.ops.any (·.lg == lg) then
        some (s.opQueue .lineWrite lg m (if poison then m else 0) (if poison then [] else [(n, data)]))
      else none

/-- Every block of a line's set is dirty or pinned: its least recent dirty block is written back ahead of every other (R128). -/
def setPressure (s : Body) (line : Nat) : Body :=
  match s.spPlace (granOf line) with
  | none => s
  | some (c, set) =>
    let keys := setKeys set
    if !s.spServes (granOf line) || s.flag F.SP_DIRTY_STATE_WB_HALTED
        || s.sp.wbs.any (fun (w : WriteBack) => w.ch == c && keys.contains w.key) then s
    else
      let l := keys.filterMap fun k => (mget (s.spCh c).blocks k).map fun b => (b.rank, k, b)
      let l := l.filter fun p => p.2.2.dirty != 0
      match l.foldl (fun b p => match b with
          | none => some p
          | some q => if p.1 < q.1 then some p else some q) (none : Option (Nat × Nat × SpBlock)) with
      | some p => (s.incSat F.SP_DIRTY_STATE_SET_PRESSURE).wbStart c p.2.1
      | none => s

/-! ## Accesses at the line (R107, R108, R110 to R114, R117) -/

/-- Answer a read with the line's bytes. -/
def answer (s : Body) (req : Requester) (line : Nat) (l : LineData × Bool) (at_ : Option PoisonAt) : Body :=
  s.later (.answer req line (if l.2 then 0 else l.1) l.2 (if l.2 then at_ else none))

/-- What an access does to the bytes present: reads and atomics are answered. -/
def accApply (s : Body) (a : Access) (l : LineData × Bool) (at_ : Option PoisonAt) : Body :=
  match a.kind with
  | .read => s.answer a.req a.line l at_
  | .write _ _ | .mark => s
  | .atomic _ _ _ _ => s.answer a.req a.line l at_

/-- Whether an access writes the line it finds. -/
def accWrites (k : AccKind) (poison : Bool) : Bool :=
  match k with
  | .read => false
  | .write _ _ | .mark => true
  | .atomic _ _ _ _ => !poison

/-- Hold an access at the line order unit. -/
def holdAcc (s : Body) (a : Access) : Body := { s with nc := { s.nc with held := s.nc.held ++ [a] } }

/-- A repair of a line from the twin is under way (R112). -/
def repairing (s : Body) (line : Nat) : Bool :=
  s.nc.repairs.any (fun (r : Repair) => r.line == line && r.ask == AskFor.cache)
    || s.tier.assists.any (fun (r : AssistReq) => r.addr == line && r.ask == AskFor.cache)

/-- A new miss register, before its fill's source is known. -/
def mrNew (s : Body) (a : Access) : MissReg :=
  { line := a.line, src := .media, accs := [a], atomic := (match a.req with | .atomicFetch _ => true | _ => false),
    frame := s.frameNo, cls := a.cls, dirty := false, fell := false, at_ := none, fill := none }

/-- Find a fill beneath the Stockpot (R95, R98, R160): translation alone, what an operation carries, the twin, or the media. -/
def missMedia (s : Body) (i : Nat) (m : MissReg) (pos : MPos) : Body :=
  match s.lgOf m.line with
  | none => s.setMr i { m with fill := some (0, true), at_ := some .address }
  | some lg =>
    let gran := granOf m.line
    let n := m.line % 64
    let e := s.mapGet lg
    let s := s.mapTouch lg
    let carried := s.mtl.ops.any fun o => o.lg == lg && (o.kind == .lineWrite || o.kind == .replay) && o.carried.getLsbD n
    if carried || s.ruled gran e || !e.mapped || e.poison.getLsbD n then
      let l := s.mediaLine lg gran n
      s.setMr i { m with src := .media, fill := some l,
                         at_ := some (if s.ruled gran e then .spRule else if e.mapped then .media else .unfilled) }
    else if s.atRisk lg n && s.assists && !m.fell then
      let s := (s.inc F.ASSIST_COUNT_PLANNED).setMr i { m with src := .assist }
      s.askTwin .planned m.line pos .miss
    else
      let s := s.setMr i { m with src := .media }
      if s.readOpen lg n then s.readTake lg n else { s with tier := { s.tier with noSlot := s.tier.noSlot ++ [i] } }

/-- A read of a frozen channel (R142): from the twin when it is STANDBY to this ACTIVE, else held. -/
def missFrozen (s : Body) (i c : Nat) (m : MissReg) (pos : MPos) : Body :=
  if s.role == .active && s.linkUp && s.twinRole == .standby then
    (s.setMr i { m with src := .assist, fell := true }).askTwin .planned m.line pos .miss
  else
    let s := s.setMr i { m with src := .stockpot }
    s.setSpCh c { s.spCh c with held := (s.spCh c).held ++ [⟨i, m.line⟩] }

/-- Find a fill for a miss register (R107): the Stockpot when the sector is valid there, else beneath. -/
def missFind (s : Body) (i : Nat) (m : MissReg) (pos : MPos) (obs : TierObs) : Body :=
  let gran := granOf m.line
  let n := m.line % 64
  match s.spPlace gran with
  | none => s.missMedia i m pos
  | some (c, _) =>
    let s := s.when (obs.metaOne && !obs.metaBad) (·.incSat (F.SP_CH_ECC_META_SECOND c))
    let s := if obs.sig && (s.spFind gran).isSome then s.spFreeze c 2 else if obs.metaBad then s.spFreeze c 3 else s
    if s.spMode c == .frozen then s.missFrozen i c m pos
    else if !s.spServes gran then s.missMedia i m pos
    else match s.spFind gran with
      | none => s.missMedia i m pos
      | some (c, k, b) =>
        if !b.valid.getLsbD n then s.missMedia i m pos
        else
          let s := (s.spTouch c k b).spEcc c (s.spaOf c k n) obs.sp
          let b := mgetD (s.spCh c).blocks k b
          let l := (mgetD b.data n 0, b.poison.getLsbD n)
          match obs.sp with
          | .uncorrectable =>
            let bit := maskOf [n]
            if !b.dirty.getLsbD n then
              (s.setBlock c k { b with valid := b.valid &&& ~~~bit, poison := b.poison &&& ~~~bit, data := merase b.data n }).missMedia i m pos
            else if s.twinServes then (s.setMr i { m with src := .repair }).repairAsk m.line pos .sector
            else
              let s := (s.setBlock c k { b with poison := b.poison ||| bit }).poisonMade (U.sp c) m.line
              s.setMr i { m with src := .stockpot, fill := some (0, true), at_ := some .stockpot }
          | _ => s.setMr i { m with src := .stockpot, fill := some l, at_ := some .stockpot }

/-- Set aside a miss register for an access that misses (R107, R108). -/
def missTake (s : Body) (a : Access) (obs : TierObs) : Body × Bool :=
  let i := firstGap 0 (s.nc.mrs.map (·.1))
  if i ≥ 4096 then (s.stall F.NC_STALL_COUNT_MR_FULL, false)
  else ((s.missFind i (s.mrNew a) a.pos obs), true)

/-- An access to a line that is present in an ordinary way. While the near cache is not ON, a write goes to the Stockpot at once and
leaves the line clean (R117). -/
def hitApply (s : Body) (k : Nat) (w : NcLine) (a : Access) : Body × Bool :=
  let l := (w.data, w.poison)
  let l' := accLine l a.kind
  if !accWrites a.kind w.poison then ((s.ncTouch k).accApply a l (some .cache), true)
  else if s.isOn U.nc then (((s.setWay k { w with data := l'.1, dirty := true, poison := l'.2 }).ncTouch k).accApply a l (some .cache), true)
  else match s.spAccept a.line l'.1 l'.2 with
    | some s => ((s.setWay k { w with data := l'.1, dirty := false, poison := l'.2 }).accApply a l (some .cache), true)
    | none => (s.setPressure a.line, false)

/-- A CRC error on a dirty line that the twin does not repair (R112). -/
def crcPoison (s : Body) (line : Nat) : Body :=
  ((s.incSat F.NC_CRC_COUNT_POISONED).raise U.nc F.NC_EVENTS_CRC_POISON line).poisonMade U.nc line

/-- Make a mark of R352: the line is installed dirty, zero and poisoned. None: the Colander is full. -/
def markLine (s : Body) (line : Nat) : Option Body :=
  match s.ncFind line with
  | some (k, w) => some (s.setWay k { w with data := 0, dirty := true, poison := true })
  | none =>
    match s.mrFind line with
    | some (i, m) => some (s.setMr i { m with dirty := true, fill := some (0, true), at_ := some .cache })
    | none =>
      let s := { s with nc := { s.nc with col := s.nc.col.filter fun p => p.2.line != line || p.2.writing } }
      s.install line 0 true true 0

/-- Mark a line out of turn (R352): at most 1,024 such lines a pass. -/
def markEarly (s : Body) (line : Nat) : Option Body :=
  if s.ciph.passes.any fun p => p.line + p.next ≤ line && line < p.line + p.n && p.early.length ≥ 1024 then none
  else (s.markLine line).map fun s => { s with ciph := { s.ciph with passes := s.ciph.passes.map fun (p : MarkPass) =>
    if p.line + p.next ≤ line && line < p.line + p.n then { p with early := insertNat p.early line } else p } }

/-- Apply an access at its line in its turn. False: it waits at the line order unit (R92, R108, R111, R112). -/
def ncApply (s : Body) (a : Access) (obs : TierObs) : Body × Bool :=
  if s.repairing a.line then (s, false)
  else if s.unmarked a.line && a.kind == .read then (s.answer a.req a.line (0, true) (some .untrustedRange), true)
  else
    let marked := if s.unmarked a.line then s.markEarly a.line else some s
    match marked with
    | none => (s, false)
    | some s =>
      match s.ncFind a.line with
      | some (k, w) =>
        if !obs.ncCrc then s.hitApply k w a
        else if !w.dirty then
          (((s.dropWay k).incSat F.NC_CRC_COUNT_CLEAN_REFETCH).raise U.nc F.NC_EVENTS_CRC_CLEAN a.line).missTake a obs
        else if s.twinServes then (s.repairAsk a.line a.pos .cache, false)
        else
          let w := { w with poison := true }
          ((s.setWay k w).crcPoison a.line).hitApply k w a
      | none =>
        match s.colFind a.line with
        | some (i, e) =>
          if obs.ncCrc && s.twinServes then (s.repairAsk a.line a.pos .cache, false)
          else
            let s := if obs.ncCrc then (s.setCol i { e with poison := true }).crcPoison a.line else s
            let e := if obs.ncCrc then { e with poison := true } else e
            let l := (e.data, e.poison)
            if !s.isOn U.nc then
              let l' := accLine l a.kind
              let s := if accWrites a.kind e.poison then s.setCol i { e with data := l'.1, poison := l'.2 } else s
              (s.accApply a l (some .cache), true)
            else
              let s' := if e.writing then s else s.dropCol i
              match s'.install a.line e.data true e.poison a.cls with
              | none => (s.stall F.NC_STALL_COUNT_COL_FULL, false)
              | some s' => match s'.ncFind a.line with
                | some (k, w) => s'.hitApply k w a
                | none => (s, false)
        | none =>
          match s.mrFind a.line, a.kind with
          | some (_, _), .atomic _ _ _ _ => (s, false)
          | some (i, m), _ => if m.accs.length < 17 then (s.setMr i { m with accs := m.accs ++ [a] }, true) else (s, false)
          | none, .write d m =>
            if m != allBytes then s.missTake a obs
            else if s.isOn U.nc then
              match s.install a.line d true false a.cls with
              | some s => (s, true)
              | none => (s.stall F.NC_STALL_COUNT_COL_FULL, false)
            else match s.spAccept a.line d false with
              | some s => (s, true)
              | none => (s.setPressure a.line, false)
          | none, .mark =>
            match if s.isOn U.nc then s.install a.line 0 true true a.cls else s.spAccept a.line 0 true with
            | some s => (s, true)
            | none => (s.setPressure a.line, false)
          | none, .read => s.missTake a obs
          | none, .atomic _ _ _ _ => (s, false)

/-- Try the accesses that wait at the line order unit, each line's in its order (R92). -/
def pumpHeld (s : Body) : Body :=
  let l := s.nc.held
  let s := { s with nc := { s.nc with held := [] } }
  s.forEach l fun s a =>
    if s.nc.held.any (·.line == a.line) then s.holdAcc a
    else
      let r := s.ncApply a TierObs.clean
      if r.2 then r.1 else r.1.holdAcc a

/-- An access passes the line order unit (R90): it takes its position, a write enters the mirror queue and the history window, and it is
applied in the line's order. A speculative read that cannot run at once is dropped (R248). -/
def order (s : Body) (req : Requester) (line : Nat) (kind : AccKind) (cls : Nat) (obs : TierObs) (pos : Option MPos := none) : Body :=
  let p := pos.getD s.nextPos
  let before := s.peek line
  let s := match kind with
    | .read => s
    | .write d m => (s.histPush p line before).mirrorPut p line (if m == allBytes then .full else .partial_) m d
    | .mark => s.histPush p line before
    | .atomic o sw a b =>
      if before.2 then s
      else
        let r := atomicLine before.1 o sw a b
        (s.histPush p line before).mirrorPut p line .partial_ r.2 r.1
  let a : Access := ⟨req, line, kind, cls, p⟩
  let spec := match req with | .cxlSpec _ => true | _ => false
  if s.nc.held.any (·.line == line) then (if spec then s else s.holdAcc a)
  else
    let r := s.ncApply a obs
    if r.2 || spec then r.1 else r.1.holdAcc a

/-! ## Fills, the Colander, maintenance operations (R108, R109, R118) -/

/-- Send what an operation or the stop steps still owe to the Colander while it has room (R116, R118). -/
def ncPump (s : Body) : Body :=
  let keep : Bool := match s.nc.op with
    | some o => o.kind != NcOpKind.flushInvalidate
    | none => true
  let s := match s.nc.op with
    | none => s
    | some o => s.forEach o.todo fun s line =>
        let fin := fun (s : Body) (sent : Bool) => match s.nc.op with
          | some o => { s with nc := { s.nc with op := some { o with
              todo := o.todo.erase line, sent := if sent then o.sent ++ [line] else o.sent } } }
          | none => s
        match s.ncFind line with
        | none => fin s false
        | some (k, w) =>
          if !w.dirty then fin s false
          else match s.colPut line w.data w.poison with
            | none => s
            | some s =>
              let s := if keep then s.setWay k { w with dirty := false } else s.dropWay k
              fin (s.inc F.NC_OP_STATUS_LINES_WRITTEN) true
  s.forEach s.nc.drain fun s line =>
    let fin := fun (s : Body) => { s with nc := { s.nc with drain := s.nc.drain.erase line } }
    match s.ncFind line with
    | none => fin s
    | some (k, w) =>
      if !w.dirty then fin (s.dropWay k)
      else match s.colPut line w.data w.poison with
        | none => s
        | some s => fin (s.dropWay k)

/-- A fill has arrived (R108): the merged accesses are applied in order over it, reads answered, the line installed. -/
def ncFill (s : Body) (i : Nat) : Body :=
  match mget s.nc.mrs i with
  | none => s
  | some m =>
    match m.fill with
    | none => s
    | some fill =>
      let dirty := m.dirty || m.accs.any fun a => a.kind != .read
      let fin := m.accs.foldl (fun l a => accLine l a.kind) fill
      let placed := if s.isOn U.nc then s.install m.line fin.1 dirty fin.2 m.cls
        else if dirty then s.spAccept m.line fin.1 fin.2 else some s
      match placed with
      | none => if s.isOn U.nc then s.stall F.NC_STALL_COUNT_COL_FULL else s.setPressure m.line
      | some s =>
        let r := m.accs.foldl (fun (x : Body × (LineData × Bool)) a => (x.1.accApply a x.2 m.at_, accLine x.2 a.kind)) (s, fill)
        ((r.1.dropMr i).pumpHeld).ncPump

/-- The Stockpot accepts a Colander write (R109, R127, R128), or not yet. An older write of the same line goes first. -/
def colAccept (s : Body) (i : Nat) : Body :=
  match mget s.nc.col i with
  | none => s
  | some e =>
    if !e.writing && s.nc.col.any (fun (p : Nat × ColEntry) => p.2.line == e.line && p.2.writing) then s
    else match s.spAccept e.line e.data e.poison with
      | some s => ((s.dropCol i).ncPump).pumpHeld
      | none =>
        if s.spFrozen (granOf e.line) || !s.spServes (granOf e.line) then s
        else (s.setCol i { e with writing := true }).setPressure e.line

/-- Lines of the ordinary ways. -/
def ordLines (s : Body) : List (Nat × NcLine) := s.nc.ways.filter fun p => p.1 % 16 < s.ordWays

/-- Start a maintenance operation (R118, R119). -/
def ncOpStart (s : Body) (kind : NcOpKind) (whole : Bool) : Body :=
  if s.nc.op.isSome then s.raise U.nc F.NC_EVENTS_OP_BUSY
  else
    let inRange := fun (l : Nat) => whole || (s.get F.NC_OP_START_LINE ≤ l && l ≤ s.get F.NC_OP_END_LINE)
    let mine := s.ordLines.filter fun p => inRange p.2.line
    let todo := (mine.filter (·.2.dirty)).map (·.2.line)
    let sent := (s.nc.col.filter fun p => inRange p.2.line).map (·.2.line)
    let s := if kind == .flush then s else s.forEach (mine.filter (!·.2.dirty)) fun s p => s.dropWay p.1
    let s := (s.put F.NC_OP_STATUS_STATE 1).put F.NC_OP_STATUS_LINES_WRITTEN 0
    ({ s with nc := { s.nc with op := some ⟨kind, todo, sent⟩ } }).ncPump

/-- Lines of the operation that are still in the Colander. -/
def ncOpOpen (s : Body) (o : NcOp) : Bool := !o.todo.isEmpty || o.sent.any fun l => s.nc.col.any fun p => p.2.line == l

/-- A write-back's programs have all passed: DIRTY bits of the snapshot clear, but for sectors written since (R127, R130). -/
def wbDone (s : Body) (gran : Nat) : Body :=
  match s.sp.wbs.find? fun w => w.gran == gran && w.ok with
  | none => s
  | some w =>
    let s := { s with sp := { s.sp with wbs := s.sp.wbs.erase w } }
    let s := s.inc F.SP_WB_COUNT_BLOCKS
    match mget (s.spCh w.ch).blocks w.key with
    | some b =>
      if b.granule != gran then s
      else
        let again := (bitsOf (w.snap &&& b.again)).length
        let n := (bitsOf (w.snap &&& b.dirty)).length - again
        let s := s.addWrap F.SP_WB_COUNT_SECTORS_REDIRTIED again
        let s := s.setBlock w.ch w.key { b with dirty := b.dirty &&& ~~~(w.snap &&& ~~~b.again), again := 0 }
        { s with per := { s.per with cleaned := s.per.cleaned + n } }
    | none => s

/-! ## The twin's answers to the tiers (R98, R112, R140, R172) -/

/-- Drop an outstanding request. -/
def askDrop (s : Body) (r : AssistReq) : Body := { s with tier := { s.tier with assists := s.tier.assists.erase r } }

/-- Repair a line of the near cache or the Colander with the twin's bytes, or poison it (R112). -/
def crcRepaired (s : Body) (line : Nat) (data : Option LineData) : Body :=
  match data with
  | some d =>
    let s := match s.ncFind line with
      | some (k, w) => s.setWay k { w with data := d, dirty := true, poison := false }
      | none => match s.colFind line with
        | some (i, e) => s.setCol i { e with data := d, poison := false }
        | none => s
    ((s.incSat F.NC_CRC_COUNT_TWIN_REFETCH).raise U.nc F.NC_EVENTS_CRC_TWIN line).pumpHeld
  | none =>
    let s := match s.ncFind line with
      | some (k, w) => s.setWay k { w with poison := true }
      | none => match s.colFind line with
        | some (i, e) => s.setCol i { e with poison := true }
        | none => s
    (s.crcPoison line).pumpHeld

/-- Repair an uncorrectable DIRTY sector with the twin's bytes, or poison it (R140). -/
def sectorRepaired (s : Body) (line : Nat) (data : Option LineData) : Body :=
  let n := line % 64
  let s := match s.spFind (granOf line) with
    | some (c, k, b) => match data with
      | some d => s.setBlock c k { b with data := mset b.data n d, poison := b.poison &&& ~~~(maskOf [n]) }
      | none => (s.setBlock c k { b with poison := b.poison ||| maskOf [n] }).poisonMade (U.sp c) line
    | none => s
  match s.mrFind line with
  | some (i, m) => s.setMr i { m with fill := some (match data with | some d => (d, false) | none => (0, true)), at_ := some .stockpot }
  | none => s

/-- A miss register whose fill cannot come goes on waiting for it when it holds written bytes (R107), so that they mark no line; not in a
power fail, whose flush needs every such line installed (R204). -/
def keepsMiss (s : Body) (i : Nat) : Bool :=
  s.per.pf == .idle && ((mget s.nc.mrs i).map fun m => m.accs.any (·.kind != .read)).getD false

/-- Answer the reads of a miss register with zeros and poison, marking the line in no tier (R98, R142). -/
def missPoison (s : Body) (i : Nat) (at_ : PoisonAt) : Body :=
  match mget s.nc.mrs i with
  | none => s
  | some m =>
    let reads := m.accs.filter (·.kind == .read)
    let w := m.accs.filter (·.kind != .read)
    let s := s.forEach reads fun s a => s.answer a.req a.line (0, true) (some at_)
    let s := if reads.isEmpty then s else s.inc F.ASSIST_FAIL_POISONED
    if w.isEmpty then (s.dropMr i).pumpHeld
    else if s.per.pf == .idle then s.setMr i { m with accs := w }
    else s.setMr i { m with accs := w, fill := some (0, true), at_ := some at_ }

/-- An assist was answered with poison, not served, or not answered: the read falls back to the media (R98); one of a frozen channel is
answered with poison (R142). -/
def assistFell (s : Body) (line : Nat) : Body :=
  match s.mrFind line with
  | none => s
  | some (i, m) =>
    if s.spFrozen (granOf line) then
      let s := match s.spPlace (granOf line) with
        | some (c, _) =>
          if s.keepsMiss i then (s.setMr i { m with src := .stockpot }).setSpCh c { s.spCh c with held := (s.spCh c).held ++ [HeldRead.mk i line] }
          else s
        | none => s
      s.missPoison i .unfilled
    else
      let s := (s.inc F.ASSIST_FAIL_FALLBACK).raise U.mtl F.PLACE_EVENTS_ASSIST_FALLBACK line
      let s := s.setMr i { m with src := .media, fell := true }
      match s.lgOf line with
      | none => s
      | some lg =>
        if s.readOpen lg (line % 64) then s.readTake lg (line % 64) else { s with tier := { s.tier with noSlot := s.tier.noSlot ++ [i] } }

/-- A request to the twin ends with the twin's line (`data`), or its granule, or with nothing. -/
def askEnd (s : Body) (r : AssistReq) (data : Option LineData) (gran : Option (SMap LineData × Mask)) : Body :=
  let s := s.askDrop r
  match r.ask with
  | .miss =>
    match data, s.mrFind r.addr with
    | some d, some (i, m) =>
      let s := match s.partAt (unitOf r.addr) with
        | some p => s.inc (F.MTL_PART_CNT_ASSISTED p.id)
        | none => s
      s.setMr i { m with fill := some (d, false) }
    | none, some _ => s.assistFell r.addr
    | _, none => s
  | .cache => s.crcRepaired r.addr data
  | .sector => s.sectorRepaired r.addr data
  | .op id => match gran with
    | some g => s.opRepaired id g.1 g.2
    | none => s.opUnrepaired id
  | .mediaMiss i =>
    match mget s.nc.mrs i, s.lgOf r.addr with
    | some m, some lg =>
      let n := m.line % 64
      let cw := maskOf (cwLines (n / 4))
      match gran.filter fun g => g.2 &&& cw == 0 with
      | some g => (s.opQueue .repair lg 0 0 [] g.1 g.2).setMr i { m with fill := some (mgetD g.1 n 0, false), at_ := some .media }
      | none => (s.mediaPoison lg cw).setMr i { m with fill := some (0, true), at_ := some .media }
    | _, _ => s
  | .mapWord lg => match gran with
    | some g => s.opQueue .repair lg 0 0 [] g.1 g.2
    | none =>
      let s := s.mapPut lg { s.mapGet lg with poison := allBytes }
      (s.addWrap F.MTL_COUNT_2_POISON_SET 64).poisonMade U.mtl lg
  | .scourCw lg lines => match gran with
    | some g =>
      let lost := cwSpread (g.2 &&& lines)
      (s.addSat F.SCOUR_FOUND_REPAIRED (bitsOf (lines &&& ~~~lost)).length).opQueue .repair lg 0 0 [] g.1 (g.2 ||| lost)
    | none => s.mediaPoison lg lines
  | .scour lg =>
    match data with
    | some d =>
      let n := r.addr % 64
      (s.incSat F.SCOUR_FOUND_REPAIRED).opQueue .repoison lg (maskOf [n]) 0 [(n, d)]
    | none => s

end Body

end Sys2Proof.Machine
end

