-- ==== Sys2Proof/Machine/Paths.lean ====
section
/-! DEFINITION. The reads and repairs of the tiers that come to an end (R98, R113, R171, R172), snapshots (R101, R120), the channels of
the Stockpot (R123 to R125, R135 to R146) and of the media (R153 to R156, R176, R177). -/

namespace Sys2Proof.Machine

namespace Body

/-! ## Reads of the media (R98, R157, R168 to R172) -/

/-- A codeword comes back for a miss register: bits corrected by the first decode, or by the retries. -/
def missRead (s : Body) (i : Nat) (first retried : Option Nat) : Body :=
  let retried := if s.get F.MTL_ASSIST_CFG_RETRY_MAX = 0 then none else retried
  match mget s.nc.mrs i with
  | none => s
  | some m =>
    if m.src != .media || m.fill.isSome || s.tier.noSlot.contains i then s
    else match s.lgOf m.line with
      | none => s
      | some lg =>
        let gran := granOf m.line
        let n := m.line % 64
        let ch := (s.place lg).ch
        let part := ((s.partAt (unitOf m.line)).map (·.id)).getD 0
        let good := fun (s : Body) (bits : Nat) =>
          let s := ((s.setMr i { m with fill := some (s.mediaLine lg gran n), at_ := some .media }).errRecord lg bits).sketchCount lg
          s.promoteRead lg gran part
        match first with
        | some b => good (s.eccCount ch first none) b
        | none =>
          if s.assists && !m.fell && !s.atRisk lg n then
            let s := (s.inc F.ASSIST_COUNT_RESCUED).setMr i { m with src := .assist }
            s.askTwin .rescue m.line ((m.accs.head?.map (·.pos)).getD s.nextPos) .miss
          else match retried with
            | some b => good (s.eccCount ch none retried) b
            | none =>
              let s := s.eccCount ch none none
              if s.twinServes && !m.fell then
                s.repairAsk m.line ((m.accs.head?.map (·.pos)).getD s.nextPos) (.mediaMiss i)
              else
                let s := (s.mediaPoison lg (maskOf (cwLines (n / 4)))).when m.fell (·.inc F.ASSIST_FAIL_POISONED)
                s.setMr i { m with fill := some (0, true), at_ := some .media }

/-- Both copies of a map codeword failed: its granules are repaired from the twin, or marked (R172). -/
def mapLost (s : Body) (lg : Nat) : Body :=
  s.forEach (s.mapMates lg) fun s l =>
    match s.granOfLg l with
    | none => s
    | some gran =>
      if s.twinServes then s.repairAsk (gran * 64) s.nextPos (.mapWord l)
      else ((s.mapPut l { s.mapGet l with poison := allBytes }).addWrap F.MTL_COUNT_2_POISON_SET 64).poisonMade U.mtl l

/-- Kind of a repair request (R223). -/
def askKind : AskFor → AssistKind
  | .cache | .sector | .miss | .scour _ => .lineRepair
  | _ => .granuleRepair

/-- A repair request leaves once the segment with the line's last earlier write has left (R113). -/
def repairSend (s : Body) (line : Nat) : Body :=
  match s.nc.repairs.find? (·.line == line) with
  | none => s
  | some r =>
    let whole := askKind r.ask == .granuleRepair
    if s.twin.queue.any fun q => (if whole then granOf q.line == granOf line else q.line == line) && q.pos.lt r.pos then s
    else
      let s := { s with nc := { s.nc with repairs := s.nc.repairs.erase r } }
      let addr := if whole then granOf line * 64 else line
      s.askTwin (askKind r.ask) addr r.pos r.ask

/-- A read with no open slot and no twin reaches its bound (R98). -/
def noTwinBound (s : Body) (i : Nat) : Body :=
  if !s.tier.noSlot.contains i then s
  else (if s.keepsMiss i then s else { s with tier := { s.tier with noSlot := s.tier.noSlot.erase i } }).missPoison i .media

/-- Reads that wait for a slot take the slots that are open now, oldest first (R98). -/
def slotsRetry (s : Body) : Body :=
  s.forEach s.tier.noSlot fun s i =>
    match (mget s.nc.mrs i).bind fun m => (s.lgOf m.line).map fun lg => (lg, m.line % 64) with
    | none => { s with tier := { s.tier with noSlot := s.tier.noSlot.erase i } }
    | some (lg, n) =>
      if s.readOpen lg n then ({ s with tier := { s.tier with noSlot := s.tier.noSlot.erase i } }).readTake lg n else s

/-! ## Snapshots (R101, R120) -/

/-- Whether a read of a line that the media holds, placed now, would be a planned assist (R95, R101). -/
def wouldAssist (s : Body) (lg line : Nat) : Bool :=
  let e := s.mapGet lg
  s.assists && e.mapped && !s.ruled (granOf line) e && !e.poison.getLsbD (line % 64) && s.atRisk lg (line % 64)

/-- Snapshot a line's placement in every tier (R101). -/
def xlateSnap (s : Body) (line : Nat) : Body :=
  let s := (s.setWord A.XLATE_RESULT_0 0).setWord A.XLATE_RESULT_1 0
  let s := (s.put F.XLATE_ECHO_LINE line).put F.XLATE_FRAME_FRAME s.frameNo
  match s.partOf line, s.lgOf line with
  | some p, some lg =>
    let e := s.mapGet lg
    let s := (s.put F.XLATE_RESULT_0_VALID 1).put F.XLATE_RESULT_0_PART p.id
    let s := match s.ncFind line with
      | some (_, w) => (s.put F.XLATE_RESULT_0_NC_PRESENT 1).putB F.XLATE_RESULT_0_NC_DIRTY w.dirty
      | none => s
    let s := s.putB F.XLATE_RESULT_0_IN_COLANDER (s.colFind line).isSome
    let s := match s.spFind (granOf line) with
      | some (_, _, b) =>
        let s := (s.put F.XLATE_RESULT_0_SP_PRESENT 1).putB F.XLATE_RESULT_0_SP_SECTOR_VALID (b.valid.getLsbD (line % 64))
        (s.putB F.XLATE_RESULT_0_SP_SECTOR_DIRTY (b.dirty.getLsbD (line % 64))).putB F.XLATE_RESULT_0_PINNED (s.pinnedPart b.part)
      | none => s
    let pl := s.place lg
    let s := (s.put F.XLATE_RESULT_0_MEDIA_CH pl.ch).put F.XLATE_RESULT_0_PKG (if e.mapped then e.pkg else pl.pos)
    let s := (s.put F.XLATE_RESULT_0_AGE_CLASS (s.ageClass e)).putB F.XLATE_RESULT_0_AT_RISK (s.wouldAssist lg line)
    let s := (s.put F.XLATE_RESULT_0_FILTER_COUNT (mgetD s.tier.filter (filterIx (granOf line)) 0)).put F.XLATE_RESULT_0_CHUNK (lg / 262144)
    (s.put F.XLATE_RESULT_1_PHYS_GRANULE e.slot).put F.XLATE_RESULT_1_WRITE_FRAME_LOW e.age
  | _, _ => s

/-- Snapshot a miss register (R120). -/
def mrSnap (s : Body) (i : Nat) : Body :=
  let s := ((s.setWord A.NC_MR_PEEK_0 0).setWord A.NC_MR_PEEK_1 0).put F.NC_MR_PEEK_0_ECHO i
  match mget s.nc.mrs i with
  | none => s
  | some m =>
    let src := match m.src with
      | .stockpot => 0 | .media => 1 | .assist => 2 | .repair => 3
    let s := ((s.put F.NC_MR_PEEK_0_VALID 1).put F.NC_MR_PEEK_0_FILL_SRC src).put F.NC_MR_PEEK_0_MERGED (m.accs.length - 1)
    let s := (s.putB F.NC_MR_PEEK_0_HAS_WRITE (m.accs.any (·.kind != .read))).putB F.NC_MR_PEEK_0_HAS_ATOMIC m.atomic
    let s := (s.putB F.NC_MR_PEEK_0_STALLING (s.nc.held.any (·.line == m.line))).put F.NC_MR_PEEK_0_FRAME_LOW m.frame
    s.put F.NC_MR_PEEK_1_LINE m.line

/-- Snapshot a Colander entry (R120); its CRC was checked good, or the entry carries its poison. -/
def colSnap (s : Body) (i : Nat) : Body :=
  let s := ((s.setWord A.NC_COL_PEEK_0 0).setWord A.NC_COL_PEEK_1 0).put F.NC_COL_PEEK_0_ECHO i
  match mget s.nc.col i with
  | none => s.forEach (List.range 8) fun s n => s.setWord (A.NC_COL_DATA n) 0
  | some e =>
    let s := ((s.put F.NC_COL_PEEK_0_VALID 1).putB F.NC_COL_PEEK_0_WRITING e.writing).putB F.NC_COL_PEEK_0_POISON e.poison
    let s := (s.put F.NC_COL_PEEK_0_CRC_OK 1).putB F.NC_COL_PEEK_0_FROZEN_CH (s.spFrozen (granOf e.line))
    let s := s.put F.NC_COL_PEEK_1_LINE e.line
    s.forEach (List.range 8) fun s n => s.setWord (A.NC_COL_DATA n) (BitVec.ofNat 64 (word8 e.data (8 * n)))

/-! ## The channel set and the layout (R124, R125) -/

/-- Stockpot channels of CHANNEL_MASK. -/
def spChans (s : Body) : List Nat := (List.range 12).filter (nbit s.cfg.img.fix.spMask)

/-- Layout of the channels for a set of `p` (R125), in MiB and groups. -/
def layout (s : Body) (p : Nat) : Nat × Nat × Nat :=
  let f := s.cfg.img.fix
  let sys := cdiv (s.mdChans.length * f.pkgPerCh * 32) (p * 16) * 16
  let rk := cdiv (f.ramekinGib * 1024) (p * 16) * 16
  (sys, rk, (f.dimmGib * 1024 - sys - rk) * 2 / 261)

/-- Fix the channel set (R124): the channels ON in CACHING mode; the others stay in BYPASS. -/
def channelSetFix (s : Body) : Body :=
  if s.sp.set.isSome || !s.boot.filled || s.spChans.any fun c => (s.spCh c).first && s.unit (U.sp c) == .starting then s
  else
    let d := s.spChans.filter fun c => s.isOn (U.sp c) && s.spMode c == .caching
    let (sys, rk, g) := s.layout d.length
    let s := { s with sp := { s.sp with set := some d } }
    let s := s.forEach (List.range 12) fun s c =>
      if d.contains c then
        ((s.put (F.SP_CH_LAYOUT_SYS_MIB c) sys).put (F.SP_CH_LAYOUT_RAMEKIN_MIB c) rk).put (F.SP_CH_LAYOUT_GROUPS c) g
      else s.put (F.SP_CH_STATUS_MODE c) 2
    (s.put F.SP_CAPACITY_BLOCK_MIB s.spMib).pinRegs

/-! ## Refresh (R135, R137), parity alerts and thaws (R141 to R143) -/

/-- A due refresh round is issued (R135). -/
def refreshRound (s : Body) (c : Nat) : Body :=
  if !s.isOn (U.sp c) || s.spMode c == .frozen then s
  else (s.inc (F.SP_CH_REF_REFRESH c)).setSpCh c { s.spCh c with refBank := ((s.spCh c).refBank + 1) % 4 }

/-- A row reaches NRR_THRESH (R137): its neighbour refresh is queued and its counter reset. -/
def nrrQueue (s : Body) (c bank row : Nat) : Body :=
  if !s.isOn (U.sp c) || s.spMode c == .frozen then s
  else
    let x := s.spCh c
    let l := (mgetD x.rows bank []).map fun (r : RowCount) => if r.row == row then { r with count := 0 } else r
    let s := s.setSpCh c { x with nrr := x.nrr ++ [(bank, row)], rows := if l.isEmpty then merase x.rows bank else mset x.rows bank l }
    s.put (F.SP_CH_STATUS_NRR_QUEUED c) (x.nrr.length + 1)

/-- Neighbour refreshes queued take the positions of a frame that refresh rounds leave (R135). -/
def nrrIssue (s : Body) : Body :=
  s.forEach (List.range 12) fun s c =>
    let x := s.spCh c
    if x.nrr.isEmpty || !s.isOn (U.sp c) || s.spMode c == .frozen then s
    else
      let n := min x.nrr.length (max 1 (s.periodNs / 250 - cdiv s.periodNs (if s.flag (F.SP_CH_STATUS_REF_2X c) then 487 else 975)))
      let s := (s.setSpCh c { x with nrr := x.nrr.drop n }).addWrap (F.SP_CH_REF_NEIGHBOUR c) n
      s.put (F.SP_CH_STATUS_NRR_QUEUED c) (x.nrr.length - n)

/-- A command/address parity alert (R141): the first is answered by a replay; a second within 1,024 commands freezes the channel. -/
def parityAlert (s : Body) (c since : Nat) : Body :=
  if !s.isOn (U.sp c) || s.spMode c == .frozen then s
  else if (s.spCh c).alerted && since ≤ 1024 then (s.setSpCh c { s.spCh c with alerted := false }).spFreeze c 1
  else s.setSpCh c { s.spCh c with alerted := true }

/-- A read held on a frozen channel for FREEZE_HOLD_US is answered with poison (R142). -/
def freezeHoldEnd (s : Body) (c i : Nat) : Body :=
  if !(s.spCh c).held.any (·.mr == i) then s
  else (if s.keepsMiss i then s else s.setSpCh c { s.spCh c with held := (s.spCh c).held.filter (·.mr != i) }).missPoison i .unfilled

/-- Every read held on a frozen channel is answered at once (R142, R196). -/
def freezeHoldAll (s : Body) : Body :=
  s.forEach (List.range 12) fun s c => s.forEach ((s.spCh c).held.map (·.mr)) fun s i => s.freezeHoldEnd c i

/-- Fill the miss registers that waited for a channel from what holds their lines now. -/
def heldRefill (s : Body) (c : Nat) : Body :=
  let l := (s.spCh c).held
  let s := s.setSpCh c { s.spCh c with held := [] }
  s.forEach l fun s h => match mget s.nc.mrs h.mr with
    | some m => s.missFind h.mr m ((m.accs.head?.map (·.pos)).getD s.nextPos) TierObs.clean
    | none => s

/-- A thaw ends (R143). -/
def thawEnd (s : Body) (c : Nat) (good : Bool) (us : Nat) : Body :=
  if !(s.spCh c).thawing then s
  else
    let s := (s.setSpCh c { s.spCh c with thawing := false }).put (F.SP_CH_TRAIN_DURATION_US c) us
    if good then
      ((s.put (F.SP_CH_STATUS_MODE c) 0).raise (U.sp c) (F.SP_CH_EVENTS_THAW_DONE c)).heldRefill c
    else s.raise (U.sp c) (F.SP_CH_EVENTS_THAW_FAILED c)

/-- Position of a channel in the set, with P (R124). -/
def spPos (s : Body) (c : Nat) : Nat × Nat := ((((s.sp.set.getD []).findIdx? (· == c)).getD 0), (s.sp.set.getD []).length)

/-- Firmware declares a frozen channel lost (R143, R174). -/
def declareLost (s : Body) (c : Nat) : Body :=
  let alone := s.role == .solo || (s.role == .active && !(s.linkUp && s.twinRole == .standby))
  let (d, p) := s.spPos c
  if s.spMode c != .frozen || !alone || !s.ruleRoom d p then s.raise (U.sp c) (F.SP_CH_EVENTS_LOST_REFUSED c)
  else
    let s := (s.ruleAdd d p s.frameNo).poisonMade (U.sp c) c
    let s := s.setSpCh c { s.spCh c with blocks := [], thawing := false }
    let s := { s with sp := { s.sp with wbs := s.sp.wbs.filter (·.ch != c) }, twin := { s.twin with resync := { s.twin.resync with tainted := true } } }
    let s := (s.put (F.SP_CH_STATUS_MODE c) 2).put (F.SP_CH_STATUS_LOST c) 1
    let s := ((s.put F.RESYNC_STATUS_BITMAP_VALID 0).postN (U.sp c) .declareLost).heldRefill c
    s.unitStop (U.sp c)

/-! ## Fill and scrub (R145, R146) -/

/-- GO of the fill engine (R145). -/
def fillGo (s : Body) (mask : Nat) : Body :=
  let first := s.get F.SP_FILL_START_UNIT
  let n := s.get F.SP_FILL_LEN_UNITS
  let chans := (List.range 12).filter (nbit mask)
  let c0 := (s.sp.set.getD []).headD 0
  let sysU := s.get (F.SP_CH_LAYOUT_SYS_MIB c0) / 16
  let rkU := s.get (F.SP_CH_LAYOUT_RAMEKIN_MIB c0) / 16
  let src := match chans with | [c] => U.sp c | _ => U.sp 0
  let bad := s.sp.fill.isSome || s.sp.set.isNone
    || chans.any (fun c => !(s.sp.set.getD []).contains c || !s.isOn (U.sp c) || s.spMode c != .caching)
    || first + n > sysU + rkU
    || (first < sysU && s.unit U.twin != .off) || (first + n > sysU && s.unit U.ramekin != .off)
  if bad then
    let s := if s.sp.fill.isSome then s else s.put F.SP_FILL_STATUS_STATE 3
    s.raise src F.SP_EVENTS_FILL_REFUSED mask
  else
    let s := { s with sp := { s.sp with fill := some ⟨first, n, s.word A.SP_FILL_PATTERN, mask⟩ } }
    (s.put F.SP_FILL_STATUS_STATE 1).put F.SP_FILL_STATUS_UNITS_DONE 0

/-- The fill ends (R145): its units are filled with the pattern. -/
def fillEnd (s : Body) : Body :=
  match s.sp.fill with
  | none => s
  | some f =>
    let chans := (List.range 12).filter (nbit f.mask)
    let set := s.sp.set.getD []
    let n := max 1 set.length
    let sysU := s.get (F.SP_CH_LAYOUT_SYS_MIB (set.headD 0)) / 16
    let hit := fun (r : Nat) => chans.contains (set.getD (r / 4096 % n) 99)
      && f.first ≤ sysU + r / (4096 * n) * 4096 / 2 ^ 24 && sysU + r / (4096 * n) * 4096 / 2 ^ 24 < f.first + f.units
    let s := { s with rk := { s.rk with words := s.rk.words.filter fun x => !hit (8 * x.1)
                                        poison := s.rk.poison.filter fun l => !hit (64 * l) } }
    let s := s.forEach chans fun s c =>
      let x := s.spCh c
      s.setSpCh c { x with
        filled := (range' f.first f.units).foldl insertNat x.filled
        pats := (f.first, f.units, f.pat) :: x.pats }
    let s := { s with sp := { s.sp with fill := none } }
    let s := (s.put F.SP_FILL_STATUS_STATE 2).put F.SP_FILL_STATUS_UNITS_DONE f.units
    s.raise (match chans with | [c] => U.sp c | _ => U.sp 0) F.SP_EVENTS_FILL_DONE f.mask

/-- GO of a scrub (R146). -/
def scrubGo (s : Body) : Body :=
  let c := s.get F.SP_SCRUB_CH_CH
  if s.sp.scrub.isSome || c ≥ 12 || !s.isOn (U.sp c) || s.spMode c == .frozen then
    let s := if s.sp.scrub.isSome then s else s.put F.SP_SCRUB_SUM_2_STATE 3
    s.raise (U.sp (c % 12)) F.SP_EVENTS_SCRUB_REFUSED c
  else
    let s := { s with sp := { s.sp with scrub := some (c, s.get F.SP_SCRUB_START_SPA * 64, s.get F.SP_SCRUB_LEN_BYTES * 64) } }
    s.put F.SP_SCRUB_SUM_2_STATE 1

/-- A sector of the data area by SPA: block key and sector. -/
def spaSector (s : Body) (c spa : Nat) : Nat × Nat :=
  let base := (s.get (F.SP_CH_LAYOUT_SYS_MIB c) + s.get (F.SP_CH_LAYOUT_RAMEKIN_MIB c)) * 2 ^ 20
  ((spa - base) / 4096, (spa - base) / 64 % 64)

/-- A scrub ends (R146): the bursts that ECC corrected, those it could not, and its duration. -/
def scrubEnd (s : Body) (fixed bad : List Nat) (us : Nat) : Body :=
  match s.sp.scrub with
  | none => s
  | some (c, lo, n) =>
    let mine := fun (spa : Nat) => lo ≤ spa && spa < lo + n
    let fixed := fixed.filter mine
    let bad := bad.filter mine
    let s := s.forEach fixed fun s spa => s.spEcc c spa .corrected
    let r := bad.foldl (fun (x : Body × Nat) spa =>
      let s := x.1.spEcc c spa .uncorrectable
      let (k, i) := s.spaSector c spa
      match mget (s.spCh c).blocks k with
      | none => (s, x.2)
      | some b =>
        let bit := maskOf [i]
        if !b.valid.getLsbD i then (s, x.2)
        else if !b.dirty.getLsbD i then
          (s.setBlock c k { b with valid := b.valid &&& ~~~bit, poison := b.poison &&& ~~~bit, data := merase b.data i }, x.2)
        else if s.twinServes then (s.repairAsk (b.granule * 64 + i) s.nextPos .sector, x.2)
        else ((s.setBlock c k { b with poison := b.poison ||| bit }).poisonMade (U.sp c) (b.granule * 64 + i), x.2 + 1)) (s, 0)
    let s := { r.1 with sp := { r.1.sp with scrub := none } }
    let held := ((s.spCh c).blocks.map fun b => ((List.range 64).filter fun i =>
      b.2.valid.getLsbD i && mine (s.spaOf c b.1 i)).length).foldl (· + ·) 0
    let areas := (s.get (F.SP_CH_LAYOUT_SYS_MIB c) + s.get (F.SP_CH_LAYOUT_RAMEKIN_MIB c)) * 2 ^ 20
    let filled := ((s.spCh c).filled.map fun u =>
      (min (lo + n) ((u + 1) * 2 ^ 24) - max lo (u * 2 ^ 24)) / 64).foldl (· + ·) 0
    let data := areas + s.get (F.SP_CH_LAYOUT_GROUPS c) * 128 * 2 ^ 20
    let inScope := (min (lo + n) data - lo) / 64
    let s := (s.put F.SP_SCRUB_SUM_0_CORRECTED fixed.length).put F.SP_SCRUB_SUM_0_UNCORRECTABLE bad.length
    let s := (s.put F.SP_SCRUB_SUM_1_FIRST_ERR_SPA (bad.headD 0)).put F.SP_SCRUB_SUM_1_POISONED r.2
    let s := ((s.put F.SP_SCRUB_SUM_2_STATE 2).put F.SP_SCRUB_SUM_2_SKIPPED (inScope - held - filled)).put F.SP_SCRUB_SUM_2_DURATION_US us
    s.raise (U.sp c) F.SP_EVENTS_SCRUB_DONE c

/-! ## Media channels (R153 to R156) -/

/-- Show what a channel's packages report (R183). -/
def mdRegs (s : Body) (c : Nat) : Body :=
  let x := s.mdCh c
  let bit := fun (p : Pkg → Bool) => b2n (((mget x.pkgs 0).map p).getD false) + 2 * b2n (((mget x.pkgs 1).map p).getD false)
  let s := (s.put (F.MD_STATUS_PKGS c) (bit fun _ => true)).put (F.MD_STATUS_WRITABLE c) (bit (·.writable))
  let tmp := fun (i : Nat) => unsgn 16 (((mget x.pkgs i).map Pkg.temp).getD 0)
  (s.put (F.MD_STATUS_TEMP_0 c) (tmp 0)).put (F.MD_STATUS_TEMP_1 c) (tmp 1)

/-- RETRAIN (R183): start step 5 again; new placements are held until the next tick. -/
def mdRetrain (s : Body) (c result us : Nat) : Body :=
  if !s.isOn (U.md c) then s
  else
    let s := (s.setMdCh c { s.mdCh c with hold := true }).put (F.MD_TRAIN_DURATION_US c) us
    let s := s.put (F.MD_TRAIN_RESULT c) result
    if result = 0 then s else s.raise (U.md c) (F.MD_EVENTS_TRAIN_FAIL c) result

/-- FORMAT (R156): only while the channel is OFF. -/
def mdFormat (s : Body) (c mask : Nat) : Body :=
  if s.unit (U.md c) != .off || !(s.mdCh c).formatting.isEmpty then s.raise (U.md c) (F.MD_EVENTS_FORMAT_REFUSED c) mask
  else
    let l := (List.range 2).filter (nbit mask)
    if l.isEmpty then s else (s.setMdCh c { s.mdCh c with formatting := l }).put (F.MD_STATUS_MODE c) 2

/-- A package is formatted (R156): every entry unmapped, every slot free with zero wear, a new label. -/
def mdFormatted (s : Body) (c pos gib : Nat) : Body :=
  let x := s.mdCh c
  if !x.formatting.contains pos then s
  else
    let seq := (x.labels.map (·.2.seq)).foldl max 0 + 1
    let lab : Label := ⟨seq, s.cfg.img.fix.domain, s.cfg.img.fix.member, c, pos, gib, s.frameNo⟩
    let left := x.formatting.erase pos
    let s := s.setMdCh c { x with formatting := left, labels := mset x.labels pos lab }
    let mine := fun (lg : Nat) => let p := s.place lg; p.ch == c && p.pos == pos
    let ix := pkgIx c pos
    let s := { s with mtl := { s.mtl with
      map := s.mtl.map.filter fun (e : Nat × MapEntry) => !mine e.1
      cache := s.mtl.cache.filter fun (e : Nat × CacheEntry) => !mine e.1
      slots := s.mtl.slots.filter fun (e : Nat × SlotRec) => e.1 / 2 ^ 29 != ix
      cells := s.mtl.cells.filter fun (e : Nat × Codeword) => e.1 / 2 ^ 33 != ix } }
    let s := { s with twin := { s.twin with resync := { s.twin.resync with tainted := true } } }
    let s := if left.isEmpty then s.put (F.MD_STATUS_MODE c) 0 else s
    s.raise (U.md c) (F.MD_EVENTS_FORMAT_DONE c) pos

/-! ## The Scourer (R176, R177) -/

/-- Channel-local index of a granule (R159). -/
def localIx (s : Body) (lg : Nat) : Nat :=
  let m := max 1 s.mdChans.length
  let u := max 1 s.cfg.img.fix.stripeUnit
  lg / (m * u) * u + lg % u

/-- Mapped granules of a channel. -/
def mappedOn (s : Body) (c : Nat) : List Nat :=
  let l := s.mtl.cache.map (·.1) ++ ((s.mtl.map.map (·.1)).filter fun lg => (mget s.mtl.cache lg).isNone)
  l.filter fun lg => (s.place lg).ch == c && (s.mapGet lg).mapped

/-- The next granule the Scourer visits on a channel: the mapped one of lowest local index from its position on. -/
def scourNext (s : Body) (c : Nat) : Option Nat :=
  let p := mgetD s.mtl.scPos c 0
  ((s.mappedOn c).filter fun lg => s.localIx lg ≥ p).foldl (fun b lg => match b with
    | none => some lg
    | some x => if s.localIx lg < s.localIx x then some lg else some x) (none : Option Nat)

/-- Seconds of a number of frames. -/
def framesSecs (s : Body) (n : Nat) : Nat := n * s.periodNs / 1000000000

/-- Report the lap (R177). -/
def scourRegs (s : Body) : Body :=
  let done := s.get F.SCOUR_POS_DONE
  let total := ((s.mdChans.map fun c => (s.mappedOn c).length)).foldl (· + ·) 0
  let el := s.framesSecs (s.frameNo - s.mtl.scStart)
  let proj := if done = 0 then el else min (el * total / done) (2 ^ 32 - 1)
  let s := (s.put F.SCOUR_PROJ_ELAPSED_S el).put F.SCOUR_PROJ_PROJECTED_S proj
  if proj > s.get F.SCOUR_CTL_TARGET_S && !s.flag F.MTL_EVENTS_SCOUR_BEHIND then s.raise U.scourer F.MTL_EVENTS_SCOUR_BEHIND proj else s

/-- A lap ends when every channel has reached its last granule; the next begins at once (R176, R177). -/
def lapEnd (s : Body) : Body :=
  if s.get F.SCOUR_POS_DONE = 0 || s.mdChans.any fun c => (s.scourNext c).isSome then s
  else
    let s := (s.inc F.SCOUR_LAP_LAPS).put F.SCOUR_LAP_LAST_LAP_S (s.framesSecs (s.frameNo - s.mtl.scStart))
    let s := { s with mtl := { s.mtl with scPos := [], scStart := s.frameNo } }
    (s.put F.SCOUR_POS_DONE 0).raise U.scourer F.MTL_EVENTS_LAP_DONE

/-- The Scourer visits a channel's next granule (R176): bits corrected in each of its 16 codewords. -/
def scourVisit (s : Body) (c : Nat) (bits : List (Option Nat)) : Body :=
  if !s.isOn U.scourer || !s.isOn (U.md c) then s
  else match s.scourNext c with
    | none => s.lapEnd
    | some lg =>
      let e := s.mapGet lg
      let got := fun (i : Nat) => (bits[i]?).getD (some 0)
      let lost := (List.range 16).filter fun i => (got i).isNone
      let top := ((List.range 16).map fun i => (got i).getD 0).foldl max 0
      let s := s.forEach (List.range 16) fun s i => s.eccCount c (got i) none
      let s := s.addSat F.SCOUR_FOUND_UNCORRECTABLE lost.length
      let before := s.opOn .refresh lg
      let s := s.errRecord lg top
      let s := if s.ageSecs e ≥ s.get F.MTL_DRIFT_CFG_REFRESH_AGE_S then s.refreshQueue lg else s
      let s := if !before && (s.ageSecs e ≥ s.get F.MTL_DRIFT_CFG_REFRESH_AGE_S || top ≥ min 30 (s.get F.MTL_DRIFT_CFG_REFRESH_ERR)) then
          s.inc F.SCOUR_FOUND_REFRESH_QUEUED else s
      let gran := (s.granOfLg lg).getD 0
      let m := maskOf (lost.flatMap cwLines)
      let s := if lost.isEmpty then s
        else if s.twinServes then s.repairAsk (gran * 64) s.nextPos (.scourCw lg m)
        else s.mediaPoison lg (m &&& ~~~e.poison)
      let s := if s.twinServes then s.forEach (bitsOf e.poison) fun s n => s.repairAsk (gran * 64 + n) s.nextPos (.scour lg) else s
      let w := (s.slot c e.pkg e.slot).wear
      let (free, _) := s.slotCount c e.pkg
      let total := ((s.pkg c e.pkg).map Pkg.slots).getD 0
      let s := match s.leastFree c e.pkg with
        | some n =>
          if s.flag F.MTL_WEAR_CFG_STATIC_EN && free * 100 ≥ total
              && w + s.get F.MTL_WEAR_CFG_WEAR_SPREAD < (s.slot c e.pkg n).wear && !s.opOn .static lg then s.opQueue .static lg 0 0 [] else s
        | none => s
      let s := { s with mtl := { s.mtl with scPos := mset s.mtl.scPos c (s.localIx lg + 1) } }
      ((s.inc F.SCOUR_POS_DONE).scourRegs).lapEnd

end Body

end Sys2Proof.Machine
end

