-- ==== Sys2Proof/Machine/Persist.lean ====
section
/-! DEFINITION. Persistence (chapter 8): admission queues, credits, commit points, the dirty budget and levels, the power-fail vault and
its replay. -/

namespace Sys2Proof.Machine

namespace Body

/-! ## Dirty data (R129, R182, R200) -/

/-- Sum of a list. -/
def sum (l : List Nat) : Nat := l.foldl (· + ·) 0

/-- Dirty lines of the near cache. -/
def ncDirty (s : Body) : Nat := (s.nc.ways.filter (·.2.dirty)).length
/-- Blocks with DIRTY sectors: channel, key, block. -/
def dirtyBlocks (s : Body) : List (Nat × Nat × SpBlock) :=
  s.sp.ch.flatMap fun c => (c.2.blocks.filter (·.2.dirty != 0)).map fun b => (c.1, b.1, b.2)
/-- DIRTY sectors. -/
def dirtySectors (s : Body) : Nat := sum (s.dirtyBlocks.map fun b => (bitsOf b.2.2.dirty).length)
/-- The dirty fill in bytes (R129). -/
def dirtyFill (s : Body) : Nat := 64 * (s.ncDirty + s.nc.col.length + s.dirtySectors)
/-- B in bytes. -/
def budget (s : Body) : Nat := s.get F.BUDGET_APPLIED_GIB * 2 ^ 30

/-- VAULT_NEED in granules (R182). -/
def vaultNeed (s : Body) : Nat :=
  let b := s.dirtyBlocks
  let m := s.dirtyMap.length
  let items := s.ncDirty + s.nc.col.length + s.dirtySectors + m
  let entries := s.ncDirty + s.nc.col.length + b.length + (b.filter fun x => x.2.2.poison &&& x.2.2.dirty != 0).length + m
  16 + cdiv (64 * items) 4096 + cdiv (16 * entries) 4096

/-- Packages in service, on channels that are ON, and writable (R200). -/
def writablePkgs (s : Body) : Nat :=
  sum (s.mdChans.map fun c => if s.isOn (U.md c) then ((s.mdCh c).pkgs.filter fun p => p.2.inService && p.2.writable).length else 0)

/-- VAULT_CAP in granules (R182): the vault spreads over every package alike (R178). -/
def vaultCap (s : Body) : Nat :=
  let all := s.mdChans.length * s.cfg.img.fix.pkgPerCh
  if all = 0 then 0 else s.cfg.img.fix.vaultGib * 262144 * s.writablePkgs / all

/-- The dirty budget of this tick (R64, R200, R201). -/
def budgetTick (s : Body) : Body :=
  let d := ((List.range 12).filter fun c => s.isOn (U.sp c)).length
  let n := s.writablePkgs
  let e := s.cfg.img.qui.holdupMj
  let p := 150 + 15 * d + 5 * n
  let derived := if e ≤ 40000 || n = 0 then 0 else (e - 40000) * 1250000 * n / p / 2 ^ 30
  let cap := s.cfg.img.qui.budgetCap
  let vcap := s.cfg.img.fix.vaultGib - 2
  let caps : List (Nat × Nat) := [(derived, 0)] ++ (if cap = 0 then [] else [(cap, 1)]) ++ [(vcap, 2), (256, 3)]
  let best := caps.foldl (fun (b : Nat × Nat) c => if c.1 < b.1 then c else b) (derived, 0)
  let s := ((s.put F.FLUSH_PARAM_P_FLUSH_W p).put F.FLUSH_PARAM_BW_FLUSH (n * 25 / 2)).put F.FLUSH_PARAM_E_HOLDUP_MJ e
  ((s.put F.BUDGET_DERIVED_GIB derived).put F.BUDGET_APPLIED_GIB best.1).put F.BUDGET_CAP_SRC best.2

/-- HIGH in eighths of B: a value at or below LOW_EIGHTHS acts as LOW_EIGHTHS + 1 (R149). -/
def highEighths (s : Body) : Nat := max (s.get F.SP_CFG_LOW_EIGHTHS + 1) (s.get F.SP_CFG_HIGH_EIGHTHS)

/-- The dirty level of a fill (R129). -/
def levelOf (s : Body) (fill : Nat) : Nat :=
  let lo := s.get F.SP_CFG_LOW_EIGHTHS
  let hi := s.highEighths
  let b := s.budget
  if fill ≥ b then 3 else if fill * 8 ≥ hi * b then 2 else if fill * 8 ≥ lo * b then 1 else 0

/-- The dirty level of this tick (R129). -/
def levelTick (s : Body) : Body :=
  let fill := s.dirtyFill
  let s := (s.put F.SP_DIRTY_BUDGET_MIB (s.budget / 2 ^ 20)).put F.SP_DIRTY_FILL_MIB (cdiv fill (2 ^ 20))
  let lvl := s.levelOf fill
  let s := s.putB F.SP_DIRTY_STATE_WB_HALTED (!s.windowOpen)
  if lvl = s.dirtyLevel then s else (s.put F.SP_DIRTY_STATE_LEVEL lvl).raise (U.sp 0) F.SP_EVENTS_LEVEL_CHANGE lvl

/-- Level that admission takes: the higher of the twin's and its own while the twin is STANDBY to this ACTIVE (R228). -/
def admitLevel (s : Body) : Nat :=
  if s.role == .active && s.linkUp && s.twinRole == .standby then max s.dirtyLevel s.twin.hb.level else s.dirtyLevel

/-- The vault-limit signal of this tick (R182). -/
def vaultTick (s : Body) : Body :=
  let need := s.vaultNeed
  let cap := s.vaultCap
  let s := { s with mtl := { s.mtl with vNeed := need } }
  let s := (s.put F.VAULT_CAP_CAP_MIB (cap / 256)).put F.VAULT_CAP_NEED_MIB (cdiv need 256)
  let lim : Bool := need ≥ cap && s.isOn U.mtl
  let was := s.flag F.MTL_STATUS_VAULT_LIMIT
  let s := s.putB F.MTL_STATUS_VAULT_LIMIT lim
  if lim && !was then s.raise U.mtl F.MTL_EVENTS_VAULT_LIMIT need else s

/-- Write-back starts at a tick (R129 to R131): CALM, blocks not written for WB_AGE; RISING, every dirty block, oldest first, at its
share of the places; HIGH and FULL, and at the vault limit, in every place. -/
def wbTick (s : Body) : Body :=
  if !s.flag F.SP_CFG_WB_EN || s.flag F.SP_DIRTY_STATE_WB_HALTED || s.per.pf != .idle || !s.isOn U.mtl then s
  else
    let lvl := if s.flag F.MTL_STATUS_VAULT_LIMIT then max 2 s.dirtyLevel else s.dirtyLevel
    let free := 600 - s.inFlight (fun _ => true)
    let b := s.budget
    let lo := s.get F.SP_CFG_LOW_EIGHTHS * b / 8
    let hi := max (lo + 1) (s.highEighths * b / 8)
    let share := if lvl = 1 then free / 8 + free * 7 / 8 * (s.dirtyFill - lo) / (hi - lo) else free
    let leaves := fun (ch : Nat) => s.unit (U.sp ch) == .stopping
    let ready := s.dirtyBlocks.filter fun x =>
      (s.isOn (U.sp x.1) || leaves x.1) && s.spMode x.1 == .caching && !s.sp.wbs.any (·.gran == x.2.2.granule)
    let old := if lvl = 0 then ready.filter fun x => leaves x.1 || s.frameNo ≥ x.2.2.frame + s.get F.SP_CFG_WB_AGE_KF * 1024 else ready
    let pick := (sortBy (fun (x : Nat × Nat × SpBlock) => x.2.2.frame) old).take (cdiv share 16)
    s.forEach pick fun s x => s.wbStart x.1 x.2.1

/-! ## Stop causes and credits (R190, R191) -/

/-- Whether the persistence unit admits (R209): once it has left ON the Unit cause stands, from the next tick as every cause (R191). -/
def persistAdmits (s : Body) : Bool := s.isOn U.persist

/-- Stop causes of R191, one bit each. -/
def stopCauses (s : Body) : Nat :=
  let c := [s.admitLevel == 3, s.flag F.MTL_STATUS_VAULT_LIMIT, s.mtl.vNeed * 4096 * 5 > 6 * s.budget, s.changeState == 3,
            s.per.pf != .idle && s.per.pf != .detected, s.flag F.PERSIST_CTL_ADMIT_HOLD, s.per.hold, !s.holds, s.twin.lease.stopRead,
            !s.persistAdmits]
  sum ((c.zip (List.range 10)).map fun p => if p.1 then 2 ^ p.2 else 0)

/-- Under these causes a flush is held as well: Power fail, Role, Lease end, Unit (R187). -/
def flushStop (n : Nat) : Bool := nbit n 4 || nbit n 7 || nbit n 8 || nbit n 9

/-- C_link of this frame (R190). -/
def cLink (s : Body) : Nat :=
  (if s.linkUp && s.twin.link.onFall then 50 else 200) * s.periodNs / 64

/-- Eighths of the write-credit fraction of a Simmer level (R424). -/
def simmerEighths (lvl : Nat) : Nat := 8 - min 7 lvl

/-- C_drain: sectors cleaned per frame over the last 64 frames, no more than the twin's (R190, R228). -/
def cDrain (s : Body) : Nat :=
  let own := sum (s.per.drains.take 64) / 64
  if s.role == .active && s.linkUp && s.twinRole == .standby then min own s.twin.hb.drain else own

/-- What the ended frame took and cleaned is noted (R190). -/
def creditRoll (s : Body) : Body :=
  let used := s.per.used
  let s := { s with per := { s.per with used := 0, drains := (s.per.cleaned :: s.per.drains).take 64, cleaned := 0 } }
  s.put F.CREDIT_NOW_USED used

/-- The grant that the terms, the stop causes and the cut level give (R190, R191): formed at a tick, and again by every command that
takes place at a tick and changes one of them. -/
def grantSet (s : Body) : Body :=
  let old := s.get F.PERSIST_STATUS_STOP_CAUSE
  let causes := s.stopCauses
  let link := s.cLink
  let drain := s.cDrain
  let level := if s.admitLevel < 2 then link else max drain (s.get F.CREDIT_CFG_FLOOR_SIXTEENTHS * link / 16)
  let simmer := link * simmerEighths s.th.planLevel / 8
  let k := s.get F.FRAME_OVR_STATUS_LEVEL
  let raw := if s.flag F.PERSIST_CTL_CREDIT_OVR_EN then s.get F.CREDIT_CFG_CREDIT_OVR else min link (min level simmer)
  let g := if causes = 0 then raw / 2 ^ k else 0
  let s := (s.put F.CREDIT_NOW_GRANT g).put F.CREDIT_NOW_C_LINK link
  let s := ((s.put F.CREDIT_NOW_C_LEVEL level).put F.CREDIT_IN_C_SIMMER simmer).put F.CREDIT_IN_C_DRAIN drain
  let s := (s.put F.CREDIT_IN_CUT_LEVEL k).put F.PERSIST_STATUS_STOP_CAUSE causes
  let s := s.put F.PERSIST_STATUS_ADMIT (if causes != 0 then 2 else if g = link then 0 else 1)
  let s := if causes &&& (causes ^^^ old) != 0 then s.raise U.persist F.PERSIST_EVENTS_ADMIT_STOPPED causes else s
  if causes = 0 && old != 0 then s.raise U.persist F.PERSIST_EVENTS_ADMIT_RESUMED else s

/-- The grant of the new frame (R190, R191). -/
def creditTick (s : Body) : Body := s.creditRoll.grantSet

/-! ## Split log and bitmap (R235) -/

/-- Entries the split log holds (R235). -/
def splitMax : Nat := 262144

/-- Show the split log and the bitmap. -/
def splitRegs (s : Body) : Body :=
  let r := s.twin.resync
  let marked := r.bitmap.length
  ((s.put F.SPLIT_LOG_ENTRIES r.log.length).put F.RESYNC_STATUS_REMAINING marked).putB F.SPLIT_LOG_OVERFLOWED (r.marking && !r.log.isEmpty)

/-- Mark a granule in the bitmap. -/
def bitMark (s : Body) (lg : Nat) : Body :=
  { s with twin := { s.twin with resync := { s.twin.resync with bitmap := insertNat s.twin.resync.bitmap lg } } }

/-- Record the granule of a write at its admission (R235). -/
def splitRecord (s : Body) (line : Nat) : Body :=
  match s.lgOf line with
  | none => s
  | some lg =>
    let r := s.twin.resync
    if r.marking then s.bitMark lg
    else if r.log.length < splitMax then
      { s with twin := { s.twin with resync := { r with log := (lg, s.frameNo) :: r.log } } }
    else
      let s := { s with twin := { s.twin with resync := { r with marking := true } } }
      ((s.bitMark lg).splitRegs).raise U.twin F.TWIN_EVENTS_LOG_OVERFLOW

/-! ## Admission (R17, R187, R190, R192) -/

/-- The batch of the current frame. -/
def batchMod (s : Body) (f : Batch → Batch) : Body :=
  { s with per := { s.per with batches := s.per.batches.map fun b => if b.frame = s.frameNo then f b else b } }

/-- Bound of an admission queue in lines (R192). -/
def qBound (n : Nat) : Nat := if n < 16 then 4096 else 16384
/-- An admission queue. -/
def aq (s : Body) (n : Nat) : List QWrite := mgetD s.per.queues n []
/-- Replace an admission queue. -/
def setAq (s : Body) (n : Nat) (l : List QWrite) : Body :=
  ({ s with per := { s.per with queues := if l.isEmpty then merase s.per.queues n else mset s.per.queues n l } }).put (F.ADMIT_Q_FILL n) l.length

/-- The line of an atomic is present and free for it (R463). -/
def present (s : Body) (line : Nat) : Bool :=
  ((s.ncFind line).isSome || (s.colFind line).isSome) && !s.nc.held.any (·.line == line) && !s.repairing line

/-- Admit one line: it takes a credit, is ordered and goes to the mirror (R17, R90, R187). -/
def admitOne (s : Body) (w : QWrite) : Body :=
  let s := { s with per := { s.per with used := s.per.used + 1 } }
  let s := (s.batchMod fun b => { b with writes := b.writes + 1 }).splitRecord w.line
  (s.order w.req w.line w.kind w.cls TierObs.clean).later (.admitted w.req w.line)

/-- The queue that weighted round robin serves next (R192). -/
def rrNext (s : Body) : Option (Nat × Nat) :=
  if s.per.rrLeft > 0 && !(s.aq s.per.rr).isEmpty then some (s.per.rr, s.per.rrLeft - 1)
  else ((range' (s.per.rr + 1) 24).map (· % 24)).find? (fun n => !(s.aq n).isEmpty) |>.map fun n => (n, max 1 (s.get (F.ADMIT_Q_WEIGHT n)) - 1)

/-- Admit queued writes while the phase and the grant allow (R17, R190, R192): under a stop cause the grant of the frame is zero (R191). An atomic whose line has gone is fetched again (R463). -/
def admitRun : Nat → Body → Body
  | 0, s => s
  | n + 1, s =>
    if s.frame.sealing || s.per.used ≥ s.get F.CREDIT_NOW_GRANT then s
    else match s.rrNext with
      | none => s
      | some (q, left) =>
        match s.aq q with
        | [] => s
        | w :: r =>
          let s := { s with per := { s.per with rr := q, rrLeft := left } }
          let s := s.setAq q r
          match w.kind with
          | .atomic _ _ _ _ => if s.present w.line then admitRun n (s.admitOne w) else admitRun n (s.later (.refetch w.req))
          | _ => admitRun n (s.admitOne w)

/-- Lines queued. -/
def queued (s : Body) : Nat := sum (s.per.queues.map fun q => q.2.length)

/-- Admit what may be admitted now. -/
def admitAll (s : Body) : Body := admitRun (s.queued + 1) s

/-- Present writes to an admission queue, in order (R192). -/
def presentW (s : Body) (n : Nat) (l : List QWrite) : Body := (s.setAq n (s.aq n ++ l)).admitAll

/-- Attach a flush to the batch of the current frame (R188). -/
def flushIn (s : Body) (w : AckWaiter) : Body := s.batchMod fun b => { b with waiters := b.waiters ++ [w] }

/-- A flush is presented (R17, R187). -/
def flushPresent (s : Body) (w : AckWaiter) : Body :=
  if flushStop s.stopCauses then { s with per := { s.per with flushes := s.per.flushes ++ [w] } }
  else if s.frame.sealing then { s with per := { s.per with sealHeld := s.per.sealHeld ++ [w] } }
  else s.flushIn w

/-- Flushes that wait for the tick (R17, R187). -/
def flushTick (s : Body) : Body :=
  let a := s.per.sealHeld
  let b := s.per.flushes
  let s := { s with per := { s.per with sealHeld := [], flushes := [] } }
  (s.forEach b flushPresent).forEach a flushPresent

/-- Queue bounds at the end of a frame (R210). -/
def queuesTick (s : Body) : Body :=
  s.forEach (s.per.queues.map fun q => (q.1, q.2.length)) fun s q => if q.2 ≥ qBound q.1 then s.inc (F.ADMIT_Q_FULL_FRAMES q.1) else s

/-! ## Commit points (R31, R188, R189) -/

/-- Declare commit points in ascending frame order while the batch is two frames old and acknowledged, or needs no acknowledgement; their
persistence acknowledgements go out. One that a takeover brings late is posted here (R210). -/
def commitRun (s : Body) : Body :=
  let ready := s.per.batches.takeWhile fun b => b.frame + 2 ≤ s.frameNo && (b.acked || !b.needs)
  let s := s.forEach ready fun s b =>
    let s := s.put F.COMMIT_FRAME_FRAME b.frame
    let s := if s.frameNo > b.frame + 2 && !b.late then s.raise U.persist F.PERSIST_EVENTS_COMMIT_LATE b.frame else s
    let s := if s.frameNo > b.frame + 2 then s.addWrap F.ACK_LAG_LATE b.waiters.length else s
    s.forEach b.waiters fun s w => s.later (.persisted w)
  let rest := s.per.batches.drop ready.length
  let s := { s with per := { s.per with batches := rest } }
  let s := s.put F.ACK_LAG_UNCOMMITTED (min rest.length 65535)
  s.putB F.PERSIST_STATUS_COMMIT_WAIT (rest.any fun b => b.frame + 2 ≤ s.frameNo)

/-- The tick's commit point, the batch of the new frame, and commit points that have become late (R31, R189). -/
def commitTick (s : Body) : Body :=
  let s := s.commitRun
  let late := s.per.batches.filter fun b => b.frame + 2 ≤ s.frameNo && !b.late
  let s := s.forEach late fun s b => s.raise U.persist F.PERSIST_EVENTS_COMMIT_LATE b.frame
  let s := { s with per := { s.per with batches := s.per.batches.map fun (b : Batch) => { b with late := b.late || b.frame + 2 ≤ s.frameNo } } }
  let s := s.putB F.PERSIST_STATUS_SOLO_DURABLE (s.role == Role.solo)
  if s.holds && s.isOn U.persist && !s.per.batches.any (·.frame == s.frameNo) then
    let s := { s with per := { s.per with batches := s.per.batches ++ [Batch.mk s.frameNo false (s.role == Role.active) false 0 []] } }
    s.put F.ACK_LAG_UNCOMMITTED (min s.per.batches.length 65535)
  else s

/-! ## Power fail (R202 to R205) -/

/-- A power fail, or another power-down while the persistence unit is ON, is detected in frame P (R202, R203). -/
def pfBegin (s : Body) (source : Nat) : Body :=
  if s.per.pf != .idle || !s.isOn U.persist then s
  else
    let s := { s with per := { s.per with pf := .detected, pfFrame := s.frameNo } }
    (s.put F.PFAIL_STATUS_SOURCE source).put F.PFAIL_STATUS_DETECT_FRAME s.frameNo

/-- The items of the vault in their order (R180). -/
def vaultItems (s : Body) : List VaultItem :=
  ((s.nc.ways.filter (·.2.dirty)).map fun w => VaultItem.line w.2.line w.2.data w.2.poison)
  ++ (s.nc.col.map fun e => VaultItem.line e.2.line e.2.data e.2.poison)
  ++ ((s.dirtyBlocks.filter fun b => s.spMode b.1 != .frozen).map fun b =>
      VaultItem.block b.2.2.granule b.2.2.dirty (b.2.2.poison &&& b.2.2.dirty) (b.2.2.data.filter fun p => b.2.2.dirty.getLsbD p.1))
  ++ (s.dirtyMap.map fun m => VaultItem.map m.1 m.2.ent)

/-- Lines an item takes in the stream. -/
def itemSize : VaultItem → Nat
  | .block _ d _ _ => (bitsOf d).length
  | _ => 1

/-- Entries of the manifest before END entries fill its last granule (R180). -/
def manifest (l : List VaultItem) : Nat :=
  sum (l.map fun i => match i with
    | .block _ _ p _ => if p == 0 then 1 else 2
    | _ => 1)

/-- Items that fit in `room` lines. -/
def itemsFit : Nat → List VaultItem → List VaultItem × Nat
  | _, [] => ([], 0)
  | room, i :: r =>
    if itemSize i ≤ room then
      let x := itemsFit (room - itemSize i) r
      (i :: x.1, x.2)
    else ([], sum ((i :: r).map itemSize))

/-- Show the vault header in force (R184). -/
def vaultRegs (s : Body) : Body :=
  let h := s.mtl.hdr
  let s := ((s.put F.VAULT_HDR_STATE h.state).put F.VAULT_HDR_SEQ_LOW h.seq).put F.VAULT_FRAME_STOP_FRAME h.stop
  ((s.put F.VAULT_SAVE_ENTRIES h.entries).put F.VAULT_SAVE_UNSAVED h.unsaved).put F.VAULT_SKIP_PKGS h.skipped

/-- Write the vault header (R179): SEQUENCE goes up by one. -/
def vaultHdr (s : Body) (h : VaultHdr) : Body := ({ s with mtl := { s.mtl with hdr := { h with seq := s.mtl.hdr.seq + 1 } } }).vaultRegs

/-- Packages that the writer skips (R181), bit 2 × channel + position. -/
def skipMask (s : Body) : Nat :=
  sum ((s.mdChans.flatMap fun c => (List.range s.cfg.img.fix.pkgPerCh).map fun p => (c, p)).map fun x =>
    if s.pkgWritable x.1 x.2 then 0 else 2 ^ (2 * x.1 + x.2))

/-- Whether a miss register holds written bytes that have not been installed (R147, R204). -/
def writesHeld (s : Body) : Bool := s.nc.mrs.any fun m => m.2.accs.any (·.kind != .read)

/-- The vault writer (R181, R204 step 4): header WRITING, then the items and the manifest. -/
def vaultWrite (s : Body) : Body :=
  if s.per.pf != .committed || s.writesHeld then s
  else
    let frozen := sum (((List.range 12).filter fun c => s.spMode c == .frozen && s.isOn (U.sp c)).map fun c => 2 ^ c)
    let room := (s.vaultCap - 16 - cdiv (manifest s.vaultItems) 256) * 64
    let (fit, lost) := itemsFit room s.vaultItems
    let h : VaultHdr := { state := 1, role := s.twin.lease.epoch.role, unread := frozen, stop := s.per.pfFrame + 1,
                          commit := s.get F.COMMIT_FRAME_FRAME, dataGr := cdiv (sum (fit.map itemSize)) 64, entries := max 1 (cdiv (manifest fit) 256) * 256,
                          unsaved := lost, skipped := s.skipMask, set := s.sp.set.getD [] }
    let s := { s with mtl := { s.mtl with vault := fit }, per := { s.per with pf := .vaulting } }
    s.vaultHdr h

/-- The power-fail record (R396). -/
def pfRecord (s : Body) (flushed : Bool) : Body :=
  let src := s.get F.PFAIL_STATUS_SOURCE
  let us := s.get F.PFAIL_TIME_VAULT_US
  let tot := s.get F.PFAIL_TIME_TOTAL_US
  s.recWrite .powerFail 0x40 [BitVec.ofNat 64 s.per.pfFrame, BitVec.ofNat 64 (src + b2n flushed * 256 + us % 2 ^ 32 * 2 ^ 16 + tot % 2 ^ 16 * 2 ^ 48),
    BitVec.ofNat 64 (tot / 2 ^ 16 % 2 ^ 16), 0, 0, 0] 0

/-- The vault is sealed (R181, R204 step 5): the power-fail record is written and the Spike's flush begins. -/
def vaultSealed (s : Body) (vaultUs : Nat) : Body :=
  if s.per.pf != .vaulting then s
  else
    let s := (s.vaultHdr { s.mtl.hdr with state := 2 }).put F.PFAIL_TIME_VAULT_US vaultUs
    let s := { s with per := { s.per with pf := .sealed } }
    let s := (s.pfRecord false).raise U.persist F.PERSIST_EVENTS_PFAIL
    s.spkFlush true

/-! ## Replay (R206 to R208) -/

/-- Service is held (R206, R208). -/
def vaultIncomplete (s : Body) (state : Nat) : Body :=
  let s := { s with per := { s.per with hold := true } }
  ((s.put F.PERSIST_STATUS_VAULT_INCOMPLETE 1).put F.REPLAY_STATUS_STATE state).raise U.persist F.PERSIST_EVENTS_VAULT_INCOMPLETE state

/-- Replay one item (R207): a line item replaces the line of a block item. -/
def replayItem (s : Body) : VaultItem → Body
  | .map lg e => s.mapPut lg e
  | .block g d p data => match s.lgOf (g * 64) with
    | some lg => s.opQueue .replay lg d p data
    | none => s
  | .line l d p => match s.lgOf l with
    | some lg => s.opQueue .replay lg (maskOf [l % 64]) (if p then maskOf [l % 64] else 0) [(l % 64, d)]
    | none => s

/-- Replay order: MAP, BLOCK, LINE (R207). -/
def itemRank : VaultItem → Nat
  | .map _ _ => 0
  | .block _ _ _ _ => 1
  | .line _ _ _ => 2

/-- The MTL reads the vault header in force before the persistence unit starts (R206); a header that a flush wrote shows that the last
power-down ran it (R210). -/
def replayStart (s : Body) : Body :=
  let h := s.mtl.hdr
  let s := { s.vaultRegs with per := { s.per with hdrRead := true } }
  let s := if h.state = 1 || h.state = 2 then s.put F.PERSIST_EVENTS_PFAIL 1 else s
  if h.state = 0 || h.state = 3 then s.put F.REPLAY_STATUS_STATE 0
  else if h.state = 1 then s.vaultIncomplete 4
  else
    let readable := s.mdChans.all fun c => s.isOn (U.md c) || (List.range s.cfg.img.fix.pkgPerCh).all fun p => nbit h.skipped (2 * c + p)
    let rules := (List.range 12).filter fun c => nbit h.unread c && h.set.contains c
    let pos := fun (c : Nat) => ((h.set.findIdx? (· == c)).getD 0)
    let r := rules.foldl (fun (x : Body × Bool) c =>
      if x.1.ruleRoom (pos c) h.set.length then
        ((x.1.ruleAdd (pos c) h.set.length h.stop).poisonMade (U.sp c) c, x.2)
      else (x.1, true)) (s, false)
    let s := r.1
    let items := [0, 1, 2].flatMap fun k => s.mtl.vault.filter fun i => itemRank i == k
    let s := s.forEach items replayItem
    let s := { s with per := { s.per with replaying := true } }
    let s := (s.put F.REPLAY_STATUS_ITEMS (min (sum (items.map itemSize)) (2 ^ 32 - 1))).put F.REPLAY_STATUS_STATE (if s.windowOpen then 1 else 5)
    if h.unsaved != 0 || !readable || r.2 then s.vaultIncomplete 3 else s

/-- Every replay program has passed (R207): the header is written REPLAYED, unless service is held. -/
def replayDone (s : Body) : Body :=
  if !s.per.replaying || s.mtl.ops.any (·.kind == .replay) then s
  else
    let s := { s with per := { s.per with replaying := false } }
    if s.per.hold then s
    else ((s.vaultHdr { s.mtl.hdr with state := 3 }).put F.REPLAY_STATUS_STATE 2).raise U.persist F.PERSIST_EVENTS_REPLAY_DONE

/-- The hold of R208 ends: the header is written REPLAYED. -/
def holdEnd (s : Body) : Body :=
  if !s.per.hold then s
  else
    let s := { s with per := { s.per with hold := false } }
    ((s.vaultHdr { s.mtl.hdr with state := 3 }).put F.PERSIST_STATUS_VAULT_INCOMPLETE 0).later .ports

/-- ACCEPT_LOSS (R208). -/
def acceptLoss (s : Body) : Body :=
  if !s.per.hold then s else ((s.holdEnd).raise U.persist F.PERSIST_EVENTS_LOSS_ACCEPTED).later .lossAccepted

/-- Whether replay is over (R432): the vault header has been read and nothing is being replayed. -/
def replayOver (s : Body) : Bool :=
  s.per.hdrRead && s.get F.REPLAY_STATUS_STATE != 1 && s.get F.REPLAY_STATUS_STATE != 5

/-- Whether the persistence unit's start steps are complete (R209). -/
def persistReady (s : Body) : Bool :=
  s.syncState != .unset && s.isOn U.mtl && s.per.hdrRead && !s.per.replaying && !s.per.hold

end Body

end Sys2Proof.Machine
end

