-- ==== Sys2Proof/Machine/Twin.lean ====
section
/-! DEFINITION. The twin unit (chapter 9): roles, leases and the Trivet, the twin link and its messages, mirror batches, heartbeats,
takeover, resync, pairing, and service as a witness Trivet. -/

namespace Sys2Proof.Machine

namespace Body

/-! ## Small updates -/

/-- Change the link part of the twin unit. -/
def linkMod (s : Body) (f : TwinLink → TwinLink) : Body := { s with twin := { s.twin with link := f s.twin.link } }
/-- Change the lease part of the twin unit. -/
def leaseMod (s : Body) (f : LeaseSt → LeaseSt) : Body := { s with twin := { s.twin with lease := f s.twin.lease } }
/-- Change the resync part of the twin unit. -/
def resyncMod (s : Body) (f : ResyncSt → ResyncSt) : Body := { s with twin := { s.twin with resync := f s.twin.resync } }

/-- The controller has no twin: TWIN_MEMBER_ID is 0xFFFF, or no lane group is fitted (R62, R241). -/
def noTwin (s : Body) : Bool := s.cfg.img.fix2.twinMember == 0xFFFF
/-- LEASE_EPOCH known (R241). -/
def epochNow (s : Body) : Nat := s.get F.TWIN_LEASE_EPOCH
/-- Frame of the last batch admitted (R239). -/
def lastAdmitted (s : Body) : Nat :=
  match s.per.batches.getLast? with
  | some b => b.frame
  | none => s.get F.COMMIT_FRAME_FRAME
/-- Domain time within the current frame, `sub` 1/16 ns after its tick, in 1/16 ns (R230). -/
def timeAt (s : Body) (sub : Nat) : Nat := s.time.tai * 16 + sub

/-! ## Epoch records and roles (R211, R212, R239) -/

/-- Write the epoch record with a role, in two copies (R239, R395). -/
def epochWrite (s : Body) (o : RackOrder) (role : Role) (clean : Bool) : Body :=
  let e : EpochRec :=
    { seq := s.twin.lease.epoch.seq + 1, epoch := s.epochNow, twin := s.cfg.img.fix2.twinMember, role := roleCode role
      flags := b2n clean + 2 * s.get F.RESYNC_STATUS_BITMAP_VALID + 4 * b2n s.twin.resync.tainted
      split := s.get F.SPLIT_INFO_SPLIT_FRAME, commit := s.get F.COMMIT_FRAME_FRAME, admitted := s.lastAdmitted
      hash := s.cfg.img.shared.toNat }
  let s := s.leaseMod fun l => { l with epoch := e }
  let w := fun (n : Nat) => (BitVec.ofNat 64 n : Word)
  s.recWrite o 0 [w e.epoch, w (e.twin % 2 ^ 16 + e.role * 2 ^ 16 + e.flags * 2 ^ 24), w e.split, w e.commit, w e.admitted, w e.hash] 0

/-- The lease and everything that goes with a role of a holder ends. -/
def roleDrop (s : Body) : Body :=
  let s := s.leaseMod fun l => { l with stopRead := false, handoff := false }
  let s := { s with per := { s.per with batches := [] }, twin := { s.twin with queue := [], late := [], takeover := false } }
  let s := s.resyncMod fun r => { r with switchF := 0, grantAct := false, copyAt := none }
  ((s.put F.TWIN_EXPIRY_FRAME 0).put F.TWIN_STATUS_LEASE_LIVE 0).put F.ACK_LAG_UNCOMMITTED 0

/-- Show whether a request awaits its answer. -/
def reqRegs (s : Body) : Body := s.putB F.TWIN_STATUS_REQUEST_PENDING (s.twin.lease.reqs.any (!·.dead))

/-- Enter a role (R212): the epoch record is written first. A REQUEST made in the old role is not sent again, and HANDOFF and LEAVING
leave the heartbeat with NONE. -/
def setRole (s : Body) (r : Role) (clean : Bool := false) : Body :=
  let was := s.role
  if was == r then s
  else
    let s := s.epochWrite .record r clean
    let s := (s.put F.TWIN_STATUS_ROLE (roleCode r)).raise U.twin F.TWIN_EVENTS_ROLE_CHANGE (roleCode r)
    let s := s.leaseMod fun l => { l with
      reqs := l.reqs.map fun x => if x.typ == 2 then { x with dead := true } else x
      handSent := l.handSent && r == .none, leaving := l.leaving && r == .none }
    let s := s.reqRegs
    let s := if r == .none then s.roleDrop else s
    let s := if r == .none && (was == .active || was == .solo) then s.postN U.twin .lostRole else s
    let s := if r == .resync then
        { s with twin := { s.twin with rxBatch := 0, rxSegs := 0, rxRecs := 0, rxGap := false, ackOwed := [] } } else s
    s.timeRegs.later .ports

/-! ## Heartbeats (R230) -/

/-- The heartbeat that the controller sends now. -/
def heartbeatNow (s : Body) (sub : Nat) : Heartbeat :=
  let l := s.twin.lease
  let none_ : Bool := s.role == .none
  let armed : Bool := s.changeState == 2 || s.changeState == 3
  { role := roleCode s.role, sync := s.get F.TIME_STATUS_SYNC_STATE, period := s.periodNs
    flags := b2n (s.per.pf != .idle) + 2 * b2n l.handSent + 4 * b2n l.leaving + 8 * b2n ((List.range 12).any fun c => s.spMode c == .frozen)
      + 16 * b2n (s.get F.TWIN_STATUS_MAIN_STABLE ≥ 10000) + 32 * b2n (none_ && l.reqs.any fun r => r.typ == 2 && !r.dead)
    epoch := if none_ then l.epoch.epoch else s.epochNow
    left := s.get F.TWIN_EXPIRY_FRAME - s.frameNo
    group := b2n s.twin.link.onFall, level := s.dirtyLevel, recRole := l.epoch.role
    commit := if none_ then l.epoch.commit else s.get F.COMMIT_FRAME_FRAME
    applied := s.get F.TWIN_BATCH_LAST_ACKED, drain := s.cDrain, tx := s.timeAt sub
    echoTx := s.twin.link.lastTx, echoRx := s.twin.link.lastRx
    revert := s.twin.link.revert, switch := s.twin.resync.switchF
    change := if armed then s.get F.CHANGE_FRAME_APPLY else 0
    shared := s.cfg.img.shared.toNat
    chHash := if armed then (s.cfg.newImg.map fun i => i.shared.toNat).getD 0 else 0 }

/-- Send a heartbeat (R230). -/
def heartbeatSend (s : Body) (sub : Nat) : Body :=
  if s.linkUp && s.isOn U.twin || s.linkUp && s.unit U.twin == .stopping then s.twinSend (.heartbeat (s.heartbeatNow sub)) else s

/-- Send one out of turn; when within the frame is left open (R230). -/
def heartbeatOut (s : Body) : Body := (s.fresh).heartbeatSend ((Config.freeWord s.freeCtr).toNat % (16 * max 1 s.periodNs))

/-! ## Requests to the Trivet (R213, R215, R216) -/

/-- A Trivet message of this controller. -/
def trivetOf (s : Body) (typ kind id : Nat) (force relayed : Bool) : TrivetMsg :=
  { typ := typ, domain := s.cfg.img.fix.domain, member := s.cfg.img.fix.member, twin := s.cfg.img.fix2.twinMember, kind := kind
    flags := b2n force + 2 * b2n relayed + 4 * b2n (nbit s.twin.hb.flags 0), reason := 0, epoch := s.epochNow, reqId := id
    frame := s.frameNo, wait := 0, commit := s.get F.COMMIT_FRAME_FRAME }

/-- Take the next REQ_ID, moving the mark of ring 3 on by the method of R27 (R215, R391). -/
def reqIdNext (s : Body) : Nat × Body :=
  let n := s.twin.lease.nextReq
  let m := mgetD s.rack.mark 3 0
  let s := s.leaseMod fun l => { l with nextReq := n + 1 }
  (n, if n ≥ m + 2 ^ 31 then s.storeMark 3 (m + 2 ^ 31) else s)

/-- Send a request to every Trivet address, and by relay as well when two RENEWs in a row went unanswered (R213, R216). Without a key to
tag it none is sent (R342). -/
def trivetSend (s : Body) (typ kind : Nat) (force : Bool) : Body :=
  if !s.mayTag then s
  else
    let (id, s) := s.reqIdNext
    let s := s.forEach (List.range s.cfg.img.fix2.trivets.length) fun s i => s.send (.trivet (s.trivetOf typ kind id force false) i)
    let one := fun (s : Body) (id : Nat) (relayed : Bool) =>
      ((s.inc F.TRIVET_COUNT_SENT).leaseMod fun l => { l with reqs := ⟨id, typ, kind, s.frameNo, relayed, force, false⟩ :: l.reqs })
    let s := one s id false
    let s := if s.twin.lease.unans ≥ 2 && s.linkUp then
        let (id, s) := s.reqIdNext
        one (s.twinSend (TwinMsg.relay (s.trivetOf typ kind id force true))) id true
      else s
    (s.when force (·.postN U.twin .forcedRequest)).reqRegs

/-- Whether a REQUEST of a kind awaits its answer. -/
def asked (s : Body) (kind : Nat) : Bool := s.twin.lease.reqs.any fun r => r.typ == 2 && r.kind == kind && !r.dead

/-- Request SOLO, unless a request already waits (R212). -/
def askSolo (s : Body) : Body := if s.asked 3 then s else s.trivetSend 2 3 false
/-- Request ACTIVE for the switch (R238). -/
def askActive (s : Body) : Body := if s.asked 1 then s else s.trivetSend 2 1 false

/-- A request counts as unanswered (R213, R216): a REQUEST is sent again with a new REQ_ID. -/
def reqTimeout (s : Body) (id : Nat) : Body :=
  match s.twin.lease.reqs.find? fun r => r.id == id && !r.dead with
  | none => s
  | some r =>
    let l := s.twin.lease
    let s := s.leaseMod fun l => { l with
      reqs := l.reqs.map fun x => if x.id == id then { x with dead := true } else x
      unans := if r.typ == 1 then l.unans + 1 else l.unans
      unansAny := l.unansAny + 1 }
    let s := if l.unansAny + 1 = 2 then s.raise U.twin F.TWIN_EVENTS_TRIVET_UNREACHED else s
    if r.typ == 2 then s.trivetSend r.typ r.kind r.force else s.reqRegs

/-! ## Taking over, leaving, pairing (R212, R232, R235, R240) -/

/-- The split log goes into the bitmap, which every later write then marks (R235). -/
def splitToBitmap (s : Body) : Body :=
  (s.resyncMod fun r => { r with bitmap := r.log.foldl (fun b e => insertNat b e.1) r.bitmap, log := [], marking := true }).splitRegs

/-- The pair splits: SPLIT_FRAME is the first frame whose commit point was not declared on both twins (R235); `epoch` is in force there
(R236). -/
def split (s : Body) (commit epoch : Nat) : Body :=
  (s.put F.SPLIT_INFO_SPLIT_FRAME (commit + 1)).resyncMod fun r => { r with splitEpoch := epoch }

/-- The twin of an ACTIVE has left: the logged granules go into the bitmap (R235) and the split into the epoch record (R239). -/
def splitLeft (s : Body) : Body :=
  if s.get F.SPLIT_INFO_SPLIT_FRAME != 0 then s
  else ((s.split (s.get F.COMMIT_FRAME_FRAME) s.epochNow).splitToBitmap).epochWrite .record s.role false

/-- A resync ends without reaching the switch (R241). -/
def resyncAbort (s : Body) : Body :=
  let st := s.get F.RESYNC_STATUS_STATE
  if st = 0 || st ≥ 4 then s
  else
    let s := s.resyncMod fun r => { r with switchF := 0, grantAct := false, copyAt := none, copying := [] }
    let s := if s.holds then s.splitToBitmap else s
    (s.put F.RESYNC_STATUS_STATE 5).raise U.twin F.TWIN_EVENTS_RESYNC_ABORTED

/-- ACTIVE is granted SOLO (R212): withheld commit points are declared, the split log moves into the bitmap. -/
def soloFromActive (s : Body) : Body :=
  let s := (s.split (s.get F.COMMIT_FRAME_FRAME) s.epochNow).splitToBitmap
  let s := { s with per := { s.per with batches := s.per.batches.map fun (b : Batch) => { b with needs := false } }
                    twin := { s.twin with queue := [], late := [] } }
  (s.setRole .solo).commitRun

/-- Takeover (R232): the records applied are kept, and their commit point is declared at the next tick. `epoch`: the one before the grant. -/
def takeOver (s : Body) (epoch : Nat) : Body :=
  let s := s.split s.twin.hb.commit epoch
  let s := s.put F.RESYNC_STATUS_BITMAP_VALID 1
  let s := (s.resyncMod fun r => { r with bitmap := [], log := [], marking := true, copying := [], copyAt := none }).splitRegs
  let last := s.twin.rxBatch
  let s := { s with per := { s.per with batches := if last = 0 then [] else [Batch.mk last true false true 0 []] }
                    twin := { s.twin with takeover := true, queue := [] } }
  s.setRole .solo

/-- NONE is granted SOLO (R212, R240). -/
def soloFromNone (s : Body) : Body :=
  let e := s.twin.lease.epoch
  let s := s.put F.SPLIT_INFO_SPLIT_FRAME (if e.split = 0 then e.commit + 1 else e.split)
  let s := s.resyncMod fun r => { r with marking := true, splitEpoch := e.epoch }
  s.setRole .solo

/-- The twin's request for the role is ranked (R240): higher epoch, a record of a holder, higher COMMIT_FRAME, lower MEMBER_ID. -/
def ranksFirst (s : Body) : Bool :=
  let e := s.twin.lease.epoch
  let h := s.twin.hb
  let holder := fun (r : Nat) => b2n (r == 1 || r == 3)
  if e.epoch != h.epoch then h.epoch < e.epoch
  else if holder e.role != holder h.recRole then holder h.recRole < holder e.role
  else if e.commit != h.commit then h.commit < e.commit
  else s.cfg.img.fix.member < s.cfg.img.fix2.twinMember

/-- Leave STANDBY or RESYNC: a heartbeat with LEAVING (R142, R212, R219). -/
def followLeave (s : Body) : Body :=
  if !s.follows then s
  else
    let s := ((s.leaseMod fun l => { l with leaving := true }).heartbeatOut).resyncAbort
    s.setRole .none

/-- HANDOFF is asked (R233): an ACTIVE with a STANDBY twin stops at the next tick. -/
def handoffAsk (s : Body) : Body :=
  if s.role == .active && s.linkUp && s.twinRole == .standby then s.leaseMod fun l => { l with handoff := true }
  else s.raise U.twin F.TWIN_EVENTS_HANDOFF_REFUSED

/-- What a Stockpot freeze asks of the role (R142). -/
def handoffFreeze (s : Body) : Body :=
  if s.role == .active && s.linkUp && s.twinRole == .standby then s.leaseMod fun l => { l with handoff := true }
  else s.followLeave

/-- A handoff's last commit point is declared (R233): HANDOFF in the heartbeat, RELEASE, NONE. -/
def handoffRelease (s : Body) : Body :=
  if !s.twin.lease.handoff then s
  else if s.role != .active || s.twinRole != .standby then
    (s.leaseMod fun l => { l with handoff := false, stopRead := false }).raise U.twin F.TWIN_EVENTS_HANDOFF_REFUSED
  else if !s.twin.lease.stopRead || !s.per.batches.isEmpty then s
  else
    let s := ((s.leaseMod fun l => { l with handSent := true }).heartbeatOut).trivetSend 5 0 false
    (s.setRole .none true).grantSet

/-! ## Leases (R195, R196, R212, R213) -/

/-- RENEW every 50 frames (R213). -/
def leaseRenew (s : Body) : Body :=
  if !s.holds || s.frameNo < s.twin.lease.renewAt + 50 then s
  else (s.leaseMod fun l => { l with renewAt := s.frameNo }).trivetSend 1 (roleCode s.role) false

/-- Eight frames before expiry without a renewal (R195): reads and writes stop; held reads of a frozen channel are answered (R196). -/
def leaseStop (s : Body) : Body :=
  let e := s.get F.TWIN_EXPIRY_FRAME
  if !s.holds || e = 0 || s.frameNo + 8 < e || s.twin.lease.stopRead then s
  else (s.leaseMod fun l => { l with stopRead := true }).freezeHoldAll.grantSet

/-- The lease ends without renewal (R212). -/
def leaseExpire (s : Body) : Body :=
  let e := s.get F.TWIN_EXPIRY_FRAME
  if !s.holds || e = 0 || s.frameNo < e then s
  else ((s.raise U.twin F.TWIN_EVENTS_LEASE_LOST).setRole .none).grantSet

/-- A lease runs 200 frames from the sending of the request that the GRANT answers, when that is later (R213). -/
def leaseExtend (s : Body) (sent : Nat) : Body :=
  let e := sent + 200
  let s := if s.get F.TWIN_EXPIRY_FRAME < e then s.put F.TWIN_EXPIRY_FRAME e else s
  s.put F.TWIN_STATUS_LEASE_LIVE 1

/-- What a GRANT does (R212, R213). -/
def granted (s : Body) (r : TReq) (m : TrivetMsg) : Body :=
  if m.kind = 0 then s
  else
    let old := s.epochNow
    let s := if s.epochNow < m.epoch then s.put F.TWIN_LEASE_EPOCH m.epoch else s
    match s.role, m.kind with
    | .solo, 3 => s.leaseExtend r.frame
    | .active, 3 => (s.leaseExtend r.frame).soloFromActive
    | .active, 1 | .solo, 1 => (s.leaseExtend r.frame).resyncMod fun x => { x with grantAct := x.switchF != 0 }
    | .standby, 3 => if s.per.pf == .idle then (s.leaseExtend r.frame).takeOver old else s
    | .none, 3 => if s.per.pf == .idle && s.isOn U.twin then (s.leaseExtend r.frame).soloFromNone else s
    | _, _ => s

/-- What a REFUSE does (R212, R217). -/
def refused (s : Body) (m : TrivetMsg) : Body :=
  match s.role, m.reason with
  | .standby, 1 => s.setRole .none
  | .active, _ | .solo, _ => if s.epochNow < m.epoch then s.setRole .none else s
  | _, _ => s

/-- A valid answer arrives (R213, R216): the first to a request is acted on, repeats are ignored. `src`: the Trivet address it came
from, none by relay. A refusal with WITNESS_STARTING leaves the request unanswered (R217). An answer to the twin's relayed request goes
back to it. -/
def trivetAnswer (s : Body) (m : TrivetMsg) (src : Option Nat) (key : Nat) (us : Nat) : Body :=
  if !s.trivetKey key || m.domain != s.cfg.img.fix.domain then s
  else if m.member == s.cfg.img.fix2.twinMember && m.member != s.cfg.img.fix.member then
    if src.isSome && s.linkUp then s.twinSend (.relay m) else s
  else if m.member != s.cfg.img.fix.member then s
  else match s.twin.lease.reqs.find? (·.id == m.reqId) with
    | none => s
    | some r =>
      let s := ((s.put F.TRIVET_STATUS_LAST_SRC (src.getD 0)).put F.TRIVET_STATUS_LAST_TYPE m.typ).putB F.TRIVET_STATUS_LAST_RELAYED src.isNone
      let s := (s.put F.TRIVET_STATUS_RTT_US us).inc F.TRIVET_COUNT_ANSWERED
      let s := if m.typ = 4 then (s.put F.TRIVET_STATUS_LAST_REASON m.reason).inc F.TRIVET_STATUS_REFUSALS else s
      if m.typ = 4 && m.reason = 3 then s
      else
        let s := s.leaseMod fun l => { l with reqs := l.reqs.filter (·.id != m.reqId), unans := 0, unansAny := 0 }
        let s := s.reqRegs
        if m.typ = 3 then s.granted r m else if m.typ = 4 then s.refused m else s

/-- A twin that holds ACTIVE or SOLO answers the heartbeats (R212). -/
def twinHolds (s : Body) : Bool :=
  s.linkUp && (s.twin.hb.role == 1 || s.twin.hb.role == 3) && s.get F.TWIN_STATUS_MISSED_RUN < 64

/-- FORCE_SOLO (R240), which a controller in NONE never asks while its twin holds (R212). -/
def forceSolo (s : Body) : Body :=
  if s.role == .none && s.isOn U.twin && s.replayOver && !s.twinHolds then s.trivetSend 2 3 true else s

/-- No twin has answered within PAIR_WAIT_MS of the unit reaching ON (R240). -/
def pairWait (s : Body) : Body :=
  if s.role != .none || !s.isOn U.twin || s.twin.lease.heard || !s.replayOver
      || s.time.tai < s.twin.lease.onAt + s.get F.TWIN_CFG_PAIR_WAIT_MS * 1000000 then s
  else s.askSolo

/-! ## Messages received (R222) -/

/-- Take a message in its order (R222). False: it is discarded; the first gap or tag failure sends a NAK. -/
def rxMsg (s : Body) (h : MsgHdr) : Body × Bool :=
  let l := s.twin.link
  if !l.session then (s, false)
  else
    let here : Bool := h.frame == l.rxFrame && h.seq == l.rxSeq
    let next : Bool := l.rxFrame < h.frame && h.seq == 0 && !l.naked
    let past : Bool := h.frame < l.rxFrame || (h.frame == l.rxFrame && h.seq < l.rxSeq)
    if past then (s, false)
    else if h.tagOk && (here || next) then
      (s.linkMod fun l => { l with rxFrame := h.frame, rxSeq := h.seq + 1, naked := false }, true)
    else
      let s := if h.tagOk then s else s.inc F.TWIN_ERR_TAG_FAIL
      if l.naked then (s, false)
      else
        let want := if h.frame = l.rxFrame then (l.rxFrame, l.rxSeq) else (h.frame, 0)
        let s := s.linkMod fun l => { l with naked := true, rxFrame := want.1, rxSeq := want.2 }
        (s.twinSend (.nak want.1 want.2), false)

/-- A message of an older epoch counts as missing (R227). -/
def staleMsg (s : Body) (epoch : Nat) : Bool := epoch < s.epochNow
/-- Discard a message of an older epoch. -/
def staleDrop (s : Body) : Body :=
  ({ s with twin := { s.twin with rxGap := true } }).raise U.twin F.TWIN_EVENTS_STALE_EPOCH

/-- Send the acknowledgements that are owed, oldest first, once no mirrored access waits at the line order unit (R227). -/
def ackTry (s : Body) : Body :=
  if s.twin.ackOwed.isEmpty || s.nc.held.any (·.req == Requester.mirror) then s
  else
    let s := s.forEach s.twin.ackOwed fun s a => (s.twinSend (.ack a.1 a.2 0)).put F.TWIN_BATCH_LAST_ACKED a.1
    { s with twin := { s.twin with ackOwed := [] } }

/-- Apply one mirrored record (R227). -/
def mirrorApply (s : Body) (r : MRecord) : Body :=
  let kind : AccKind := match r.kind with
    | .partial_ => .write r.data r.mask
    | .full | .copy => .write r.data allBytes
    | .copyPoison => .mark
  s.order .mirror r.line kind (s.get F.NC_SRC_CLASS_MIRROR) TierObs.clean (some r.pos)

/-- A SEGMENT arrives (R227). -/
def segmentRx (s : Body) (h : MsgHdr) (m : SegMsg) : Body :=
  let r := s.rxMsg h
  if !r.2 then r.1
  else
    let s := r.1
    if s.staleMsg m.epoch then s.staleDrop
    else if !s.follows then s
    else
      let s := if m.batch != s.twin.rxBatch || m.seg = 1 then
          { s with twin := { s.twin with rxBatch := m.batch, rxSegs := 0, rxRecs := 0, rxGap := false } } else s
      let s := { s with twin := { s.twin with
        rxGap := s.twin.rxGap || m.seg != s.twin.rxSegs + 1, rxSegs := m.seg, rxRecs := s.twin.rxRecs + m.recs.length } }
      s.forEach m.recs mirrorApply

/-- A SEAL arrives (R227). -/
def sealRx (s : Body) (h : MsgHdr) (m : SealMsg) : Body :=
  let r := s.rxMsg h
  if !r.2 then r.1
  else
    let s := r.1
    if s.staleMsg m.epoch then s.staleDrop
    else if !s.follows then s
    else
      let t := s.twin
      if !t.rxGap && m.batch = t.rxBatch && m.segments = t.rxSegs && m.records = t.rxRecs then
        ({ s with twin := { t with ackOwed := t.ackOwed ++ [(m.batch, m.records)] } }).ackTry
      else s

/-- The bitmap holds no bit and every copy is acknowledged: the holder sets the switch frame (R238). -/
def switchSet (s : Body) : Body :=
  let r := s.twin.resync
  if !s.holds || s.get F.RESYNC_STATUS_STATE != 2 || !r.bitmap.isEmpty || !r.copying.isEmpty || r.copyAt.isSome then s
  else
    let s := s.resyncMod fun r => { r with switchF := s.frameNo + 16, grantAct := false }
    ((s.put F.RESYNC_STATUS_STATE 3).twinSend (.resyncCtl 3 (s.get F.RESYNC_STATUS_MODE) [])).askActive

/-- An ACK of a batch arrives (R31, R189, R235, R237): a commit point that waited for it alone is declared at once; not while the pair is
split, since the twin then lacks what the resync has still to copy. -/
def ackRx (s : Body) (h : MsgHdr) (batch : Nat) (status : Nat) : Body :=
  let r := s.rxMsg h
  if !r.2 then r.1
  else
    let s := r.1
    if !s.holds || status != 0 then s
    else
      let apart : Bool := s.get F.SPLIT_INFO_SPLIT_FRAME != 0
      let s := if apart then s else
        { s with per := { s.per with batches := s.per.batches.map fun (b : Batch) => if b.frame = batch then { b with acked := true } else b } }
      let s := if s.get F.TWIN_BATCH_LAST_ACKED < batch then s.put F.TWIN_BATCH_LAST_ACKED batch else s
      let done := (s.twin.resync.copying.filter fun c => c.2 = batch).map (·.1)
      let s := s.resyncMod fun r => { r with
        log := r.log.filter fun e => e.2 != batch
        copying := r.copying.filter fun c => c.2 != batch
        bitmap := r.bitmap.filter fun g => !done.contains g
        marking := r.marking && !apart && !r.log.isEmpty }
      let s := s.addWrap F.RESYNC_DONE_COPIED done.length
      let t := s.twin.resync
      let s := if !apart && t.log.isEmpty then
          s.resyncMod fun r => { r with bitmap := [], marking := false } else s
      ((s.splitRegs).commitRun).switchSet

/-! ## Mirror batches sent (R224, R226) -/

/-- A batch goes to the twin. -/
def mirrors (s : Body) : Bool := s.ships && s.linkUp && s.isOn U.twin

/-- Send the records of one segment. -/
def segmentOut (s : Body) (batch seg : Nat) : Body × Nat × Nat :=
  let l := s.inSeg batch seg
  let s := { s with twin := { s.twin with queue := s.twin.queue.filter fun q => !(q.pos.frame == batch && q.pos.seg == seg) } }
  (s.twinSend (.segment ⟨batch, seg, s.epochNow, l⟩), l.length, (l.map recBytes).foldl (· + ·) 0)

/-- A mirror segment is sent (R224); the rest of a late batch goes first (R226). -/
def mirrorSegment (s : Body) : Body :=
  if !s.mirrors then s
  else match s.twin.late with
    | b :: r =>
      let (s, n, k) := s.segmentOut b.frame b.seg
      { s with twin := { s.twin with late := { b with seg := b.seg + 1, recs := b.recs + n, bytes := b.bytes + k } :: r } }
    | [] =>
      if s.twin.sealed then s
      else
        let (s, n, k) := s.segmentOut s.frameNo s.twin.seg
        { s with twin := { s.twin with seg := s.twin.seg + 1, recs := s.twin.recs + n, bytes := s.twin.bytes + k } }

/-- The final segment and the SEAL of a batch (R224, R226). -/
def sealSend (s : Body) : Body :=
  if !s.mirrors then s
  else match s.twin.late with
    | b :: r =>
      let (s, n, k) := s.segmentOut b.frame b.seg
      ({ s with twin := { s.twin with late := r } }).twinSend (.seal ⟨b.frame, b.seg, b.recs + n, b.bytes + k, s.epochNow⟩)
    | [] =>
      if s.twin.sealed || !s.frame.sealing then s
      else
        let seg := s.twin.seg
        let (s, n, k) := s.segmentOut s.frameNo seg
        let m : SealMsg := ⟨s.frameNo, seg, s.twin.recs + n, s.twin.bytes + k, s.epochNow⟩
        ({ s with twin := { s.twin with sealed := true, seg := 1, recs := 0, bytes := 0 } }).twinSend (.seal m)

/-- The tick's part of the mirror (R226): a batch that is not sealed is late, which the frame counts as an overrun. `f`: the frame that
ends. -/
def sealTick (s : Body) (f : Nat) : Body × Bool :=
  let t := s.twin
  if s.ships && s.isOn U.twin && !t.sealed then
    let s := { s with twin := { t with late := t.late ++ [LateBatch.mk f t.seg t.recs t.bytes], seg := 1, recs := 0, bytes := 0 } }
    (s.inc F.TWIN_OVR_SEAL_LATE, true)
  else ({ s with twin := { t with sealed := false, seg := if t.sealed then t.seg else 1, recs := 0, bytes := 0 } }, false)

/-! ## Heartbeats received, missed frames (R47, R219, R220, R230, R231, R236, R240) -/

/-- The holder starts the resync of a twin in NONE (R212, R236); one that has asked for SOLO waits for the role it is granted. -/
def resyncStart (s : Body) : Body :=
  let st := s.get F.RESYNC_STATUS_STATE
  if !s.holds || s.asked 3 || s.twin.hb.role != 0 || !s.sameImage || nbit s.twin.hb.flags 0 || s.per.pf != .idle || (st != 0 && st < 4) then s
  else
    let r := s.twin.resync
    let part := s.flag F.RESYNC_STATUS_BITMAP_VALID && s.twin.hb.epoch == r.splitEpoch
    let s := ((s.put F.RESYNC_STATUS_STATE 1).putB F.RESYNC_STATUS_MODE (!part)).put F.RESYNC_DONE_COPIED 0
    s.twinSend (.resyncCtl 1 (b2n !part) [])

/-- What the role makes of a valid heartbeat (R212, R240). -/
def heartbeatRole (s : Body) (was : Nat) : Body :=
  let h := s.twin.hb
  let fl := nbit h.flags
  let holder : Bool := h.role == 1 || h.role == 3
  match s.role with
  | .resync => if holder then s.resyncMod fun r => { r with switchF := h.switch } else (s.resyncAbort).setRole .none
  | .standby => if fl 0 || fl 1 || (!holder && !fl 2) then s.askSolo else s
  | .active | .solo =>
    let s := if s.get F.RESYNC_STATUS_STATE = 2 || s.get F.RESYNC_STATUS_STATE = 3 then
        (if was = 4 && h.role != 4 && h.role != 2 then s.resyncAbort else s) else s
    let s := if s.role == .active && (fl 2 || h.role == 0) then s.splitLeft else s
    if s.role == .active && (fl 0 || fl 2) then s.askSolo else s.resyncStart
  | .none =>
    let s := if holder then
        { s with nc := { s.nc with col := s.nc.col.filter fun (e : Nat × ColEntry) => !s.spFrozen (granOf e.2.line) } } else s
    let req := fl 5
    let l := s.twin.lease
    let refusedPeer : Bool := l.peerReq && !req && h.role == 0
    let s := s.leaseMod fun l => { l with peerReq := req }
    if h.role != 0 || !s.replayOver || s.noTwin then s
    else if (l.pairRun ≥ 16 && h.echoTx != 0 && s.ranksFirst) || refusedPeer then s.askSolo
    else s

/-- A HEARTBEAT arrives, `at_` 1/16 ns after the tick (R37, R47, R227, R230, R231). A twin in NONE states the epoch of its record (R240),
and its heartbeats count (log entry 45). -/
def heartbeatRx (s : Body) (h : MsgHdr) (m : Heartbeat) (at_ : Nat) : Body :=
  let r := s.rxMsg h
  if !r.2 then r.1
  else
    let s := r.1
    if s.staleMsg m.epoch && m.role != 0 && s.role != .none then s.raise U.twin F.TWIN_EVENTS_STALE_EPOCH
    else if m.period != s.periodNs then s.raise U.twin F.TWIN_EVENTS_PEER_REFUSED
    else
      let t4 := s.timeAt at_
      let i := fun (n : Nat) => (n : Int)
      let off : Int := ((i m.echoRx - i m.echoTx) + (i m.tx - i t4)) / 2
      let lat : Nat := (((i t4 - i m.echoTx) - (i m.tx - i m.echoRx)) / 2).toNat
      let was := s.twin.hb.role
      let s := { s with twin := { s.twin with hb := m } }
      let s := if s.follows && s.epochNow < m.epoch then s.put F.TWIN_LEASE_EPOCH m.epoch else s
      let s := s.linkMod fun l => { l with lastTx := m.tx, lastRx := t4, peerStable := nbit m.flags 4,
                                           revert := if l.revert = 0 then m.revert else l.revert }
      let s := (s.when s.counterUnset (·.counterSet (m.tx / 16))).inc F.TWIN_HB_RX
      let measured : Bool := m.echoTx != 0
      let s := if measured then
          let ns := lat / 16
          let lim := (s.periodNs - 300) / 2
          let was := s.get F.TWIN_LINK_LAT_NS
          let s := (s.put F.TWIN_LINK_LAT_NS (min ns 65535)).put F.OFFSET_TWIN (unsgn 32 off)
          let s := if ns > lim && was ≤ lim then s.raise U.twin F.TWIN_EVENTS_LATENCY_HIGH ns else s
          s.when (s.get F.TIME_STATUS_SOURCE == 3) (·.phaseMeasured off)
        else s
      let fault : Bool := measured && s.follows && off.natAbs > 960
      let s := s.putB F.TIME_STATUS_TWIN_ALIGN_OK (measured && off.natAbs ≤ 80)
      let s := if fault then s.raise U.time F.TIME_EVENTS_TWIN_ALIGN_FAULT off.natAbs else s
      let s := { s with time := { s.time with twinOk := !fault } }
      let s := { s with cfg := { s.cfg with twinSaid := if m.change = 0 then none else some (m.chHash, m.change) } }
      let s := if fault then s else { s with twin := { s.twin with hbFrame := h.frame } }
      let s := s.leaseMod fun l => { l with heard := true, pairRun := if m.role = 0 then l.pairRun + 1 else 0 }
      (s.heartbeatRole was).timeRegs

/-- The tick's count of missed frames (R231); `f`: the frame that ends. -/
def missTick (s : Body) (f : Nat) : Body :=
  if !s.isOn U.twin || s.noTwin then s
  else
    let n := s.get F.TWIN_STATUS_MISSED_RUN
    if f ≤ s.twin.hbFrame && s.twin.lease.heard then
      (s.put F.TWIN_STATUS_MISSED_RUN 0).leaseMod fun l => { l with detected := false, missAt := 0 }
    else
      let s := (s.put F.TWIN_STATUS_MISSED_RUN (min 127 (n + 1))).inc F.TWIN_HB_MISSED
      s.leaseMod fun l => { l with pairRun := 0, missAt := if n = 0 then f else l.missAt }

/-- 64 consecutive missed frames (R212, R231). -/
def missed64 (s : Body) : Body :=
  if s.get F.TWIN_STATUS_MISSED_RUN < 64 || s.twin.lease.detected || !s.isOn U.twin then s
  else
    let s := (s.leaseMod fun l => { l with detected := true }).raise U.twin F.TWIN_EVENTS_DETECTED
    let s := { s with time := { s.time with twinOk := false } }
    match s.role with
    | .resync => (s.resyncAbort).setRole .none
    | .standby => s.askSolo
    | .active => (s.resyncAbort).askSolo
    | .solo => s.resyncAbort
    | .none => s

/-! ## Requests of the twin (R229) -/

/-- A line as of a mirror position: its present bytes, less every window record of it at or after the position, newest first (R229). -/
def asOf (s : Body) (line : Nat) (p : MPos) : LineData × Bool :=
  s.twin.hist.foldl (fun l r => if r.line = line && !r.pos.lt p then (r.before, r.poison) else l) (s.peek line)

/-- Whether the history window reaches back to a position (R229). -/
def inWindow (s : Body) (p : MPos) : Bool :=
  s.frameNo ≤ p.frame + 4 && (s.twin.hist.length < histMax || (s.twin.hist.getLast?.map fun r => r.pos.lt p).getD true)

/-- Drop the records that are more than 4 frames old (R229). -/
def histTick (s : Body) : Body :=
  { s with twin := { s.twin with hist := s.twin.hist.filter fun r => s.frameNo ≤ r.pos.frame + 4 } }

/-- An ASSIST_REQ arrives (R229): answered as of its position, without filling the near cache. -/
def assistReqRx (s : Body) (h : MsgHdr) (req : Nat) (kind : AssistKind) (addr : Nat) (pos : MPos) : Body :=
  let r := s.rxMsg h
  if !r.2 then r.1
  else
    let s := r.1
    let serves : Bool := s.role == .active || s.role == .standby
    let whole : Bool := kind == .granuleRepair
    let first := if whole then addr / 64 * 64 else addr
    let lines := if whole then range' first 64 else [first]
    if serves && !s.inWindow pos then (s.inc F.TWIN_OVR_WINDOW_MISS).twinSend (.assistResp req 2 0 [])
    else if !serves || (s.lgOf first).isNone || s.spFrozen (granOf first) then s.twinSend (.assistResp req 2 0 [])
    else
      let got := lines.map fun l => s.asOf l pos
      let bad := maskOf ((List.range lines.length).filter fun i => (got.getD i (0, false)).2)
      let data := got.map fun l => if l.2 then 0 else l.1
      s.twinSend (.assistResp req (b2n (bad != 0 && !whole)) bad data)

/-- An ASSIST_RESP arrives (R98, R112, R140, R172). -/
def assistRespRx (s : Body) (h : MsgHdr) (req status : Nat) (poison : Mask) (lines : List LineData) : Body :=
  let r := s.rxMsg h
  if !r.2 then r.1
  else
    let s := r.1
    match s.tier.assists.find? (·.req == req) with
    | none => s
    | some a =>
      if a.kind == .granuleRepair then
        s.askEnd a none (if status = 2 then none else some ((List.range 64).foldl (fun m i => mset m i (lines.getD i 0)) [], poison))
      else s.askEnd a (if status = 0 && poison == 0 then lines.head? else none) none

/-! ## Resync (R212, R236 to R238) -/

/-- A START is taken (R212, R236), or held until replay is over (R432), the twin's new role is heard, and no channel is frozen (R142). -/
def resyncTake (s : Body) (mode : Nat) : Body :=
  if s.role != .none || !s.isOn U.twin || s.twin.hb.role == 2 || s.twin.hb.role == 4 || !s.sameImage || s.per.pf != .idle then
    s.resyncMod fun r => { r with heldStart := none }
  else if !s.replayOver || s.twin.hb.role == 0 || (List.range 12).any (fun c => s.spMode c == .frozen) then
    s.resyncMod fun r => { r with heldStart := some mode }
  else
    let e := s.twin.lease.epoch
    let divergent : Bool := (e.role == 1 || e.role == 3) && !nbit e.flags 0
    let t := s.twin.resync
    let all : Bool := t.tainted || s.per.hold || (divergent && !s.flag F.RESYNC_STATUS_BITMAP_VALID)
    let grans := t.log.foldl (fun b x => insertNat b x.1) t.bitmap
    let s := if s.epochNow < s.twin.hb.epoch then s.put F.TWIN_LEASE_EPOCH s.twin.hb.epoch else s
    let s := s.resyncMod fun r => { r with log := [], bitmap := [], marking := false, switchF := 0, heldStart := none }
    let s := (s.splitRegs.setRole .resync).put F.RESYNC_STATUS_STATE 2
    (s.put F.RESYNC_STATUS_MODE (if all then 1 else mode)).twinSend (.resyncCtl 2 (b2n all) grans)

/-- A START that was held is taken once nothing holds it (R142, R432). -/
def resyncHeld (s : Body) : Body :=
  match s.twin.resync.heldStart with
  | some m => if s.replayOver then s.resyncTake m else s
  | none => s

/-- RESYNC_CTL START (R212, R236): the twin in NONE enters RESYNC and sends its split log; MODE of the LOG is 1 when it needs every
granule. -/
def resyncStartRx (s : Body) (h : MsgHdr) (mode : Nat) : Body :=
  let r := s.rxMsg h
  if !r.2 then r.1 else r.1.resyncTake mode

/-- RESYNC_CTL LOG (R236): the holder marks the twin's granules, or every mapped one in a full resync, and copies. -/
def resyncLogRx (s : Body) (h : MsgHdr) (mode : Nat) (grans : List Nat) : Body :=
  let r := s.rxMsg h
  if !r.2 then r.1
  else
    let s := r.1
    let st := s.get F.RESYNC_STATUS_STATE
    if !s.holds || (st != 1 && st != 2) then s
    else
      let full : Bool := mode == 1 || s.flag F.RESYNC_STATUS_MODE
      let marks := if full then s.mdChans.flatMap s.mappedOn else grans
      let s := s.resyncMod fun r => { r with bitmap := marks.foldl insertNat r.bitmap }
      (((s.putB F.RESYNC_STATUS_MODE full).put F.RESYNC_STATUS_STATE 2).splitRegs).switchSet

/-- RESYNC_CTL DONE (R238): the twin waits for the switch frame. -/
def resyncDoneRx (s : Body) (h : MsgHdr) : Body :=
  let r := s.rxMsg h
  if r.2 && r.1.role == .resync then r.1.put F.RESYNC_STATUS_STATE 3 else r.1

/-- RESYNC_CTL ABORT. -/
def resyncAbortRx (s : Body) (h : MsgHdr) : Body :=
  let r := s.rxMsg h
  if !r.2 then r.1
  else if r.1.role == .resync then (r.1.resyncAbort).setRole .none
  else r.1.resyncAbort

/-- Copy one line of a marked granule into the mirror stream (R237). -/
def copyLine (s : Body) (line : Nat) : Body :=
  let l := s.peek line
  let p := s.nextPos
  (s.histPush p line l).mirrorPut p line (if l.2 then .copyPoison else .copy) allBytes (if l.2 then 0 else l.1)

/-- Copy lines of marked granules with the credits that writes left unused (R237). -/
def copyRun : Nat → Body → Body
  | 0, s => s
  | n + 1, s =>
    let r := s.twin.resync
    match r.copyAt with
    | some (lg, i) =>
      match s.granOfLg lg with
      | none => copyRun n (s.resyncMod fun r => { r with copyAt := none, bitmap := r.bitmap.erase lg })
      | some g =>
        let batch := s.posFrame
        let s := s.copyLine (g * 64 + i)
        copyRun n (s.resyncMod fun r =>
          if i = 63 then { r with copyAt := none, copying := (lg, batch) :: r.copying } else { r with copyAt := some (lg, i + 1) })
    | none =>
      match r.bitmap.find? fun g => !r.copying.any (·.1 == g) with
      | none => s
      | some lg => copyRun n (s.resyncMod fun r => { r with copyAt := some (lg, 0) })

/-- The copies of a frame (R237): none at FULL, no more than the twin's C_drain at HIGH, none while RESYNC_PAUSE is set. -/
def resyncCopy (s : Body) : Body :=
  let paused := s.flag F.TWIN_CTL_RESYNC_PAUSE
  let s := s.putB F.RESYNC_STATUS_PAUSED paused
  if !s.holds || s.get F.RESYNC_STATUS_STATE != 2 || !s.linkUp || s.twinRole != .resync || paused then s
  else
    let free := s.get F.CREDIT_NOW_GRANT - s.per.used
    let n := if s.twin.hb.level ≥ 3 then 0 else if s.twin.hb.level = 2 then min free s.twin.hb.drain else free
    (copyRun n { s with per := { s.per with used := s.per.used + n } }).switchSet

/-- The tick of the switch frame W (R208, R212, R238). -/
def switchFrame (s : Body) : Body :=
  let w := s.twin.resync.switchF
  if w = 0 || s.frameNo < w then s
  else
    let clear := fun (s : Body) => (s.resyncMod fun r => { r with
      switchF := 0, grantAct := false, marking := false, bitmap := [], log := [], copying := [], tainted := false }).splitRegs
    let done := fun (s : Body) => ((((s.put F.RESYNC_STATUS_STATE 4).put F.SPLIT_INFO_SPLIT_FRAME 0).put
      F.RESYNC_STATUS_BITMAP_VALID 1)).raise U.twin F.TWIN_EVENTS_RESYNC_DONE
    match s.role with
    | .solo | .active =>
      if !s.twin.resync.grantAct then s
      else
        let s := (done (clear s)).setRole .active
        ({ s with per := { s.per with batches := s.per.batches.map fun (b : Batch) => { b with needs := w ≤ b.frame } } }.commitRun).grantSet
    | .resync => ((done (clear s)).setRole .standby).holdEnd.grantSet
    | _ => s

/-- No GRANT of ACTIVE by W − 4 (R238). -/
def switchDefer (s : Body) : Body :=
  let w := s.twin.resync.switchF
  if !s.holds || w = 0 || s.frameNo + 4 < w || s.twin.resync.grantAct then s
  else (s.resyncMod fun r => { r with switchF := w + 16 }).askActive

/-! ## The link (R219 to R222, R346) -/

/-- Show the link. -/
def linkRegs (s : Body) : Body :=
  let l := s.twin.link
  let st := if !(l.mainUp || l.fallUp) then (if s.isOn U.twin || s.unit U.twin == .starting then 1 else 0)
    else if !l.session then 1 else if l.onFall then 3 else 2
  let s := (s.put F.TWIN_STATUS_LINK st).putB F.TWIN_STATUS_MAIN_TRAINED l.mainUp
  s.put F.TWIN_LINK_LAT_LIMIT_NS ((s.periodNs - 300) / 2)

/-- The lane groups train (R219, R221). While a session runs, only the main group trains, in the background; otherwise every fitted group
does and a HELLO is sent. Without a usable key start step 3 fails (R342). -/
def linkTrain (s : Body) (main fall : Bool) : Body :=
  let fl := s.cfg.img.fix2.twinFlags
  let main := main && nbit fl 1
  let fall := fall && nbit fl 2
  if !(s.isOn U.twin || s.unit U.twin == .starting) then s
  else if s.linkUp then (s.linkMod fun l => { l with mainUp := l.mainUp || main }).linkRegs
  else if !s.mayTag then s.linkRegs
  else
    let s := s.linkMod fun l => { l with mainUp := main, fallUp := fall, session := false, peerOk := false, onFall := !main && fall,
                                         fallReq := false, replayBuf := [], naked := false }
    if !(main || fall) then s.linkRegs
    else
      let f := s.cfg.img
      (s.twinSend (TwinMsg.hello (HelloMsg.mk f.fix.member f.fix2.twinMember f.fix.domain s.ciph.cur.gen s.periodNs f.shared.toNat))).linkRegs

/-- A HELLO arrives (R219, R345, R346). -/
def helloRx (s : Body) (h : MsgHdr) (m : HelloMsg) : Body :=
  let l := s.twin.link
  if !(l.mainUp || l.fallUp) then s
  else if !h.tagOk then s.inc F.TWIN_ERR_TAG_FAIL
  else if m.member != s.cfg.img.fix2.twinMember || m.twin != s.cfg.img.fix.member || m.domain != s.cfg.img.fix.domain
      || m.keyGen != s.ciph.cur.gen || m.period != s.periodNs then s.raise U.twin F.TWIN_EVENTS_PEER_REFUSED m.member
  else
    let s := s.linkMod fun l => { l with session := true, peerOk := true, rxFrame := h.frame, rxSeq := h.seq + 1, naked := false, lastTx := 0, lastRx := 0 }
    ({ s with ciph := { s.ciph with session := m.keyGen }, twin := { s.twin with hb := { s.twin.hb with shared := m.shared } } }).linkRegs

/-- The link goes down (R346): the session key is zeroized. -/
def linkDown (s : Body) : Body :=
  let s := s.linkMod fun l => { l with mainUp := false, fallUp := false, session := false, peerOk := false, fallReq := false, naked := false,
                                       replayBuf := [] }
  ({ s with ciph := { s.ciph with session := 0 }, time := { s.time with twinOk := false } }).linkRegs

/-- Messages of batches that are not acknowledged, oldest first. -/
def unreceived (s : Body) : List (Nat × Nat × Nat) :=
  (s.twin.link.replayBuf.filter fun m => s.get F.TWIN_BATCH_LAST_ACKED < m.1).reverse

/-- Resend messages unchanged (R222). -/
def resend (s : Body) (l : List (Nat × Nat × Nat)) : Body :=
  let s := s.forEach l fun s m => s.send (.twinResend m.1 m.2.1)
  let s := s.addWrap F.TWIN_ERR_REPLAYS l.length
  let s := s.linkMod fun x => { x with replays := (x.replays ++ l.map fun _ => s.frameNo).filter fun f => s.frameNo < f + 1000 }
  if l.isEmpty then s else s.put F.TWIN_STATUS_MAIN_STABLE 0

/-- A NAK arrives (R222). -/
def nakRx (s : Body) (h : MsgHdr) (frame seq : Nat) : Body :=
  let r := s.rxMsg h
  if !r.2 then r.1
  else r.1.resend ((r.1.twin.link.replayBuf.filter fun m => frame < m.1 || (m.1 == frame && seq % 2 ^ 30 ≤ m.2.1 % 2 ^ 30)).reverse)

/-- The main group loses lock on a lane (`lock`), or has needed more than 16 replays in 1,000 frames (R221). -/
def groupFallback (s : Body) (lock : Bool) : Body :=
  let many : Bool := (s.twin.link.replays.filter fun f => s.frameNo < f + 1000).length > 16
  if s.twin.link.onFall || !s.twin.link.mainUp || !(lock || many) then s
  else
    let s := (s.put F.TWIN_STATUS_MAIN_STABLE 0).linkMod fun l => { l with mainUp := if lock then false else l.mainUp, fallReq := true }
    s.linkRegs

/-- Move to a group (R221). -/
def groupMove (s : Body) (fall : Bool) : Body :=
  let s := (s.linkMod fun l => { l with onFall := fall, fallReq := false, revert := 0 }).inc F.TWIN_LINK_SWITCHES
  let s := s.raise U.twin (if fall then F.TWIN_EVENTS_GROUP_FALLBACK else F.TWIN_EVENTS_GROUP_REVERT)
  ((if fall then s.resend s.unreceived else s).linkRegs)

/-- The tick's choice of group (R221): GROUP_FORCE first, then a fall-back that is due. Frames of stability of the main group count on. -/
def groupTick (s : Body) : Body :=
  let l := s.twin.link
  let s := s.linkMod fun x => { x with txSeq := 0 }
  let s := if l.mainUp then s.put F.TWIN_STATUS_MAIN_STABLE (min (2 ^ 32 - 1) (s.get F.TWIN_STATUS_MAIN_STABLE + 1))
    else s.put F.TWIN_STATUS_MAIN_STABLE 0
  match s.get F.TWIN_CTL_GROUP_FORCE with
  | 1 => if l.onFall && l.mainUp then s.groupMove false else s
  | 2 => if !l.onFall && l.fallUp then s.groupMove true else s
  | _ => if l.fallReq && !l.onFall && l.fallUp then s.groupMove true else s

/-- The main group has been stable for 10,000 frames (R221). -/
def mainStable (s : Body) : Body :=
  let l := s.twin.link
  if s.get F.TWIN_STATUS_MAIN_STABLE < 10000 || !l.onFall || !l.peerStable || l.revert != 0
      || s.cfg.img.fix2.twinMember < s.cfg.img.fix.member then s
  else s.linkMod fun l => { l with revert := s.frameNo + 16 }

/-- Both twins return to the main group at REVERT_FRAME (R221). -/
def groupRevert (s : Body) : Body :=
  let l := s.twin.link
  if l.revert = 0 || s.frameNo < l.revert || !l.onFall || !l.mainUp || s.flag F.TWIN_CTL_REVERT_DIS
      || s.get F.TWIN_CTL_GROUP_FORCE = 2 then s
  else s.groupMove false

/-- A RELAY message arrives (R216): a request of the twin goes to every Trivet address unchanged; an answer is the controller's own. -/
def relayRx (s : Body) (h : MsgHdr) (m : TrivetMsg) (key : Nat) (us : Nat) : Body :=
  let r := s.rxMsg h
  if !r.2 then r.1
  else
    let s := r.1
    if m.typ = 3 || m.typ = 4 then s.trivetAnswer m none key us
    else s.forEach (List.range s.cfg.img.fix2.trivets.length) fun s i => s.send (.trivet m i)

/-! ## Witness (R214, R217) -/

/-- The controller serves as a Trivet (R217). -/
def witnessOn (s : Body) : Bool := nbit s.cfg.img.fix2.twinFlags 0 && s.flag F.TWIN_CTL_WITNESS_EN && s.isOn U.twin && s.mayTag

/-- Frames that a Trivet's view of a lease runs on (R214). -/
def witnessFrames (s : Body) : Nat := 200 + cdiv (200 * s.periodNs * 200 + 1000000000) (1000000 * max 1 s.periodNs)

/-- Frames that the start hold of a witness lasts (R217). -/
def holdFrames (s : Body) : Nat := 200 + cdiv 1000 (max 1 s.periodNs)

/-- Store a pair's state, in State and in its Rack record (R217). -/
def pairPut (s : Body) (p : WPair) (stored : Bool) : Body :=
  let old := s.twin.lease.pairs
  let same := fun (x : WPair) => x.low == p.low && x.high == p.high
  let l := if old.any same then old.map fun x => if same x then p else x else old ++ [p]
  let s := (s.leaseMod fun x => { x with pairs := l }).put F.WITNESS_STATUS_PAIRS l.length
  if stored then
    let i := (l.findIdx? same).getD 0
    let w := fun (n : Nat) => (BitVec.ofNat 64 n : Word)
    s.recWrite .record (0x2000 + 64 * i) [w (p.low + p.high * 2 ^ 16 + (p.holder.getD 0xFFFF) * 2 ^ 32 + p.kind * 2 ^ 48), w p.epoch, 0, 0, 0, 0] 0
  else s

/-- The pair that a message names, if the controller referees it or may begin to (R214, R217): not its own, both members in no other pair,
at most 64. -/
def pairOf (s : Body) (m : TrivetMsg) : Option WPair :=
  let lo := min m.member m.twin
  let hi := max m.member m.twin
  let own := fun (x : Nat) => x == s.cfg.img.fix.member
  let l := s.twin.lease.pairs
  if m.domain != s.cfg.img.fix.domain || lo == hi || own lo || own hi then none
  else match l.find? fun p => p.low == lo && p.high == hi with
    | some p => some p
    | none =>
      if l.length ≥ 64 || l.any (fun p => p.low == lo || p.low == hi || p.high == lo || p.high == hi) then none
      else some ⟨lo, hi, none, 0, 0, false, 0, []⟩

/-- An answer to a request, which is then answered (R214, R215). -/
def answerTo (s : Body) (m : TrivetMsg) (typ kind reason epoch wait : Nat) : Body :=
  let s := s.send (.witness { m with typ := typ, kind := kind, flags := 0, reason := reason, epoch := epoch, wait := wait, frame := s.frameNo })
  let s := s.leaseMod fun l => { l with answered := (m.member, m.reqId) :: l.answered }
  if typ = 3 then s.inc F.WITNESS_STATUS_GRANTS else s

/-- Frames until a pair's lease ends. -/
def pairLeft (s : Body) (p : WPair) : Nat := p.at_ + s.witnessFrames - s.frameNo

/-- Grant a request on its receipt: a new holder takes the next epoch; the holder keeps its own, and held requests are refused with
HOLDER_LIVE (R214). -/
def witnessGrant (s : Body) (p : WPair) (m : TrivetMsg) (bump : Bool) : Body :=
  let e := if bump then p.epoch + 1 else p.epoch
  let late := p.held
  let p' : WPair := { p with holder := some m.member, kind := m.kind, epoch := e, live := true, at_ := s.frameNo, held := [] }
  let s := s.pairPut p' (bump || p.kind != m.kind || p.holder != some m.member)
  let s := s.answerTo m 3 m.kind 0 e 0
  if bump then s else s.forEach late fun s h => s.answerTo h.2 4 0 1 e (s.pairLeft p')

/-- A lease has ended: the member whose request was held first takes the next epoch, and each of its held requests is granted; the lease
runs from the receipt of the newest of them. Of another member, a request with FORCE goes on being held, and any other is stale (R214). -/
def witnessEnded (s : Body) (p : WPair) : Body :=
  match p.held.head? with
  | none => s.pairPut { p with live := false } false
  | some h =>
    let mine := p.held.filter (·.2.member == h.2.member)
    let rest := p.held.filter (·.2.member != h.2.member)
    let last := mine.getLast?.getD h
    let e := p.epoch + 1
    let p' : WPair := { p with holder := some h.2.member, kind := last.2.kind, epoch := e, live := true, at_ := last.1, held := rest.filter (fun x => nbit x.2.flags 0) }
    let s := s.pairPut p' true
    let s := s.forEach mine fun s x => s.answerTo x.2 3 x.2.kind 0 e 0
    s.forEach (rest.filter fun x => !nbit x.2.flags 0) fun s x => s.answerTo x.2 4 0 2 e 0

/-- A request that was answered or is held already: its copies get no other answer (R214, R216). -/
def witnessSeen (s : Body) (p : WPair) (m : TrivetMsg) : Bool :=
  s.twin.lease.answered.contains (m.member, m.reqId) || p.held.any fun h => h.2.member == m.member && h.2.reqId == m.reqId

/-- Whether the start hold of R217 is on. -/
def witnessHold (s : Body) : Bool := s.twin.lease.wStart.isSome

/-- A request arrives at the witness (R214, R217). -/
def witnessRx (s : Body) (m : TrivetMsg) (key : Nat) : Body :=
  if !s.witnessOn || !s.trivetKey key then s
  else match s.pairOf m with
    | none => s
    | some p =>
      let holder : Bool := p.holder == some m.member
      let force : Bool := nbit m.flags 0
      let cur : Bool := m.epoch == p.epoch
      if s.witnessSeen p m then s
      else if holder && cur && (m.typ = 1 || m.typ = 2) then s.witnessGrant p m false
      else if s.witnessHold then s.answerTo m 4 0 3 p.epoch (s.twin.lease.wStart.getD 0 + s.holdFrames - s.frameNo)
      else if m.epoch < p.epoch && !force then s.answerTo m 4 0 2 p.epoch 0
      else if m.typ = 2 && (cur || force) then
        if p.live then s.pairPut { p with held := p.held ++ [(s.frameNo, m)] } false
        else s.witnessGrant p m true
      else if m.typ = 5 && holder && p.live then (s.answerTo m 3 0 0 p.epoch 0).witnessEnded { p with live := false }
      else s

/-- A pair's lease ends (R214). While the controller serves no pairs, held requests are dropped. -/
def witnessEnd (s : Body) (low high : Nat) : Body :=
  match s.twin.lease.pairs.find? fun p => p.low == low && p.high == high with
  | none => s
  | some p =>
    if !p.live || s.frameNo < p.at_ + s.witnessFrames then s
    else s.witnessEnded { p with live := false, held := if s.witnessOn then p.held else [] }

/-- The start hold ends (R217). -/
def witnessHoldEnd (s : Body) : Body :=
  match s.twin.lease.wStart with
  | none => s
  | some f =>
    if s.frameNo < f + s.holdFrames then s
    else (s.leaseMod fun l => { l with wStart := none }).put F.WITNESS_STATUS_STARTING 0

/-- The start hold begins with the unit (R217). -/
def witnessStart (s : Body) : Body :=
  if nbit s.cfg.img.fix2.twinFlags 0 && s.flag F.TWIN_CTL_WITNESS_EN then
    (s.leaseMod fun l => { l with wStart := some s.frameNo }).put F.WITNESS_STATUS_STARTING 1
  else s

/-! ## The tick -/

/-- The twin unit's work at a tick, after the frame number has moved on (R195, R213, R224, R229, R231, R233). `f`: the frame that ended. -/
def twinTick (s : Body) (f : Nat) : Body :=
  let s := ((s.missTick f).groupTick).histTick
  let s := if s.twin.lease.handoff && s.role == .active then s.leaseMod fun l => { l with stopRead := true }
    else if s.twin.lease.stopRead && s.frameNo + 8 < s.get F.TWIN_EXPIRY_FRAME then s.leaseMod fun l => { l with stopRead := false }
    else s
  (s.leaseMod fun l => { l with reqs := l.reqs.filter fun r => !r.dead || s.frameNo < r.frame + 200 }).reqRegs

/-- The first admission after a takeover (R232): its time from the first missed frame is recorded. -/
def takeoverTick (s : Body) : Body :=
  if !s.twin.takeover || s.role != .solo then s
  else
    let from_ := if s.twin.lease.missAt = 0 then s.frameNo else s.twin.lease.missAt
    let us := (s.frameNo - from_) * s.periodNs / 1000
    let s := { s with twin := { s.twin with takeover := false } }
    ((s.put F.TWIN_TAKEOVER_LAST_US us).inc F.TWIN_TAKEOVER_TAKEOVERS).raise U.twin F.TWIN_EVENTS_TAKEOVER us

end Body

end Sys2Proof.Machine
end

