-- ==== Sys2Proof/Machine/Cxl.lean ====
section
/-! DEFINITION. The CXL host ports (chapter 10): logical devices, HDM decoders, requests and credits, opening and closing, poison and
event records, mailbox answers, IDE, link events. -/

namespace Sys2Proof.Machine

namespace Body

/-! ## Ports and logical devices (R243, R246) -/

/-- A port's state. -/
def cxp (s : Body) (p : Nat) : CxlPort := mgetD s.cxl.ports p {}
/-- Change a port's state. -/
def cxpMod (s : Body) (p : Nat) (f : CxlPort → CxlPort) : Body :=
  { s with cxl := { s.cxl with ports := mset s.cxl.ports p (f (s.cxp p)) } }
/-- A logical device. -/
def ldOf (s : Body) (p k : Nat) : LdSt := mgetD (s.cxp p).lds k {}
/-- Change a logical device. -/
def ldMod (s : Body) (p k : Nat) (f : LdSt → LdSt) : Body := s.cxpMod p fun x => { x with lds := mset x.lds k (f (mgetD x.lds k {})) }

/-- SIZE of a logical device in GiB (R246). -/
def ldGib (s : Body) (p k : Nat) : Nat := ((s.ldPart p k).map (·.size)).getD 0

/-- The decoders of a logical device. -/
def decs (l : LdSt) : List HdmDec := [l.dec0, l.dec1]

/-- Memory_Active of a logical device: its partition is ONLINE and the persistence unit is ON (R260). -/
def memActive (s : Body) (p k : Nat) : Bool :=
  s.isOn U.persist && match s.ldPart p k with
    | some d => s.get (F.PART_ATTR_STATE d.id) == 1
    | none => false

/-- Show a logical device (R264). -/
def ldShow (s : Body) (p k : Nat) : Body :=
  let l := s.ldOf p k
  let n := (decs l).filter (·.committed) |>.length
  let s := (s.putB (F.CXP_LD_MEM_ENABLE p k) l.memEnable).put (F.CXP_LD_DECODERS p k) n
  let s := (s.putB (F.CXP_LD_MEMORY_ACTIVE p k) (s.memActive p k)).putB (F.CXP_LD_SHUTDOWN_DIRTY p k) (s.cxl.dirty.contains (16 * p + k))
  let logs := [l.info, l.warn, l.fail, l.fatal]
  let s := s.putB (F.CXP_LD_LOG_OVERFLOW p k) (logs.any (·.overflow))
  s.put (F.CXP_LD_RECORDS p k) (sum (logs.map (·.recs.length)))

/-- HDM_COMMITTED of the partition of a logical device (R247). -/
def hdmShow (s : Body) (p k : Nat) : Body :=
  match s.ldPart p k with
  | some d => s.putB (F.PART_ATTR_HDM_COMMITTED d.id) ((decs (s.ldOf p k)).any (·.committed))
  | none => s

/-! ## Event records (R253 to R255) -/

/-- The CXL timestamp of a logical device: zero before the first Set Timestamp, then counting on (R255, R256). -/
def cxlTime (s : Body) (p k : Nat) : Nat :=
  let l := s.ldOf p k
  if l.tsSet then l.tsBase + (s.time.tai - l.tsAt) else 0

/-- Send an MSI-X vector of a logical device (R263). -/
def msix (s : Body) (p k v : Nat) : Body := s.postN (U.cxl p) .msix (k * 8 + v)

/-- Log `n` of a logical device: 0 Informational, 1 Warning, 2 Failure, 3 Fatal (R255). -/
def logOf (l : LdSt) : Nat → EvLog
  | 0 => l.info | 1 => l.warn | 2 => l.fail | _ => l.fatal
/-- Replace a log. -/
def setLog (l : LdSt) (n : Nat) (e : EvLog) : LdSt :=
  match n with
  | 0 => { l with info := e } | 1 => { l with warn := e } | 2 => { l with fail := e } | _ => { l with fatal := e }

/-- Add a record to a log; a full log discards it, flags its overflow and counts it (R255). -/
def recordAdd (s : Body) (p k n : Nat) (at_ : Option PoisonAt) (code : Nat) (dpa : Option Nat) : Body :=
  let e := logOf (s.ldOf p k) n
  let t := s.cxlTime p k
  if e.recs.length ≥ 256 then
    let s := s.ldMod p k fun l => setLog l n { e with
      overflow := true, lost := e.lost + 1, firstOv := if e.overflow then e.firstOv else t, lastOv := t }
    ((if e.overflow then s else s.raise (U.cxl p) (F.CXP_EVENTS_LOG_OVERFLOW p) k).postN (U.cxl p) .cxlRecord (k * 4 + n)).ldShow p k
  else
    let r : EvRecord := ⟨at_, code, dpa, t, s.frameNo, e.nextH⟩
    let s := s.ldMod p k fun l => setLog l n { e with recs := e.recs ++ [r], nextH := e.nextH % 65535 + 1 }
    let s := (s.postN (U.cxl p) .cxlRecord (k * 4 + n)).ldShow p k
    if (s.ldOf p k).policy / 2 ^ (8 * n) % 4 = 1 then s.msix p k (n + 1) else s

/-- A poisoned response makes a Failure record, unless its line has an uncleared one there (R253). -/
def poisonRecord (s : Body) (p k : Nat) (at_ : PoisonAt) (dpa : Option Nat) : Body :=
  if dpa.isSome && ((s.ldOf p k).fail.recs.any fun r => r.code == 0 && r.dpa == dpa) then s else s.recordAdd p k 2 (some at_) 0 dpa

/-- Present logical devices: port and LD. -/
def allLds (s : Body) : List (Nat × Nat) := (List.range s.cxlPortCount).flatMap fun p => (List.range (s.ldCount p)).map fun k => (p, k)

/-- Add a memory module record to every logical device of every port (R254). -/
def moduleRecord (s : Body) (n code : Nat) : Body := s.forEach s.allLds fun s x => s.recordAdd x.1 x.2 n none code none

/-- The records that the events of this command call for (R254). The temperature row follows with the sample. -/
def moduleRecords (s : Body) : Body :=
  let has := fun (q : Fld → Bool) => s.evs.any fun e => match e.ev with
    | .bit f => q f
    | .named _ => false
  let spare := fun (g : Nat → Fld) => has fun f => (List.range 32).any fun c => f == g c
  let lost := s.evs.any fun e => e.ev == Event.named EvName.lostRole
  let s := s.when (spare F.MD_EVENTS_SPARE_LOW) (·.moduleRecord 1 1)
  let s := s.when (spare F.MD_EVENTS_SPARE_CRIT || spare F.MD_EVENTS_SPARE_EXHAUSTED) (·.moduleRecord 2 2)
  let s := s.when lost (·.moduleRecord 3 4)
  s.when (has (· == F.PERSIST_EVENTS_LOSS_ACCEPTED)) (·.moduleRecord 2 5)

/-! ## Credits, DevLoad (R249) -/

/-- RD_EFFECTIVE (R249). -/
def rdEffective (s : Body) (p : Nat) : Nat :=
  let q := s.get (F.CXP_CREDIT_RD_QUOTA p)
  if s.sp.ch.any fun c => c.2.rtReq > 0 then q * (100 - s.get F.SP_RT_CFG_RT_RESERVE_PCT) / 100 else q

/-- DevLoad (R249): 0 light to 3 severe. -/
def devLoad (s : Body) (p : Nat) : Nat :=
  let q := (s.aq p).length
  let lvl := s.get F.PERSIST_STATUS_ADMIT
  if q ≥ 4096 || lvl = 2 then 3
  else if q ≥ 3072 || lvl = 1 then 2
  else if q ≥ 1024 || 2 * (s.cxp p).reads.length ≥ s.rdEffective p then 1
  else 0

/-- Show a port's live fields (R264). -/
def cxpShow (s : Body) (p : Nat) : Body :=
  let x := s.cxp p
  let s := ((s.put (F.CXP_CREDIT_RD_OUT p) x.reads.length).put (F.CXP_CREDIT_RD_EFFECTIVE p) (s.rdEffective p)).put (F.CXP_HELD_HELD p) x.held.length
  let ide := if x.macFail then 3 else if x.memIde && x.ioIde then 2 else if x.memIde || x.ioIde then 1 else 0
  (s.put (F.CXP_STATUS_IDE p) ide).put (F.CXP_STATUS_DEVLOAD p) (s.devLoad p)

/-- Whether a port is open (R250). -/
def cxlOpen (s : Body) (p : Nat) : Bool :=
  let x := s.cxp p
  let stop := s.get F.PERSIST_STATUS_STOP_CAUSE
  s.cxlUp p && s.isOn (U.cxl p) && s.holds && !nbit stop 7 && !nbit stop 8 && !s.twin.lease.stopRead && !s.per.hold && !x.macFail
  && (s.per.pf == .idle || s.per.pf == .detected || s.per.pf == .stopped)
  && (!nbit s.cfg.img.fix2.secFlags 1 || (x.memIde && x.ioIde)) && s.attestedOk

/-- Whether the port grants CXL.mem credits while it is open: Mem_Enable and a committed decoder (R260). -/
def cxlGrants (s : Body) (p : Nat) : Bool :=
  s.get (F.CXP_STATUS_LINK p) == 3 && (s.cxp p).lds.any fun l => l.2.memEnable && (decs l.2).any (·.committed)

/-- A message is discarded and reported as a protocol error (R248). -/
def cxlProtocol (s : Body) (p : Nat) : Body :=
  ((s.incSat (F.CXP_ERR_PROTOCOL_ERR p)).raise (U.cxl p) (F.CXP_EVENTS_PROTOCOL_ERR p)).send (.cxlRas p)

/-! ## Decoding (R81, R247) -/

/-- LD DPA offset in bytes of a host address in a committed decoder (R247). -/
def decodeIn (d : HdmDec) (hpa : Nat) : Option Nat :=
  let base := d.base * 2 ^ 28
  if !d.committed || hpa < base || hpa ≥ base + d.size * 2 ^ 28 then none
  else
    let o := hpa - base
    let g := d.ig + 8
    some (d.dpa * 2 ^ 24 + o / 2 ^ (g + d.iw) * 2 ^ g + o % 2 ^ g)

/-- LD DPA offset of a host address. -/
def hdmDecode (s : Body) (p k hpa : Nat) : Option Nat := (decs (s.ldOf p k)).findSome? (decodeIn · hpa)

/-- Device line address of an LD DPA offset in an ONLINE partition (R81, R84). -/
def ldLine (s : Body) (p k off : Nat) : Option Nat :=
  match s.ldPart p k with
  | some d => if off < d.size * 2 ^ 30 && s.get (F.PART_ATTR_STATE d.id) == 1 then some ((d.base * 2 ^ 30 + off) / 64) else none
  | none => none

/-! ## Requests (R248 to R252) -/

/-- Class of a logical device's accesses (R105). -/
def ldClass (s : Body) (p k : Nat) : Nat :=
  let c := s.get ⟨A.NC_LD_CLASS p, 4 * k, 4⟩
  if c = 15 then 0 else c

/-- An access outside every ONLINE partition (R84, R248). -/
def cxlOutside (s : Body) (p : Nat) : Body :=
  let s := s.incSat (F.CXP_COUNT_1_INVALID_ADDR p)
  s.raise (U.cxl p) F.PLACE_EVENTS_OUT_OF_PARTITION

/-- Answer a read; one that carries poison is counted and posted (R199). -/
def cxlAnswer (s : Body) (p k tag : Nat) (data : LineData) (poison : Bool) : Body :=
  let s := s.inc (F.CXP_COUNT_0_READS p)
  let s := if poison then
      ((s.incSat (F.CXP_COUNT_1_POISONED p)).incSat F.POISON_COUNT_CXL).raise (U.cxl p) F.PERSIST_EVENTS_POISON_CONSUMED k
    else s
  s.send (.cxlData p k tag (if poison then 0 else data) poison (s.devLoad p))

/-- A read is taken (R248). -/
def cxlRead (s : Body) (p k tag hpa : Nat) (obs : TierObs) : Body :=
  let off := s.hdmDecode p k hpa
  match off, off.bind (s.ldLine p k) with
  | some o, some line =>
    let s := s.cxpMod p fun x => { x with reads := x.reads ++ [CxlRead.mk k tag line (o / 64 * 64)] }
    s.order (.cxl p k tag) line .read (s.ldClass p k) obs
  | _, _ => ((s.cxlOutside p).cxlAnswer p k tag 0 true).poisonRecord p k .address (off.map fun o => o / 64 * 64)

/-- A write is taken: it enters the port's admission queue (R192, R248). -/
def cxlWrite (s : Body) (p k tag hpa : Nat) (data : LineData) (mask : Mask) : Body :=
  match (s.hdmDecode p k hpa).bind (s.ldLine p k) with
  | some line => s.presentW p [⟨.cxl p k tag, line, .write data mask, s.ldClass p k⟩]
  | none => (s.cxlOutside p).send (.cxlCmp p k tag (s.devLoad p))

/-- A request with no data effect (R248). -/
def cxlNoData (s : Body) (p k tag : Nat) : Body := s.send (.cxlCmp p k tag (s.devLoad p))

/-- Run a request that was held. -/
def cxlRun (s : Body) (p : Nat) : CxlHeld → Body
  | .read k tag hpa => s.cxlRead p k tag hpa TierObs.clean
  | .noData k tag => s.cxlNoData p k tag
  | .write k tag hpa d m => s.cxlWrite p k tag hpa d m
  | .gpf tag => s.flushPresent (.gpf p tag)

/-- Hold a request on a port that is not open (R250). -/
def cxlHold (s : Body) (p : Nat) (h : CxlHeld) : Body := (s.cxpMod p fun x => { x with held := x.held ++ [h] }).cxpShow p

/-- A request that uses an M2S Req credit arrives (R248 to R250). -/
def cxlReq (s : Body) (p : Nat) (h : CxlHeld) (go : Body → Body) : Body :=
  if s.get (F.CXP_STATUS_LINK p) != 3 || !s.isOn (U.cxl p) then s
  else if s.flag (F.CXP_STATUS_OPEN p) then
    if !s.cxlGrants p || (s.cxp p).reads.length ≥ s.rdEffective p then s.cxlProtocol p else (go s).cxpShow p
  else if (s.cxp p).credReq = 0 then s.cxlProtocol p
  else (s.cxpMod p fun x => { x with credReq := x.credReq - 1 }).cxlHold p h

/-- A request with data arrives, which uses an M2S RwD credit (R248 to R250). -/
def cxlRwd (s : Body) (p k tag hpa : Nat) (data : LineData) (mask : Mask) : Body :=
  if s.get (F.CXP_STATUS_LINK p) != 3 || !s.isOn (U.cxl p) then s
  else if s.flag (F.CXP_STATUS_OPEN p) then
    if !s.cxlGrants p || (s.aq p).length ≥ 4096 then s.cxlProtocol p else (s.cxlWrite p k tag hpa data mask).cxpShow p
  else if (s.cxp p).credRwd = 0 then s.cxlProtocol p
  else (s.cxpMod p fun x => { x with credRwd := x.credRwd - 1 }).cxlHold p (.write k tag hpa data mask)

/-- MemSpecRd (R248): a fill when a miss register and a read credit are free; otherwise it is dropped. -/
def cxlSpec (s : Body) (p k hpa : Nat) (obs : TierObs) : Body :=
  if !s.flag (F.CXP_STATUS_OPEN p) || !s.cxlGrants p || (s.cxp p).reads.length ≥ s.rdEffective p || s.nc.mrs.length ≥ 4096 then s
  else match (s.hdmDecode p k hpa).bind (s.ldLine p k) with
    | some line => s.order (.cxlSpec p) line .read (s.ldClass p k) obs
    | none => s

/-- GPF Phase 2 (R252). -/
def gpf2 (s : Body) (p tag : Nat) : Body :=
  if !s.cxlUp p then s
  else if s.flag (F.CXP_STATUS_OPEN p) then s.flushPresent (.gpf p tag)
  else s.cxlHold p (.gpf tag)

/-- The line of an outstanding read comes back (R248, R253). -/
def cxlDone (s : Body) (p k tag line : Nat) (data : LineData) (poison : Bool) (at_ : Option PoisonAt) : Body :=
  match (s.cxp p).reads.find? fun r => r.ld == k && r.tag == tag && r.line == line with
  | none => s
  | some r =>
    let s := (s.cxpMod p fun x => { x with reads := x.reads.erase r }).cxlAnswer p k tag data poison
    let s := if poison then s.poisonRecord p k (at_.getD .media) (some r.dpa) else s
    s.cxpShow p

/-! ## Opening and closing (R250, R261) -/

/-- Discard the held requests (R250). -/
def cxlDiscard (s : Body) (p : Nat) : Body :=
  let n := (s.cxp p).held.length
  if n = 0 then s
  else (((s.cxpMod p fun x => { x with held := [] }).addWrap (F.CXP_HELD_DISCARDED p) n).raise (U.cxl p) (F.CXP_EVENTS_HELD_DISCARDED p) n).cxpShow p

/-- Look at a port's opening conditions (R250). -/
def cxlLook (s : Body) (p : Nat) : Body :=
  let now := s.cxlOpen p
  let was := s.flag (F.CXP_STATUS_OPEN p)
  let s := s.putB (F.CXP_STATUS_OPEN p) now
  let s := if s.role == .none then (s.cxlDiscard p).setAq p [] else s
  if now && !was then
    let same := (s.cxp p).openRole == roleCode s.role
    let s := if same then s else s.cxlDiscard p
    let l := (s.cxp p).held
    let s := s.cxpMod p fun x => { x with held := [], openRole := roleCode s.role, credReq := 0, credRwd := 0 }
    (s.forEach l fun s h => s.cxlRun p h).cxpShow p
  else if was && !now then
    let req := if s.cxlGrants p then s.rdEffective p - (s.cxp p).reads.length else 0
    let rwd := if s.cxlGrants p then 4096 - (s.aq p).length else 0
    (s.cxpMod p fun x => { x with credReq := req, credRwd := rwd }).cxpShow p
  else s

/-- The writes of a port, or of one of its logical devices, that wait in its queue complete without an answer (R261). -/
def cxlMute (s : Body) (p : Nat) (ld : Option Nat) : Body :=
  s.setAq p ((s.aq p).map fun w => match w.req with
    | .cxl q k _ => if q == p && (ld.isNone || ld == some k) then { w with req := .cxlSpec p } else w
    | _ => w)

/-- Flushes of a port that have not been acknowledged are never answered (R244). -/
def gpfDrop (s : Body) (p : Nat) : Body :=
  let keep := fun (l : List AckWaiter) => l.filter fun w => match w with
    | .gpf q _ => q != p
    | .flagged _ _ => true
  { s with per := { s.per with flushes := keep s.per.flushes, sealHeld := keep s.per.sealHeld
                               batches := s.per.batches.map fun (b : Batch) => { b with waiters := keep b.waiters } } }

/-- A logical device returns to reset; its logs, shutdown state and CDAT sequence number stay (R261). -/
def ldReset (s : Body) (p k : Nat) : Body :=
  let s := s.ldMod p k fun l => { l with dec0 := {}, dec1 := {}, waiting := [], memEnable := false, policy := 0, alerts := [],
                                         scan := none, bgDone := false }
  (s.hdmShow p k).ldShow p k

/-- The link goes down or is reset (R261). -/
def cxlDown (s : Body) (p : Nat) : Body :=
  if !s.cxlUp p then s
  else
    let s := ((s.cxlMute p none).gpfDrop p).cxlDiscard p
    let s := s.cxpMod p fun x => { x with reads := [], memIde := false, ioIde := false, macFail := false, credReq := 0, credRwd := 0 }
    let s := s.forEach (List.range (s.ldCount p)) fun s k => s.ldReset p k
    let s := ((s.put (F.CXP_STATUS_LINK p) 0).put (F.CXP_STATUS_RATE p) 0).put (F.CXP_STATUS_WIDTH p) 0
    let s := (s.put (F.CXP_STATUS_OPEN p) 0).raise (U.cxl p) (F.CXP_EVENTS_LINK_DOWN p)
    s.cxpShow p

/-- A function level reset of one logical device (R261). -/
def cxlFlr (s : Body) (p k : Nat) : Body :=
  if !s.ldUp p k then s
  else
    let s := s.cxlMute p (some k)
    let mine := fun (h : CxlHeld) => match h with
      | .read l _ _ | .noData l _ | .write l _ _ _ _ => l == k
      | .gpf _ => false
    let n := ((s.cxp p).held.filter mine).length
    let s := s.cxpMod p fun x => { x with reads := x.reads.filter (·.ld != k), held := x.held.filter (!mine ·) }
    let s := if n = 0 then s else (s.addWrap (F.CXP_HELD_DISCARDED p) n).raise (U.cxl p) (F.CXP_EVENTS_HELD_DISCARDED p) n
    (s.ldReset p k).cxpShow p

/-- Width of the split (R243). -/
def cxlWidth (s : Body) : Nat := 64 / s.cxlPortCount

/-- The link comes up (R242, R258, R260): rate 1 to 4 for 8 to 64 GT/s, limited by MAX_RATE; CXL.mem from x4 on and when the host runs
256-byte flit mode. -/
def cxlLinkUp (s : Body) (p rate width : Nat) (flit : Bool) : Body :=
  if p ≥ s.cxlPortCount || !s.isOn (U.cxl p) || s.cxlUp p || s.flag (F.CXP_CTL_LINK_DISABLE p) then s
  else
    let top := 4 - s.get (F.CXP_CTL_MAX_RATE p)
    let rate := min (max 1 rate) top
    let width := min width s.cxlWidth
    let s := (s.put (F.CXP_STATUS_LINK p) (if flit && width ≥ 4 then 3 else 2)).put (F.CXP_STATUS_RATE p) rate
    let s := ((s.put (F.CXP_STATUS_WIDTH p) width).inc (F.CXP_STATUS_LINK_UPS p)).raise (U.cxl p) (F.CXP_EVENTS_LINK_UP p)
    let s := if rate < top || width < s.cxlWidth then s.raise (U.cxl p) (F.CXP_EVENTS_DOWNTRAINED p) else s
    let s := s.forEach (List.range (s.ldCount p)) fun s k => (s.ldMod p k fun l => { l with cdatSeq := l.cdatSeq + 1 }).ldShow p k
    s.later .ports

/-! ## HDM decoders (R247) -/

/-- Why a commit is refused, if it is (R247). Lengths are counted in units of 16 MiB, a sixteenth of a decoder's unit. -/
def hdmRefused (s : Body) (p k : Nat) (r : HdmReq) : Bool :=
  let l := s.ldOf p k
  let start := if r.dec = 0 then r.skip * 16 else l.dec0.dpa + l.dec0.size * 16 / 2 ^ l.dec0.iw + r.skip * 16
  let stop := start + r.size * 16 / 2 ^ r.iw
  match s.ldPart p k with
  | none => true
  | some d =>
    stop > d.size * 64
    || (r.dec = 0 && l.dec1.committed && l.dec1.dpa < stop && start < l.dec1.dpa + l.dec1.size * 16 / 2 ^ l.dec1.iw)
    || (r.dec != 0 && !l.dec0.committed)
    || r.iw > 4 || r.ig > 6 || s.get (F.PART_ATTR_STATE d.id) != 1 || s.cfg.refuseIn.contains d.id

/-- Judge a commit (R247). -/
def hdmJudge (s : Body) (p k : Nat) (r : HdmReq) : Body :=
  let l := s.ldOf p k
  let no := s.hdmRefused p k r
  let start := if r.dec = 0 then r.skip * 16 else l.dec0.dpa + l.dec0.size * 16 / 2 ^ l.dec0.iw + r.skip * 16
  let d : HdmDec := { base := r.base, size := r.size, skip := r.skip, dpa := if no then 0 else start, iw := r.iw, ig := r.ig,
                      committed := !no, locked := r.lock && !no, error := no }
  let s := s.ldMod p k fun l => if r.dec = 0 then { l with dec0 := d } else { l with dec1 := d }
  let s := if no then s.raise (U.cxl p) (F.CXP_EVENTS_DECODER_REFUSED p) k else s
  (s.hdmShow p k).ldShow p k

/-- The host commits a decoder; one written while a change is CHECKING waits; a locked decoder ignores the write (R247). -/
def hdmCommit (s : Body) (p k : Nat) (r : HdmReq) : Body :=
  let l := s.ldOf p k
  let old := if r.dec = 0 then l.dec0 else l.dec1
  if !s.ldUp p k || (old.committed && old.locked) then s
  else if s.changeState == 1 then s.ldMod p k fun l => { l with waiting := l.waiting ++ [r] }
  else s.hdmJudge p k r

/-- CHECKING has ended: the commits that waited are judged (R247). -/
def hdmHeld (s : Body) : Body :=
  s.forEach s.allLds fun s x =>
    let l := (s.ldOf x.1 x.2).waiting
    s.forEach l fun s r => (s.ldMod x.1 x.2 fun l => { l with waiting := [] }).hdmJudge x.1 x.2 r

/-- Snapshot a decoder (R264). -/
def hdmSnap (s : Body) (p : Nat) : Body :=
  let k := s.get (F.CXP_HDM_SEL_LD p)
  let n := s.get (F.CXP_HDM_SEL_DECODER p)
  let l := s.ldOf p k
  let d := if n = 0 then l.dec0 else l.dec1
  let s := ((s.put (F.CXP_HDM_PEEK_0_BASE p) d.base).putB (F.CXP_HDM_PEEK_0_COMMITTED p) d.committed).putB (F.CXP_HDM_PEEK_0_LOCKED p) d.locked
  let s := ((s.put (F.CXP_HDM_PEEK_0_IW p) d.iw).put (F.CXP_HDM_PEEK_0_IG p) d.ig).putB (F.CXP_HDM_PEEK_0_COMMIT_ERROR p) d.error
  let s := s.put (F.CXP_HDM_PEEK_0_ECHO p) (k + 16 * n)
  (s.put (F.CXP_HDM_PEEK_1_SIZE p) d.size).put (F.CXP_HDM_PEEK_2_DPA_START p) (d.dpa / 16)

/-- After a write of RD_QUOTA (R249): one that raises the sum above 2,048 is undone. -/
def quotaSettle (s : Body) (p old : Nat) : Body :=
  let f := F.CXP_CREDIT_RD_QUOTA p
  let total := sum ((List.range s.cxlPortCount).map fun q => s.get (F.CXP_CREDIT_RD_QUOTA q))
  if p < s.cxlPortCount && old < s.get f && total > 2048 then
    (s.put f old).raise (U.cxl p) (F.CXP_EVENTS_QUOTA_REFUSED p) (s.get f)
  else s.cxpShow p

/-- A write of RD_QUOTA (R249). -/
def quotaWrite (s : Body) (actor : Actor) (p v : Nat) : Body :=
  let f := F.CXP_CREDIT_RD_QUOTA p
  (s.judge actor f.addr (f.insert (s.word f.addr) v)).1.quotaSettle p (s.get f)

/-! ## IDE (R259) -/

/-- A MAC check fails (R259). -/
def ideFail (s : Body) (p : Nat) : Body :=
  if !s.cxlUp p || !((s.cxp p).memIde || (s.cxp p).ioIde) then s
  else
    let s := s.cxpMod p fun x => { x with macFail := true }
    let s := ((s.incSat (F.CXP_ERR_IDE_FAIL p)).raise (U.cxl p) (F.CXP_EVENTS_IDE_FAIL p)).send (.cxlIdeError p)
    (s.cxpShow p).later .ports

/-- A key exchange of a stream completes (R259). -/
def ideKeys (s : Body) (p : Nat) (io : Bool) : Body :=
  if !s.cxlUp p then s
  else
    let failed := (s.cxp p).macFail
    let s := s.cxpMod p fun x => { x with memIde := x.memIde || !io, ioIde := x.ioIde || io, macFail := false }
    let s := if failed then s.cxlDiscard p else s
    (s.cxpShow p).later .ports

/-! ## Mailbox, fabric manager, DOE (R246, R255 to R258) -/

/-- Return code of an answer as the mailbox reports it (CXL 3.1; PRESUMED, log entry 61). -/
def mboxCode : CxlAns → Nat
  | .busy => 6
  | .invalid => 2
  | .invalidHandle => 14
  | .unsupported => 3
  | .bgStatus true 0 => 1
  | _ => 0

/-- A command of a logical device's mailbox: its effect, its answer and the MSI-X of its completion (R255, R256). -/
def mbox (s : Body) (p k : Nat) (a : Body → CxlAns) (f : Body → Body := id) : Body :=
  if s.ldUp p k then
    let x := a s
    (((f s).ldMod p k fun l => { l with lastCode := mboxCode x }).send (.cxlAns p k x)).msix p k 0
  else s

/-- The opcode of the mailbox command that follows (R438). -/
def mboxOp (s : Body) (p k op : Nat) : Body := if s.ldUp p k then s.ldMod p k fun l => { l with lastOp := op } else s

/-- Health status bits (R257): maintenance needed, performance degraded, replacement needed. -/
def healthBits (s : Body) : Nat :=
  let pools := s.mdChans.flatMap fun c => (List.range s.cfg.img.fix.pkgPerCh).filterMap fun i =>
    (s.pkg c i).map fun p => ((s.slotCount c i).1, p.slots)
  b2n (pools.any fun p => p.1 * 20 < p.2) + 2 * b2n (s.th.planLevel ≥ 1 || s.twin.link.onFall || s.role == .solo)
    + 4 * b2n (pools.any fun p => p.1 * 100 < p.2)

/-- Life used in percent (R257). -/
def lifeUsed (s : Body) : Nat :=
  let l := s.mdChans.flatMap fun c => (List.range s.cfg.img.fix.pkgPerCh).filterMap fun i => (s.pkg c i).map fun p =>
    let wear := ((s.slotsOf c i).map (·.2.wear)).foldl max 0
    if p.endurance = 0 then 0 else wear * 16 * 100 / (p.endurance * 1000)
  min 100 (l.foldl max 0)

/-- Get Health Info (R257). -/
def healthAns (s : Body) (p : Nat) : CxlAns :=
  let temp := (s.th.die.filterMap fun t => if t.2.valid then some (t.2.temp / 8) else none)
  let top := match temp with
    | [] => 0
    | t :: r => r.foldl max t
  .health s.healthBits (s.flag (F.CXP_STATUS_OPEN p)) s.lifeUsed top (s.counter 3)
    (sum ((List.range 12).map fun c => s.get (F.SP_CH_ECC_CORRECTED c))) (sum ((List.range 32).map fun c => s.get (F.MD_ECC_CORRECTED c)))

/-- Records that fit one answer: a 32-byte header and 128 bytes a record in 4,096 bytes (PRESUMED, CXL 3.1, log entry 58). -/
def recordsMax : Nat := 31

/-- Get Event Records (R255). -/
def eventsAns (s : Body) (p k n : Nat) : CxlAns :=
  let e := logOf (s.ldOf p k) (n % 4)
  .events (e.recs.take recordsMax) (e.recs.length > recordsMax) e.overflow e.lost e.firstOv e.lastOv

/-- Clear Event Records (R255): the handles named, oldest first (PRESUMED, CXL 3.1, log entry 58), or the whole log. -/
def eventsClear (s : Body) (p k n : Nat) (all : Bool) (handles : List Nat) : Body :=
  let e := logOf (s.ldOf p k) (n % 4)
  let ok := all || (e.recs.take handles.length).map (·.handle) == handles
  let e' : EvLog := { e with recs := if all then [] else e.recs.drop handles.length, overflow := false, lost := 0, firstOv := 0, lastOv := 0 }
  if ok then s.mbox p k (fun _ => .done) fun s => (s.ldMod p k fun l => setLog l (n % 4) e').ldShow p k
  else s.mbox p k fun _ => .invalidHandle

/-- Set Alert Configuration (R256): warning thresholds switched on or off. -/
def alertsSet (s : Body) (p k valid enable : Nat) (vals : List Nat) : Body :=
  s.mbox p k (fun _ => .done) fun s => s.ldMod p k fun l => { l with alerts := (List.range 5).foldl (fun m i =>
    if !nbit valid i then m else if nbit enable i then mset m i (vals.getD i 0) else merase m i) l.alerts }

/-- Write the shutdown states to the Rack: one bit a logical device in bytes 8 to 39 (R395). -/
def shutdownStore (s : Body) : Body :=
  let w := fun (i : Nat) => (BitVec.ofNat 64 (sum ((s.cxl.dirty.filter fun n => n / 64 = i).map fun n => 2 ^ (n % 64))) : Word)
  s.recWrite .record 0xC0 [w 0, w 1, w 2, w 3, 0, 0] 0

/-- Set Shutdown State (R256). -/
def shutdownSet (s : Body) (p k : Nat) (dirty : Bool) : Body :=
  s.mbox p k (fun _ => .done) fun s =>
    let n := 16 * p + k
    let s := { s with cxl := { s.cxl with dirty := if dirty then insertNat s.cxl.dirty n else s.cxl.dirty.erase n } }
    s.shutdownStore.ldShow p k

/-- Get Poison List begins (R256): a background command over at most 1 GiB of LD DPA offsets. -/
def poisonScan (s : Body) (p k first lines : Nat) : Body :=
  let l := s.ldOf p k
  if l.scan.isSome then s.mbox p k fun _ => .busy
  else if lines > 2 ^ 24 || (first + lines) * 64 > s.ldGib p k * 2 ^ 30 then s.mbox p k fun _ => .invalid
  else s.mbox p k (fun _ => .bgStatus true 0) fun s => s.ldMod p k fun l => { l with scan := some (first, lines), bgDone := false }

/-- The poison list scan ends (R256): poisoned lines of every tier, up to 256 in an answer, with the More flag. -/
def poisonScanned (s : Body) (p k : Nat) : Body :=
  match (s.ldOf p k).scan, s.ldPart p k with
  | some (first, n), some d =>
    let bad := (range' first n).filter fun i => (s.peek (d.base * 2 ^ 24 + i)).2
    let l := (bad.take 257).map (· * 64)
    let s := s.ldMod p k fun l' => { l' with scan := none, bgDone := true }
    s.mbox p k fun _ => .poison (l.take 256) (l.length > 256)
  | _, _ => s.ldMod p k fun l => { l with scan := none }

/-- Usable link rate in MB/s: 0.875 × rate × width ÷ 8 bytes (R258). -/
def linkMBs (s : Body) (p : Nat) : Nat :=
  let rate := match s.get (F.CXP_STATUS_RATE p) with
    | 1 => 8 | 2 => 16 | 3 => 32 | 4 => 64 | _ => 0
  rate * s.get (F.CXP_STATUS_WIDTH p) * 875 / 8

/-- The CDAT of a logical device (R258). -/
def cdatAns (s : Body) (p k : Nat) : CxlAns :=
  .cdat (s.ldOf p k).cdatSeq (s.ldGib p k * 2 ^ 30) (2 * s.periodNs + 400) 185 (s.linkMBs p) (min (s.linkMBs p) 72000)

/-- A change of a partition's size rebuilds the CDAT of its logical device (R258). -/
def cdatBump (s : Body) (p k : Nat) : Body := s.ldMod p k fun l => { l with cdatSeq := l.cdatSeq + 1 }

/-- An answer through DOE, with its vector (R245, R258, R263). -/
def doe (s : Body) (p k : Nat) (a : CxlAns) : Body := if s.ldUp p k then (s.send (.cxlAns p k a)).msix p k 5 else s

/-- An answer of the fabric manager's device (R246). -/
def fmAns (s : Body) (p : Nat) (a : CxlAns) : Body := if s.cxlUp p then s.send (.cxlAns p 0xFFFF a) else s

/-- DOE Discovery (R245): protocol `i` of Discovery, CDAT, CMA/SPDM, Secured CMA/SPDM. -/
def doeDiscovery (s : Body) (p k i : Nat) : Body :=
  s.doe p k (if i < 4 then .doeProtocol i ((i + 1) % 4) else .invalid)

end Body

end Sys2Proof.Machine
end

