-- ==== Sys2Proof/Machine/Heat.lean ====
section
/-! DEFINITION. What a thermal sample moves outside the monitor: refresh doubling (R136), the write window of a package (R175), the code
flash (R382), the Warning record of the CXL devices (R254). -/

namespace Sys2Proof.Machine

namespace Body

/-- Whether a temperature has reached the start of Simmer 4 of its class (R254, R424). -/
def simmer4 (s : Body) : Bool := [SensClass.die, .dimm, .media].any fun c => (s.classTemps c).any (· ≥ s.thresh c 3)

/-- Refresh doubling of a channel (R136, R426): on above 85 °C, with an invalid sensor or at a mode register's request; off at 83 °C or
less with no request. -/
def refreshRate (s : Body) (c : Nat) : Body :=
  let x := mgetD s.th.dimm c {}
  let want := x.bad || (x.valid && x.temp > 680) || (s.spCh c).modeReq
  let cool := x.valid && x.temp ≤ 664 && !(s.spCh c).modeReq
  if s.flag (F.SP_CH_STATUS_REF_2X c) then (if cool then s.put (F.SP_CH_STATUS_REF_2X c) 0 else s)
  else if want then (s.put (F.SP_CH_STATUS_REF_2X c) 1).raise (U.sp c) (F.SP_CH_EVENTS_REF_2X_ON c) else s

/-- Report the media write window and post its opening or closing (R175, R184); replay waits for it (R207). -/
def windowLook (s : Body) : Body :=
  let o := s.windowOpen
  let st := s.get F.REPLAY_STATUS_STATE
  let s := s.when (st == 1 || st == 5) (·.put F.REPLAY_STATUS_STATE (if o then 1 else 5))
  if o == s.flag F.MTL_STATUS_WINDOW_OPEN then s
  else (s.putB F.MTL_STATUS_WINDOW_OPEN o).raise U.mtl (if o then F.MTL_EVENTS_WINDOW_OPENED else F.MTL_EVENTS_WINDOW_CLOSED)

/-- The write window of a package at the sensor's reading (R175, R426). -/
def pkgWindow (s : Body) (c pos : Nat) : Body :=
  match s.pkg c pos with
  | none => s
  | some p =>
    let q := s.cfg.img.qui
    let x := mgetD s.th.media (2 * c + pos) {}
    let lo := max q.mediaMin p.writeMin
    let hi := min q.mediaMax p.writeMax
    let w := x.valid && (if p.writable then lo ≤ x.temp && x.temp ≤ hi else lo + q.hyst ≤ x.temp && x.temp ≤ hi - q.hyst)
    let s := s.setPkg c pos { p with temp := x.temp, writable := w }
    let s := s.putBit F.MTL_WINDOW_OUT_PKGS (2 * c + pos) (!w)
    let s := s.when (p.writable && !w) (·.raise (U.md c) (F.MD_EVENTS_LEFT_WINDOW c) pos)
    (s.mdRegs c).windowLook

/-- A thermal sample (R422): the monitor's own work, then the rules that its samples feed. -/
def thermalSample (s : Body) (c : SensClass) (n : Nat) (temp : Option Int) (us : Nat) : Body :=
  let was := s.simmer4
  let s := s.thSample c n temp us
  let s := match c with
    | .die => s.when (n == 22) cfTemp
    | .dimm => s.refreshRate n
    | .media => s.pkgWindow (n / 2) (n % 2)
  s.when (s.simmer4 && !was) (·.moduleRecord 1 3)

end Body

end Sys2Proof.Machine
end

