-- ==== Sys2Proof/Machine/Queues.lean ====
section
/-! DEFINITION. The commands of the hardware queues (R305 to R311). -/

namespace Sys2Proof.Machine

/-- Q_CFG_WRITE (R305, R310): the queue is that of Q_CFG_SEL. -/
def execQCfgWrite (actor : Actor) (value : Word) (s : State) : Host.Outcome State Fault Refusal :=
  s.run fun b => b.select actor A.Q_CFG value.toNat fun b => b.qConfigure (b.get F.Q_CFG_SEL_QUEUE) value
/-- Q_PUSH (R306). -/
def execQPush (actor : Actor) (slot : Nat) (value : Word) (s : State) : Host.Outcome State Fault Refusal :=
  s.run fun b => b.select actor (A.Q_PUSH slot) value.toNat (·.qPush slot value)
/-- Q_GAP_MARKER (R308). -/
def execQGapMarker (queue : Nat) (s : State) : Host.Outcome State Fault Refusal := s.run (·.qGapMarker queue)
/-- Q_POP (R306, R307, R309): a read, so no actor is judged; `bad` says that the parity of the head word fails. -/
def execQPop (_actor : Actor) (slot : Nat) (bad : Bool) (s : State) : Host.Outcome State Fault Refusal :=
  s.run fun b =>
    let k := b.get (F.Q_BIND_QUEUE slot)
    (b.when (bad && b.flag (F.Q_BIND_BOUND slot) && (b.queue k).cons == 0) (·.qSpoil k 0)).qPop slot
/-- A flush through a slot, of the queue bound to it (R309). -/
def Body.qFlushSlot (b : Body) (slot : Nat) : Body :=
  b.when (b.flag (F.Q_BIND_BOUND slot)) fun b => b.qFlush (b.get (F.Q_BIND_QUEUE slot))
/-- Q_FLUSH (R309). -/
def execQFlush (actor : Actor) (slot : Nat) (s : State) : Host.Outcome State Fault Refusal :=
  s.run fun b => b.command actor (A.Q_FLUSH slot) 1 (·.qFlushSlot slot)
/-- Q_WIN_SNAPSHOT (R311): `bad` says that the parity of the word fails. -/
def execQWinSnapshot (actor : Actor) (queue offset : Nat) (bad : Bool) (s : State) : Host.Outcome State Fault Refusal :=
  s.run fun b => b.select actor A.Q_WIN_SEL (queue + 4096 * (offset % 2 ^ 22)) fun b => (b.when bad (·.qSpoil queue offset)).qWinSnap

end Sys2Proof.Machine
end

