-- ==== Sys2Proof/Machine/Ramekin.lean ====
section
/-! DEFINITION. The Ramekin pools (R294 to R304, R311, R312). -/

namespace Sys2Proof.Machine

/-- Buffer sizes of the pools. -/
def rkSize (p : Nat) : Nat := 256 * 4 ^ p
/-- The handle of a buffer (R295). -/
def rkHandle (p i : Nat) : Nat := p + 256 * i
/-- NULL (R295). -/
def rkNull : Nat := 2 ^ 64 - 1

namespace Body

def pool (s : Body) (p : Nat) : Pool := mgetD s.rk.pools p {}

/-- Buffers of a pool (R294). -/
def rkCount (s : Body) (p : Nat) : Nat := s.get (F.RK_POOL_CFG_MIB p) * 2 ^ 20 / (rkSize p + 1)
/-- Region offset at which a pool begins (R294). -/
def rkBase (s : Body) (p : Nat) : Nat := ((List.range p).map fun i => s.get (F.RK_POOL_CFG_MIB i) * 2 ^ 20).foldl (· + ·) 0
/-- Region offset of a buffer (R294). -/
def rkBuf (s : Body) (p i : Nat) : Nat := s.rkBase p + i * rkSize p
/-- Region offset of a buffer's state byte (R294). -/
def rkStateAt (s : Body) (p i : Nat) : Nat := s.rkBase p + s.rkCount p * rkSize p + i
/-- Free buffers: those of the three stores (R297, R300). -/
def rkFreeN (s : Body) (p : Nat) : Nat := let x := s.pool p; x.cache.length + (s.rkCount p - x.hwm) + x.chainLen
/-- Buffers that an owner holds in a pool (R301). -/
def rkHeld (s : Body) (o p : Nat) : Nat := mgetD s.rk.held (6 * o + p) 0

/-- Show a pool (R312); falling below LOW_WATER is an event (R303). -/
def rkShow (s : Body) (p : Nat) : Body :=
  let x := s.pool p
  let n := s.rkFreeN p
  let low := n < s.get (F.RK_POOL_CFG_LOW_WATER p)
  let s := ((s.put (F.RK_POOL_STAT_BUFFERS p) (s.rkCount p)).put (F.RK_POOL_STAT_FREE p) n).putB (F.RK_POOL_STAT_CHAIN_BROKEN p) x.broken
  let s := (s.putB (F.RK_POOL_STAT_LOW p) low).put (F.RK_POOL_STAT_QUARANTINED p) (min x.quar.length 63)
  let s := ((s.put (F.RK_POOL_PTR_HWM p) x.hwm).put (F.RK_POOL_PTR_CHAIN_LEN p) x.chainLen).put (F.RK_POOL_PTR_CACHED p) x.cache.length
  let s := s.forEach (List.range 16) fun s o => s.put (F.RK_MIN_HELD o p) (s.rkHeld o p)
  let s := { s with rk := { s.rk with pools := mput {} s.rk.pools p { x with low := low } } }
  if low && !x.low then s.raise U.ramekin F.RK_EVENTS_POOL_LOW p else s

/-- Replace a pool. -/
def setPool (s : Body) (p : Nat) (x : Pool) : Body := ({ s with rk := { s.rk with pools := mput {} s.rk.pools p x } }).rkShow p

/-- Change what an owner holds. -/
def setHeld (s : Body) (o p n : Nat) : Body := { s with rk := { s.rk with held := mput 0 s.rk.held (6 * o + p) n } }

/-! ## The region (R294, R300) -/

/-- Stockpot channel of a region offset (R294). -/
def rkChan (s : Body) (r : Nat) : Option Nat :=
  let d := s.sp.set.getD []
  if d.isEmpty then none else d[r / 4096 % d.length]?
/-- Whether the channel of a region offset takes an access now (R300). -/
def rkReach (s : Body) (r : Nat) : Bool :=
  match s.rkChan r with
  | some c => s.isOn (U.sp c) && s.spMode c == .caching
  | none => false

/-- Pattern of the last fill of a region offset (R145): its 16 MiB unit of the channel's Ramekin area. -/
def rkPattern (s : Body) (r : Nat) : Word :=
  match s.rkChan r with
  | none => 0
  | some c =>
    let p := (s.sp.set.getD []).length
    let u := s.get (F.SP_CH_LAYOUT_SYS_MIB c) / 16 + (r / (4096 * p) * 4096) / 2 ^ 24
    (((s.spCh c).pats.find? fun f => f.1 ≤ u && u < f.1 + f.2.1).map (·.2.2)).getD 0

/-- Whether the 16 MiB unit of a region offset has been filled (R145). -/
def rkFilled (s : Body) (r : Nat) : Bool :=
  match s.rkChan r with
  | none => false
  | some c =>
    (s.spCh c).filled.contains (s.get (F.SP_CH_LAYOUT_SYS_MIB c) / 16 + r / (4096 * (s.sp.set.getD []).length) * 4096 / 2 ^ 24)
/-- A read of an unfilled unit sets READ_BEFORE_FILL (R145). -/
def rkSeen (s : Body) (r : Nat) : Body :=
  match s.rkChan r with
  | some c => if s.rkFilled r then s else s.raise (U.sp c) (F.SP_CH_EVENTS_READ_BEFORE_FILL c)
  | none => s

/-- A word of the region; an unfilled unit reads as zero (R145). -/
def rkWord (s : Body) (n : Nat) : Word := if s.rkFilled (8 * n) then mgetD s.rk.words n (s.rkPattern (8 * n)) else 0
/-- Write a word of the region. -/
def setRkWord (s : Body) (n : Nat) (w : Word) : Body := { s with rk := { s.rk with words := mput (s.rkPattern (8 * n)) s.rk.words n w } }
/-- A byte of the region. -/
def rkByte (s : Body) (r : Nat) : Nat := (s.rkWord (r / 8)).toNat / 256 ^ (r % 8) % 256
/-- Write a byte of the region. -/
def setRkByte (s : Body) (r v : Nat) : Body := s.setRkWord (r / 8) (Fld.insert ⟨0, 8 * (r % 8), 8⟩ (s.rkWord (r / 8)) v)

/-- A line of the region with its poison, by region offset / 64; one of an unfilled unit reads as zero with poison (R145). -/
def rkLine (s : Body) (n : Nat) : LineData × Bool :=
  (BitVec.ofNat 512 ((List.range 8).foldl (fun a i => a + (s.rkWord (8 * n + i)).toNat * 2 ^ (64 * i)) 0), s.rk.poison.contains n || !s.rkFilled (64 * n))
/-- Write a line of the region. -/
def setRkLine (s : Body) (n : Nat) (l : LineData) (poison : Bool) : Body :=
  let s := s.forEach (List.range 8) fun s i => s.setRkWord (8 * n + i) (BitVec.ofNat 64 (l.toNat / 2 ^ (64 * i)))
  { s with rk := { s.rk with poison := if poison then insertNat s.rk.poison n else s.rk.poison.erase n } }

/-- ALLOCATED, QUARANTINED and OWNER of a buffer below HWM (R295). -/
def rkState (s : Body) (p i : Nat) : Bool × Bool × Nat :=
  let b := s.rkByte (s.rkStateAt p i)
  (nbit b 7, nbit b 6 || (s.pool p).quar.contains i, b % 16)

/-- A buffer is quarantined: it is never lent again (R300). -/
def rkQuarantine (s : Body) (p i : Nat) : Body :=
  let x := s.pool p
  let at_ := s.rkStateAt p i
  let s := if s.rkReach at_ then s.setRkByte at_ 64 else s
  s.setPool p { x with quar := insertNat x.quar i }

/-! ## The stores of free buffers (R297, R299) -/

/-- The constant of a chain word. -/
def rkMagic : Nat := 0x52414D4B
/-- A chain word (R297). -/
def chainWord (p : Nat) (next : Option Nat) : Word :=
  BitVec.ofNat 64 (next.getD 0 % 2 ^ 28 + b2n next.isNone * 2 ^ 28 + p % 8 * 2 ^ 29 + rkMagic * 2 ^ 32)
/-- Read a chain word (R297, R299): the next buffer, or that it is the last; none for a word that breaks the chain. -/
def chainNext (w : Word) (p hwm : Nat) : Option (Option Nat) :=
  let n := w.toNat
  if n / 2 ^ 32 != rkMagic || nbits n 29 3 != p then none
  else if nbit n 28 then some none
  else if n % 2 ^ 28 ≥ hwm then none else some (some (n % 2 ^ 28))

/-- What taking a free buffer comes to. -/
inductive RkGot where
  | buf (i : Nat)
  | unreachable       -- STATUS 6
  | broken            -- STATUS 7
  deriving DecidableEq, Repr

/-- Take the head of the chain (R297, R299, R300): `bad` says that its chain word reads with poison. -/
def rkFromChain (s : Body) (p : Nat) (bad : Bool) : Body × RkGot :=
  let x := s.pool p
  if x.broken then (s, .broken)
  else match x.chain with
    | none => (s, .broken)
    | some h =>
      let r := s.rkBuf p h
      if !s.rkReach r then (s, .unreachable)
      else match (if bad then none else chainNext (s.rkWord (r / 8)) p x.hwm) with
        | none => ((s.setPool p { x with broken := true }).raise U.ramekin F.RK_EVENTS_CHAIN_BROKEN p, .broken)
        | some next => (s.setPool p { x with chain := next, chainLen := x.chainLen - 1 }, .buf h)

/-- Take a free buffer: from the cache, then from HWM, then from the chain (R297). -/
def rkTake (s : Body) (p : Nat) (bad : Bool) : Body × RkGot :=
  let x := s.pool p
  match x.cache with
  | i :: r => (s.setPool p { x with cache := r }, .buf i)
  | [] => if x.hwm < s.rkCount p then (s.setPool p { x with hwm := x.hwm + 1 }, .buf x.hwm) else s.rkFromChain p bad

/-- Put a freed buffer into the cache, or at the head of the chain (R297). -/
def rkGive (s : Body) (p i : Nat) : Body :=
  let x := s.pool p
  if x.cache.length < 64 then s.setPool p { x with cache := x.cache ++ [i] }
  else if !s.rkReach (s.rkBuf p i) then s.rkQuarantine p i
  else (s.setRkWord (s.rkBuf p i / 8) (chainWord p x.chain)).setPool p { x with chain := some i, chainLen := x.chainLen + 1 }

/-- Move one buffer into the cache while it holds fewer than 16 handles (R297); it is not ALLOCATED. -/
def rkRefillOne (s : Body) (p : Nat) (bad : Bool) : Body :=
  let x := s.pool p
  if x.cache.length ≥ 16 then s
  else
    let got := if x.hwm < s.rkCount p then (s.setPool p { x with hwm := x.hwm + 1 }, RkGot.buf x.hwm) else s.rkFromChain p bad
    match got with
    | (s, .buf i) =>
      let s := if s.rkReach (s.rkStateAt p i) then s.setRkByte (s.rkStateAt p i) 0 else s
      let y := s.pool p
      s.setPool p { y with cache := y.cache ++ [i] }
    | (s, _) => s

/-- The background refill brings the cache to 16 handles where it can (R297). -/
def rkRefill (s : Body) (p : Nat) (bad : Bool) : Body :=
  if !s.isOn U.ramekin then s
  else (List.range 15).foldl (fun s _ => s.rkRefillOne p false) (s.rkRefillOne p bad)

/-! ## Allocation and free (R296, R301, R302, R303) -/

/-- Sum of the unmet minima of owners other than `o` (R301). -/
def rkUnmet (s : Body) (o p : Nat) : Nat :=
  ((List.range 16).map fun x => if x = o then 0 else s.get (F.RK_MIN_MIN x p) - s.rkHeld x p).foldl (· + ·) 0

/-- The pool of the smallest class that holds a size (R296). -/
def rkClass (size : Nat) : Option Nat := (List.range 6).find? fun p => size ≤ rkSize p

/-- Count and post a failure (R303, R312). -/
def rkFailed (s : Body) (p status : Nat) : Body :=
  if status = 2 then (s.inc (F.RK_POOL_CNT_RESERVE_FAIL p)).raise U.ramekin F.RK_EVENTS_RESERVE_FAIL p
  else (s.inc (F.RK_POOL_CNT_ALLOC_FAIL p)).raise U.ramekin F.RK_EVENTS_ALLOC_FAIL (p + 16 * status)

/-- Allocate a buffer (R296, R297, R300, R301, R303): the handle with STATUS, NULL when it is not 0. `bad` says that the chain word it
may need reads with poison. -/
def rkAlloc (s : Body) (size owner : Nat) (bad : Bool := false) : Body × Nat × Nat :=
  if !s.isOn U.ramekin then (s, rkNull, 5)
  else if size = 0 || size > 262144 then (s, rkNull, 3)
  else if owner ≥ 14 then (s, rkNull, 4)
  else match rkClass size with
    | none => (s, rkNull, 3)
    | some p =>
      let fail := fun (s : Body) (st : Nat) => (s.rkFailed p st, rkNull, st)
      if s.flag F.RK_STATUS_AREA_LOST then fail s 6
      else if s.rkFreeN p = 0 then fail s 1
      else if s.rkFreeN p < s.rkUnmet owner p + 1 then fail s 2
      else match s.rkTake p bad with
        | (s', .unreachable) => fail s' 6
        | (s', .broken) => fail s' 7
        | (s', .buf i) =>
          if !s'.rkReach (s'.rkStateAt p i) then fail s 6
          else
            let s := (s'.setRkByte (s'.rkStateAt p i) (128 + owner)).setHeld owner p (s'.rkHeld owner p + 1)
            (s.rkShow p, rkHandle p i, 0)

/-- A refused free (R302). -/
def rkRefuse (s : Body) : Body := s.raise U.ramekin F.RK_EVENTS_FREE_REFUSED

/-- Free a buffer (R300, R302): `bad` says that its state byte reads with poison. -/
def rkFree (s : Body) (handle owner : Nat) (force : Bool) (bad : Bool := false) : Body :=
  let p := handle % 8
  let i := handle / 256
  if !s.isOn U.ramekin || p > 5 || handle / 8 % 32 != 0 || i ≥ (s.pool p).hwm then s.rkRefuse
  else if !s.rkReach (s.rkStateAt p i) then s.rkQuarantine p i
  else if bad then (s.rkQuarantine p i).rkRefuse
  else
    let (a, q, o) := s.rkState p i
    if !a || q || (o != owner && !force) then s.rkRefuse
    else
      let s := (s.setRkByte (s.rkStateAt p i) 0).setHeld o p (s.rkHeld o p - 1)
      (s.rkGive p i).rkShow p

/-- Whether a handle names a buffer that an owner holds. -/
def rkOwns (s : Body) (handle owner : Nat) : Bool :=
  let p := handle % 8
  let i := handle / 256
  p ≤ 5 && handle / 8 % 32 == 0 && i < (s.pool p).hwm && s.rkState p i == (true, false, owner)

/-! ## Rebuild, configuration, lifecycle -/

/-- GO of a rebuild (R299). -/
def rkRebuild (s : Body) (p : Nat) : Body :=
  if p > 5 || !s.isOn U.ramekin then s else s.setPool p { s.pool p with rebuild := true }

/-- A rebuild ends (R299, R300): a new chain through every buffer below HWM that is neither ALLOCATED nor QUARANTINED nor cached; `bad`
are the buffers whose state byte read with poison. -/
def rkRebuilt (s : Body) (p : Nat) (bad : List Nat) : Body :=
  if !(s.pool p).rebuild then s
  else
    let s := s.forEach (bad.filter (· < (s.pool p).hwm)) fun s i => s.rkQuarantine p i
    let x := s.pool p
    let free := (List.range x.hwm).filter fun i =>
      let st := s.rkState p i
      !st.1 && !st.2.1 && !x.cache.contains i
    let s := s.forEach (free.zip (free.drop 1 |>.map some |>.append [none])) fun s l => s.setRkWord (s.rkBuf p l.1 / 8) (chainWord p l.2)
    let s := s.setPool p { x with chain := free.head?, chainLen := free.length, broken := false, rebuild := false }
    s.raise U.ramekin F.RK_EVENTS_REBUILD_DONE p

/-- Snapshot a cache entry (R311). -/
def rkPeek (s : Body) : Body :=
  let p := s.get F.RK_PEEK_SEL_POOL
  let e := s.get F.RK_PEEK_SEL_ENTRY
  let s := (s.setWord A.RK_PEEK 0).put F.RK_PEEK_ECHO (p + 8 * e)
  match (s.pool p).cache[e]? with
  | some i => (s.put F.RK_PEEK_HANDLE (rkHandle p i)).put F.RK_PEEK_VALID 1
  | none => s

/-- After a write of RK_MIN (R301): one that raises the sum of a pool's minima above its buffers is undone. -/
def rkMinWritten (s : Body) (o p old : Nat) : Body :=
  let sum := ((List.range 16).map fun x => s.get (F.RK_MIN_MIN x p)).foldl (· + ·) 0
  if s.get (F.RK_MIN_MIN o p) > old && sum > s.rkCount p then
    (s.put (F.RK_MIN_MIN o p) old).raise U.ramekin F.RK_EVENTS_CFG_REFUSED (6 * o + p)
  else s

/-- After a write of RK_POOL_CFG (R304): MIB changes only while the unit is OFF. -/
def rkCfgWritten (s : Body) (p old : Nat) : Body :=
  if s.get (F.RK_POOL_CFG_MIB p) != old && s.unit U.ramekin != .off then
    ((s.put (F.RK_POOL_CFG_MIB p) old).rkShow p).raise U.ramekin F.RK_EVENTS_CFG_REFUSED p
  else s.rkShow p

/-- Channels that hold part of the Ramekin area (R124, R125). -/
def rkChans (s : Body) : List Nat := if s.cfg.img.fix.ramekinGib = 0 then [] else s.sp.set.getD []

/-- A channel was declared lost (R300). -/
def rkAreaLost (s : Body) (c : Nat) : Body :=
  s.when (s.rkChans.contains c) (·.put F.RK_STATUS_AREA_LOST 1)

/-- Whether the start steps hold (R300, R304). -/
def rkStartOk (s : Body) : Bool :=
  let sum := fun (l : List Nat) => l.foldl (· + ·) 0
  s.rkChans.all (fun c =>
    s.isOn (U.sp c) && s.spMode c == .caching
    && (range' (s.get (F.SP_CH_LAYOUT_SYS_MIB c) / 16) (s.get (F.SP_CH_LAYOUT_RAMEKIN_MIB c) / 16)).all fun u => (s.spCh c).filled.contains u)
  && sum ((List.range 6).map fun p => s.get (F.RK_POOL_CFG_MIB p)) ≤ s.cfg.img.fix.ramekinGib * 1024
  && (List.range 6).all (fun p => sum ((List.range 16).map fun o => s.get (F.RK_MIN_MIN o p)) ≤ s.rkCount p)
  && s.enginesOff && !s.flag F.RK_STATUS_AREA_LOST

/-- Start step 4 (R304). -/
def rkStart (s : Body) : Body :=
  let s := { s with rk := { s.rk with pools := [], held := [] } }
  s.forEach (List.range 6) fun s p => s.rkShow p

end Body

/-- An allocation through a port (R296, R303). -/
def Body.rkAllocPort (b : Body) (n size owner seq : Nat) (bad : Bool) : Body :=
  let (b, h, st) := b.rkAlloc (size % 2 ^ 19) (owner % 16) bad
  ((b.put (F.RK_ALLOC_RES_HANDLE n) h).put (F.RK_ALLOC_RES_STATUS n) st).put (F.RK_ALLOC_RES_SEQ n) seq

/-! ## Commands -/

/-- RK_ALLOC (R296, R301, R303). -/
def execRkAlloc (actor : Actor) (n size owner seq : Nat) (bad : Bool) (s : State) : Host.Outcome State Fault Refusal :=
  s.run fun b => b.select actor (A.RK_ALLOC n) (size % 2 ^ 19 + owner % 16 * 2 ^ 20 + seq % 256 * 2 ^ 24)
    (·.rkAllocPort n size owner seq bad)
/-- RK_FREE (R302). -/
def execRkFree (actor : Actor) (n handle owner : Nat) (force bad : Bool) (s : State) : Host.Outcome State Fault Refusal :=
  s.run fun b => b.select actor (A.RK_FREE n) (handle % 2 ^ 36 + owner % 16 * 2 ^ 36 + b2n force * 2 ^ 40) fun b =>
    b.rkFree (handle % 2 ^ 36) (owner % 16) force bad
/-- RK_CACHE_REFILL (R297). -/
def execRkCacheRefill (pool : Nat) (bad : Bool) (s : State) : Host.Outcome State Fault Refusal := s.run (·.rkRefill pool bad)
/-- RK_REBUILD (R299). -/
def execRkRebuild (actor : Actor) (pool : Nat) (s : State) : Host.Outcome State Fault Refusal :=
  s.run fun b => b.command actor A.RK_REBUILD (pool % 8 + 8) (·.rkRebuild (pool % 8))
/-- RK_REBUILD_DONE (R299, R300). -/
def execRkRebuildDone (pool : Nat) (bad : List Nat) (s : State) : Host.Outcome State Fault Refusal := s.run (·.rkRebuilt pool bad)
/-- RK_PEEK (R311). -/
def execRkPeek (actor : Actor) (pool entry : Nat) (s : State) : Host.Outcome State Fault Refusal :=
  s.run fun b => b.select actor A.RK_PEEK_SEL (pool % 8 + entry % 64 * 8) (·.rkPeek)

end Sys2Proof.Machine
end

