-- ==== Sys2Proof/Machine/Boot.lean ====
section
/-! DEFINITION. Boot and resets (R27, R71, R72, R383, R389 to R395, R430 to R436, R444): what each kind of reset keeps, the stages of
the boot ROM, the watchdog. -/

namespace Sys2Proof.Machine

namespace Body

/-! ## What a reset keeps (R433) -/

/-- The burst in progress completes before a reset, and after the rail is lost (R387). -/
def burstFinish (s : Body) : Body :=
  match s.rack.cur with
  | some b => match b.what with
    | .data g l => ({ s with rack := { s.rack with cur := none } }).writeGroups g l
    | .spike => ({ s with rack := { s.rack with cur := none } }).spkWrite8
  | none => s

/-- Bursts that are queued complete, in the order of R388, while the always-on domain stays powered and no hold of R387 stands. -/
def burstsFinish : Nat → Body → Body
  | 0, s => s
  | n + 1, s =>
    if s.rackSupplyHold || s.rackTempHold then s
    else match pickBurst s.rack.queue with
      | some (b, r) => burstsFinish n ({ s with rack := { s.rack with cur := some b, queue := r } }).burstFinish
      | none => s

/-- The media as a reset leaves them: everything that stands in packages, with what was only in the controller gone (R433). -/
def mtlKept (m : MtlSt) : MtlSt :=
  { ch := m.ch.map fun (p : Nat × MdCh) => (p.1, ({ labels := p.2.labels } : MdCh))
    cells := m.cells, slots := m.slots, map := m.map, rules := m.rules, scPos := m.scPos, scStart := m.scStart
    hdr := m.hdr, vault := m.vault }

/-- The units after a power-on or system reset: everything at reset but what the Rack, the code flash, the media and the fuses hold
(R433), the model's own record of what was sent, and, on a system reset, what the always-on domain and the pins still show. -/
def resetBody (s : Body) (power : Bool) : Body :=
  let s := s.burstFinish
  let s := if power then s else burstsFinish s.rack.queue.length s
  let b : Body :=
    { regs := resetRegs
      cfg := { svnFuses := s.cfg.svnFuses }
      tier := { chunkMap := s.tier.chunkMap }
      mtl := mtlKept s.mtl
      ciph := { slots := s.ciph.slots, revoked := s.ciph.revoked, hashes := s.ciph.hashes }
      cf := { words := s.cf.words, bad := s.cf.bad }
      rack := { cells := s.rack.cells, bad := s.rack.bad, queue := if power then [] else s.rack.queue
                aonMv := if power then 0 else s.rack.aonMv }
      spk := { rack := s.spk.rack, rackAt := s.spk.rackAt }
      hob := { log := s.hob.log, pfDown := !power && s.hob.pfDown, thHold := !power && s.hob.thHold }
      boot := { powered := true }
      out := s.out, freeCtr := s.freeCtr }
  let b := b.put F.HOB_LOG_NEXT (s.get F.HOB_LOG_NEXT)
  if power then b
  else
    let b := b.put F.HOB_STATUS_LAST_DOWN_CAUSE (s.get F.HOB_STATUS_LAST_DOWN_CAUSE)
    let b := b.put F.TIME_STATUS_TREF_OK (s.get F.TIME_STATUS_TREF_OK)
    b.put F.BOOT_COUNT_SYSTEM (s.get F.BOOT_COUNT_SYSTEM + 1)

/-! ## Stage 0 (R430) -/

/-- The end of a boot stage; its time is a free value where no observation gives it. -/
def bootTime (s : Body) (n : Nat) (us : Option Nat) : Body :=
  match us with
  | some u => s.put (F.BOOT_TIME_US n) u
  | none => (s.put (F.BOOT_TIME_US n) (Config.freeWord s.freeCtr).toNat).fresh

/-- A stage begins. -/
def stageAt (s : Body) (n : Nat) : Body :=
  { s with boot := { s.boot with stage := n } }.put F.BOOT_STATUS_STAGE (if n = 6 then 5 else n)

/-- Newest valid record of the Spike area, with its ring index (R394, R401, R402). -/
def newestAt (s : Body) : Option (Nat × SpkRec) :=
  s.spk.rack.foldl (fun b p => if !s.spkGood p.1 then b else match b with
    | some r => if r.2.seq < p.2.seq then some p else some r
    | none => some p) none

/-- Newest valid record of the Spike area. -/
def newestRec (s : Body) : Option SpkRec := s.newestAt.map (·.2)

/-- The scan of the Spike area (R401, R402): records go on after the newest valid one, at index 0 when there is none. -/
def bootScan (s : Body) : Body :=
  let n := (s.spk.rack.filter fun p => !s.spkGood p.1).length
  let s := { s with spk := { s.spk with rackAt := match s.newestAt with
    | some p => (p.1 + 1) % 32768
    | none => 0 } }
  s.addSat F.SPK_COUNT_BAD n

/-- Groups that the boot's reads of counters, rings and records find uncorrectable (R389). -/
def bootBad (s : Body) (bad : List Nat) : Body :=
  let s := { s with rack := { s.rack with bad := bad.foldl insertNat s.rack.bad } }
  s.forEach (s.rack.bad.filter (· < 0x18000)) fun s g =>
    ((s.put F.RACK_ERR_GROUP g).incSat F.RACK_ERR_COUNT).raise U.rack F.RACK_EVENTS_UNCORRECTABLE g

/-- A counter read at boot: a carry completed, or the counter rebuilt (R393, R394). -/
def bootCount (s : Body) (k : Nat) : Body :=
  let r := s.bootCounter k s.newestRec
  let s := if r.2.1 || r.2.2 then s.writeCounter k r.1 else { s with rack := { s.rack with cnt := mput 0 s.rack.cnt k r.1 } }
  let s := s.when r.2.1 (·.raise U.rack F.RACK_EVENTS_CARRY_COMPLETED k)
  s.when r.2.2 (·.raise U.rack F.RACK_EVENTS_COUNTER_LOST k)

/-- Counters of the Rack that are in use (R392, R421). -/
def bootCounts : List Nat := [0, 1, 2, 3] ++ range' 16 48

/-- Mark rings read at boot: the value in force and the highest slot sequence (R391). -/
def bootRing (s : Body) (r : Nat) : Body :=
  match s.ringInForce r with
  | some (q, v) => { s with rack := { s.rack with ring := mset s.rack.ring r q, mark := mset s.rack.mark r v } }
  | none => s

/-- The first value of a sequence kept by the mark method, and the store of its new mark (R27). -/
def bootMark (s : Body) (r : Nat) : Nat × Body :=
  let v := mgetD s.rack.mark r 0 + 2 ^ 32
  (v, s.storeMark r v)

/-- A word of a record. -/
def recWord (l : List Word) (i : Nat) : Nat := ((l[i]?).getD 0).toNat

/-- The epoch record in force (R239). -/
def bootEpoch (s : Body) : Body :=
  match s.recRead 0 8 with
  | none => s
  | some l =>
    let w := recWord l
    let e : EpochRec := { seq := w 0, epoch := w 1, twin := w 2 % 2 ^ 16, role := nbits (w 2) 16 8, flags := nbits (w 2) 24 8
                          split := w 3, commit := w 4, admitted := w 5, hash := w 6 }
    let s := s.leaseMod fun x => { x with epoch := e }
    let s := s.resyncMod fun r => { r with tainted := nbit e.flags 2 }
    ((s.put F.TWIN_LEASE_EPOCH e.epoch).put F.SPLIT_INFO_SPLIT_FRAME e.split).put F.COMMIT_FRAME_FRAME e.commit

/-- The states of the pairs that the controller referees as a witness (R217). -/
def bootPairs (s : Body) : Body :=
  let l := (List.range 64).filterMap fun i => (s.recRead (0x2000 + 64 * i) 8).map fun l =>
    let a := recWord l 1
    ({ low := a % 2 ^ 16, high := nbits a 16 16, holder := if nbits a 32 16 = 0xFFFF then none else some (nbits a 32 16)
       kind := nbits a 48 8, epoch := recWord l 2, live := false, at_ := 0, held := [] } : WPair)
  (s.leaseMod fun x => { x with pairs := l }).put F.WITNESS_STATUS_PAIRS l.length

/-- The untrusted table (R353). -/
def bootUntrust (s : Body) : Body :=
  let l : SMap Untrust := (List.range 64).filterMap fun i => (s.recRead (0x400 + 64 * i) 8).bind fun l =>
    let b := recWord l 2
    if b % 2 ^ 32 = 0 then none else some (i, ⟨recWord l 1, b % 2 ^ 32, b / 2 ^ 32, recWord l 3⟩)
  { s with ciph := { s.ciph with table := l } }.cipherRegs

/-- Shutdown states of the logical devices (R256). -/
def bootShutdown (s : Body) : Body :=
  match s.recRead 0xC0 8 with
  | none => s
  | some l => { s with cxl := { s.cxl with dirty := (List.range 256).filter fun n => nbit (recWord l (1 + n / 64)) (n % 64) } }

/-- The power-fail record (R396) and the flash operation record (R383). -/
def bootRecords (s : Body) : Body :=
  let s := match s.recRead 0x40 8 with
    | none => s
    | some l =>
      let a := recWord l 2
      let s := (s.put F.PFAIL_STATUS_SOURCE (a % 256)).put F.PFAIL_STATUS_DETECT_FRAME (recWord l 1)
      (s.put F.PFAIL_TIME_VAULT_US (nbits a 16 32)).put F.PFAIL_TIME_TOTAL_US (nbits a 48 16 + recWord l 3 * 2 ^ 16)
  match s.recRead 0x80 8 with
  | none => s
  | some l =>
    let a := recWord l 1
    if !nbit a 0 then s
    else
      let x : Bool × Nat := (nbit a 1, a / 4)
      let s := { s with cf := { s.cf with bad := x :: s.cf.bad.filter (· != x) } }
      let s := ((s.put F.CF_INTERRUPTED_VALID 1).putB F.CF_INTERRUPTED_KIND x.1).put F.CF_INTERRUPTED_PAGE x.2
      s.raise U.flash F.CF_EVENTS_INTERRUPTED_FOUND x.2

/-- Registers that say at reset that nothing has run (R78, R149, R183), and those that the Rack's counters show (R392, R421). -/
def bootShown (s : Body) : Body :=
  let s := (s.put F.SLOT_A_STATUS_RESULT 15).put F.SLOT_B_STATUS_RESULT 15
  let s := s.forEach (List.range 12) fun s c => s.put (F.SP_CH_TRAIN_RESULT c) 15
  let s := s.forEach (List.range 32) fun s c => s.put (F.MD_TRAIN_RESULT c) 15
  let s := s.forEach (List.range 24) fun s r =>
    (s.put (F.HOB_RAIL_LIFE_FAIL_UP r) (s.counter (16 + 2 * r))).put (F.HOB_RAIL_LIFE_PG_LOST r) (s.counter (17 + 2 * r))
  ((s.put F.SVN_FUSE_FUSED s.cfg.svnFuses).put F.DX_STATUS_KEEPER_0_OK 1).put F.DX_STATUS_KEEPER_1_OK 1

/-- Stage 0 but the PASS_SEQ mark (R430): counters, rings, records; the power-cycle count at a power-on. -/
def stage0 (s : Body) (power : Bool) (bad corrected : List Nat) : Body :=
  let s := s.stageAt 0
  let s := (s.bootBad bad).bootScan.addWrap F.RACK_COUNT_CORRECTED corrected.length
  let s := s.forEach bootCounts bootCount
  let s := s.when power (·.incCounter 1)
  let s := s.forEach [0, 1, 2, 3] bootRing
  let j := s.bootMark 1
  let b := j.2.bootMark 2
  let t := b.2.bootMark 3
  let s := t.2
  let s := { s with ciph := { s.ciph with jobSeq := j.1 }, time := { s.time with beaconSeq := b.1 } }
  let s := s.leaseMod fun l => { l with nextReq := t.1 }
  let s := ((((s.bootEpoch).bootPairs).bootUntrust).bootShutdown).bootRecords
  s.bootShown

end Body

namespace State

/-- A power-on or system reset, with stage 0 of the boot (R27, R430, R433): `last` stays, so that PASS_SEQ never repeats. Events that waited
at the Pass are lost. -/
def reset_ (s : State) (power : Bool) (cause : Nat) (bad corrected : List Nat) : State :=
  let b := (s.body.resetBody power).stage0 power bad corrected
  let m := b.bootMark 0
  let b := (m.2.put F.PASS_SEQ_SEED_SEQ m.1).put F.PASS_MARK_MARK (mgetD b.rack.mark 0 0)
  let b := (b.put F.PASS_SEQ_LAST_SEQ s.pass.last).put F.BOOT_STATUS_LAST_RESET (if power then 0 else 1)
  let b := (b.put F.BOOT_STATUS_SYS_CAUSE cause).postN U.spike .bootRecord (b.counter 1)
  let b := (b.bootTime 0 none).stageAt 1
  { s with
    body := b
    pass := { last := s.pass.last, seed := m.1, mark := mgetD b.rack.mark 0 0, storing := some m.1, log := s.pass.log } }

/-- The always-on domain loses power (R387, R433, R444): only what the Rack, the code flash, the media and the fuses hold is left. -/
def powerLost (s : State) : State :=
  { s with body := { s.body.resetBody true with boot := {} }, pass := { last := s.pass.last, log := s.pass.log } }

end State

namespace Body

/-! ## Stages 1 to 5 (R71, R430) -/

/-- Slot of higher SEQUENCE, slot B when they are equal (R69): the boot ROM's order of preference. -/
def slotFirst (s : Body) : Nat :=
  let q := fun (n : Nat) => Img.le (s.slotByte n) 16 8
  if q 1 < q 0 then 0 else 1

/-- The image of a slot becomes the loaded image (R71, R76). -/
def imageLoad (s : Body) (slot root : Nat) : Body :=
  let s := { s with cfg := { s.cfg with img := Img.image (s.slotByte slot), sram := s.slotWords slot, loaded := true } }
  ((s.put F.CONFIG_STATUS_SLOT slot).put F.CONFIG_STATUS_ROOT_SLOT root).imageRegs

/-- Stage 1 ends: the preferred slot is checked, then the other one; with neither valid the controller enters recovery (R69, R71, R72).
Stage 2 applies the image and sends the Hob ON. -/
def bootLoaded (s : Body) (a b : SlotVerdict) (us1 us2 : Nat) : Body :=
  if s.boot.stage != 1 then s
  else
    let v := fun (n : Nat) => if n = 0 then a else b
    let x := s.slotFirst
    let y := 1 - x
    let cx := s.slotCode x (v x)
    let s := s.slotReport x cx
    let cy := s.slotCode y (v y)
    let s := if cx = 0 then s else s.slotReport y cy
    let pick : Option Nat := if cx = 0 then some x else if cy = 0 then some y else none
    match pick with
    | none => ({ (s.bootTime 1 (some us1)).stageAt 7 with boot := { s.boot with stage := 7, held := true } }).put F.CONFIG_STATUS_RECOVERY 1
    | some n =>
      let s := s.imageLoad n ((v n).root.getD 0)
      let q := fun (n : Nat) => Img.le (s.slotByte n) 16 8
      let fell : Bool := cx != 0 && cx != 1 && q y < q x
      let s := s.when fell (fun s => (s.put F.CONFIG_STATUS_FALLBACK 1).raise U.boot F.CONFIG_EVENTS_FALLBACK_BOOT)
      let s := ((s.bootTime 1 (some us1)).stageAt 2)
      let s := ((s.fixedRegs).partRegs).ldRegs
      let s := (s.hobTable.bootTime 2 (some us2)).stageAt 3
      if s.hob.thHold then s else s.upBegin

/-- Stage 3 ends with the Hob UP (R430): stage 4 sets FLASHPROT and SECURITY, applies REGDEF and waits for TREF_IN. -/
def bootUp (s : Body) (us : Nat) : Body :=
  if s.boot.stage != 3 || s.hobState != .up then s
  else
    let s := ((s.bootTime 3 (some us)).stageAt 4).protRegs.regdefApply
    let s := s.putB F.BOOT_STATUS_TREF_WAIT (!s.flag F.TIME_STATUS_TREF_OK)
    s.qConfigure (s.get F.Q_CFG_SEL_QUEUE) (s.word A.Q_CFG)

/-- Stage 5 (R430): the service cluster is released and every unit whose ENABLE is one is enabled, in ascending unit index. -/
def bootRelease (s : Body) (us : Nat) : Body :=
  if s.boot.stage != 4 || !s.flag F.TIME_STATUS_TREF_OK then s
  else
    let s := ((s.put F.BOOT_STATUS_TREF_WAIT 0).bootTime 4 (some us)).stageAt 5
    let wanted := fun (s : Body) (u : Nat) => ((enableFld u).map s.flag).getD false
    let s := s.unitEnable U.dexith
    let s := s.forEach (List.range 79) fun s u => s.when (wanted s u) (·.unitEnable u)
    let s := { (s.bootTime 5 none).stageAt 6 with boot := { s.boot with stage := 6, filled := true } }
    s

/-! ## System resets, warm restart, watchdog (R433 to R436) -/

/-- A system reset is asked for (R433): with the Hob OFF it begins at once; in FLUSHING and POWERING_DOWN it is held as OFF and has no
further effect; else the rails go down first. -/
def sysReset (s : Body) (cause : Nat) : Body :=
  match s.hobState with
  | .off => { s with boot := { s.boot with resetReq := some cause } }
  | .flushing => s.hobOffReq .request
  | .poweringDown => s.hobOffReq .request
  | _ => { s with hob := { s.hob with resetAfter := true }, boot := { s.boot with cause := cause } }.hobOffReq .request

/-- The per-core and EVQ registers of DEXITH at reset (R433). -/
def dxRegsReset (s : Body) : Body :=
  s.forEach (List.range 16) fun s c =>
    let s := s.setWord (A.DX_CORE_CTL c) (mgetD resetRegs (A.DX_CORE_CTL c) 0)
    let s := s.setWord (A.DX_MTIMECMP c) (mgetD resetRegs (A.DX_MTIMECMP c) 0)
    let s := (s.setWord (A.EVQ_CTL c) 0).setWord (A.EVQ_STATUS c) 0
    s.forEach [0, 1, 2] fun s i => s.setWord (A.EVQ_LATCH c i) 0

/-- A warm restart (R435): the cluster's stop steps, then its start steps. -/
def warmRestart (s : Body) : Body :=
  if s.dx.warm then s
  else
    let s := { s with dx := { s.dx with warm := true } }
    let s := (s.inc F.BOOT_COUNT_WARM).put F.BOOT_STATUS_LAST_RESET 2
    let st := s.unit U.dexith
    let s := s.dxRegsReset
    match st with
    | .on => (s.unitStop U.dexith).unitEnable U.dexith
    | .stopping => s.unitEnable U.dexith
    | .starting => s
    | .off => s.unitEnable U.dexith

/-- Whether an address lies in a block of a unit outside the always-on domain: TIME to SCHED and DEXITH (R33). -/
def offBlock (a : Nat) : Bool := (0x20000 ≤ a && a < 0x110000) || (0x120000 ≤ a && a < 0x130000)

/-- Every unit outside the always-on domain is in reset while the Hob is OFF (R434): OFF, its registers and memories at reset. -/
def unitsHeld (s : Body) : Body :=
  let tref := s.get F.TIME_STATUS_TREF_OK
  let l := s.twin.lease
  let s := { s with
    regs := (resetRegs.filter fun (p : Nat × Word) => offBlock p.1).foldl (fun (m : SMap Word) (p : Nat × Word) => mset m p.1 p.2)
      (s.regs.filter fun (p : Nat × Word) => !offBlock p.1)
    frame := {}, time := { beaconSeq := s.time.beaconSeq }, tier := { chunkMap := s.tier.chunkMap }, nc := {}, sp := {}
    mtl := mtlKept s.mtl, per := {}, cxl := { dirty := s.cxl.dirty }, rdma := {}, rk := {}, q := {}, sched := {}, dx := {}
    twin := { lease := { epoch := l.epoch, nextReq := l.nextReq, pairs := l.pairs }, resync := { tainted := s.twin.resync.tainted } }
    ciph := { s.ciph with prev := {}, cur := {}, next := {}, prevTil := 0, session := 0, derived := false, job0 := {}, job1 := {}
                          passes := [], spdm := [] }
    boot := { s.boot with held := true, wdtOn := false } }
  let s := s.put F.TIME_STATUS_TREF_OK tref
  s.forEach (List.range 80) fun s u => (s.put (F.UNIT_STATE_STATE u) 0).unitPend u none

/-- KICK restarts the watchdog's count (R436). -/
def wdtKick (s : Body) : Body :=
  let ms := s.get F.BOOT_WDT_CFG_TIMEOUT_MS
  { s with boot := { s.boot with wdtOn := ms != 0, wdtTwice := false } }.put F.BOOT_WDT_STATUS_REMAINING_MS ms

/-- The watchdog reaches zero (R436). -/
def wdtExpire (s : Body) : Body :=
  if !s.boot.wdtOn || s.get F.BOOT_WDT_CFG_TIMEOUT_MS = 0 then s
  else if s.dx.warm then { s with boot := { s.boot with wdtOn := false } }
  else
    let act := s.get F.BOOT_WDT_CFG_ACTION
    let again := s.boot.wdtTwice
    let s := { s with boot := { s.boot with wdtOn := false, wdtTwice := false } }
    let s := (s.inc F.BOOT_WDT_STATUS_FIRES).put F.BOOT_WDT_STATUS_REMAINING_MS 0
    if again then s.warmRestart
    else
      let s := s.raise U.boot F.BOOT_EVENTS_WDT_FIRED act
      match act with
      | 0 => s
      | 1 =>
        let s := { s with boot := { s.boot with wdtOn := true, wdtTwice := true } }
        (s.put F.BOOT_WDT_STATUS_REMAINING_MS (s.get F.BOOT_WDT_CFG_TIMEOUT_MS)).coreNmi 0
      | 2 => s.warmRestart
      | _ => s.sysReset 3

end Body

end Sys2Proof.Machine
end

