-- ==== Sys2Proof/Machine/Rdma.lean ====
section
/-! DEFINITION. RDMA over the Ethernet ports (R265 to R293): packets and PSNs, queue pairs, regions, the requester. -/

namespace Sys2Proof.Machine

/-! ## PSNs and bytes -/

/-- A PSN some packets on. -/
def psnAdd (a n : Nat) : Nat := (a + n) % 2 ^ 24
/-- How far a PSN lies beyond another, modulo 2^24 (R278). -/
def psnSub (a b : Nat) : Nat := (a + 2 ^ 24 - b % 2 ^ 24) % 2 ^ 24

/-- Bytes as one number, byte 0 lowest. -/
def bytesNat (l : List Byte) : Nat := l.foldr (fun b n => b.toNat + 256 * n) 0
/-- The bytes of a line. -/
def lineBytes (d : LineData) : List Byte := (List.range 64).map fun i => BitVec.ofNat 8 (d.toNat / 256 ^ i)
/-- First line of a byte range and how many lines it takes. -/
def lineSpan (a len : Nat) : Nat × Nat := if len = 0 then (a / 64, 0) else (a / 64, (a % 64 + len + 63) / 64)
/-- Bytes at an address as writes of lines, ascending (R273). -/
def splitBytes (a : Nat) (l : List Byte) : List (Nat × LineData × Mask) :=
  let (first, n) := lineSpan a l.length
  (List.range n).map fun i =>
    let o := if i = 0 then a % 64 else 0
    let skip := if i = 0 then 0 else 64 * i - a % 64
    let part := (l.drop skip).take (64 - o)
    (first + i, BitVec.ofNat 512 (bytesNat part * 256 ^ o), maskOf (range' o part.length))

namespace Body

/-! ## Queue pairs, ports and counters -/

/-- A queue pair. -/
def qp (s : Body) (n : Nat) : Qp := mgetD s.rdma.qps n {}

/-- Queue pairs in use and those of each port (R290, R291). -/
def rdmaShow (s : Body) : Body :=
  let s := (s.put F.RDMA_USE_QPS s.rdma.qps.length).put F.RDMA_USE_REGIONS ((s.rdma.regions.filter (·.2.used)).length)
  s.forEach (List.range 8) fun s p =>
    s.put (F.ETH_STATUS_QPS p) ((s.rdma.qps.filter fun q => q.2.cfg.port == p && (q.2.st == .rtr || q.2.st == .rts)).length)

/-- Replace a queue pair; one in RESET is not listed. -/
def setQp (s : Body) (n : Nat) (q : Qp) : Body :=
  let old := s.qp n
  let m := if q.st == QpState.reset then merase s.rdma.qps n else mset s.rdma.qps n q
  let s := { s with rdma := { s.rdma with qps := m } }
  if old.st == q.st then s else s.rdmaShow
/-- Change a queue pair. -/
def qpMod (s : Body) (n : Nat) (f : Qp → Qp) : Body := s.setQp n (f (s.qp n))

/-- Change requests outstanding on a queue pair. -/
def outMod (s : Body) (n : Nat) (p : OutReq → Bool) (f : OutReq → OutReq) : Body :=
  s.qpMod n fun q => { q with outs := q.outs.map fun o => if p o then f o else o }

/-- Path MTU in bytes (R291). -/
def rdmaMtu (s : Body) : Nat := 1024 * 2 ^ min 2 (s.get F.RDMA_CFG_MTU)
/-- Packets that a number of bytes takes, at least one. -/
def rdmaPkts (s : Body) (len : Nat) : Nat := max 1 (cdiv len s.rdmaMtu)
/-- Class of RDMA accesses (R105). -/
def rdmaNc (s : Body) : Nat := let k := s.get F.NC_SRC_CLASS_RDMA; if k = 15 then 0 else k
/-- Port rate in Mb/s (R266). -/
def portRate (s : Body) (p : Nat) : Nat := 200000 * 2 ^ min 2 (s.get (F.ETH_STATUS_SPEED p))

/-- Packets leave a port. -/
def ethTx (s : Body) (p n : Nat) (o : Out) : Body := (s.addWrap (F.ETH_COUNT_0_TX_PKTS p) n).send o

/-- Whether a port's link is up and the engine runs. -/
def ethUp (s : Body) (p : Nat) : Bool :=
  p < s.ethPortCount && s.isOn (U.eth p) && s.get (F.ETH_STATUS_LINK p) == 2 && s.isOn U.rdma
/-- Requests are answered with RNR NAKs: admission is stopped for Lease end, or for Role in a holder (R282). -/
def rdmaStopped (s : Body) : Bool := nbit s.stopCauses 7 || nbit s.stopCauses 8 || s.twin.lease.stopRead
/-- Whether a port is open (R282, R208, R357). -/
def ethOpen (s : Body) (p : Nat) : Bool := s.ethUp p && s.holds && !s.rdmaStopped && !s.per.hold && s.attestedOk
/-- The ports accept no new request (R204). -/
def rdmaShut (s : Body) : Bool := !(s.per.pf == .idle || s.per.pf == .detected || s.per.pf == .stopped)

/-! ## Completions (R288) -/

/-- Write a completion to the queue pair's completion queue. -/
def cqPut (s : Body) (n wrId op status flags len imm : Nat) (poison : Nat × Nat) : Body :=
  match (s.qp n).cfg.cq with
  | none => s
  | some k =>
    let w1 := n + op * 2 ^ 24 + status * 2 ^ 32 + flags * 2 ^ 40
    let (s, ok) := s.qCommit k [BitVec.ofNat 64 wrId, BitVec.ofNat 64 w1, BitVec.ofNat 64 (len % 2 ^ 32 + imm % 2 ^ 32 * 2 ^ 32),
      BitVec.ofNat 64 (poison.1 % 2 ^ 32 + poison.2 % 2 ^ 32 * 2 ^ 32)]
    if ok || !s.qWorks k then s else (s.raise U.rdma F.RDMA_EVENTS_CQ_OVERFLOW k).rdmaPost 0x20 0 k 0

/-- A request completes: the schedule engine is told of its own, the others write a completion when signalled or failed. -/
def reqDone (s : Body) (n : Nat) (o : OutReq) (status len : Nat) (range : Option (Nat × Nat)) : Body :=
  match o.tag with
  | some t => s.later (.delivered t (status == 0 || status == 10))
  | none =>
    if nbit o.wr.flags 0 || status != 0 then s.cqPut n o.wr.wrId o.wr.op status (2 * b2n range.isSome) len o.wr.imm (range.getD (0, 0))
    else s

/-- What is outstanding completes with FLUSHED (R272, R288). -/
def qpFlush (s : Body) (n : Nat) : Body :=
  let q := s.qp n
  let s := s.setQp n { q with outs := [], head := none }
  let s := s.forEach q.outs fun s o => s.reqDone n o 8 0 none
  match q.head with
  | some w => s.reqDone n ⟨w, 0, 0, none, none, none, 0, 0, false, 0, 0, false⟩ 8 0 none
  | none => s

/-- The queue pair enters ERROR (R272): acknowledgements still held are never sent (R282); what has been read is still answered (R267). -/
def qpError (s : Body) (n : Nat) : Body :=
  let q := s.qp n
  if q.st == .error || q.st == .reset then s
  else (s.setQp n { q with st := .error, msgs := q.msgs.filter fun m => (m.kind == .read && m.started) || (m.kind == .atomic && m.queued),
                           timer := false, seen := [] }).qpFlush n

/-- A fatal transport error (R272, R289). -/
def qpFatal (s : Body) (n status : Nat) : Body := (s.rdmaPost 0x10 (s.qp n).cfg.port n status).qpError n

/-- Send a NAK. -/
def rdmaNak (s : Body) (n psn : Nat) (k : NakKind) : Body := let p := (s.qp n).cfg.port; s.ethTx p 1 (.rdmaNak p n psn k)
/-- An invalid request: a terminating NAK. -/
def rdmaInvalid (s : Body) (n psn : Nat) : Body := (s.rdmaNak n psn .invalid).qpFatal n 9
/-- A remote access error NAK, which is terminating (R279). -/
def rdmaAccess (s : Body) (n psn key : Nat) : Body :=
  (((s.incSat F.RDMA_COUNT_1_ACCESS_ERR).rdmaNak n psn .access).rdmaPost 0x11 (s.qp n).cfg.port n key).qpError n
/-- A sequence error NAK names the expected PSN (R273). -/
def rdmaSequence (s : Body) (n : Nat) : Body := s.rdmaNak n (s.qp n).ePsn .sequence

/-- An RNR NAK naming a PSN (R281); in strict and relaxed mode the packets after it are discarded until it arrives again. -/
def rdmaRnr (s : Body) (n psn : Nat) : Body :=
  let q := s.qp n
  let p := q.cfg.port
  let s := (s.inc (F.ETH_COUNT_2_RNR_SENT p)).ethTx p 1 (.rdmaRnr p n psn (max 1 (s.get F.RDMA_CFG_RNR_CODE)))
  if q.cfg.mode != .spray && psn == q.ePsn then s.qpMod n fun q => { q with quiet := true } else s

/-! ## The requester (R285 to R288) -/

/-- Bytes of a request at LOCAL as they stand now, with the first poisoned run of the source (R286). -/
def localRead (s : Body) (w : WorkReq) : List Byte × Option (Nat × Nat) :=
  let rk := nbit w.flags 4
  let a := if rk then s.rkBuf (w.local_ % 8) (w.local_ / 256) else w.local_
  let (first, n) := lineSpan a w.len
  let lines := (range' first n).map fun l => if rk then s.rkLine l else s.peek l
  let bytes := ((lines.flatMap fun l => lineBytes (if l.2 then 0 else l.1)).drop (a % 64)).take w.len
  match lines.findIdx? (·.2) with
  | none => (bytes, none)
  | some i =>
    let run := ((lines.drop i).takeWhile (·.2)).length
    let start := 64 * i - a % 64
    (bytes, some (start, min w.len (64 * (i + run) - a % 64) - start))

/-- Status of a request before it is sent: 0, or local length, local protection, BAD_WR (R285, R288). -/
def localStatus (s : Body) (w : WorkReq) : Nat :=
  if w.bad || w.op > 5 then 11
  else if (w.op ≥ 4 && w.len != 8) || w.len > 2 ^ 31 then 1
  else if nbit w.flags 4 then
    let p := w.local_ % 8
    let i := w.local_ / 256
    if p > 5 || w.local_ / 8 % 32 != 0 || i ≥ (s.pool p).hwm || !(s.rkState p i).1 then 2
    else if w.len > rkSize p then 1 else 0
  else if w.len = 0 then 0
  else match s.partAt (w.local_ / 2 ^ 30) with
    | some p => if s.get (F.PART_ATTR_STATE p.id) == 1 && w.local_ + w.len ≤ (p.base + p.size) * 2 ^ 30 then 0 else 2
    | none => 2

/-- Whether the request's response carries bytes: a READ or an atomic. -/
def hasData (w : WorkReq) : Bool := w.op == 2 || w.op ≥ 4

/-- Send the packets of an outstanding request from one of its PSNs on (R286). -/
def reqSend (s : Body) (n : Nat) (o : OutReq) (again : Option Nat) : Body :=
  let q := s.qp n
  let p := q.cfg.port
  let cnt := if hasData o.wr then 1 else psnSub o.last o.first + 1
  match again with
  | some psn => let k := if hasData o.wr then 1 else cnt - psnSub psn o.first; s.ethTx p k (.rdmaAgain p n psn k)
  | none =>
    let data := match o.data with
      | some d => d
      | none => if hasData o.wr then [] else (s.localRead o.wr).1
    s.ethTx p cnt (.rdmaReq p n o.first o.last o.wr (if q.cfg.mode == .spray then q.cfg.paths else 1) data)

/-- Put a request on the wire: it takes its PSNs and waits for its acknowledgement. -/
def reqIssue (s : Body) (n : Nat) (w : WorkReq) (data : Option (List Byte)) (tag : Option Nat) : Body :=
  let q := s.qp n
  let o : OutReq := { wr := w, first := q.nPsn, last := psnAdd q.nPsn (s.rdmaPkts w.len - 1), data := data, tag := tag
                      poison := if data.isSome || hasData w then none else (s.localRead w).2 }
  (s.setQp n { q with nPsn := psnAdd o.last 1, outs := q.outs ++ [o] }).reqSend n o none

/-- A work request as it stands in a send queue (R285). -/
def workReq (l : List QWord) : WorkReq :=
  let w := fun (i : Nat) => ((l[i]?).map (·.data.toNat)).getD 0
  { op := nbits (w 0) 0 8, flags := nbits (w 0) 8 8, len := nbits (w 0) 32 32, wrId := w 1, local_ := w 2, rva := w 3
    rkey := nbits (w 4) 0 32, imm := nbits (w 4) 32 32, cmp := w 5, swap := w 6, trig := nbits (w 7) 0 12, thresh := nbits (w 7) 32 32
    bad := l.any (·.bad) }

/-- Whether the request at the head must wait: its trigger is below its threshold, or it is fenced (R285, R287). -/
def reqWaits (s : Body) (q : Qp) (w : WorkReq) : Bool :=
  (nbit w.flags 2 && mgetD s.rdma.trigs w.trig 0 < w.thresh) || (nbit w.flags 1 && q.outs.any fun o => hasData o.wr)

/-- Execute a send queue in order while its head is enabled (R286, R287). A gap marker is no request. -/
def reqRun : Nat → Body → Nat → Body
  | 0, s, _ => s
  | f + 1, s, n =>
    let q := s.qp n
    if q.st != .rts then s
    else match q.head with
      | some w =>
        if s.reqWaits q w then s
        else
          let s := s.setQp n { q with head := none }
          let st := s.localStatus w
          if st != 0 then reqRun f (s.reqDone n ⟨w, 0, 0, none, none, none, 0, 0, false, 0, 0, false⟩ st 0 none) n
          else reqRun f (s.reqIssue n w none none) n
      | none => match q.cfg.sq with
        | none => s
        | some k =>
          if !s.qWorks k || (s.queue k).words.length < 8 || (s.queue k).item != 8 then s
          else
            let (s, l) := s.qTakeItem k
            if l.any (·.gap) then reqRun f s n else reqRun f (s.qpMod n fun q => { q with head := some (workReq l) }) n

/-- Examine a queue pair's send queue. -/
def reqPump (s : Body) (n : Nat) : Body :=
  match (s.qp n).cfg.sq with
  | none => reqRun 2 s n
  | some k => reqRun (2 * (s.queue k).words.length + 4) s n

/-- Advance a trigger counter and test the requests at the heads (R287). -/
def trigSet (s : Body) (i v : Nat) : Body :=
  let s := { s with rdma := { s.rdma with trigs := mput 0 s.rdma.trigs i (v % 2 ^ 32) } }
  s.forEach ((s.rdma.qps.filter fun q => q.2.head.isSome).map (·.1)) reqPump

/-- Complete in order the requests at the front that are acknowledged and whose response lines are admitted (R286, R288). -/
def reqRetire (s : Body) (n : Nat) : Body :=
  let q := s.qp n
  let done := q.outs.takeWhile fun o => o.acked && o.left == 0
  if done.isEmpty then s
  else
    let s := s.setQp n { q with outs := q.outs.drop done.length }
    let s := s.forEach done fun s o => s.reqDone n o (if o.poison.isSome then 10 else 0) o.wr.len o.poison
    s.reqPump n

/-- A request fails and takes the queue pair with it (R272, R288). -/
def reqFail (s : Body) (n : Nat) (o : OutReq) (status len : Nat) (range : Option (Nat × Nat)) : Body :=
  let s := s.qpMod n fun q => { q with outs := q.outs.filter (·.first != o.first) }
  let s := s.reqDone n o status len range
  if status = 3 then (s.rdmaPost 0x11 (s.qp n).cfg.port n o.wr.rkey).qpError n else s.qpFatal n status

/-- Requests whose last PSN an acknowledgement covers, up to the first READ or atomic still unanswered. -/
def reqCover (s : Body) (n psn : Nat) : Body :=
  let q := s.qp n
  let cover := fun (o : OutReq) => psnSub psn o.last < 2 ^ 23
  let ok := (q.outs.takeWhile fun o => cover o && (!hasData o.wr || o.acked)).map (·.first)
  (s.outMod n (fun o => ok.contains o.first) fun o => { o with acked := true, tries := 0, rnrs := 0, rnrWait := false }).reqRetire n

/-- Send every request again from a PSN on (R286). -/
def reqAgain (s : Body) (n psn : Nat) : Body :=
  s.forEach ((s.qp n).outs.filter fun o => !o.acked && psnSub o.last psn < 2 ^ 23) fun s o =>
    s.reqSend n o (some (if psnSub psn o.first < 2 ^ 23 && !hasData o.wr then psn else o.first))

/-- The oldest request that is not acknowledged. -/
def reqOldest (q : Qp) : Option OutReq := q.outs.find? (!·.acked)

/-- Count a retry of the oldest request: none when the retry count is exceeded (R286). -/
def reqRetry (s : Body) (n : Nat) : Body × Bool :=
  match reqOldest (s.qp n) with
  | none => (s, false)
  | some o =>
    if o.tries ≥ (s.qp n).cfg.retry then (s.reqFail n o 6 0 none, false)
    else (s.outMod n (·.first == o.first) fun x => { x with tries := x.tries + 1, rnrWait := false }, true)

/-- An acknowledgement or NAK arrives (R286, R288). -/
def ackRecv (s : Body) (n psn : Nat) (k : AckKind) : Body :=
  let q := s.qp n
  if q.st != .rts then s
  else
    let before := (psn + 2 ^ 24 - 1) % 2 ^ 24
    let at_ := fun (s : Body) => ((s.qp n).outs.find? fun o => psnSub psn o.first ≤ psnSub o.last o.first)
    match k with
    | .ack => s.reqCover n psn
    | .sequence =>
      let r := (s.reqCover n before).reqRetry n
      if r.2 then r.1.reqAgain n psn else r.1
    | .rnr =>
      let s := s.reqCover n before
      match at_ s with
      | none => s
      | some o =>
        let max := (s.qp n).cfg.rnr
        if max != 7 && o.rnrs ≥ max then s.reqFail n o 7 0 none
        else s.outMod n (·.first == o.first) fun x => { x with rnrs := x.rnrs + 1, rnrWait := true }
    | .invalid | .access | .operational =>
      let s := s.reqCover n before
      match at_ s with
      | none => s
      | some o => s.reqFail n o (match k with | .invalid => 9 | .access => 3 | _ => 4) 0 none

/-- The retransmission timer, or the delay of an RNR NAK, runs out (R286). -/
def retransmit (s : Body) (n : Nat) : Body :=
  let q := s.qp n
  if q.st != .rts then s
  else match reqOldest q with
    | none => s
    | some o =>
      if o.rnrWait then
        (s.outMod n (·.first == o.first) fun x => { x with rnrWait := false }).reqAgain n o.first
      else
        let r := s.reqRetry n
        if r.2 then r.1.reqAgain n o.first else r.1

/-- Response bytes arrive for a READ, or the original value for an atomic (R286): those bound for a DPA are writes of the engine. -/
def readResponse (s : Body) (n psn : Nat) (data : List Byte) : Body :=
  let q := s.qp n
  match q.outs.find? fun o => hasData o.wr && !o.acked && psnSub psn o.first ≤ psnSub o.last o.first with
  | none => s
  | some o =>
    if q.st != .rts || psnSub psn o.first * s.rdmaMtu != o.got then s
    else
      let s := s.reqCover n ((o.first + 2 ^ 24 - 1) % 2 ^ 24)
      let data := data.take (o.wr.len - o.got)
      let upd := fun (s : Body) (lines : Nat) => s.outMod n (·.first == o.first) fun x =>
        { x with got := x.got + data.length, left := x.left + lines, acked := x.got + data.length ≥ x.wr.len, tries := 0 }
      if nbit o.wr.flags 4 then
        let r := s.rkBuf (o.wr.local_ % 8) (o.wr.local_ / 256) + o.got
        let s := s.forEach (data.zip (range' r data.length)) fun s b => s.setRkByte b.2 b.1.toNat
        (upd s 0).reqRetire n
      else
        let ws := splitBytes (o.wr.local_ + o.got) data
        let s := upd s ws.length
        let s := s.presentW (16 + q.cfg.port) (ws.zip (List.range ws.length) |>.map fun w =>
          ⟨.local_ n o.first w.2, w.1.1, .write w.1.2.1 w.1.2.2, s.rdmaNc⟩)
        s.reqRetire n

/-- A POISON_NAK answers a READ (R284, R288). -/
def poisonNakRecv (s : Body) (n psn delivered start len : Nat) : Body :=
  let q := s.qp n
  match q.outs.find? fun o => hasData o.wr && !o.acked && psnSub psn o.first ≤ psnSub o.last o.first with
  | none => s
  | some o =>
    if q.st != .rts then s
    else (s.reqCover n ((o.first + 2 ^ 24 - 1) % 2 ^ 24)).reqFail n o 5 delivered (some (start, len))

/-- A SACK on a spray queue pair (R277, R286): the packets it names are sent again. -/
def sackRecv (s : Body) (n psn : Nat) (ranges : List (Nat × Nat)) : Body :=
  let q := s.qp n
  if q.st != .rts || q.cfg.mode != .spray then s
  else (s.reqCover n psn).forEach ranges fun s r => s.ethTx q.cfg.port r.2 (.rdmaAgain q.cfg.port n r.1 r.2)

/-- A congestion notification (R286): the rate falls by the factor 1 − α/2, then α moves toward 1 with gain 1/256. -/
def cnpRecv (s : Body) (n : Nat) : Body :=
  let q := s.qp n
  if q.st != .rts then s
  else
    let r := if q.rate = 0 then s.portRate q.cfg.port else q.rate
    s.setQp n { q with rate := max 1 (r * (131072 - q.alpha) / 131072), alpha := q.alpha + (65536 - q.alpha) / 256 }

/-- 55 µs on (R286): 5 Gb/s more, never above the port rate; α decays with gain 1/256. -/
def rateRecover (s : Body) (n : Nat) : Body :=
  let q := s.qp n
  if q.rate = 0 then s
  else
    let top := s.portRate q.cfg.port
    s.setQp n { q with rate := if q.rate + 5000 ≥ top then 0 else q.rate + 5000, alpha := q.alpha - q.alpha / 256 }

end Body

end Sys2Proof.Machine
end

