-- ==== Sys2Proof/Machine/Jobs.lean ====
section
/-! DEFINITION. Export and import jobs, the untrusted table and its marks (R347 to R354). -/

namespace Sys2Proof.Machine

namespace Body

/-! ## Jobs (R347 to R350, R354) -/

/-- The job of a queue. -/
def job (s : Body) (q : Nat) : Job := if q = 0 then s.ciph.job0 else s.ciph.job1
/-- Replace the job of a queue. -/
def setJob (s : Body) (q : Nat) (j : Job) : Body :=
  if q = 0 then { s with ciph := { s.ciph with job0 := j } } else { s with ciph := { s.ciph with job1 := j } }

/-- Bytes of an export's container (R348). -/
def boxLen (len : Nat) : Nat := len + 128

/-- Whether a range lies in one ONLINE partition, or in an allocated Ramekin buffer (R347). -/
def jobRange (s : Body) (rk : Bool) (a n : Nat) : Bool :=
  if rk then
    let h := a % 2 ^ 36
    let p := h % 8
    p ≤ 5 && h / 8 % 32 == 0 && h / 256 < (s.pool p).hwm && (s.rkState p (h / 256)).1 && n ≤ rkSize p
  else match s.partAt (a / 2 ^ 30) with
    | some p => s.get (F.PART_ATTR_STATE p.id) == 1 && a + n ≤ (p.base + p.size) * 2 ^ 30
    | none => false

/-- First byte of a range: a DPA, or an offset of the Ramekin region. -/
def jobBase (s : Body) (rk : Bool) (a : Nat) : Nat := if rk then s.rkBuf (a % 8) (a % 2 ^ 36 / 256) else a

/-- Read bytes of a range, with whether a line read is poisoned: through the line order unit, without filling the near cache. -/
def jobRead (s : Body) (rk : Bool) (a n : Nat) : List Byte × Bool :=
  let (first, k) := lineSpan a n
  let lines := (range' first k).map fun l => if rk then s.rkLine l else s.peek l
  (((lines.flatMap fun l => lineBytes (if l.2 then 0 else l.1)).drop (a % 64)).take n, lines.any (·.2))

/-- Write credits that the frame still has (R190). -/
def creditsLeft (s : Body) : Nat :=
  if s.frame.sealing then 0 else s.get F.CREDIT_NOW_GRANT - s.per.used

/-- Write bytes of a job's destination: lines of a DPA take credits and are mirrored like any other write (R347). None: too few credits. -/
def jobWrite (s : Body) (q : Nat) (rk : Bool) (a : Nat) (l : List Byte) : Option Body :=
  let pieces := splitBytes a l
  if rk then some (s.forEach pieces fun s x => s.setRkLine x.1 (mergeLine (s.rkLine x.1).1 x.2.1 x.2.2) false)
  else if s.creditsLeft < pieces.length then none
  else some (s.forEach pieces fun s x => s.admitOne ⟨.job q, x.1, .write x.2.1 x.2.2, 0⟩)

/-- Little-endian bytes of a number. -/
def leBytes (n v : Nat) : List Byte := (List.range n).map fun i => BitVec.ofNat 8 (v / 256 ^ i)
/-- A line as a number from its bytes. -/
def lineOf (l : List Byte) : LineData := BitVec.ofNat 512 (bytesNat l)
/-- A line as words. -/
def lineWords (d : LineData) : List Word := (List.range 8).map fun i => BitVec.ofNat 64 (d.toNat / 2 ^ (64 * i))

/-- The header of a container (R348). -/
def boxHead (s : Body) (j : Job) (poison : Bool) : List Byte :=
  leBytes 4 0x58565242 ++ leBytes 1 1 ++ leBytes 1 (b2n poison) ++ leBytes 2 (s.get F.DOMAIN_ID_MEMBER) ++ leBytes 4 (s.get F.DOMAIN_ID_DOMAIN)
    ++ leBytes 4 j.keyGen ++ leBytes 12 j.nonce ++ leBytes 4 0 ++ leBytes 8 j.len ++ leBytes 16 j.aad ++ leBytes 8 0

/-- Refuse a job (R347, R348). A busy queue keeps the state of its job. -/
def jobRefuse (s : Body) (q code : Nat) : Body :=
  let s := s.put (F.JOB_STATUS_RESULT q) code
  if code = 8 then s else (s.put (F.JOB_STATUS_STATE q) 4).put (F.JOB_STATUS_BLOCKS q) 0

/-- Whether two ranges overlap. -/
def overlap (a m b n : Nat) : Bool := a < b + n && b < a + m

/-- Take the next JOB_SEQ, moving the mark of ring 1 on by the method of R27 (R349). -/
def jobSeqNext (s : Body) : Nat × Body :=
  let n := s.ciph.jobSeq
  let m := mgetD s.rack.mark 1 0
  let s := { s with ciph := { s.ciph with jobSeq := n + 1 } }
  (n, if n ≥ m + 2 ^ 31 then s.storeMark 1 (m + 2 ^ 31) else s)

/-- Start an accepted job (R350): an urgent one suspends the normal one at its block boundary. -/
def jobStart (s : Body) (q : Nat) (j : Job) : Body :=
  let j := { j with active := true, susp := q = 0 && s.ciph.job1.active }
  let s := s.setJob q j
  let s := (s.put (F.JOB_STATUS_STATE q) (if j.susp then 2 else 1)).put (F.JOB_STATUS_RESULT q) 0
  let s := ((s.put (F.JOB_STATUS_BLOCKS q) 0).put (F.JOB_POISON_FIRST q) 0).put (F.JOB_POISON_LINES q) 0
  let s := (s.put (F.JOB_NONCE_DATA q 0) j.nonce).put (F.JOB_NONCE_DATA q 1) (j.nonce / 2 ^ 64)
  if q = 1 && s.ciph.job0.active then (s.setJob 0 { s.ciph.job0 with susp := true }).put (F.JOB_STATUS_STATE 0) 2 else s

/-- JOB_GO (R347 to R349): the job of the queue's registers starts, or is refused. An OP that names no job starts none. -/
def jobGo (s : Body) (q : Nat) : Body :=
  let op := s.get (F.JOB_OP_OP q)
  let imp := op == 2
  let len := s.get (F.JOB_LEN_BYTES q)
  let j : Job := { imp := imp, len := len, src := s.get (F.JOB_SRC_ADDR q), dst := s.get (F.JOB_DST_ADDR q)
                   srcRk := s.flag (F.JOB_OP_SRC_RAMEKIN q), dstRk := s.flag (F.JOB_OP_DST_RAMEKIN q)
                   aad := s.get (F.JOB_AAD_DATA q 0) + 2 ^ 64 * s.get (F.JOB_AAD_DATA q 1) }
  let sn := if imp then boxLen len else len
  let dn := if imp then len else boxLen len
  if op != 1 && op != 2 then s
  else if !s.isOn U.persist then s.jobRefuse q 10
  else if !s.jobRange j.srcRk j.src sn || !s.jobRange j.dstRk j.dst dn then s.jobRefuse q 6
  else if j.srcRk == j.dstRk && overlap (s.jobBase j.srcRk j.src) sn (s.jobBase j.dstRk j.dst) dn then s.jobRefuse q 7
  else if len % 64 != 0 || len < 64 || len > 2 ^ 30 then s.jobRefuse q 6
  else if (s.job q).active then s.jobRefuse q 8
  else if !s.cipherOk || !s.isOn U.cipher then s.jobRefuse q 4
  else if imp then
    let h := bytesNat (s.jobRead j.srcRk (s.jobBase j.srcRk j.src) 64).1
    let gen := nbits h 96 32
    if nbits h 0 32 != 0x58565242 || nbits h 32 8 != 1 || nbits h 64 32 != s.get F.DOMAIN_ID_DOMAIN || nbits h 256 64 != len then s.jobRefuse q 5
    else if !s.genHeld gen then s.jobRefuse q 4
    else s.jobStart q { j with nonce := nbits h 128 96, keyGen := gen, aad := nbits h 320 128, srcPoison := nbit h 40 }
  else if !s.mayTag then s.jobRefuse q 4
  else
    let (n, s) := s.jobSeqNext
    s.jobStart q { j with nonce := s.get F.DOMAIN_ID_MEMBER + 2 ^ 16 * (n % 2 ^ 64), keyGen := s.ciph.cur.gen }

/-- One line of a job: read, ciphered or deciphered, written (R347, R351, R354). None: the write waits for credits. -/
def jobLine (s : Body) (q : Nat) : Option Body :=
  let j := s.job q
  let i := j.done
  let so := s.jobBase j.srcRk j.src + (if j.imp then 64 else 0) + 64 * i
  let to_ := s.jobBase j.dstRk j.dst + (if j.imp then 0 else 64) + 64 * i
  let (b, bad) := s.jobRead j.srcRk so 64
  let l := if bad && !j.imp then 0 else lineOf b
  let out := if j.imp then Config.gcmOpen j.keyGen j.nonce i l else Config.gcmSeal j.keyGen j.nonce i l
  let text := lineWords (if j.imp then l else out)
  let g := [j.gh.1, j.gh.2] ++ text
  let j' := { j with done := i + 1, gh := (Config.gcm j.keyGen j.nonce g 0, Config.gcm j.keyGen j.nonce g 1)
                     firstP := if bad && !j.imp && j.nPois = 0 then i else j.firstP
                     nPois := if bad && !j.imp then j.nPois + 1 else j.nPois }
  (s.jobWrite q j.dstRk to_ (lineBytes out)).map fun s => (s.setJob q j').put (F.JOB_STATUS_BLOCKS q) (j'.done / 64)

/-- Run lines of a job while credits last. -/
def jobRun : Nat → Body → Nat → Body
  | 0, s, _ => s
  | n + 1, s, q =>
    let j := s.job q
    if !j.active || j.susp || 64 * j.done ≥ j.len then s
    else match s.jobLine q with
      | none => s
      | some s => jobRun n s q

/-- The blocks that the queues move in a frame (R350). -/
def jobTick (s : Body) (blocks0 blocks1 : Nat) : Body :=
  if !s.cipherOk then s else jobRun (64 * blocks0) (jobRun (64 * blocks1) s 1) 0

/-! ## The untrusted table and marks (R351 to R353) -/

/-- Enter a range in the untrusted table and start its marks (R351, R353). A range of a Ramekin buffer has no DPA: its lines are poisoned
in the buffer. -/
def untrust (s : Body) (rk : Bool) (a n cause : Nat) : Body :=
  let s := s.poisonMade U.cipher cause
  let (first, k) := lineSpan a n
  if rk then s.forEach (range' first k) fun s l => s.setRkLine l 0 true
  else
    let e := (List.range 64).find? fun i => (mget s.ciph.table i).isNone
    let u : Untrust := ⟨a, n, cause, s.frameNo⟩
    let s := match e with
      | some i => { s with ciph := { s.ciph with table := mset s.ciph.table i u } }
      | none => s.raise U.cipher F.CIPHER_EVENTS_UNTRUST_FULL cause
    let w := fun (v : Nat) => (BitVec.ofNat 64 v : Word)
    let s := match e with
      | some i => s.recWrite .record (0x400 + 64 * i) [w u.dpa, w (u.bytes + cause * 2 ^ 32), w u.frame, 0, 0, 0] 0
      | none => s
    { s with ciph := { s.ciph with passes := s.ciph.passes ++ [MarkPass.mk first k 0 [] e] } }.cipherRegs

/-- Mark lines of the oldest pass that is not finished, in ascending order, skipping those marked out of turn (R352). -/
def markRun : Nat → Body → Body
  | 0, s => s
  | n + 1, s =>
    match s.ciph.passes.find? fun p => p.next < p.n with
    | none => s
    | some p =>
      let on := fun (s : Body) (e : List Nat) => { s with ciph := { s.ciph with passes := s.ciph.passes.map fun (x : MarkPass) =>
        if x == p then { x with next := x.next + 1, early := e } else x } }
      let line := p.line + p.next
      if p.early.contains line then markRun n (on s (p.early.erase line))
      else match s.markLine line with
        | none => s
        | some s' => markRun n (on s' p.early)

/-- The marks of a frame (R352): up to 512, none while the dirty level is FULL. -/
def markTick (s : Body) : Body := if s.ciph.passes.isEmpty || s.get F.SP_DIRTY_STATE_LEVEL == 3 then s else (markRun 512 s).pumpHeld

/-- MARK_DONE: a pass has marked its whole range (R352). -/
def markDone (s : Body) : Body :=
  match s.ciph.passes.find? fun p => p.next ≥ p.n with
  | none => s
  | some p =>
    let s := { s with ciph := { s.ciph with passes := s.ciph.passes.erase p } }
    (s.raise U.cipher F.CIPHER_EVENTS_MARK_DONE ((p.entry).getD 64)).cipherRegs

/-- UNTRUST_CMD SET (R353). A range that is empty, or not of whole lines, is none that the register's own row allows. -/
def untrustSet (s : Body) : Body :=
  let a := s.get F.UNTRUST_ARG_0_DPA
  let n := s.get F.UNTRUST_ARG_1_BYTES
  if a % 64 != 0 || n % 64 != 0 || n = 0 || n > 2 ^ 30 then s else s.untrust false a n 3

/-! ## The end of a job -/

/-- A job ends with a result; the normal job resumes when the urgent one ends (R350). -/
def jobEnd (s : Body) (q result : Nat) : Body :=
  let j := s.job q
  let s := (s.setJob q {}).put (F.JOB_STATUS_STATE q) 3
  let s := (s.put (F.JOB_STATUS_RESULT q) result).raise U.cipher F.CIPHER_EVENTS_JOB_DONE (q + 2 * result)
  let s := if j.imp && (result == 1 || result == 11) then
      (s.raise U.cipher F.CIPHER_EVENTS_AUTH_FAIL q).untrust j.dstRk (s.jobBase j.dstRk j.dst) j.len 1
    else if j.imp && result == 3 then s.untrust j.dstRk (s.jobBase j.dstRk j.dst) j.len 2
    else s
  if q = 1 && s.ciph.job0.active then (s.setJob 0 { s.ciph.job0 with susp := false }).put (F.JOB_STATUS_STATE 0) 1 else s

/-- ABORT (R350): the job ends at its block boundary. -/
def jobAbort (s : Body) (q : Nat) : Body := if (s.job q).active then s.jobEnd q 11 else s

/-- JOB_DONE (R348, R349, R351, R354): every line is done. An export writes its header and tag; an import compares the tag. -/
def jobDone (s : Body) (q : Nat) (tagOk : Bool) : Body :=
  let j := s.job q
  if !j.active || j.susp || 64 * j.done < j.len then s
  else if j.imp then s.jobEnd q (if !tagOk then 1 else if j.srcPoison then 3 else 0)
  else
    let head := s.boxHead j (j.nPois != 0)
    let g := lineWords (lineOf head) ++ [j.gh.1, j.gh.2]
    let t := [Config.gcm j.keyGen j.nonce g 0, Config.gcm j.keyGen j.nonce g 1]
    let base := s.jobBase j.dstRk j.dst
    let tail := (t.flatMap fun w => leBytes 8 w.toNat) ++ leBytes 48 0
    match (s.jobWrite q j.dstRk base head).bind fun s => s.jobWrite q j.dstRk (base + 64 + j.len) tail with
    | none => s
    | some s =>
      let s := s.forEach (List.range 2) fun s i => s.put (F.JOB_TAG_DATA q i) (((t[i]?).map (·.toNat)).getD 0)
      let s := (s.put (F.JOB_POISON_FIRST q) j.firstP).put (F.JOB_POISON_LINES q) j.nPois
      let s := if j.nPois = 0 then s else s.raise U.cipher F.PERSIST_EVENTS_POISON_CONSUMED q
      s.jobEnd q (if j.nPois = 0 then 0 else 2)

end Body

/-- JOB_EXPORT (R347): a write of JOB_GO while JOB_OP.OP holds EXPORT. -/
def execJobExport (actor : Actor) (q : Nat) (s : State) : Host.Outcome State Fault Refusal :=
  s.run (·.command actor (A.JOB_GO (q % 2)) 1 fun b => b.when (b.get (F.JOB_OP_OP (q % 2)) == 1) (·.jobGo (q % 2)))
/-- JOB_IMPORT (R347): a write of JOB_GO while JOB_OP.OP holds IMPORT. -/
def execJobImport (actor : Actor) (q : Nat) (s : State) : Host.Outcome State Fault Refusal :=
  s.run (·.command actor (A.JOB_GO (q % 2)) 1 fun b => b.when (b.get (F.JOB_OP_OP (q % 2)) == 2) (·.jobGo (q % 2)))

end Sys2Proof.Machine
end

