-- ==== Sys2Proof/Machine/RdmaIn.lean ====
section
/-! DEFINITION. RDMA over the Ethernet ports: the responder (R269, R273 to R284), connections (R270 to R272), ports (R266, R267, R282),
commands (R292) and peeks (R293). -/

namespace Sys2Proof.Machine

namespace Body

/-! ## Messages at the responder -/

/-- Change the messages of a queue pair. -/
def msgMod (s : Body) (n : Nat) (p : RMsg → Bool) (f : RMsg → RMsg) : Body :=
  s.qpMod n fun q => { q with msgs := q.msgs.map fun m => if p m then f m else m }

/-- A message has presented, and had admitted, every line it has so far. -/
def msgClear (m : RMsg) : Bool := m.held.isEmpty && m.started && m.left == 0

/-- Put a message into its place by PSN (R274, R276): before those whose first PSN lies farther beyond the last one acknowledged. -/
def msgPut (q : Qp) (m : RMsg) : List RMsg :=
  let far := fun (x : RMsg) => psnSub x.first (psnAdd q.lastAck 1)
  insertBy far m q.msgs

/-- Lines of a byte range as writes of a message; `idx` tells them apart. -/
def msgWrites (s : Body) (n first a : Nat) (data : List Byte) : List QWrite :=
  (splitBytes a data).map fun w => ⟨.rdma n first 0, w.1, .write w.2.1 w.2.2, s.rdmaNc⟩

/-- Present the lines of a write to the port's admission queue (R192, R273). -/
def msgPresent (s : Body) (n first : Nat) (l : List QWrite) : Body :=
  let s := s.msgMod n (·.first == first) fun m => { m with left := m.left + l.length }
  s.presentW (16 + (s.qp n).cfg.port) l

/-- Start a read: its lines go to the line order unit (R90, R269). `dup` tells a read that is executed again. -/
def readStart (s : Body) (n : Nat) (m : RMsg) (dup : Bool) : Body :=
  let (a, k) := lineSpan m.dpa m.len
  let m' := { m with started := true, left := k, ready := k == 0 }
  let s := if dup then s.qpMod n fun q => { q with dups := q.dups ++ [m'] } else s.msgMod n (·.first == m.first) fun _ => m'
  s.forEach (List.range k) fun s i =>
    s.order (.rdma n m.first (if dup then 2 ^ 30 + i else i)) (a + i) .read s.rdmaNc TierObs.clean

/-- An atomic goes to the admission queue when its line is present; else the line is fetched first (R463). -/
def atomicStart (s : Body) (n first : Nat) (o : AtomicOp) : Body :=
  if s.present o.line then
    let s := s.msgMod n (·.first == first) fun m => { m with started := true, left := 1, queued := true }
    s.presentW (16 + (s.qp n).cfg.port) [⟨.atomic n first, o.line, .atomic o.off o.swap o.a o.b, s.rdmaNc⟩]
  else
    let s := s.msgMod n (·.first == first) fun m => { m with started := true, left := 1, queued := false }
    s.order (.atomicFetch n) o.line .read s.rdmaNc TierObs.clean

/-- Whether a message may be presented after the ones before it (R273). -/
def msgMay (q : Qp) (before : List RMsg) (m : RMsg) : Bool :=
  let writes := before.all fun b => b.kind != .write || msgClear b
  match q.cfg.mode, m.kind with
  | .strict, .write => before.all fun b => b.held.isEmpty && b.started && (b.kind != .atomic || b.left == 0)
  | .strict, _ => writes && before.all fun b => b.held.isEmpty && b.started && (b.kind != .atomic || b.left == 0)
  | .relaxed, .write => true
  | .relaxed, _ => writes
  | .spray, .write => true
  | .spray, _ => writes && psnSub q.ePsn m.last - 1 < 2 ^ 23 && q.ePsn != m.last

/-- Present what may be presented now (R273). -/
def qpPump (s : Body) (n : Nat) : Body :=
  s.forEach ((s.qp n).msgs.map (·.first)) fun s f =>
    let q := s.qp n
    let before := q.msgs.takeWhile (·.first != f)
    match q.msgs.find? (·.first == f) with
    | none => s
    | some m =>
      if !msgMay q before m then s
      else
        let s := if m.held.isEmpty then s
          else (s.msgMod n (·.first == f) fun m => { m with held := [] }).msgPresent n f m.held
        if m.started then s
        else match m.kind, m.op with
          | .read, _ => s.readStart n m false
          | .atomic, some o => s.atomicStart n f o
          | _, _ => s

/-! ## Answers (R269, R274, R276, R284) -/

/-- Attach a waiter to the batch of a frame; a frame whose commit point is declared answers at once (R188). -/
def flushAt (s : Body) (f : Nat) (w : AckWaiter) : Body :=
  if s.per.batches.any (·.frame == f) then
    { s with per := { s.per with batches := s.per.batches.map fun b => if b.frame = f then { b with waiters := b.waiters ++ [w] } else b } }
  else s.later (.persisted w)

/-- Settle which answers are ready: a plain write once admitted, a flagged one once its commit point is declared (R269, R276). -/
def qpReady (s : Body) (n : Nat) : Body :=
  s.forEach ((s.qp n).msgs.map (·.first)) fun s f =>
    let q := s.qp n
    let before := q.msgs.takeWhile (·.first != f)
    match q.msgs.find? (·.first == f) with
    | none => s
    | some m =>
      let spray := q.cfg.mode == .spray
      let inOrder := !spray || (psnSub q.ePsn m.last - 1 < 2 ^ 23 && q.ePsn != m.last)
      if m.kind != .write || m.ready || m.waiting || !m.whole || !msgClear m || !inOrder then s
      else if !m.flagged then s.msgMod n (·.first == f) fun m => { m with ready := true }
      else
        let empty := m.lines == 0
        let clear := before.all fun b => b.kind != .write || msgClear b
        if (spray || empty) && !clear then s
        else
          let s := s.msgMod n (·.first == f) fun m => { m with waiting := true }
          if empty then s.flushPresent (.flagged n f)
          else s.flushAt (if spray then before.foldl (fun x b => max x b.frame) (max q.doneF m.frame) else m.frame) (.flagged n f)

/-- Deliver IMM to the completion queue, once, when the message is complete (R271, R276, R288). -/
def immDeliver (s : Body) (n : Nat) (m : RMsg) : Body :=
  if nbit (s.qp n).cfg.ext 1 then s.cqPut n 0 6 0 1 0 m.imm (0, 0) else s

/-- A consumer on RDMA receives poison (R199, R284): counted, and the answer is a terminating NAK. -/
def poisonAnswer (s : Body) (n psn delivered start len : Nat) : Body :=
  let s := (s.incSat F.POISON_COUNT_RDMA).raise U.rdma F.PERSIST_EVENTS_POISON_CONSUMED n
  let p := (s.qp n).cfg.port
  let s := if nbit (s.qp n).cfg.ext 0 then s.ethTx p 1 (.poisonNak p n psn delivered start len) else s.rdmaNak n psn .operational
  s.qpFatal n (if nbit (s.qp n).cfg.ext 0 then 5 else 4)

/-- Send the response of a READ, up to the packet that holds the first poisoned byte (R269, R284). False: it ended in a NAK. -/
def readAnswer (s : Body) (n : Nat) (m : RMsg) : Body × Bool :=
  let (a, k) := lineSpan m.dpa m.len
  let p := (s.qp n).cfg.port
  let lines := (List.range k).map fun i => mgetD m.back (a + i) (0, false)
  let bytes := ((lines.flatMap fun l => lineBytes l.1).drop (m.dpa % 64)).take m.len
  let mtu := s.rdmaMtu
  let cut : Option (Nat × Nat) := match lines.findIdx? (·.2) with
    | none => none
    | some i => some (64 * i - m.dpa % 64, min m.len (64 * (i + ((lines.drop i).takeWhile (·.2)).length) - m.dpa % 64))
  let npk := match cut with
    | none => s.rdmaPkts m.len
    | some c => c.1 / mtu
  let s := s.forEach (List.range npk) fun s i => s.ethTx p 1 (.rdmaData p n (psnAdd m.first i) ((bytes.drop (i * mtu)).take mtu))
  match cut with
  | none => (s, true)
  | some c => (s.poisonAnswer n (psnAdd m.first npk) (npk * mtu) c.1 (c.2 - c.1), false)

/-- Send one answer (R269, R287). False: the queue pair failed. -/
def msgAnswer (s : Body) (n : Nat) (m : RMsg) : Body × Bool :=
  let p := (s.qp n).cfg.port
  match m.kind with
  | .read => s.readAnswer n m
  | .atomic => if m.poison then (s.poisonAnswer n m.first 0 0 8, false) else (s.ethTx p 1 (.atomicAck p n m.first m.orig), true)
  | .send => (s.ethTx p 1 (.rdmaAck p n m.last), true)
  | .write =>
    let s := s.ethTx p 1 (.rdmaAck p n m.last)
    if m.flagged && nbit (s.qp n).cfg.ext 2 then
      let i := m.imm / 2 ^ 20 % 4096
      (s.trigSet i (mgetD s.rdma.trigs i 0 + 1), true)
    else (s, true)

/-- Answers leave in PSN order (R274). -/
def qpRelease : Nat → Body → Nat → Body
  | 0, s, _ => s
  | f + 1, s, n =>
    let q := s.qp n
    match q.msgs with
    | [] => s
    | m :: r =>
      if !m.ready then s
      else
        let s := s.setQp n { q with msgs := r, lastAck := m.last, doneF := max q.doneF m.frame }
        let x := s.msgAnswer n m
        if x.2 then qpRelease f x.1 n else x.1

/-- What an event on a queue pair lets happen: presentation, answers. -/
def qpTurn (s : Body) (n : Nat) : Body :=
  if (s.qp n).st == .reset then s
  else
    let s := (s.qpPump n).qpReady n
    qpRelease ((s.qp n).msgs.length + 1) s n

/-- A line of a write, or an atomic, or a line of a requester's response, has been admitted (R187, R269, R286). -/
def rdmaAdmitted (s : Body) (r : Requester) : Body :=
  match r with
  | .rdma n f _ =>
    (s.msgMod n (fun m => m.first == f && m.kind == .write) fun m => { m with left := m.left - 1, frame := s.frameNo }).qpTurn n
  | .atomic n f => (s.msgMod n (fun m => m.first == f && m.kind == .atomic) fun m => { m with left := 0, frame := s.frameNo }).qpTurn n
  | .local_ n f _ => (s.outMod n (·.first == f) fun o => { o with left := o.left - 1 }).reqRetire n
  | _ => s

/-- A line comes back to the transport engine (R269, R463). -/
def rdmaAnswered (s : Body) (r : Requester) (line : Nat) (data : LineData) (poison : Bool) : Body :=
  let take := fun (m : RMsg) =>
    let m := { m with back := mset m.back line (data, poison), left := m.left - 1 }
    { m with ready := m.left == 0 }
  match r with
  | .rdma n f i =>
    if i < 2 ^ 30 then (s.msgMod n (fun m => m.first == f && m.kind == .read) take).qpTurn n
    else match (s.qp n).dups.find? (·.first == f) with
      | none => s
      | some m =>
        let m' := take m
        if m'.left != 0 then s.qpMod n fun q => { q with dups := q.dups.map fun x => if x.first == f then m' else x }
        else ((s.qpMod n fun q => { q with dups := q.dups.filter (·.first != f) }).readAnswer n m').1
  | .atomicFetch n =>
    s.forEach ((s.qp n).msgs.filter fun m => m.kind == .atomic && m.started && !m.queued && m.op.any (·.line == line)) fun s m =>
      match m.op with
      | some o =>
        let s := s.msgMod n (·.first == m.first) fun m => { m with queued := true }
        s.presentW (16 + (s.qp n).cfg.port) [⟨.atomic n m.first, o.line, .atomic o.off o.swap o.a o.b, s.rdmaNc⟩]
      | none => s
  | .atomic n f =>
    match (s.qp n).msgs.find? fun m => m.first == f && m.kind == .atomic with
    | none => s
    | some m =>
      let v := word8 data ((m.op.map (·.off)).getD 0)
      let s := if poison then s else s.qpMod n fun q => { q with atomics := ((f, v) :: q.atomics).take 16 }
      (s.msgMod n (·.first == f) fun m => { m with ready := true, orig := v, poison := poison, left := 0 }).qpTurn n
  | _ => s

/-- An atomic found its line gone at admission: the line is fetched again (R463). -/
def rdmaRefetch (s : Body) (r : Requester) : Body :=
  match r with
  | .atomic n f => match ((s.qp n).msgs.find? (·.first == f)).bind (·.op) with
    | some o => (s.msgMod n (·.first == f) fun m => { m with queued := false }).order (.atomicFetch n) o.line .read s.rdmaNc TierObs.clean
    | none => s
  | _ => s

/-- The commit point that a flagged write waits for is declared (R188, R269). -/
def rdmaPersisted (s : Body) (n f : Nat) : Body :=
  (s.msgMod n (fun m => m.first == f && m.waiting) fun m => { m with ready := true, waiting := false }).qpTurn n

/-! ## Checks of a packet (R272, R278, R279, R281, R282) -/

/-- A region reached by a key: index and variant, protection domain, right, range and alignment (R279, R280). DEDUCED (log 137): a
partition that is not ONLINE fails the check (R84). -/
def keyCheck (s : Body) (q : Qp) (key va len right : Nat) : Option (Nat × Nat) :=
  match mget s.rdma.regions (key / 256) with
  | none => none
  | some r =>
    let dead := r.deadAt.any (· ≤ s.frameNo)
    if !r.used || dead || r.variant != key % 256 || r.pd != q.cfg.pd || !nbit r.rights right then none
    else if len != 0 && (va < r.va || va + len > r.va + r.len) then none
    else if right == 2 && va % 8 != 0 then none
    else match s.cfg.img.qui.parts.find? (·.id == r.part) with
      | some p => if s.get (F.PART_ATTR_STATE p.id) == 1 then some (key / 256, p.base * 2 ^ 30 + r.off + (va - r.va)) else none
      | none => none

/-- Whether the port's admission queue has room for some lines and no stop cause holds; a flush needs only that R187 admits it (R281). -/
def rdmaRoom (s : Body) (q : Qp) (lines : Nat) (flush : Bool) : Bool :=
  if flush then !flushStop s.stopCauses else (s.aq (16 + q.cfg.port)).length + lines ≤ 16384 && s.stopCauses == 0

/-- Mark arriving packets and send congestion notifications (R281). -/
def rdmaMark (s : Body) (n : Nat) (ce : Bool) : Body :=
  let q := s.qp n
  let p := q.cfg.port
  let due := match q.cnpAt with
    | none => true
    | some f => (s.frameNo - f) * s.periodNs ≥ s.get F.RDMA_CFG_CNP_INTERVAL_US * 1000
  if (ce || (s.aq (16 + p)).length > 12288) && due then
    ((s.setQp n { q with cnpAt := some s.frameNo }).inc (F.ETH_COUNT_2_CNP_SENT p)).ethTx p 1 (.cnp p n)
  else s

/-- A request packet arrives for a queue pair (R272, R281, R282). -/
def rdmaPacket (s : Body) (p n psn : Nat) (ce : Bool) (go : Body → Body) : Body :=
  if !s.ethUp p || s.rdmaShut then s
  else
    let s := s.inc (F.ETH_COUNT_0_RX_PKTS p)
    let q := s.qp n
    if (q.st != .rtr && q.st != .rts) || q.cfg.port != p then s.incSat F.RDMA_COUNT_1_NO_QP
    else
      let s := s.rdmaMark n ce
      if s.rdmaStopped || s.per.hold || !s.attestedOk then s.rdmaRnr n psn else go s

/-- Mark PSNs of a spray queue pair as received and move ePSN over those present (R276). -/
def sprayTake : Nat → Qp → Qp
  | 0, q => q
  | f + 1, q => if q.seen.contains q.ePsn then sprayTake f { q with ePsn := psnAdd q.ePsn 1, seen := q.seen.erase q.ePsn } else q

/-- PSNs arrive: in order ePSN moves on, on a spray queue pair the reorder timer may start (R273, R276, R277). -/
def psnArrive (s : Body) (n psn k : Nat) : Body :=
  s.qpMod n fun q =>
    if q.cfg.mode == .spray then
      let seen := q.seen ++ (List.range k).map (psnAdd psn)
      sprayTake (seen.length + 1) { q with seen := seen, timer := q.timer || psn != q.ePsn }
    else { q with ePsn := psnAdd psn k, quiet := false }

/-- The duplicate window and the order of packets (R273, R276, R278): `dup` answers a duplicate, `go` takes a packet in its turn. -/
def psnCheck (s : Body) (n psn : Nat) (dup go : Body → Body) : Body :=
  let q := s.qp n
  let d := psnSub q.ePsn psn
  if 1 ≤ d && d ≤ 1024 then dup (s.inc F.RDMA_COUNT_0_DUP_IN_WINDOW)
  else if 1024 < d && d ≤ 2 ^ 23 then (s.inc F.RDMA_COUNT_0_DUP_OUTSIDE).rdmaSequence n
  else if q.cfg.mode == .spray then
    if psnSub psn q.ePsn ≥ 1024 then s.incSat F.RDMA_COUNT_1_SPRAY_BEYOND
    else if q.seen.contains psn then s else go s
  else if d = 0 then go s
  else if q.quiet then s
  else (s.qpMod n fun q => { q with quiet := true }).rdmaSequence n

/-- A duplicate write (R278): the last PSN acknowledged again, but nothing while the flagged write's own answer is held. -/
def dupWrite (s : Body) (n psn : Nat) : Body :=
  let q := s.qp n
  if q.msgs.any fun m => m.flagged && psnSub psn m.first ≤ psnSub m.last m.first then s
  else s.ethTx q.cfg.port 1 (.rdmaAck q.cfg.port n q.lastAck)

/-! ## Requests (R269) -/

/-- A packet of a WRITE in strict or relaxed mode (R269, R273, R279, R281): `h` stands in a first packet, `imm` in the last of a WRITE
with immediate. -/
def writePacket (s : Body) (n psn : Nat) (h : Option Reth) (last : Bool) (imm : Option Nat) (data : List Byte) : Body :=
  let q := s.qp n
  let open_ := q.msgs.find? fun m => m.kind == .write && !m.whole
  let part : Option (Nat × Nat × Nat) := match h, open_ with
    | some h, none => some (h.va, h.key, h.len)
    | none, some m => some (m.va, m.key, m.bytes)
    | _, _ => none
  match part with
  | none => s.rdmaInvalid n psn
  | some (va, key, bytes) =>
    if data.length > bytes || (last && data.length != bytes) || (!last && data.length != s.rdmaMtu) then s.rdmaInvalid n psn
    else match s.keyCheck q key va (if h.isSome then bytes else data.length) 1 with
      | none => s.rdmaAccess n psn key
      | some (region, a) =>
        let f := (open_.map (·.first)).getD psn
        let ws := s.msgWrites n f a data
        if !s.rdmaRoom q ws.length (ws.isEmpty && imm.isSome && h.isSome) then s.rdmaRnr n psn
        else
          let s := s.psnArrive n psn 1
          let m : RMsg := open_.getD { first := psn, last := psn, kind := .write, region := region }
          let m := { m with last := psn, whole := last, va := va + data.length, key := key, bytes := bytes - data.length
                            flagged := imm.isSome, imm := imm.getD 0, held := m.held ++ ws, lines := m.lines + ws.length }
          let s := s.qpMod n fun q =>
            { q with msgs := if open_.isSome then q.msgs.map fun x => if x.first == f then m else x else q.msgs ++ [m] }
          let s := if last && imm.isSome then s.immDeliver n m else s
          s.qpTurn n

/-- A SPRAY_WRITE or SPRAY_WRITE_IMM packet (R275, R276): it is placed on arrival. -/
def sprayPacket (s : Body) (n psn : Nat) (h : SprayHdr) (imm : Bool) (data : List Byte) : Body :=
  let q := s.qp n
  if q.cfg.mode != .spray then s.rdmaInvalid n psn
  else if (!h.last && data.length != s.rdmaMtu) || h.pkts = 0 || psnSub psn h.msg ≥ h.pkts then s.rdmaInvalid n psn
  else match s.keyCheck q h.key h.va data.length 1 with
    | none => s.rdmaAccess n psn h.key
    | some (region, a) =>
      let ws := s.msgWrites n h.msg a data
      if !s.rdmaRoom q ws.length (ws.isEmpty && imm && h.len = 0) then s.rdmaRnr n psn
      else
        let s := s.psnArrive n psn 1
        let old := q.msgs.find? (·.first == h.msg)
        let m : RMsg := old.getD { first := h.msg, last := psnAdd h.msg (h.pkts - 1), kind := .write, got := 0, pkts := h.pkts, region := region
                                   flagged := imm, imm := h.imm, key := h.key }
        let m := { m with got := m.got + 1, whole := m.got + 1 == m.pkts, held := m.held ++ ws, lines := m.lines + ws.length }
        let s := s.qpMod n fun q =>
          { q with msgs := if old.isSome then q.msgs.map fun x => if x.first == h.msg then m else x else msgPut q m }
        let s := if m.whole && imm then s.immDeliver n m else s
        s.qpTurn n

/-- A READ (R269, R273, R279). -/
def readPacket (s : Body) (n psn : Nat) (h : Reth) (dup : Bool) : Body :=
  let q := s.qp n
  match s.keyCheck q h.key h.va h.len 0 with
  | none => s.rdmaAccess n psn h.key
  | some (region, a) =>
    let k := s.rdmaPkts h.len
    let m : RMsg := { first := psn, last := psnAdd psn (k - 1), kind := .read, region := region, started := false, dpa := a, len := h.len }
    if dup then
      let s := s.readStart n m true
      if h.len = 0 then
        ((s.qpMod n fun q => { q with dups := q.dups.filter (·.first != psn) }).readAnswer n m).1
      else s
    else
      let s := s.psnArrive n psn k
      (s.qpMod n fun q => { q with msgs := msgPut q m }).qpTurn n

/-- A compare-swap or fetch-add (R91, R269, R273, R279, R463). -/
def atomicPacket (s : Body) (n psn va key : Nat) (swap : Bool) (x y : Nat) : Body :=
  let q := s.qp n
  match s.keyCheck q key va 8 2 with
  | none => s.rdmaAccess n psn key
  | some (region, a) =>
    if !s.rdmaRoom q 1 false then s.rdmaRnr n psn
    else
      let m : RMsg := { first := psn, last := psn, kind := .atomic, region := region, started := false
                        op := some ⟨a / 64, a % 64, swap, x, y⟩ }
      let s := s.psnArrive n psn 1
      (s.qpMod n fun q => { q with msgs := msgPut q m }).qpTurn n

/-- A duplicate atomic is answered from the last 16 results (R278). -/
def dupAtomic (s : Body) (n psn : Nat) : Body :=
  let q := s.qp n
  match q.atomics.find? (·.1 == psn) with
  | some r => s.ethTx q.cfg.port 1 (.atomicAck q.cfg.port n psn r.2)
  | none => s.rdmaSequence n

/-- A packet of a SEND (R269): its payload goes into the buffer of the first posted receive. -/
def sendPacket (s : Body) (n psn : Nat) (first last : Bool) (data : List Byte) : Body :=
  let q := s.qp n
  match q.recvs with
  | [] => s.rdmaRnr n psn
  | h :: r =>
    let at_ := if first then 0 else q.sendAt
    if at_ + data.length > rkSize (h % 8) then s.rdmaInvalid n psn
    else
      let o := s.rkBuf (h % 8) (h / 256) + at_
      let s := s.forEach (data.zip (range' o data.length)) fun s b => s.setRkByte b.2 b.1.toNat
      let s := s.psnArrive n psn 1
      let s := s.qpMod n fun q => { q with sendAt := at_ + data.length, recvs := if last then r else q.recvs }
      if last then
        (s.qpMod n fun q => { q with msgs := msgPut q { first := psn, last := psn, kind := .send, ready := true } }).qpTurn n
      else s

/-- A duplicate SEND is acknowledged again (R278). -/
def dupSend (s : Body) (n : Nat) : Body := let q := s.qp n; s.ethTx q.cfg.port 1 (.rdmaAck q.cfg.port n q.lastAck)

/-- Runs of missing PSNs from ePSN up to the highest received, at most 8 of at most 255 (R277). -/
def sackRuns (q : Qp) : List (Nat × Nat) :=
  let top := (q.seen.map fun x => psnSub x q.ePsn).foldl max 0
  let gaps := (List.range top).filter fun i => !q.seen.contains (psnAdd q.ePsn i)
  let runs := gaps.foldl (fun (l : List (Nat × Nat)) i => match l with
    | (f, k) :: r => if f + k = i && k < 255 then (f, k + 1) :: r else (i, 1) :: l
    | [] => [(i, 1)]) []
  (runs.reverse.take 8).map fun r => (psnAdd q.ePsn r.1, r.2)

/-- The reorder timer expires (R277). -/
def reorderEnd (s : Body) (n : Nat) : Body :=
  let q := s.qp n
  if !q.timer || (q.st != .rtr && q.st != .rts) then s
  else if q.seen.isEmpty then s.setQp n { q with timer := false }
  else (s.incSat F.RDMA_COUNT_1_SACK_SENT).ethTx q.cfg.port 1 (.sack q.cfg.port n q.lastAck (sackRuns q))

/-! ## Connections (R270 to R272) -/

/-- Send a connection message. -/
def cmSend (s : Body) (p n : Nat) (m : CmMsg) : Body := s.ethTx p 1 (.cm p n m)

/-- REP with the values granted: 16 responder resources and the path MTU (R270, R271). -/
def cmRep (s : Body) (n : Nat) : Body :=
  let q := s.qp n
  let mode := match q.cfg.mode with | .strict => 0 | .relaxed => 1 | .spray => 2
  s.cmSend q.cfg.port n (.rep mode q.cfg.pd q.cfg.ext q.nPsn 16 s.rdmaMtu)

/-- Mode by its number (R271). -/
def qpModeOf (m : Nat) : QpMode := match m with | 0 => .strict | 1 => .relaxed | _ => .spray

/-- A CM REQ arrives on a port (R270, R271). -/
def cmReq (s : Body) (p : Nat) (m : CmReq) : Body :=
  if !s.ethUp p then s
  else
    let s := s.inc (F.ETH_COUNT_0_RX_PKTS p)
    let free := (range' 2 65534).find? fun n => (mget s.rdma.qps n).isNone
    match free with
    | none => s.cmSend p 0 .rej
    | some n =>
      if m.tcp != s.get F.RDMA_CFG_CM_PORT || !s.ethOpen p || s.rdmaShut then s.cmSend p 0 .rej
      else
        let r := m.record.getD ⟨0, 0, 0⟩
        let psn := (Config.freeWord s.freeCtr).toNat % 2 ^ 24
        let s := s.fresh
        let cfg : QpCfg := { mode := qpModeOf r.mode, pd := r.pd, port := p, remote := m.remote, addr := m.addr, ext := r.flags % 8 }
        let q : Qp := { st := .rtr, cfg := cfg, ePsn := m.psn, lastAck := psnAdd m.psn (2 ^ 24 - 1), nPsn := psn }
        if !s.flag F.RDMA_CTL_CM_HOLD && s.rdma.pdAuto.contains r.pd then (s.setQp n q).cmRep n
        else
          let s := (s.setQp n { q with st := .held }).cmSend p n .mra
          (s.raise U.rdma F.RDMA_EVENTS_CM_HELD n).rdmaPost 0x12 p n (m.addr % 2 ^ 64)

/-- An RTU arrives (R272). -/
def cmRtu (s : Body) (n : Nat) : Body :=
  let q := s.qp n
  if q.st == .rtr && !q.cfg.active then (s.setQp n { q with st := .rts }).reqPump n else s

/-- A REP arrives for the active side (R272): RTU answers it. -/
def cmRepRecv (s : Body) (n remote psn : Nat) : Body :=
  let q := s.qp n
  if q.st == .rtr && q.cfg.active then
    let q := { q with st := .rts, cfg := { q.cfg with remote := remote }, ePsn := psn, lastAck := psnAdd psn (2 ^ 24 - 1) }
    ((s.setQp n q).cmSend q.cfg.port n .rtu).reqPump n
  else s

/-- The connection ends: a DREQ is received or sent (R272, R289). -/
def cmGone (s : Body) (n : Nat) (m : CmMsg) : Body :=
  let q := s.qp n
  if q.st != .rtr && q.st != .rts then s
  else
    let s := (s.cmSend q.cfg.port n m).rdmaPost 0x13 q.cfg.port n 0
    (s.qpError n).qpMod n fun q => { q with drep := true }

/-- A queue pair returns to RESET (R272). -/
def qpReset (s : Body) (n : Nat) : Body := s.setQp n {}

/-- The MRA timeout of a held queue pair (R272). -/
def mraTimeout (s : Body) (n : Nat) : Body :=
  let q := s.qp n
  if q.st == .held then (s.cmSend q.cfg.port n .rej).qpReset n else s

/-- 2 ms after DREP (R272). -/
def qpTimeout (s : Body) (n : Nat) : Body := if (s.qp n).st == .error && (s.qp n).drep then s.qpReset n else s

/-! ## Ports (R267, R282, R289) -/

/-- Every connection of a port ends with a DREQ and its queue pairs go to ERROR (R267, R282). -/
def ethDisconnect (s : Body) (p : Nat) : Body :=
  s.forEach ((s.rdma.qps.filter fun q => q.2.cfg.port == p).map (·.1)) fun s n =>
    if (s.qp n).st == .held then s.mraTimeout n else s.cmGone n .dreq

/-- Look at a port's opening conditions (R282). It closes when the controller enters a role that holds no writes. -/
def ethLook (s : Body) (p : Nat) : Body :=
  let now := s.ethOpen p
  let s := s.putB (F.ETH_STATUS_OPEN p) now
  if now && !s.rdma.opened.contains p then
    ({ s with rdma := { s.rdma with opened := insertNat s.rdma.opened p } }).rdmaPost 0x04 p 0 (roleCode s.role)
  else if s.rdma.opened.contains p && !s.holds then
    let s := { s with rdma := { s.rdma with opened := s.rdma.opened.erase p } }
    ((s.raise (U.eth p) (F.ETH_EVENTS_CLOSED p)).rdmaPost 0x03 p 0 (roleCode s.role)).ethDisconnect p
  else s

/-- A link comes up (R267, R289). -/
def ethLinkUp (s : Body) (p : Nat) : Body :=
  if p ≥ s.ethPortCount || !s.isOn (U.eth p) || s.get (F.ETH_STATUS_LINK p) == 2 then s
  else
    let s := (s.put (F.ETH_STATUS_LINK p) 2).raise (U.eth p) (F.ETH_EVENTS_LINK_UP p)
    (s.rdmaPost 0x01 p 0 (s.get (F.ETH_STATUS_SPEED p))).ethLook p

/-- A link goes down (R267, R289); while the port is ON it negotiates again. -/
def ethLinkDown (s : Body) (p cause : Nat) : Body :=
  if s.get (F.ETH_STATUS_LINK p) != 2 then s
  else
    let s := (s.put (F.ETH_STATUS_LINK p) (if s.isOn (U.eth p) then 1 else 0)).raise (U.eth p) (F.ETH_EVENTS_LINK_DOWN p)
    (s.rdmaPost 0x02 p 0 cause).ethLook p

/-- Stop steps 1 and 3 of a port (R267). -/
def ethStop (s : Body) (p : Nat) : Body := s.ethDisconnect p
/-- Whether every admitted READ of a port is answered (R267). -/
def ethQuiet (s : Body) (p : Nat) : Bool := s.rdma.qps.all fun q => q.2.cfg.port != p || (q.2.msgs.isEmpty && q.2.dups.isEmpty)

/-- The engine's start step (R267). -/
def rdmaStart (s : Body) : Body :=
  let s := { s with rdma := { s.rdma with qps := [], regions := s.rdma.regions.map fun (r : Nat × Region) => (r.1, { variant := r.2.variant }) } }
  (s.forEach (List.range 256) fun s i => s.put (F.PART_ATTR_REGIONS i) 0).rdmaShow

/-! ## Commands (R292) -/

/-- A command ends: 0 done, else refused with its RESULT. -/
def cmdEnd (s : Body) (result key : Nat) : Body :=
  let s := ((s.put F.RDMA_CMD_STATUS_STATE (if result = 0 then 2 else 3)).put F.RDMA_CMD_STATUS_RESULT result).put F.RDMA_CMD_STATUS_KEY key
  s.raise U.rdma (if result = 0 then F.RDMA_EVENTS_CMD_DONE else F.RDMA_EVENTS_CMD_REFUSED) result

/-- Bits of an argument register. -/
def arg (s : Body) (i lo w : Nat) : Nat := nbits (s.word (A.RDMA_ARG i)).toNat lo w

/-- Whether a hardware queue serves as a send queue, and as a completion queue (R292, R305). -/
def cqValid (s : Body) (k : Nat) : Bool := let q := s.queue k; q.enabled && q.item == 4 && q.prod == 1
def sqValid (s : Body) (k : Nat) : Bool := let q := s.queue k; q.enabled && q.item == 8 && q.cons == 1

/-- CONNECT (R292). -/
def rdmaConnect (s : Body) (n : Nat) : Body :=
  let p := s.arg 2 48 3
  let own := s.arg 3 31 1 == 1
  if n < 2 || n > 65535 || (s.qp n).st != .reset then s.cmdEnd 1 0
  else if !s.ethOpen p then s.cmdEnd 4 0
  else if !own && (!s.sqValid (s.arg 3 40 12) || !s.cqValid (s.arg 3 52 12)) then s.cmdEnd 5 0
  else
    let cfg : QpCfg := {
      mode := qpModeOf (s.arg 3 0 2), pd := s.arg 3 2 12, port := p, active := true, sched := own
      sq := if own then none else some (s.arg 3 40 12), cq := if own then none else some (s.arg 3 52 12)
      addr := s.arg 0 0 64 * 2 ^ 64 + s.arg 1 0 64, mac := s.arg 2 0 48, retry := s.arg 2 51 3, rnr := s.arg 2 54 3, timeout := s.arg 2 57 5
      cmPort := s.arg 3 14 16, ext := s.arg 3 30 1, paths := max 1 (min 64 (s.arg 3 32 8)) }
    let psn := (Config.freeWord s.freeCtr).toNat % 2 ^ 24
    let s := s.fresh.setQp n { st := .rtr, cfg := cfg, nPsn := psn }
    (s.cmSend p n (.req (s.arg 3 0 2) cfg.pd cfg.ext psn)).cmdEnd 0 0

/-- ACCEPT (R292). -/
def rdmaAccept (s : Body) (n : Nat) : Body :=
  let q := s.qp n
  if q.st != .held then s.cmdEnd 1 0
  else if nbit q.cfg.ext 1 && !s.cqValid (s.arg 3 52 12) then s.cmdEnd 5 0
  else ((s.setQp n { q with st := .rtr, cfg := { q.cfg with pd := s.arg 3 2 12, cq := some (s.arg 3 52 12) } }).cmRep n).cmdEnd 0 0

/-- REJECT (R292). -/
def rdmaReject (s : Body) (n : Nat) : Body := if (s.qp n).st != .held then s.cmdEnd 1 0 else (s.mraTimeout n).cmdEnd 0 0

/-- DISCONNECT (R272, R292). -/
def rdmaDisconnect (s : Body) (n : Nat) : Body :=
  match (s.qp n).st with
  | .rtr | .rts => (s.cmGone n .dreq).cmdEnd 0 0
  | .error => (s.qpReset n).cmdEnd 0 0
  | _ => s.cmdEnd 1 0

/-- REG_CREATE (R279, R73). -/
def regCreate (s : Body) (i : Nat) : Body :=
  let part := s.arg 1 47 8
  let off := s.arg 1 0 47
  let len := s.arg 2 0 64
  let old := mgetD s.rdma.regions i {}
  if i ≥ 1048576 || old.used then s.cmdEnd 1 0
  else if s.get (F.PART_ATTR_STATE part) != 1 || !s.flag (F.PART_ATTR_RDMA_ALLOWED part) || s.cfg.refuseIn.contains part then s.cmdEnd 2 0
  else if off + len > s.get (F.PART_SIZE_SIZE_GIB part) * 2 ^ 30 then s.cmdEnd 3 0
  else
    let v := (old.variant + 1) % 256
    let r : Region := { used := true, variant := v, va := s.arg 0 0 64, part := part, off := off, len := len, pd := s.arg 3 0 12, rights := s.arg 3 12 3 }
    let s := { s with rdma := { s.rdma with regions := mset s.rdma.regions i r } }
    ((s.inc (F.PART_ATTR_REGIONS part)).rdmaShow).cmdEnd 0 (i * 256 + v)

/-- REG_DEREG (R280): the key fails from the next tick; the command runs until accesses admitted through the region have completed. -/
def regDereg (s : Body) (i : Nat) : Body :=
  match mget s.rdma.regions i with
  | some r =>
    if !r.used then s.cmdEnd 1 0
    else { s with rdma := { s.rdma with regions := mset s.rdma.regions i { r with deadAt := some (s.frameNo + 1) } } }
  | none => s.cmdEnd 1 0

/-- Whether an access admitted through a region is still under way. -/
def regionBusy (s : Body) (i : Nat) : Bool :=
  s.rdma.qps.any fun q => (q.2.msgs ++ q.2.dups).any fun m => m.region == i && m.kind != .send && (!msgClear m)

/-- REG_DEREG completes (R280). -/
def regDeregDone (s : Body) (i : Nat) : Body :=
  match mget s.rdma.regions i with
  | some r =>
    if !r.used || !r.deadAt.any (· ≤ s.frameNo) || s.regionBusy i then s
    else
      let s := { s with rdma := { s.rdma with regions := mset s.rdma.regions i { variant := r.variant } } }
      let s := (s.put (F.PART_ATTR_REGIONS r.part) (s.get (F.PART_ATTR_REGIONS r.part) - 1)).rdmaShow
      (s.rdmaPost 0x30 0 i (i * 256 + r.variant)).cmdEnd 0 0
  | none => s

/-- PD_SET (R292). -/
def pdSet (s : Body) (i : Nat) : Body :=
  let l := s.rdma.pdAuto.erase (i % 4096)
  ({ s with rdma := { s.rdma with pdAuto := if s.arg 0 0 1 == 1 then insertNat l (i % 4096) else l } }).cmdEnd 0 0

/-- A command of firmware begins: discarded while one runs, or while the engine is not ON (R292). -/
def rdmaBegin (s : Body) (i : Nat) (act : Body → Body) : Body :=
  if s.get F.RDMA_CMD_STATUS_STATE == 1 || !s.isOn U.rdma then s
  else act (((s.put F.RDMA_CMD_STATUS_STATE 1).put F.RDMA_CMD_STATUS_RESULT 0).put F.RDMA_CMD_STATUS_ECHO i)

/-- A write of RDMA_CMD (R292). -/
def rdmaCmd (s : Body) (actor : Actor) (op i : Nat) (act : Body → Body) : Body :=
  s.command actor A.RDMA_CMD (op + 16 * (i % 2 ^ 24)) (·.rdmaBegin i act)

/-- TRIG_SET (R292). -/
def trigCmd (s : Body) (i : Nat) : Body := (s.trigSet (i % 4096) (s.arg 0 0 32)).cmdEnd 0 0

/-- Snapshot into RDMA_PEEK_0 to RDMA_PEEK_3 (R293). -/
def rdmaPeek (s : Body) : Body :=
  let i := s.get F.RDMA_PEEK_SEL_INDEX
  let echo := i % 2 ^ 20 * 2 ^ 44
  let put := fun (s : Body) (a b c d : Nat) =>
    (((s.setWord (A.RDMA_PEEK 0) (BitVec.ofNat 64 (a + echo))).setWord (A.RDMA_PEEK 1) (BitVec.ofNat 64 b)).setWord (A.RDMA_PEEK 2)
      (BitVec.ofNat 64 c)).setWord (A.RDMA_PEEK 3) (BitVec.ofNat 64 d)
  match s.get F.RDMA_PEEK_SEL_KIND with
  | 0 =>
    let q := s.qp i
    let st := match q.st with | .reset => 0 | .held => 1 | .rtr => 2 | .rts => 3 | .error => 4
    let mode := match q.cfg.mode with | .strict => 0 | .relaxed => 1 | .spray => 2
    let open_ := (q.msgs.filter fun m => m.kind == .read || m.kind == .atomic).length + (q.outs.filter fun o => hasData o.wr).length
    put s (st + 8 * mode + 32 * q.cfg.pd + 2 ^ 17 * q.cfg.port + 2 ^ 20 * q.cfg.sq.getD 0 + 2 ^ 32 * q.cfg.cq.getD 0)
      (q.ePsn + 2 ^ 24 * q.nPsn + 2 ^ 48 * open_) (q.lastAck + 2 ^ 24 * b2n (q.msgs.any (·.waiting)) + 2 ^ 48 * q.seen.length) q.cfg.remote
  | 1 =>
    let r := mgetD s.rdma.regions i {}
    put s (r.pd + 2 ^ 12 * r.rights + 2 ^ 15 * r.variant + 2 ^ 23 * b2n r.used) r.va (r.off + 2 ^ 47 * r.part) r.len
  | 2 => put s (mgetD s.rdma.trigs i 0) 0 0 0
  | _ => put s 0 0 0 0

end Body

end Sys2Proof.Machine
end

