-- ==== Sys2Proof/Machine/Sched.lean ====
section
/-! DEFINITION. The serving-schedule engine (R314 to R336): table rows, staging, ready beacons, launch decisions, delivery, records. -/

namespace Sys2Proof.Machine

/-- A schedule entry as its row says (R314). -/
structure SchedRow where
  id     : Nat
  flags  : Nat
  part   : Nat
  set    : Nat
  pos    : Nat
  launch : Nat
  src    : Nat
  len    : Nat
  group  : Nat
  slip   : Nat
  lead   : Nat
  pace   : Nat
  off    : Nat
  window : Nat
  trig   : Nat
  deriving DecidableEq, Repr

/-- The row that eight words spell (R314). -/
def schedRowOf (w : Nat → Nat) : SchedRow :=
  { id := nbits (w 0) 0 32, flags := nbits (w 0) 32 8, part := nbits (w 0) 40 8, set := nbits (w 0) 48 8, pos := nbits (w 0) 56 8
    launch := w 1, src := w 2, len := nbits (w 3) 0 32, group := nbits (w 3) 32 16, slip := nbits (w 3) 48 16
    lead := nbits (w 4) 0 32, pace := nbits (w 4) 32 32, off := w 5, window := nbits (w 6) 0 16, trig := nbits (w 6) 16 12 }

namespace SchedRow
/-- Lines of the share. -/
def lines (r : SchedRow) : Nat := r.len / 64
/-- Chunks of the share (R314). -/
def chunks (r : SchedRow) : Nat := cdiv r.len 65536
/-- Bytes of a chunk. -/
def chunkLen (r : SchedRow) (k : Nat) : Nat := min 65536 (r.len - 65536 * k)
/-- L + MAX_SLIP. -/
def deadline (r : SchedRow) : Nat := r.launch + r.slip
/-- Bytes of the poison map (R329). -/
def mapLen (r : SchedRow) : Nat := cdiv r.len 512
end SchedRow

namespace EntState
/-- DONE, ABANDONED, CANCELLED, NOT_RUN, FAILED, INTERRUPTED (R318). -/
def isFinal : EntState → Bool
  | .done | .abandoned | .cancelled | .notRun | .failed | .interrupted => true
  | .empty | .loaded | .waiting | .staging | .ready | .delivering => false
/-- STAGING, READY or DELIVERING (R319). -/
def running : EntState → Bool
  | .staging | .ready | .delivering => true
  | .empty | .loaded | .waiting | .done | .abandoned | .cancelled | .notRun | .failed | .interrupted => false
/-- WAITING, STAGING, READY or DELIVERING (R317, R324). -/
def inUse : EntState → Bool
  | .waiting | .staging | .ready | .delivering => true
  | .empty | .loaded | .done | .abandoned | .cancelled | .notRun | .failed | .interrupted => false
/-- Encoding of STATE (R336). -/
def code : EntState → Nat
  | .empty => 0 | .loaded => 1 | .waiting => 2 | .staging => 3 | .ready => 4 | .delivering => 5
  | .done => 6 | .abandoned => 7 | .cancelled => 8 | .notRun => 9 | .failed => 10 | .interrupted => 11
end EntState

namespace Body

/-! ## Rows -/

/-- Schedule blocks of the image (R62). -/
def schedBlocks (s : Body) : Nat := s.cfg.img.fix.schedBlocks
/-- An entry's row. -/
def schedRow (s : Body) (e : Nat) : SchedRow := schedRowOf fun i => (mgetD s.sched.rows (8 * e + i) 0).toNat
/-- An entry's run state. -/
def run_ (s : Body) (e : Nat) : Run := mgetD s.sched.runs e {}
/-- A word of a descriptor (R315). -/
def descWord (s : Body) (d i : Nat) : Nat := (mgetD s.sched.descs (4 * d + i) 0).toNat
/-- Queue pair that a descriptor names. -/
def descQp (s : Body) (d : Nat) : Nat := s.descWord d 0 % 2 ^ 24
/-- Descriptors of a group, ascending (R315). -/
def groupDescs (s : Body) (g : Nat) : List Nat :=
  let r := mgetD s.sched.groups g 0
  if g < 1024 then range' (nbits r 0 16) (nbits r 16 9) else []
/-- MEMBER_ID and TWIN_MEMBER_ID of a position (R316); an unwritten row is zero, as the start steps leave it. -/
def posRow (s : Body) (set p : Nat) : Nat × Nat := let r := mgetD s.sched.poss (128 * set + p) 0; (r % 65536, r / 65536)
/-- Present positions of a set (R316). -/
def positions (s : Body) (set : Nat) : List Nat := (List.range 128).filter fun p => (s.posRow set p).1 != 0xFFFF
/-- Whether the entry runs with a coordination set (R314, R333). -/
def coordinated (s : Body) (e : Nat) : Bool := nbit (s.schedRow e).flags 0 && !(s.run_ e).catchUp

/-- STAGE_CAP (R319). -/
def stageCap (s : Body) : Nat := s.cfg.img.fix.stagingWays * 128
/-- Entries with a run state of a kind. -/
def entriesIn (s : Body) (p : EntState → Bool) : List Nat := (s.sched.runs.filter fun r => p r.2.st).map (·.1)
/-- STAGE_USED (R319). -/
def stageUsed (s : Body) : Nat := ((s.entriesIn EntState.running).map fun e => (s.schedRow e).window).foldl (· + ·) 0

/-- Whether a range still lies in an ONLINE partition that is a schedule source (R80, R317, R318). -/
def schedSource (s : Body) (r : SchedRow) : Bool :=
  match s.cfg.img.qui.parts.find? (·.id == r.part) with
  | some p => s.get (F.PART_ATTR_STATE p.id) == 1 && nbit p.flags 2 && r.src + r.len ≤ p.size * 2 ^ 30
  | none => false

/-! ## Staging state -/

/-- Frames before L from which beacons go (R336). -/
def beaconLead (s : Body) : Nat := max 8 (s.get F.SCHED_CFG_BEACON_LEAD)
/-- Frames of CATCHUP_KF (R336). -/
def catchupFrames (s : Body) : Nat := 1024 * max 1 (s.get F.SCHED_CFG_CATCHUP_KF)

/-- DPA line of a line of the share. -/
def shareLine (s : Body) (r : SchedRow) (i : Nat) : Nat :=
  (((s.cfg.img.qui.parts.find? (·.id == r.part)).map (·.base)).getD 0) * 2 ^ 24 + r.src / 64 + i

/-- Whether every line of a chunk is staged or recorded as poisoned (R321). -/
def chunkResolved (r : SchedRow) (x : Run) (k : Nat) : Bool :=
  k < x.freed || (range' (1024 * k) (min 1024 (r.lines - 1024 * k))).all fun i => (mget x.staged i).isSome

/-- Chunk that is issued next, and the destination: chunk by chunk, destinations ascending (R328). -/
def nextIssue (r : SchedRow) (x : Run) : Option (Nat × Nat) :=
  let live := (x.dests.zip (List.range x.dests.length)).filter fun d => !d.1.failed
  match live.foldl (fun b d => match b with
      | none => some (d.1.chunks, d.2)
      | some m => if d.1.chunks < m.1 then some (d.1.chunks, d.2) else some m) (none : Option (Nat × Nat)) with
  | some (k, d) => if k < r.chunks then some (k, d) else none
  | none => none

/-- First chunk that some destination is still to be issued; the number of chunks when none is. -/
def unissued (r : SchedRow) (x : Run) : Nat :=
  if x.st == .delivering then (match nextIssue r x with | some (k, _) => k | none => r.chunks) else 0

/-- Stockpot channel that serves a line's real-time reads (R124, R134). -/
def rtChan (s : Body) (line : Nat) : Option Nat := (s.spPlace (granOf line)).map (·.1)

/-- Issue the staging reads that may be issued (R319, R322): while a channel is in panic, those of entries in DELIVERING only. -/
def schedAsk (s : Body) : Body :=
  let panic := s.get F.SP_RT_STATUS_PANIC_MASK != 0
  let runs := s.sched.runs.map fun p =>
    if p.2.st == .delivering || (p.2.st.running && !panic) then
      let r := s.schedRow p.1
      (p.1, { p.2 with asked := max p.2.asked (min (p.2.freed + r.window) r.chunks) })
    else p
  { s with sched := { s.sched with runs := runs } }

/-- Lines that entries have asked for and not staged, and lines staged and not yet issued. -/
def rtLines (s : Body) : List Nat × List Nat :=
  s.sched.runs.foldl (fun a p =>
    if !p.2.st.running then a
    else
      let r := s.schedRow p.1
      let l := range' (1024 * p.2.freed) (min r.lines (1024 * p.2.asked) - 1024 * p.2.freed)
      let u := 1024 * unissued r p.2
      (a.1 ++ (l.filter fun i => (mget p.2.staged i).isNone).map (s.shareLine r),
       a.2 ++ (l.filter fun i => i ≥ u && (mget p.2.staged i).isSome).map (s.shareLine r))) ([], [])

/-- The real-time buffers and panic (R134): below RT_PANIC_KIB with requests outstanding, until RT_CLEAR_KIB or none is left. -/
def rtPanic (s : Body) : Body :=
  let (req, full) := s.rtLines
  s.forEach ((List.range 12).filter fun ch => (mget s.sp.ch ch).isSome || s.flag (F.SP_CH_STATUS_PANIC ch)) fun s ch =>
    let n := (req.filter fun l => s.rtChan l == some ch).length
    let k := min 64 ((full.filter fun l => s.rtChan l == some ch).length / 16)
    let s := s.setSpCh ch { s.spCh ch with rtReq := n, rtFill := k }
    let lo := s.get F.SP_RT_CFG_RT_PANIC_KIB
    let hi := max (lo + 1) (s.get F.SP_RT_CFG_RT_CLEAR_KIB)
    let was := s.flag (F.SP_CH_STATUS_PANIC ch)
    let now := if was then k < hi && n != 0 else k < lo && n != 0
    if now == was then s
    else
      let m := s.get F.SP_RT_STATUS_PANIC_MASK
      let s := (s.putB (F.SP_CH_STATUS_PANIC ch) now).put F.SP_RT_STATUS_PANIC_MASK (if now then m + 2 ^ ch else m - 2 ^ ch)
      if now then s.raise (U.sp ch) F.SP_EVENTS_PANIC 1 else s.post (U.sp ch) (.bit F.SP_EVENTS_PANIC) 0

/-- RUNNING, STAGE_USED, the reads asked for and panic, after a change of run states (R319, R322, R134, R336). -/
def schedShow (s : Body) : Body :=
  let s := (s.put F.SCHED_STATUS_RUNNING (s.entriesIn EntState.running).length).put F.SCHED_STATUS_STAGE_USED s.stageUsed
  s.schedAsk.rtPanic.schedAsk

/-- Replace a run state; one that is EMPTY is not listed. -/
def setRun (s : Body) (e : Nat) (x : Run) : Body :=
  let m := if x.st == .empty then merase s.sched.runs e else mset s.sched.runs e x
  { s with sched := { s.sched with runs := m } }
/-- Change a run state and what depends on it. -/
def runMod (s : Body) (e : Nat) (f : Run → Run) : Body := (s.setRun e (f (s.run_ e))).schedShow

/-! ## Ready beacons (R323 to R325) -/

/-- First port of BEACON_CFG.PORT_MASK whose link is up (R324). -/
def beaconPort (s : Body) : Option Nat :=
  (List.range 8).find? fun p => nbit (s.get F.BEACON_CFG_PORT_MASK) p && s.get (F.ETH_STATUS_LINK p) == 2

/-- Peer-table addresses of the members of every other present position (R324). -/
def beaconAddrs (s : Body) (r : SchedRow) : List Nat :=
  ((s.positions r.set).filter (· != r.pos)).flatMap fun p =>
    let (m, t) := s.posRow r.set p
    ([m, t].filter (· != 0xFFFF)).filterMap fun i => (mget s.time.peers i).map (·.addr)

/-- Send a ready beacon of an entry (R323, R324). -/
def readyBeacon (s : Body) (e : Nat) : Body :=
  let r := s.schedRow e
  let x := s.run_ e
  match s.beaconPort with
  | none => s
  | some p =>
    if !s.coordinated e || !s.holds || !s.mayTag then s
    else
      let (q, s) := s.beaconSeqNext
      let m : ReadyMsg := {
        magic := 0x5342, version := 1, domain := s.get F.DOMAIN_ID_DOMAIN, member := s.get F.DOMAIN_ID_MEMBER, keyGen := s.ciph.cur.gen
        frame := s.frameNo, schedId := r.id, launch := r.launch, ready := if s.aligned then x.ready else 0, seq := q
        role := s.get F.TWIN_STATUS_ROLE, withdrawn := x.st == .cancelled || x.st == .abandoned, unaligned := !s.aligned
        set := r.set, position := r.pos, epoch := s.epochNow % 2 ^ 32 }
      (s.send (.readyBeacon m p (s.beaconAddrs r))).inc F.SCHED_BEACON_SENT

/-- Whether the period of R324 holds in the current frame. -/
def beaconDue (s : Body) (e : Nat) : Bool :=
  let r := s.schedRow e
  let x := s.run_ e
  x.st.inUse && max (r.launch - s.beaconLead) x.entered ≤ s.frameNo && (x.st != .delivering || s.frameNo ≤ x.launch + 4)

/-- The beacon of cycle 128 (R324), one a frame. -/
def beaconFrame (s : Body) (e : Nat) : Body :=
  if !s.beaconDue e || (s.run_ e).beaconAt > s.frameNo || !s.isOn U.sched then s
  else (s.readyBeacon e).setRun e { s.run_ e with beaconAt := s.frameNo + 1 }

/-- Whether a ready beacon meets the conditions of R54, with PERIOD_NS from the sender's peer entry (R325). -/
def readyOk (s : Body) (m : ReadyMsg) (tagOk : Bool) : Bool :=
  m.magic == 0x5342 && m.version == 1 && m.domain == s.get F.DOMAIN_ID_DOMAIN && tagOk && s.genHeld m.keyGen
  && ((mget s.time.peers m.member).any fun p => p.period == s.periodNs)
  && (match mget s.time.lastSeq m.member with
      | some q => q < m.seq
      | none => true)
  && (!s.time.numbered || (s.frameNo ≤ m.frame + s.get F.BEACON_CFG_AGE_MAX && m.frame ≤ s.frameNo + 1))

/-- A ready beacon arrives (R325). -/
def readyRx (s : Body) (m : ReadyMsg) (tagOk : Bool) : Body :=
  let mine := (s.sched.runs.filter fun p =>
    let r := s.schedRow p.1
    nbit r.flags 0 && r.id == m.schedId && r.launch == m.launch && r.set == m.set).map (·.1)
  let row := s.posRow m.set m.position
  let member := m.position < 128 && m.member != 0xFFFF && row.1 != 0xFFFF && (m.member == row.1 || m.member == row.2)
  if !s.readyOk m tagOk || mine.isEmpty || !member || !s.isOn U.sched then s.incSat F.SCHED_BEACON_REJECTED
  else
    let s := { s with time := { s.time with lastSeq := mset s.time.lastSeq m.member m.seq } }
    let b : RBeacon := ⟨m.member, m.ready, m.epoch, m.role, m.withdrawn⟩
    s.forEach mine fun s e =>
      let k := 128 * e + m.position
      let l := (mgetD s.sched.heard k []).filter (·.member != m.member)
      { s with sched := { s.sched with heard := mset s.sched.heard k (l ++ [b]) } }

/-- The frame in which a position is reported ready, none when it is not (R325). -/
def posReady (s : Body) (e p : Nat) : Option Nat :=
  let r := s.schedRow e
  if p = r.pos then (let f := (s.run_ e).ready; if f = 0 then none else some f)
  else
    let l := (mgetD s.sched.heard (128 * e + p) []).filter fun b => b.role == 1 || b.role == 3
    match l.foldl (fun a b => match a with
        | none => some b
        | some x => if (b.epoch + 2 ^ 32 - x.epoch) % 2 ^ 32 < 2 ^ 31 then some b else some x) (none : Option RBeacon) with
    | some b => if b.ready != 0 && !b.withdrawn then some b.ready else none
    | none => none

/-! ## Records and buffers (R329, R330) -/

/-- Poisoned lines of the share as the map marks them (R331). -/
def marked (r : SchedRow) (x : Run) : Nat :=
  match x.trunc with
  | none => x.poison.length
  | some t => (x.poison.filter (· < t)).length + (r.lines - t)
/-- Whether the map marks a line. -/
def marks (x : Run) (i : Nat) : Bool := x.poison.contains i || (match x.trunc with | some t => t ≤ i | none => false)

/-- STATUS bits of the run: POISON_PRESENT is live (R329, R331). -/
def runStatus (x : Run) : Nat := x.status % 2 + 2 * b2n (!x.poison.isEmpty) + x.status / 4 * 4

/-- The delivery record (R329). -/
def recordBytes (s : Body) (e : Nat) (status bytes : Nat) (mask : Nat) : List Byte :=
  let r := s.schedRow e
  let x := s.run_ e
  let co := s.coordinated e
  let le := fun (n v : Nat) => (List.range n).map fun i => BitVec.ofNat 8 (v / 256 ^ i)
  let b := le 2 0x5344 ++ [1, BitVec.ofNat 8 status] ++ le 4 r.id ++ le 8 r.launch ++ le 8 x.launch ++ le 8 bytes
    ++ le 2 (s.get F.DOMAIN_ID_MEMBER) ++ [BitVec.ofNat 8 (if co then r.pos else 0), BitVec.ofNat 8 (if co then (s.positions r.set).length else 1)]
    ++ le 4 (marked r x) ++ le 16 mask ++ le 4 0
  b ++ le 4 (crc32 b).toNat

/-- A tag that the transport engine returns with a completion. -/
def schedTag (e d kind : Nat) : Nat := (e * 512 + d) * 4 + kind

/-- One WRITE of a delivery (R328, R329): opcode 0 or 1, to an address under the descriptor's key. -/
def schedWrite (s : Body) (e d op va imm kind : Nat) (data : List Byte) : Body :=
  let desc := (((s.run_ e).dests[d]?).map (·.desc)).getD 0
  let w : WorkReq := { op := op, flags := 0, len := data.length, wrId := 0, local_ := 0, rva := va % 2 ^ 64, rkey := s.descWord desc 0 / 2 ^ 32
                       imm := imm, cmp := 0, swap := 0, trig := 0, thresh := 0, bad := false }
  s.reqIssue (s.descQp desc) w (some data) (some (schedTag e d kind))

/-- Change one destination. -/
def destMod (s : Body) (e d : Nat) (f : Dest → Dest) : Body :=
  let x := s.run_ e
  match x.dests[d]? with
  | some y => s.setRun e { x with dests := setAt x.dests d (f y) }
  | none => s

/-- Whether a destination's queue pair is in RTS. -/
def destRts (s : Body) (d : Dest) : Bool := (s.qp (s.descQp d.desc)).st == .rts

/-- A destination fails (R328). -/
def destFail (s : Body) (e d : Nat) : Body :=
  match (s.run_ e).dests[d]? with
  | none => s
  | some y =>
    if y.failed then s
    else
      let s := s.destMod e d fun y => { y with failed := true }
      (s.setRun e { s.run_ e with failed := (s.run_ e).failed + 1 }).raise U.sched F.SCHED_EVENTS_DEST_FAILED y.desc

/-- Send a delivery record to a destination (R329, R330). -/
def recordSend (s : Body) (e d status bytes mask : Nat) : Body :=
  let r := s.schedRow e
  let desc := (((s.run_ e).dests[d]?).map (·.desc)).getD 0
  let data := s.recordBytes e status bytes mask
  let imm := r.trig * 2 ^ 20 + status % 16 * 2 ^ 16 + r.id % 2 ^ 16
  let s := match (s.run_ e).recBuf with
    | some h => s.setRkLine (s.rkBuf (h % 8) (h / 256) / 64) (BitVec.ofNat 512 (bytesNat data)) false
    | none => s
  (s.schedWrite e d 1 (s.descWord desc 2) imm 2 data).destMod e d fun y => { y with rcd := 1 }

/-- Bytes of the poison map: bit i of byte j stands for line 8j + i (R329). -/
def mapBytes (r : SchedRow) (x : Run) : List Byte :=
  (List.range r.mapLen).map fun j => BitVec.ofNat 8 (((List.range 8).map fun i => if 8 * j + i < r.lines && marks x (8 * j + i) then 2 ^ i else 0).foldl (· + ·) 0)

/-- Allocate the record buffer (R318, R321, R330): MAP_WAIT when it fails. -/
def recordBuf (s : Body) (e : Nat) : Body :=
  if (s.run_ e).recBuf.isSome then s
  else
    let (s, h, st) := s.rkAlloc 64 13
    if st = 0 then s.setRun e { s.run_ e with recBuf := some h } else s.raise U.sched F.SCHED_EVENTS_MAP_WAIT e

/-- Allocate what is missing of the map buffers and build the map in them (R329): MAP_WAIT when an allocation fails. -/
def mapAlloc : Nat → Body → Nat → Body
  | 0, s, _ => s
  | n + 1, s, e =>
    let x := s.run_ e
    if x.mapBufs.length ≥ cdiv (s.schedRow e).mapLen 262144 then s
    else
      let (s, h, st) := s.rkAlloc 262144 13
      if st != 0 then s.raise U.sched F.SCHED_EVENTS_MAP_WAIT e else mapAlloc n (s.setRun e { s.run_ e with mapBufs := x.mapBufs ++ [h] }) e

/-- Write the map into the buffers held. -/
def mapBuild (s : Body) (e : Nat) : Body :=
  let x := s.run_ e
  let b := mapBytes (s.schedRow e) x
  s.forEach (x.mapBufs.zip (List.range x.mapBufs.length)) fun s p =>
    let part := (b.drop (262144 * p.2)).take 262144
    s.forEach (List.range (cdiv part.length 64)) fun s i =>
      s.setRkLine (s.rkBuf (p.1 % 8) (p.1 / 256) / 64 + i) (BitVec.ofNat 512 (bytesNat ((part.drop (64 * i)).take 64))) false

/-- Whether the map buffers an entry needs are held. -/
def mapHeld (s : Body) (e : Nat) : Bool :=
  let x := s.run_ e
  x.poison.isEmpty || x.mapBufs.length ≥ cdiv (s.schedRow e).mapLen 262144

/-- Free the buffers of an entry (R318). -/
def bufsFree (s : Body) (e : Nat) : Body :=
  let x := s.run_ e
  let s := s.setRun e { x with recBuf := none, mapBufs := [] }
  s.forEach (x.recBuf.toList ++ x.mapBufs) fun s h => s.rkFree h 13 false

/-- WRITEs of an entry that are issued and not completed: those of data and maps, and those of records. -/
def writesOut (x : Run) : Nat × Nat :=
  let live := x.dests.filter (!·.failed)
  ((live.map fun d => d.chunks - d.acked + b2n (d.map_ == 1)).foldl (· + ·) 0, (live.filter (·.rcd == 1)).length)

/-- An entry that ends a delivery with a poisoned line (R331, R199). -/
def poisonEnd (s : Body) (e : Nat) : Body :=
  if (s.run_ e).poison.isEmpty then s
  else (s.incSat F.POISON_COUNT_SCHED).raise U.sched F.PERSIST_EVENTS_POISON_CONSUMED (s.schedRow e).id

/-- STATUS of the records of R330. -/
def endStatus (x : Run) : Nat := nbits (runStatus x) 0 2 + 12 + nbits (runStatus x) 4 1 * 16
/-- MISSING_MASK of the records of R330. -/
def endMask (s : Body) (e : Nat) : Nat := (s.run_ e).missing ||| (if s.coordinated e then 2 ^ (s.schedRow e).pos else 1)

/-- The records of R330 to every destination in RTS. -/
def endRecords (s : Body) (e : Nat) : Body :=
  let x := s.run_ e
  if x.recBuf.isNone then s
  else s.forEach (List.range x.dests.length) fun s d =>
    match (s.run_ e).dests[d]? with
    | some y => if y.failed || !s.destRts y then s else s.recordSend e d (endStatus x) y.bytes (s.endMask e)
    | none => s

/-- What an entry does once WRITEs of its own have ended (R318, R330): DONE, the records of R330, the release of its buffers. -/
def schedSettle (s : Body) (e : Nat) : Body :=
  let x := s.run_ e
  let (data, recs) := writesOut x
  if x.st == .delivering then
    if x.dests.all (fun d => d.failed || d.rcd == 2) && data = 0 then
      ((s.poisonEnd e).bufsFree e).runMod e fun x => { x with st := .done, staged := [], again := [], asked := 0 }
    else s
  else if !x.st.isFinal || data != 0 then s
  else if x.final then
    let s := s.endRecords e
    let s := s.setRun e { s.run_ e with final := false }
    if (writesOut (s.run_ e)).2 = 0 then s.bufsFree e else s
  else if recs = 0 then s.bufsFree e else s

/-! ## Issuing (R328) -/

/-- Bytes of a chunk from its staging lines. -/
def chunkBytes (r : SchedRow) (x : Run) (k : Nat) : List Byte :=
  (range' (1024 * k) (min 1024 (r.lines - 1024 * k))).flatMap fun i => lineBytes (mgetD x.staged i 0)

/-- Fail every destination whose queue pair has left RTS (R328). -/
def destsLook (s : Body) (e : Nat) : Body :=
  s.forEach (List.range (s.run_ e).dests.length) fun s d =>
    match (s.run_ e).dests[d]? with
    | some y => if s.destRts y then s else s.destFail e d
    | none => s

/-- Issue chunks while the allowance covers the next one and it is resolved (R328). -/
def issueRun : Nat → Body → Nat → Body
  | 0, s, _ => s
  | n + 1, s, e =>
    let r := s.schedRow e
    let x := s.run_ e
    match nextIssue r x with
    | none => s
    | some (k, d) =>
      let len := r.chunkLen k
      if !chunkResolved r x k || x.allow < len then s
      else
        let desc := ((x.dests[d]?).map (·.desc)).getD 0
        let s := s.schedWrite e d 0 (s.descWord desc 1 + r.off + 65536 * k) 0 0 (chunkBytes r x k)
        let s := s.destMod e d fun y => { y with chunks := y.chunks + 1 }
        issueRun n (s.setRun e { s.run_ e with allow := x.allow - len, issued := x.issued + len }) e

/-- Issue what the entry may issue now. Once the last chunk is out the map buffers are allocated (R329). -/
def schedIssue (s : Body) (e : Nat) : Body :=
  if (s.run_ e).st != .delivering then s
  else
    let s := s.destsLook e
    let x := s.run_ e
    let s := issueRun (x.dests.length * ((s.schedRow e).chunks + 1)) s e
    let s := if (nextIssue (s.schedRow e) (s.run_ e)).isNone && !s.mapHeld e then
        (let s := mapAlloc 8 s e; if s.mapHeld e then s.mapBuild e else s)
      else s
    (s.schedShow).schedSettle e

/-- SCHED_RECORD_SEND (R329): the poison map, when there is one, then the record, to a destination that has every chunk; both count
against pacing. -/
def recordGo (s : Body) (e d : Nat) : Body :=
  let r := s.schedRow e
  let x := s.run_ e
  match x.dests[d]? with
  | none => s
  | some y =>
    if x.st != .delivering || y.failed || y.rcd != 0 || (nextIssue r x).isSome || !s.mapHeld e || x.recBuf.isNone then s
    else if !s.destRts y then (s.destFail e d).schedSettle e
    else
      let spend := fun (s : Body) (n : Nat) => s.setRun e { s.run_ e with allow := (s.run_ e).allow - n, issued := (s.run_ e).issued + n }
      let s := if x.poison.isEmpty || y.map_ != 0 || x.allow < r.mapLen then s
        else spend ((s.schedWrite e d 0 (s.descWord y.desc 3) 0 1 (mapBytes r x)).destMod e d fun y => { y with map_ := 1 }) r.mapLen
      let sent := x.poison.isEmpty || (((s.run_ e).dests[d]?).any (·.map_ != 0))
      if !sent || (s.run_ e).allow < 64 then s
      else spend (s.recordSend e d (runStatus x) r.len x.missing) 64

/-- A WRITE of the schedule engine has completed, or failed with its queue pair (R328, R329). -/
def delivered (s : Body) (tag : Nat) (ok : Bool) : Body :=
  let e := tag / 2048
  let d := tag / 4 % 512
  let r := s.schedRow e
  match (s.run_ e).dests[d]? with
  | none => s
  | some y =>
    if y.failed then s.schedSettle e
    else if !ok then ((s.destFail e d).schedShow).schedSettle e
    else
      let s := s.destMod e d fun y => match tag % 4 with
        | 0 => { y with acked := y.acked + 1, bytes := y.bytes + r.chunkLen y.acked }
        | 1 => { y with map_ := 2 }
        | _ => { y with rcd := 2 }
      s.schedSettle e

/-- A chunk is released when every WRITE of it has completed, and the next one is asked for (R328). -/
def schedRelease (s : Body) (e : Nat) : Body :=
  let r := s.schedRow e
  let x := s.run_ e
  let live := x.dests.filter (!·.failed)
  if x.st != .delivering || live.isEmpty || x.freed ≥ r.chunks || live.any (·.acked ≤ x.freed) then s
  else (s.runMod e fun x => { x with freed := x.freed + 1, staged := x.staged.filter fun p => p.1 ≥ 1024 * (x.freed + 1) }).schedIssue e

/-! ## The life of an entry (R318) -/

/-- Whether the engine holds what READY needs (R321). -/
def readyNow (s : Body) (e : Nat) : Bool :=
  let r := s.schedRow e
  let x := s.run_ e
  s.holds && s.aligned && x.recBuf.isSome
  && (List.range (min r.window r.chunks)).all (chunkResolved r x)
  && (s.groupDescs r.group).all fun d => let st := (s.qp (s.descQp d)).st; st == .rts || st == .error

/-- Readiness met or lost (R318, R321). -/
def readyLook (s : Body) (e : Nat) : Body :=
  match (s.run_ e).st with
  | .staging => if s.readyNow e then ((s.runMod e fun x => { x with st := .ready, ready := s.frameNo }).readyBeacon e) else s
  | .ready => if s.readyNow e then s else ((s.runMod e fun x => { x with st := .staging, ready := 0 }).readyBeacon e)
  | .empty | .loaded | .waiting | .delivering | .done | .abandoned | .cancelled | .notRun | .failed | .interrupted => s

/-- Drop what an entry has staged. -/
def unstage (x : Run) : Run := { x with staged := [], again := [], asked := 0, ready := 0 }

/-- Enter a final state, or LOADED, from before delivery: staging is released, the record buffer freed. -/
def schedLeave (s : Body) (e : Nat) (st : EntState) : Body := (s.bufsFree e).runMod e fun x => { unstage x with st := st, cancel := false }

/-- End a delivery (R318, R330): with the records of R330, or silently. -/
def schedStopSend (s : Body) (e : Nat) (st : EntState) (records : Bool) : Body :=
  let s := (s.poisonEnd e).runMod e fun x => { unstage x with st := st, final := records, cancel := false, ready := x.ready }
  s.schedSettle e

/-- Whether an entry is due for staging (R318, R333). -/
def stageDue (s : Body) (e : Nat) : Bool :=
  let r := s.schedRow e
  let x := s.run_ e
  s.isOn U.sched && s.holds && (x.st == .waiting || (x.st == .loaded && (x.catchUp || r.launch ≤ s.frameNo + r.lead)))

/-- Whether an entry has room, when the entries due before it take theirs first (R319). -/
def hasRoom (s : Body) (e : Nat) : Bool :=
  let due := sortBy (fun i => (s.schedRow i).launch) (s.entriesIn (fun st => st == .loaded || st == .waiting) |>.filter s.stageDue)
  let got := due.foldl (fun (a : Nat × Nat × Bool) i =>
    let w := (s.schedRow i).window
    if a.2.2 || a.1 + w > s.stageCap || a.2.1 ≥ 16 then a else (a.1 + w, a.2.1 + 1, i == e)) (s.stageUsed, (s.entriesIn EntState.running).length, false)
  got.2.2

/-- Begin staging (R318, R320). -/
def stageBegin (s : Body) (e : Nat) : Body :=
  let s := s.recordBuf e
  let s := s.runMod e fun x => { x with st := .staging, entered := if x.st == .waiting then x.entered else s.frameNo }
  s.readyLook e

/-- SCHED_STAGE_START (R318): an entry that is due begins staging, or waits for room. -/
def stageStart (s : Body) (e : Nat) : Body :=
  if (s.run_ e).st != .loaded || !s.stageDue e then s
  else if s.hasRoom e then s.stageBegin e
  else s.runMod e fun x => { x with st := .waiting, entered := s.frameNo }

/-- SCHED_ROOM (R318, R319). -/
def roomArise (s : Body) (e : Nat) : Body :=
  if (s.run_ e).st != .waiting || !s.stageDue e || !s.hasRoom e then s else s.stageBegin e

/-- A line is poisoned for the entry (R331): the list, the map's end when the list is full, one Spike record. -/
def linePoison (s : Body) (e i origin : Nat) : Body :=
  let x := s.run_ e
  if x.poison.contains i || (match x.trunc with | some t => t ≤ i | none => false) then s
  else
    let full := x.poison.length ≥ 4096
    let s := s.setRun e (if full then { x with trunc := some (min i (x.trunc.getD i)) } else { x with poison := insertNat x.poison i })
    let s := (s.inc F.SCHED_COUNT_1_POISON_LINES).raise U.sched F.SCHED_EVENTS_POISON i
    let s := s.postN U.sched .poisonRecord ((s.schedRow e).id + 2 ^ 32 * (i + 2 ^ 24 * origin))
    s.when (full && x.trunc.isNone) (·.raise U.sched F.SCHED_EVENTS_POISON_TRUNCATED (s.schedRow e).id)

/-- A staging read ends (R320, R331): what it finds below the near cache and the Colander, and the twin's answer, one line or the 64 lines
of a granule with their poison; an empty answer is none within 900 ns. The line goes to a staging way. -/
def stageRead (s : Body) (e i : Nat) (find : StageFind) (ans : List LineData) (poison : Mask) : Body :=
  let r := s.schedRow e
  let x := s.run_ e
  if !x.st.running || i ≥ r.lines || i < 1024 * x.freed || i ≥ 1024 * x.asked then s
  else
    let line := s.shareLine r i
    let crc := (mget x.staged i).isSome
    let s := s.when crc (·.incSat F.NC_CRC_COUNT_STAGING)
    let s := s.when (crc || x.again.contains i) (·.inc F.SCHED_COUNT_2_RESTAGED)
    let fast := (s.ncFind line).isSome || (s.colFind line).isSome || (s.mrFind line).isSome || s.unmarked line
    let here := s.peek line
    let find := if fast then .good else find
    let n := if find == .media then line % 64 else 0
    let twin := if s.twinServes && !poison.getLsbD n then ans[n]? else none
    let keep := fun (s : Body) (d : LineData) =>
      s.setRun e { s.run_ e with staged := mset (s.run_ e).staged i d, again := (s.run_ e).again.erase i }
    let bad := fun (s : Body) (origin : Nat) => (keep s 0).linePoison e i origin
    let fixed := fun (s : Body) (d : LineData) => (keep s d).inc F.SCHED_COUNT_2_TWIN_REFETCHED
    let s := match find with
      | .good => if here.2 then bad s 0 else keep s here.1
      | .media => match s.lgOf line with
        | none => bad s 1
        | some lg =>
          let s := if s.twinServes && ans.length == 64 && poison != allBytes then
              s.opQueue .repair lg 0 0 [] ((List.range 64).zip ans |>.filter fun p => !poison.getLsbD p.1) poison
            else if twin.isNone then s.mediaPoison lg (maskOf (cwLines (line % 64 / 4)))
            else s
          match twin with
          | some d => fixed s d
          | none => bad s 1
      | .stockpot => match twin with
        | some d => fixed (s.sectorRepaired line (some d)) d
        | none => bad (s.sectorRepaired line none) 2
      | .refused => match twin with
        | some d => fixed s d
        | none => bad s 3
    (s.schedShow.readyLook e).schedIssue e

/-- Launch in frame t (R328, R336): destinations whose queue pair is not in RTS are failed; the first bytes are issued at once. -/
def schedLaunch (s : Body) (e : Nat) (missing : Nat) : Body :=
  let r := s.schedRow e
  let t := s.frameNo
  let late := t > r.launch
  let x := s.run_ e
  let st := b2n (late || x.catchUp) + 4 * b2n (missing != 0) + 16 * b2n x.catchUp
  let s := s.runMod e fun x => { x with st := .delivering, launch := t, status := st, missing := missing, allow := r.pace * 1024
                                        dests := (s.groupDescs r.group).map fun d => { desc := d } }
  let s := (s.inc F.SCHED_COUNT_0_LAUNCHED).raise U.sched F.SCHED_EVENTS_LAUNCH r.id
  let s := if late then (s.inc F.SCHED_COUNT_0_SLIPPED).raise U.sched F.SCHED_EVENTS_SLIP r.id else s
  s.schedIssue e

/-- Abandon (R318, R330). -/
def schedAbandon (s : Body) (e : Nat) : Body :=
  let s := s.recordBuf e
  let x := s.run_ e
  let dests := ((s.groupDescs (s.schedRow e).group).filter fun d => (s.qp (s.descQp d)).st == .rts).map fun d => ({ desc := d } : Dest)
  let s := s.runMod e fun _ => { unstage x with st := .abandoned, dests := dests, final := true, cancel := false }
  let s := (s.incSat F.SCHED_COUNT_1_ABANDONED).raise U.sched F.SCHED_EVENTS_ABANDON (s.schedRow e).id
  (s.readyBeacon e).schedSettle e

/-- Positions reported ready early enough, with their frames (R326). -/
def posIn (s : Body) (e : Nat) : List (Nat × Nat) :=
  let r := s.schedRow e
  (s.positions r.set).filterMap fun p => match s.posReady e p with
    | some f => if f + 4 ≤ r.deadline then some (p, f) else none
    | none => none

/-- The launch decision of an entry in READY (R326, R333). -/
def schedDecide (s : Body) (e : Nat) : Body :=
  let r := s.schedRow e
  let x := s.run_ e
  let t := s.frameNo
  if x.st != .ready || !s.isOn U.sched then s
  else if x.catchUp then s.schedLaunch e 0
  else if !s.coordinated e then (if r.launch ≤ t then s.schedLaunch e 0 else s)
  else
    let present := s.positions r.set
    let l := s.posIn e
    let mask := fun (l : List Nat) => l.foldl (fun n p => n + 2 ^ p) 0
    let s := s.setRun e { x with inMask := mask (l.map (·.1)) }
    if l.length == present.length then
      let y := max r.launch (l.foldl (fun n p => max n p.2) 0 + 4)
      if y ≤ t then (s.when (y < t) (·.incSat F.SCHED_BEACON_LATE_LEARN)).schedLaunch e 0 else s
    else if r.deadline ≤ t && l.any (·.1 == r.pos) then s.schedLaunch e (mask (present.filter fun p => !l.any (·.1 == p)))
    else s

/-- Whether an entry in READY is excluded at its deadline (R326). -/
def excluded (s : Body) (e : Nat) : Bool :=
  let r := s.schedRow e
  let l := s.posIn e
  s.coordinated e && l.length != (s.positions r.set).length && !l.any (·.1 == r.pos)

/-- Become NOT_RUN (R318). -/
def notRun (s : Body) (e : Nat) : Body := (s.schedLeave e .notRun).raise U.sched F.SCHED_EVENTS_NOT_RUN (s.schedRow e).id

/-- A LOADED entry of a controller that does not hold the writes, which a takeover could still run as a catch-up (R333). -/
def mayCatchUp (s : Body) (e : Nat) : Bool :=
  s.flag F.SCHED_CTL_CATCHUP_EN && (!s.holds || s.twin.takeover) && s.frameNo ≤ (s.schedRow e).deadline + s.catchupFrames

/-- SCHED_ABANDON: the tick of L + MAX_SLIP (R318, R330). -/
def schedExpire (s : Body) (e : Nat) : Body :=
  let x := s.run_ e
  if s.frameNo < (s.schedRow e).deadline || x.catchUp || !s.isOn U.sched then s
  else match x.st with
    | .loaded => if s.mayCatchUp e then s else s.notRun e
    | .waiting | .staging => s.schedAbandon e
    | .ready => if s.excluded e then s.schedAbandon e else s
    | .empty | .delivering | .done | .abandoned | .cancelled | .notRun | .failed | .interrupted => s

/-- The first admission after a takeover (R333). -/
def catchUpSort (s : Body) : Body :=
  if !s.flag F.SCHED_CTL_CATCHUP_EN || !s.isOn U.sched then s
  else s.forEach (s.entriesIn (· == .loaded)) fun s e =>
    let d := (s.schedRow e).deadline
    if s.frameNo ≤ d then s
    else if s.frameNo ≤ d + s.catchupFrames then
      ((s.runMod e fun x => { x with catchUp := true, cuFrom := s.frameNo }).incSat F.SCHED_COUNT_1_CATCH_UP).raise U.sched F.SCHED_EVENTS_CATCH_UP
        (s.schedRow e).id
    else s.notRun e

/-- SCHED_CATCHUP_EXPIRE (R333). -/
def catchUpExpire (s : Body) (e : Nat) : Body :=
  let x := s.run_ e
  if !x.catchUp || s.frameNo < x.cuFrom + s.catchupFrames then s
  else match x.st with
    | .loaded | .waiting | .staging => s.notRun e
    | .empty | .ready | .delivering | .done | .abandoned | .cancelled | .notRun | .failed | .interrupted => s

/-- A near-cache start invalidates the staging ways (R116, R322): lines whose last WRITE has not been issued are staged again. -/
def stagingLost (s : Body) : Body :=
  s.forEach (s.entriesIn EntState.running) fun s e =>
    let r := s.schedRow e
    let s := s.runMod e fun x =>
      let u := 1024 * unissued r x
      let lost := (x.staged.filter (·.1 ≥ u)).map (·.1)
      { x with staged := x.staged.filter (·.1 < u), again := x.again ++ lost }
    s.readyLook e

/-- An entry that is not final loses its source (R318, R334). -/
def sourceLost (s : Body) (e : Nat) : Body :=
  let s := s.setRun e { s.run_ e with cause := 1 }
  if (s.run_ e).st == .delivering then s.schedStopSend e .failed true else s.schedLeave e .failed

/-- Sources lost of every entry (R318, R334). -/
def sourcesLook (s : Body) : Body :=
  s.forEach (s.entriesIn fun st => !st.isFinal && st != .empty) fun s e => if s.schedSource (s.schedRow e) then s else s.sourceLost e

/-- CANCEL acts (R318). -/
def schedCancel (s : Body) (e : Nat) : Body :=
  match (s.run_ e).st with
  | .loaded => s.schedLeave e .cancelled
  | .waiting | .staging | .ready => (s.schedLeave e .cancelled).readyBeacon e
  | .delivering => s.schedStopSend e .interrupted true
  | .empty | .done | .abandoned | .cancelled | .notRun | .failed | .interrupted => s

/-- The controller has left ACTIVE and SOLO (R318, R332). -/
def schedRoleLost (s : Body) : Body :=
  if s.holds then s
  else s.forEach (s.entriesIn EntState.inUse) fun s e =>
    if (s.run_ e).st == .delivering then s.schedStopSend e .interrupted false else s.schedLeave e .loaded

/-- The engine's work at a tick (R318, R321, R328, R329, R134). -/
def schedTick (s : Body) : Body :=
  let s := s.when (s.get F.SP_RT_STATUS_PANIC_MASK != 0) (·.inc F.SP_RT_STATUS_PANIC_FRAMES)
  if s.unit U.sched == .off then s
  else
    let s := s.forEach ((s.sched.runs.filter fun p => p.2.cancel).map (·.1)) schedCancel
    let s := s.schedRoleLost.sourcesLook
    let s := s.forEach (s.entriesIn fun st => st == .staging || st == .ready) fun s e => (s.recordBuf e).readyLook e
    s.forEach (s.entriesIn (· == .delivering)) fun s e =>
      let r := s.schedRow e
      let x := s.run_ e
      let held := match nextIssue r x with
        | some (k, _) => !chunkResolved r x k
        | none => false
      let s := s.setRun e { x with allow := min (x.allow + r.pace * 1024) (r.pace * 1024 + 65536)
                                   stalls := if held then min 65535 (x.stalls + 1) else x.stalls }
      s.schedIssue e

/-! ## Table commands (R317, R336) -/

/-- Whether a row of the tables is used by an entry in WAITING, STAGING, READY or DELIVERING (R317). -/
def rowUsed (s : Body) (kind i : Nat) : Bool :=
  (s.entriesIn EntState.inUse).any fun e =>
    let r := s.schedRow e
    match kind with
    | 1 => (s.groupDescs r.group).contains i
    | 2 => r.group == i
    | _ => nbit r.flags 0 && r.set == i / 128

/-- Rows of a table by KIND (R314 to R316, R336). -/
def rowCount (s : Body) (kind : Nat) : Nat :=
  match kind with
  | 0 => s.schedBlocks * 512
  | 1 => s.schedBlocks * 6144
  | 2 => 1024
  | 3 => 8192
  | 4 => s.schedBlocks * 512
  | _ => 0

/-- The result of a write of the WDATA words (R317): the lowest code that applies. -/
def writeResult (s : Body) (kind i : Nat) (w : Nat → Nat) : Nat :=
  if kind > 3 || i ≥ s.rowCount kind then 1
  else if kind = 0 then
    let r := schedRowOf w
    let st := (s.run_ i).st
    let part := s.cfg.img.qui.parts.find? (·.id == r.part)
    if !(st == .empty || st.isFinal) then 2
    else if !(part.any fun p => s.get (F.PART_ATTR_STATE p.id) == 1 && nbit p.flags 2) then 3
    else if r.src % 64 != 0 || r.len % 64 != 0 || r.len < 64 || r.len > 2 ^ 30 || !(part.any fun p => r.src + r.len ≤ p.size * 2 ^ 30) then 4
    else if (s.groupDescs r.group).isEmpty then 5
    else if nbit r.flags 0 && (r.set > 63 || r.pos > 127 || (s.posRow r.set r.pos).1 != s.get F.DOMAIN_ID_MEMBER) then 6
    else if r.launch < s.frameNo + s.beaconLead then 7
    else if r.lead < 8 || r.pace < 4 || r.window < 1 || r.window > s.stageCap then 8
    else 0
  else if s.rowUsed kind i then 2
  else if kind = 2 && (nbits (w 0) 16 9 > 256 || nbits (w 0) 0 16 + nbits (w 0) 16 9 > s.rowCount 1) then 8
  else 0

/-- A table command ends with a result and echoes the selection (R336). -/
def tblEnd (s : Body) (result : Nat) : Body :=
  let s := (s.put F.SCHED_TBL_STATUS_STATE (if result = 0 then 2 else 3)).put F.SCHED_TBL_STATUS_RESULT result
  let s := s.put F.SCHED_TBL_STATUS_ECHO_KIND (s.get F.SCHED_TBL_SEL_KIND)
  let s := s.put F.SCHED_TBL_STATUS_ECHO_INDEX (s.get F.SCHED_TBL_SEL_INDEX)
  let s := s.put F.SCHED_TBL_STATUS_FRAME_LOW s.frameNo
  if result = 0 then s else s.raise U.sched F.SCHED_EVENTS_CMD_REFUSED result

/-- OP 1 WRITE (R317, R318). -/
def tblWrite (s : Body) : Body :=
  let kind := s.get F.SCHED_TBL_SEL_KIND
  let i := s.get F.SCHED_TBL_SEL_INDEX
  let w := fun n => s.get (F.SCHED_TBL_WDATA_DATA n)
  let result := s.writeResult kind i w
  if result != 0 then s.tblEnd result
  else
    let words := fun (m : SMap Word) (n : Nat) => (List.range n).foldl (fun m k => mput 0 m (n * i + k) (BitVec.ofNat 64 (w k))) m
    let s := match kind with
      | 0 =>
        let s := { s with sched := { s.sched with rows := words s.sched.rows 8, heard := s.sched.heard.filter fun p => p.1 / 128 != i } }
        (s.bufsFree i).runMod i fun _ => { st := .loaded }
      | 1 => { s with sched := { s.sched with descs := words s.sched.descs 4 } }
      | 2 => { s with sched := { s.sched with groups := mput 0 s.sched.groups i (w 0 % 2 ^ 25) } }
      | _ => { s with sched := { s.sched with poss := mput 0 s.sched.poss i (w 0 % 2 ^ 32) } }
    s.tblEnd 0

/-- Chunks resolved ahead of issue (R336). -/
def resolvedAhead (r : SchedRow) (x : Run) : Nat :=
  let u := max x.freed (unissued r x)
  ((range' u (x.asked - u)).filter (chunkResolved r x)).length

/-- Word of a run-state snapshot (R336). -/
def runWord (r : SchedRow) (x : Run) : Nat → Nat
  | 0 => x.st.code + 16 * x.cause + 256 * runStatus x + 2 ^ 13 * b2n x.trunc.isSome + 2 ^ 32 * x.failed
  | 1 => x.ready
  | 2 => x.launch
  | 3 => x.issued
  | 4 => marked r x % 2 ^ 32 + 2 ^ 32 * x.stalls + 2 ^ 48 * resolvedAhead r x
  | 6 => x.inMask % 2 ^ 64
  | 7 => x.inMask / 2 ^ 64
  | _ => 0

/-- OP 2 SNAPSHOT (R336). -/
def tblSnapshot (s : Body) : Body :=
  let kind := s.get F.SCHED_TBL_SEL_KIND
  let i := s.get F.SCHED_TBL_SEL_INDEX
  if i ≥ s.rowCount kind then s.tblEnd 1
  else
    let w := fun (n : Nat) => match kind with
      | 0 => (mgetD s.sched.rows (8 * i + n) 0).toNat
      | 1 => if n < 4 then s.descWord i n else 0
      | 2 => if n = 0 then mgetD s.sched.groups i 0 else 0
      | 3 => if n = 0 then mgetD s.sched.poss i 0 else 0
      | _ => runWord (s.schedRow i) (s.run_ i) n
    (s.forEach (List.range 8) fun s n => s.put (F.SCHED_TBL_RDATA_DATA n) (w n)).tblEnd 0

/-- OP 3 CANCEL (R317, R318): it acts from the next tick. -/
def tblCancel (s : Body) : Body :=
  let kind := s.get F.SCHED_TBL_SEL_KIND
  let i := s.get F.SCHED_TBL_SEL_INDEX
  let x := s.run_ i
  if (kind != 0 && kind != 4) || i ≥ s.rowCount 0 then s.tblEnd 1
  else if x.st == .empty || x.st.isFinal then s.tblEnd 9
  else (s.setRun i { x with cancel := true }).tblEnd 0

/-! ## Lifecycle (R335) -/

/-- Start steps 1 and 2. -/
def schedStartOk (s : Body) : Bool := s.schedBlocks ≥ 1 && s.isOn U.ramekin && s.isOn U.queue && s.isOn U.rdma
/-- Start step 3. -/
def schedClear (s : Body) : Body := ({ s with sched := {} }).schedShow
/-- Stop step 1. -/
def schedStop (s : Body) : Body :=
  s.forEach (s.entriesIn fun st => !st.isFinal && st != .empty) fun s e =>
    if (s.run_ e).st == .delivering then s.schedStopSend e .interrupted true else s.schedCancel e
/-- Stop step 2: every WRITE the engine issued has completed. -/
def schedQuiet (s : Body) : Bool := s.sched.runs.all fun p => writesOut p.2 == (0, 0)

end Body

end Sys2Proof.Machine
end

