-- ==== Sys2Proof/Machine/Readback.lean ====
section
/-! DEFINITION. The STATE windows (R437, R438): one row of a device structure copied into STATE_DATA. -/

namespace Sys2Proof.Machine

/-! ## Bytes -/

/-- `n` bytes of a value, most significant first. -/
def beBytes (n v : Nat) : List Nat := (List.range n).map fun i => v / 256 ^ (n - 1 - i) % 256

/-- Bytes packed into words, byte 0 in bits [7:0] of word 0 (R459). -/
def packWords (l : List Nat) : List Word :=
  (List.range (cdiv l.length 8)).map fun i => BitVec.ofNat 64 ((List.range 8).foldl (fun a j => a + l.getD (8 * i + j) 0 * 256 ^ j) 0)

/-- One bit of the reflected Castagnoli CRC-32 (R103). -/
def crcCBit (x : BitVec 32) : BitVec 32 := if x.getLsbD 0 then (x >>> 1) ^^^ 0x82F63B78#32 else x >>> 1
/-- One byte. -/
def crcCByte (x : BitVec 32) (b : Nat) : BitVec 32 :=
  crcCBit (crcCBit (crcCBit (crcCBit (crcCBit (crcCBit (crcCBit (crcCBit (x ^^^ BitVec.ofNat 32 (b % 256)))))))))
/-- CRC-32 of the Castagnoli polynomial over bytes. -/
def crc32C (l : List Nat) : BitVec 32 := ~~~(l.foldl crcCByte 0xFFFFFFFF#32)

/-- A row of a STATE window: its length in bytes, its words, whether INDEX lies outside its object, whether it is withheld. -/
structure StateRow where
  bytes    : Nat
  words    : List Word := []
  invalid  : Bool := false
  withheld : Bool := false
  deriving DecidableEq, Repr

/-- Row length of each KIND (R438); 0 for a KIND outside the table. -/
def rowBytes : Nat → Nat
  | 1 => 512 | 2 => 512 | 3 => 64 | 4 => 8 | 5 => 80 | 6 => 320 | 7 => 320 | 8 => 512 | 9 => 96 | 10 => 8
  | 11 => 192 | 12 => 128 | 13 => 16 | 14 => 64 | 15 => 128 | 16 => 64 | 17 => 512 | 18 => 512 | 19 => 512 | _ => 0

/-- Kinds whose rows lie in the Stockpot, the media or the code flash, which one access reads (R437). -/
def rowSlow (kind : Nat) : Bool := [6, 7, 9, 10, 11, 14, 18, 19].contains kind

namespace Body

/-- A word of a number. -/
def natWord (n : Nat) : Word := BitVec.ofNat 64 n

/-- A map entry as its 32 bytes (R160). -/
def mapWords (e : MapEntry) : List Word :=
  [natWord (e.slot % 2 ^ 29 + e.pkg % 2 * 2 ^ 29 + b2n e.mapped * 2 ^ 30 + b2n e.moving * 2 ^ 31 + e.gen % 2 ^ 16 * 2 ^ 32 + e.err % 32 * 2 ^ 48),
   natWord e.age, e.poison, natWord (e.wear % 2 ^ 32 + e.wearAt % 2 ^ 32 * 2 ^ 32)]

/-- A Simmer pause of a media channel (R424): its start cycles, the second one when it passes the end of the frame. -/
def pauseStarts (s : Body) (c sixteenths : Nat) : List Nat :=
  if sixteenths = 0 then []
  else
    let n := s.cyclesN
    let len := s.periodNs * sixteenths / 16 / 10 * 16
    let start := c % 8 * (n / 8) / 16 * 16
    if start + len > n then [start, 0] else [start]

/-- The slot words of a plan (R18, R135, R424, R438): maintenance positions and pauses as the rules place them; the start cycles and lines
of read slots are free values, since no rule places them. -/
def planRow (s : Body) (p : Plan) (i : Nat) : List Word :=
  if 32 ≤ i then (List.range (s.periodNs / 250)).map fun k => natWord (400 * k + 32 + 3 * 2 ^ 13 + 2 ^ 16)
  else
    let pauses := (s.pauseStarts i p.pause).map fun a => natWord (a + 4 * 2 ^ 13 + 2 ^ 16)
    let reads := (List.range (mgetD p.readUsed i 0)).map fun k => Config.freeWord (s.freeCtr + k) &&& (if p.carried then 0xFFFFFFFFFF021FFF else 0xFFFFFFFFFF001FFF)
    (pauses ++ reads).take 64

/-- The bytes of a peer's last beacon (R53). -/
def peerBytes (s : Body) (m : Nat) (p : Peer) : List Nat :=
  beBytes 2 0x5342 ++ [1, 1] ++ beBytes 4 (s.get F.DOMAIN_ID_DOMAIN) ++ beBytes 2 m ++ beBytes 2 p.twin ++ beBytes 8 p.frame
  ++ beBytes 2 p.period ++ [p.sync % 256, p.role % 256] ++ beBytes 2 (unsgn 16 p.offset) ++ beBytes 2 p.flags ++ beBytes 4 p.keyGen
  ++ beBytes 8 p.dirGen ++ beBytes 8 p.seq

/-- A Stockpot set's tag line and metadata records (R126). -/
def tagRow (s : Body) (c set : Nat) : List Word :=
  let blocks := (List.range 8).map fun w => mget (s.spCh c).blocks (set * 8 + w)
  let ranks := blocks.filterMap fun b => b.map (·.rank)
  let tag := fun (b : Option SpBlock) => match b with
    | some b => natWord (b.granule % 2 ^ 35 + 2 ^ 35 + b2n (b.dirty != 0) * 2 ^ 36 + b2n b.pinned * 2 ^ 37
        + (ranks.filter (· < b.rank)).length % 8 * 2 ^ 38 + b2n (b.poison != 0) * 2 ^ 41)
    | none => 0
  let md := fun (b : Option SpBlock) => match b with
    | some b => [b.valid, b.dirty, b.poison, natWord (b.frame % 2 ^ 32 + b.part % 256 * 2 ^ 32)]
    | none => [0, 0, 0, 0]
  blocks.map tag ++ blocks.flatMap md

/-- A near-cache way (R103, R106, R438). -/
def wayRow (s : Body) (k : Nat) : List Word :=
  let set := k / 16
  let way := k % 16
  match mget s.nc.ways k with
  | some w =>
    let addr := leBytes 6 (w.line * 64)
    let crc := crc32C ((lineBytes w.data).map (·.toNat) ++ addr.map (·.toNat))
    lineWords w.data ++ [natWord (w.line / 131072 % 2 ^ 24 + 2 ^ 24 + b2n w.dirty * 2 ^ 25 + b2n w.poison * 2 ^ 26
      + b2n (s.ordWays ≤ way) * 2 ^ 27 + crc.toNat * 2 ^ 32), natWord (mgetD s.nc.plru set 0)]
  | none => List.replicate 8 0 ++ [natWord (b2n (s.ordWays ≤ way) * 2 ^ 27), natWord (mgetD s.nc.plru set 0)]

/-- The logical granule at a channel, position and package-local index (R159): `place` the other way round. -/
def lgAt (s : Body) (ch pos q : Nat) : Option Nat :=
  let f := s.cfg.img.fix
  let m := max 1 s.mdChans.length
  let u := max 1 f.stripeUnit
  (s.mdChans.findIdx? (· == ch)).map fun k =>
    let i := q * max 1 f.pkgPerCh + pos
    i / u * (m * u) + k * u + i % u

/-- A label as its 64 bytes (R155). -/
def labelWords (l : Label) : List Word :=
  sealWords [natWord l.seq, natWord (l.domain % 2 ^ 32 + l.member % 2 ^ 16 * 2 ^ 32 + l.ch % 256 * 2 ^ 48 + l.pos % 256 * 2 ^ 56),
    natWord (l.userGib % 2 ^ 32 + l.frame % 2 ^ 32 * 2 ^ 32), natWord (l.frame / 2 ^ 32), 0, 0, 0] 0

/-- The row of a KIND and INDEX (R438); none where INDEX lies outside the object. -/
def rowOf (s : Body) (kind i : Nat) : Option (List Word) :=
  match kind with
  | 1 => if i < 44 then some (s.planRow s.frame.plan i) else none
  | 2 => if i < 44 then some (if s.frame.next.frozen then s.planRow s.frame.next i else []) else none
  | 3 => if 4096 ≤ i then none else some (match mget s.time.peers i with
      | some p => packWords (s.peerBytes i p ++ beBytes 16 p.addr)
      | none => [])
  | 4 => if s.allChunks ≤ i then none else
      let v := b2n (s.capChunks ≤ i) * 2 ^ 26
      some (match s.tier.chunkMap.find? (·.2.chunk == i) with
        | some p => [natWord (p.2.part % 256 + p.1 % 2 ^ 17 * 2 ^ 8 + 2 ^ 25 + v)]
        | none => [natWord v])
  | 5 => if 131072 * 16 ≤ i then none else some (s.wayRow i)
  | 6 => if 12 ≤ i / 2 ^ 23 || 4096 * s.get (F.SP_CH_LAYOUT_GROUPS (i / 2 ^ 23)) ≤ i % 2 ^ 23 then none else some (s.tagRow (i / 2 ^ 23) (i % 2 ^ 23))
  | 7 => if 12 ≤ i / 2 ^ 23 || 4096 * s.get (F.SP_CH_LAYOUT_GROUPS (i / 2 ^ 23)) ≤ i % 2 ^ 23 then none else some (s.tagRow (i / 2 ^ 23) (i % 2 ^ 23))
  | 8 => if 12 ≤ i then none else some ((s.spCh i).capture.map Config.freeWord)
  | 9 =>
    let q := i / 64 % 2 ^ 29
    match s.lgAt (i % 32) (i / 32 % 2) q with
    | some lg =>
      if max 1 s.cfg.img.fix.pkgPerCh ≤ i / 32 % 2 || s.pkgGib * 262144 ≤ q || 2 ^ 35 ≤ i then none
      else
        let plane := mapWords (mgetD s.mtl.map lg {})
        some ((match mget s.mtl.cache lg with
          | some e => mapWords e.ent
          | none => [0, 0, 0, 0]) ++ plane ++ plane)
    | none => none
  | 10 =>
    let n := i / 64 % 2 ^ 29
    match s.pkg (i % 32) (i / 32 % 2) with
    | some p => if p.slots ≤ n || 2 ^ 35 ≤ i then none else
        let r := s.slot (i % 32) (i / 32 % 2) n
        some [natWord ((if r.retired then 2 else if r.used then 1 else 0) + r.wear % 2 ^ 32 * 2 ^ 32)]
    | none => none
  | 11 => match s.pkg (i / 2) (i % 2) with
    | some p =>
      let l := match mget (s.mdCh (i / 2)).labels (i % 2) with
        | some l => labelWords l
        | none => List.replicate 8 0
      some (p.page ++ l ++ l)
    | none => none
  | 12 => if i = 0 then some ((range' (recGroup 0 0) 8).map s.group ++ (range' (recGroup 0 1) 8).map s.group) else none
  | 13 => match s.twin.resync.log.reverse[i]? with
    | some e => some [natWord e.1, natWord e.2]
    | none => if i < 262144 then some [] else none
  | 14 => if s.allChunks * 512 ≤ i then none else
      some ((List.range 8).map fun w => natWord (sum (((s.twin.resync.bitmap.filter fun g => g / 64 == 8 * i + w).map fun g => 2 ^ (g % 64)))))
  | 15 =>
    let (p, k) := (i % 16, i / 16 % 16)
    if 2 ^ 18 ≤ i || s.ldCount p ≤ k then none else
      some (match (logOf (s.ldOf p k) (i / 256 % 4)).recs[i / 1024]? with
        | some r => (List.range 16).map (Config.eventRecord r.code r.handle r.time (r.dpa.getD (2 ^ 64 - 1)))
        | none => [])
  | 16 =>
    let (p, k) := (i / 16, i % 16)
    if 16 ≤ p || s.ldCount p ≤ k then none else
      let l := s.ldOf p k
      let pct := if l.scan.isSome then 0 else if l.bgDone then 100 else 0
      some [natWord (l.lastOp % 2 ^ 16 + l.lastCode % 2 ^ 16 * 2 ^ 16 + pct * 2 ^ 32 + (Config.mailboxLength l.lastOp l.lastCode).toNat * 2 ^ 40)]
  | 17 =>
    let (p, k) := (i % 256 / 16, i % 16)
    if 2 ^ 16 ≤ i || s.ldCount p ≤ k then none else
      some ((List.range 64).map fun w => Config.cdatWord (s.ldOf p k).cdatSeq (s.ldGib p k) (s.linkMBs p) (64 * (i / 256) + w))
  | 18 =>
    let (p, b) := (i % 8, i / 8)
    if 6 ≤ p || 2 ^ 28 ≤ i || s.rkCount p ≤ 512 * b then none else
      some (packWords ((List.range (min 512 (s.rkCount p - 512 * b))).map fun j => s.rkByte (s.rkStateAt p (512 * b + j))))
  | 19 => if 524288 ≤ i then none else
      some ((List.range 64).map fun w => if s.allOnes (512 * i) then ~~~(0 : Word) else s.flashWord (64 * i + w))
  | _ => none

/-- A flash page that a snapshot withholds: of an execute-only region, or of a bank with a program or erase running or suspended (R438). -/
def pageWithheld (s : Body) (page : Nat) : Bool :=
  s.inXo (512 * page) || (match s.cf.op with
    | some o => o.kind != .hash && bankOf o.page == bankOf page
    | none => false)

/-- Copy a row into STATE_DATA (R437): a corrected word is reported, an uncorrectable one reads as zero. -/
def stateRow (s : Body) (kind i : Nat) (fixed : Bool) (bad : List Nat) : Body :=
  let hide : Bool := kind == 19 && i < 524288 && s.pageWithheld i
  let row := s.rowOf kind i
  let s := if kind == 18 && row.isSome then s.rkSeen (s.rkStateAt (i % 8) (512 * (i / 8))) else s
  let l := if hide then [] else row.getD []
  let s := s.forEach (List.range 64) fun s n => s.setWord (A.STATE_DATA n) (if bad.contains n then 0 else l.getD n 0)
  let s := ((s.put F.STATE_STATUS_STATE 2).putB F.STATE_STATUS_CORRECTED fixed).putB F.STATE_STATUS_UNCORRECTABLE (!bad.isEmpty)
  let s := (s.putB F.STATE_STATUS_INVALID_INDEX row.isNone).putB F.STATE_STATUS_WITHHELD hide
  let s := (s.put F.STATE_STATUS_ECHO_KIND kind).put F.STATE_STATUS_ECHO_INDEX i
  let s := (s.put F.STATE_FRAME_FRAME s.frameNo).put F.STATE_SEQ_SEQ (s.get F.PASS_SEQ_LAST_SEQ)
  (s.put F.STATE_LEN_BYTES (rowBytes kind)).freshN 64

/-- SNAP (R437): the row of the selection that stands; one that needs an access of the Stockpot, the media or the code flash follows. -/
def stateSnap (s : Body) (fixed : Bool) (bad : List Nat) : Body :=
  match s.rb.snap with
  | some _ => s.raise U.boot F.BOOT_EVENTS_STATE_BUSY
  | none =>
    let kind := s.get F.STATE_SEL_KIND
    let i := s.get F.STATE_SEL_INDEX
    if rowSlow kind && (s.rowOf kind i).isSome then
      { s with rb := { s.rb with snap := some (kind, i) } }.put F.STATE_STATUS_STATE 1
    else s.stateRow kind i fixed bad

/-- The access of a snapshot ends. -/
def stateSnapped (s : Body) (fixed : Bool) (bad : List Nat) : Body :=
  match s.rb.snap with
  | some (kind, i) => ({ s with rb := { s.rb with snap := none } }).stateRow kind i fixed bad
  | none => s

end Body

end Sys2Proof.Machine
end

