-- ==== Sys2Proof/Machine/Units.lean ====
section
/-! DEFINITION. The start and stop steps of every unit (R29, R116, R123, R153, R184, R209, R219, R244, R267, R304, R313, R335, R360,
R370), and what units ask of each other within one command (Todo). -/

namespace Sys2Proof.Machine

namespace Body

/-! ## Media packages (R154, R155) -/

/-- A package as its identity page 0 tells it (R154). -/
def pkgOf (s : Body) (o : PkgObs) : Pkg :=
  let n := fun (i : Nat) => ((o.page[i]?).getD 0).toNat
  let w : Pkg := { userGib := nbits (n 1) 0 32, slots := nbits (n 1) 32 32, progMax := nbits (n 0) 56 8, busVer := nbits (n 0) 32 16
                   endurance := nbits (n 3) 32 32, writeMin := sgn 16 (nbits (n 4) 0 16), writeMax := sgn 16 (nbits (n 4) 16 16)
                   serial := n 5 + n 6 * 2 ^ 64, page := o.page, temp := o.temp, writable := false, inService := true }
  let q := s.cfg.img.qui
  { w with writable := max q.mediaMin w.writeMin ≤ o.temp && o.temp ≤ min q.mediaMax w.writeMax }

/-- Whether an identity page passes its CRC and the Required column (R154). -/
def pageOk (l : List Word) : Bool :=
  let n := fun (i : Nat) => ((l[i]?).getD 0).toNat
  let gib := nbits (n 1) 0 32
  l.length == 8 && nbits (n 0) 0 32 == 0x504D4753 && nbits (n 0) 32 16 == 1 && nbits (n 0) 48 8 == 16 && nbits (n 0) 56 8 ≥ 10
  && (gib == 256 || gib == 512 || gib == 1024) && nbits (n 1) 32 32 == gib * 327680
  && nbits (n 2) 0 32 ≥ 69 * gib / 4 + 64
  && nbits (n 2) 32 16 ≤ 180 && nbits (n 2) 48 16 ≤ 1600 && nbits (n 3) 0 16 ≤ 60 && nbits (n 3) 16 16 ≤ 40 && nbits (n 3) 32 32 ≥ 1000
  && nbits (n 4) 32 8 == 8 && nbits (n 4) 48 16 ≥ 4800 && crcOk l

/-- RESULT of the checks of start steps 3 and 4 on the packages found (R153 to R155), 0 for pass. -/
def pkgsCheck (s : Body) (c : Nat) (l : List PkgObs) : Nat :=
  let gib := fun (o : PkgObs) => (s.pkgOf o).userGib
  let first := if s.pkgGib = 0 then (l.head?.map gib).getD 0 else s.pkgGib
  let label := fun (o : PkgObs) => match mget (s.mdCh c).labels o.pos with
    | none => 5
    | some b =>
      if b.member != s.cfg.img.fix.member || b.ch != c || b.pos != o.pos then 4 else if gib o != first then 6 else 0
  if l.isEmpty then 1
  else if l.any (fun o => !pageOk o.page) then 3
  else if l.length != s.cfg.img.fix.pkgPerCh then 2
  else ((l.map label).find? (· != 0)).getD 0

/-- Show what page 0 tells of a package (R183). -/
def pkgShow (s : Body) (c : Nat) (o : PkgObs) : Body :=
  let p := s.pkgOf o
  if o.pos = 0 then
    ((s.put (F.MD_PKG_0_USER_GIB c) p.userGib).put (F.MD_PKG_0_PROG_MAX c) p.progMax).put (F.MD_PKG_0_BUS_VERSION c) p.busVer
      |>.put (F.MD_PKG_0_SERIAL_LOW c) p.serial
  else
    ((s.put (F.MD_PKG_1_USER_GIB c) p.userGib).put (F.MD_PKG_1_PROG_MAX c) p.progMax).put (F.MD_PKG_1_BUS_VERSION c) p.busVer
      |>.put (F.MD_PKG_1_SERIAL_LOW c) p.serial

/-- A media channel's start fails with its code (R153). -/
def mdFail (s : Body) (c r : Nat) : Body :=
  ((s.put (F.MD_TRAIN_RESULT c) r).raise (U.md c) (F.MD_EVENTS_TRAIN_FAIL c) r).unitFail (U.md c)

/-- A media channel's start steps complete (R153): every package found is in service, or the channel's start fails. -/
def mdStart (s : Body) (c us : Nat) (l : List PkgObs) : Body :=
  let r := s.pkgsCheck c l
  let s := s.put (F.MD_TRAIN_DURATION_US c) us
  let s := s.forEach l fun s o => s.pkgShow c o
  if r != 0 then s.mdFail c r
  else
    let s := s.put (F.MD_TRAIN_RESULT c) 0
    let s := s.setMdCh c { s.mdCh c with pkgs := l.foldl (fun m o => mset m o.pos (s.pkgOf o)) [], prog := [], hold := false }
    let s := ((s.put (F.MD_STATUS_MODE c) 0).mdRegs c).unitStarted (U.md c)
    let s := s.forEach l fun s o =>
      (s.thermalSample .media (2 * c + o.pos) (some o.temp) 0).putBit F.MTL_WINDOW_OUT_PKGS (2 * c + o.pos) (!(s.pkgOf o).writable)
    s.windowLook

/-- A channel leaves service: its packages no longer count for the write window (R175). -/
def mdStopped (s : Body) (c : Nat) : Body :=
  let s := s.setMdCh c { s.mdCh c with pkgs := (s.mdCh c).pkgs.map fun (p : Nat × Pkg) => (p.1, { p.2 with inService := false, writable := false }) }
  (s.mdRegs c).windowLook

/-! ## Other units -/

/-- Whether every 16 MiB unit of the system area is filled (R145, R219). -/
def systemFilled (s : Body) : Bool :=
  s.sp.set.isSome && (s.sp.set.getD []).all fun c => (List.range (s.get (F.SP_CH_LAYOUT_SYS_MIB c) / 16)).all (s.spCh c).filled.contains

/-- RESULT of start step 1 of a Stockpot channel (R122, R123): the module against the limits and against the image, 0 for pass. -/
def dimmCheck (s : Body) (d : DimmObs) : Nat :=
  let f := s.cfg.img.fix
  let rate := if d.kind = 0 then 4800 ≤ d.rate && d.rate ≤ 6400 else 6400 ≤ d.rate && d.rate ≤ 8800
  let ok := d.kind ≤ 1 && rate && d.rate % 400 == 0 && [32, 64, 96, 128, 192, 256].contains d.gib && d.width ≤ 1 && d.density ≤ 2
    && (d.ranks == 1 || d.ranks == 2) && [1, 2, 4].contains d.stack && d.trfcsb ≤ 130
  if !ok then 3 else if d.kind != f.dimmKind || d.rate != f.rateMts || d.gib != f.dimmGib then 4 else 0

/-- A Stockpot channel's start fails with its code (R123); its first start since boot is over (R124). -/
def spFail (s : Body) (c r : Nat) : Body :=
  ((s.setSpCh c { s.spCh c with first := false }).put (F.SP_CH_TRAIN_RESULT c) r).unitFail (U.sp c)

/-- A Stockpot channel's start steps complete with the module found (R123). -/
def spStart (s : Body) (c us : Nat) (d : Option DimmObs) : Body :=
  let s := s.put (F.SP_CH_TRAIN_DURATION_US c) us
  match d with
  | none => s.spFail c 1
  | some d =>
    let s := ((s.put (F.SP_CH_DIMM_GIB c) d.gib).put (F.SP_CH_DIMM_KIND c) d.kind).put (F.SP_CH_DIMM_WIDTH c) d.width
    let s := ((s.put (F.SP_CH_DIMM_DENSITY c) d.density).put (F.SP_CH_DIMM_RANKS c) d.ranks).put (F.SP_CH_DIMM_STACK c) d.stack
    let s := s.put (F.SP_CH_DIMM_TRFCSB_NS c) d.trfcsb
    let r := s.dimmCheck d
    if r != 0 then s.spFail c r
    else ((s.put (F.SP_CH_DIMM_RATE_MTS c) d.rate).put (F.SP_CH_TRAIN_RESULT c) 0).unitStarted (U.sp c)

/-- A Stockpot channel reaches ON (R123, R124): before the channel set is fixed it is CACHING and treated as in BYPASS; later it caches
afresh when it belongs to the set and stays in BYPASS otherwise. -/
def spStarted (s : Body) (c : Nat) : Body :=
  let x := s.spCh c
  let s := s.setSpCh c { x with blocks := [], rows := [], nrr := [], held := [], thawing := false, alerted := false, first := false }
  let own := match s.sp.set with
    | none => true
    | some l => l.contains c
  let s := (s.put (F.SP_CH_STATUS_MODE c) (if own then 0 else 2)).put (F.SP_CH_STATUS_NRR_QUEUED c) 0
  (s.refreshRate c).pinRegs

/-- A generation unsealed from its Rack record (R338, R360, R395). -/
def dmkUnseal (s : Body) (which : Nat) : DmkSt :=
  match s.recRead (0x100 + 128 * which) 16 with
  | some l => { gen := ((l[1]?).getD 0).toNat, act := ((l[2]?).getD 0).toNat }
  | none => {}

/-- The cipher engine's start steps complete (R360): keys are derived, the DMKs unsealed. -/
def cipherStarted (s : Body) : Body :=
  let s := { s with ciph := { s.ciph with derived := true, prev := s.dmkUnseal 0, cur := s.dmkUnseal 1, next := s.dmkUnseal 2 } }
  (s.put F.CIPHER_STATUS_STATE 0).cipherRegs

/-- Whether debug has been opened and keys zeroized (R359). -/
def zeroized (s : Body) : Bool := s.get F.CIPHER_STATUS_STATE == 1

/-- Reports of a port that has opened for the first time since boot (R441). -/
def portOpened (s : Body) : Body :=
  let any := (List.range 16).any (fun p => s.flag (F.CXP_STATUS_OPEN p)) || (List.range 8).any (fun p => s.flag (F.ETH_STATUS_OPEN p))
  if any && !s.flag F.BOOT_STATUS_PORT_OPENED then (s.put F.BOOT_STATUS_PORT_OPENED 1).bootTime 7 none else s

/-- The MTL reads the vault header for a persistence unit in its start steps (R206). -/
def headerRead (s : Body) : Body :=
  if s.unit U.persist == .starting && s.isOn U.mtl && !s.per.hdrRead then s.replayStart else s

/-! ## Start steps -/

/-- What a unit's start steps do or find at once: a failed first step ends the start (R29, R413, R431). -/
def startSteps (s : Body) (u : Nat) : Body :=
  if s.unit u != .starting then s
  else if s.fenced u then s.unitFail u
  else if (u = U.mtl || u = U.twin || u = U.persist || u = U.cipher) && s.zeroized then s.unitFail u
  else if u = U.nc then
    ({ s with nc := { s.nc with ways := [], plru := [], drain := [] } }).stagingLost
  else if u = U.persist then ({ s with per := { s.per with hdrRead := false } }).headerRead
  else if u = U.twin then (if s.systemFilled then s else s.unitFail u)
  else if u = U.rdma then (if s.isOn U.ramekin && s.isOn U.queue then s.rdmaStart else s.unitFail u)
  else if u = U.ramekin then (if s.rkStartOk then s.rkStart else s.unitFail u)
  else if u = U.queue then s.qStart
  else if u = U.sched then (if s.schedStartOk then s.schedClear else s.unitFail u)
  else if u = U.dexith then s.clusterStart
  else s

/-- What follows when a unit reaches ON. -/
def started (s : Body) (u : Nat) : Body :=
  if 2 ≤ u && u < 14 then s.spStarted (u - 2)
  else if u = U.mtl then s.bringUp.ruleRegs.headerRead
  else if u = U.persist then
    let s := if s.flag F.BOOT_STATUS_PERSIST_ON then s else (s.put F.BOOT_STATUS_PERSIST_ON 1).bootTime 6 none
    s.later .ports
  else if u = U.twin then
    let s := s.leaseMod fun l => { l with onAt := s.time.tai, heard := false, detected := false, leaving := false, pairRun := 0, peerReq := false }
    ((s.put F.TWIN_STATUS_MISSED_RUN 0).linkRegs).witnessStart
  else if 50 ≤ u && u < 66 then s.ldRegs
  else if 66 ≤ u && u < 74 then s.put (F.ETH_STATUS_LINK (u - 66)) 1
  else if u = U.rdma then s.later .ports
  else if u = U.cipher then s.cipherStarted
  else if u = U.dexith then s.clusterStarted
  else s

/-- A unit's start steps are complete, with what they found (R29): nothing happens while a condition that the steps wait for does not
hold. -/
def startDone (s : Body) (u us : Nat) (o : StartObs) : Body :=
  if s.unit u != .starting then s
  else if 2 ≤ u && u < 14 then
    s.spStart (u - 2) us (match o with
      | .dimm d => some d
      | _ => none)
  else if 14 ≤ u && u < 46 then
    if (s.mdCh (u - 14)).formatting.isEmpty then
      s.mdStart (u - 14) us (match o with
        | .media l => l
        | _ => [])
    else s
  else if u = U.mtl then
    (if s.isOn U.cipher && s.cipherOk && s.mdChans.all (fun c => s.unit (U.md c) != .starting) then s.unitStarted u else s)
  else if u = U.persist then (if s.persistReady && s.isOn U.cipher && s.cipherOk then s.unitStarted u else s)
  else if u = U.twin then
    if !s.isOn U.cipher || !s.cipherOk then s
    else if s.flag F.CIPHER_STATUS_KEYS_PENDING then s.unitFail u
    else match o with
      | .twin main fall => (s.linkTrain main fall).unitStarted u
      | _ => (s.linkTrain false false).unitStarted u
  else if u = U.sched then (if s.syncState == .unset then s else s.unitStarted u)
  else s.unitStarted u

/-- A start step of a unit fails with the code that its chapter gives (R29, R123, R153, R360). -/
def startFail (s : Body) (u code : Nat) : Body :=
  if s.unit u != .starting then s
  else if 2 ≤ u && u < 14 then
    s.spFail (u - 2) code
  else if 14 ≤ u && u < 46 then s.mdFail (u - 14) code
  else if u = U.cipher then ((s.put F.CIPHER_STATUS_STATE 2).postN U.cipher .selfTestFailed).unitFail u
  else s.unitFail u

/-! ## Stop steps -/

/-- Drop a near cache's clean lines; dirty ones go through the Colander (R116). -/
def ncStop (s : Body) : Body :=
  let dirty := (s.nc.ways.filter (·.2.dirty)).map (·.2.line)
  let s := { s with nc := { s.nc with ways := s.nc.ways.filter (·.2.dirty), drain := dirty } }
  ((s.putB F.NC_STATUS_DRAINING true).stagingLost).pumpHeld

/-- What a unit's stop steps do at once (R29). -/
def stopSteps (s : Body) (u : Nat) : Body :=
  if s.unit u != .stopping then s
  else if u = U.time then (if s.time.sync == .unset then s else s.setSync .adrift)
  else if u = U.nc then s.ncStop
  else if u = U.mtl then (if s.windowOpen then s.forEach (s.dirtyMap.map (·.1)) mapWriteback else s).partShow
  else if u = U.persist then ({ s with per := { s.per with stopWait := false } }).later .ports
  else if u = U.twin then
    if s.follows then s.followLeave
    else (s.leaseMod fun l => { l with leaving := true }).heartbeatOut
  else if 50 ≤ u && u < 66 then s.cxlLook (u - 50)
  else if 66 ≤ u && u < 74 then (s.ethStop (u - 66)).ethLook (u - 66)
  else if u = U.rdma then s.forEach (List.range 8) fun s p => s.unitDisable (U.eth p)
  else if u = U.sched then s.schedStop
  else if u = U.cipher then (s.jobAbort 0).jobAbort 1
  else if u = U.dexith then s.clusterStop
  else s

/-- Whether a unit's stop steps can be complete (R116, R144, R153, R184, R209, R244, R267, R304, R313, R335, R360). -/
def stopReady (s : Body) (u : Nat) : Bool :=
  if u = U.nc then s.nc.drain.isEmpty && s.nc.ways.all (!·.2.dirty) && s.nc.col.isEmpty
  else if 2 ≤ u && u < 14 then
    s.spMode (u - 2) != .frozen && (s.spCh (u - 2)).blocks.all (fun b => b.2.dirty == 0) && !s.sp.wbs.any (·.ch == u - 2)
  else if 14 ≤ u && u < 46 then (s.mdCh (u - 14)).prog.all (·.2 == 0)
  else if u = U.mtl then s.mtl.ops.all (·.fly.isEmpty) && (s.windowOpen || s.dirtyMap.isEmpty)
  else if u = U.persist then s.per.stopWait && (s.per.batches.isEmpty || !s.holds)
  else if 50 ≤ u && u < 66 then (s.cxp (u - 50)).reads.isEmpty
  else if 66 ≤ u && u < 74 then s.ethQuiet (u - 66)
  else if u = U.rdma then (List.range 8).all fun p => s.unit (U.eth p) == .off
  else if u = U.ramekin || u = U.queue then s.enginesOff
  else if u = U.sched then s.schedQuiet
  else if u = U.cipher then s.unit U.mtl == .off && s.unit U.twin == .off
  else true

/-- What the end of the stop steps does before the unit is OFF. -/
def stopEnd (s : Body) (u : Nat) : Body :=
  if u = U.nc then
    (({ s with nc := { s.nc with ways := [] } }).putB F.NC_STATUS_DRAINING false).raise U.nc F.NC_EVENTS_DRAIN_DONE
  else if 2 ≤ u && u < 14 then
    (s.setSpCh (u - 2) { s.spCh (u - 2) with blocks := [], rows := [], nrr := [], first := false }).put (F.SP_CH_STATUS_MODE (u - 2)) 2
  else if 14 ≤ u && u < 46 then s.mdStopped (u - 14)
  else if u = U.mtl then
    let s := if s.windowOpen then s.forEach (s.dirtyMap.map (·.1)) mapWriteback else s
    { s with mtl := { s.mtl with cache := [], mapReads := [] } }
  else if u = U.persist then { s with per := { s.per with hdrRead := false } }
  else if u = U.twin then (s.linkDown).leaseMod fun l => { l with leaving := false }
  else if 50 ≤ u && u < 66 then s.cxlDown (u - 50)
  else if 66 ≤ u && u < 74 then s.ethLinkDown (u - 66) 0
  else if u = U.queue then s.qStop
  else if u = U.sched then { s with sched := { s.sched with runs := s.sched.runs.map fun (r : Nat × Run) => (r.1, unstage r.2) } }
  else if u = U.cipher then
    ({ s with ciph := { s.ciph with session := 0, derived := false, spdm := [] } }).cipherRegs
  else s

/-- A unit's stop steps are complete (R29); nothing happens while what they wait for lasts. -/
def stopDone (s : Body) (u : Nat) : Body :=
  if s.unit u != .stopping || !s.stopReady u then s
  else
    let s := (s.stopEnd u).unitStopped u
    if u = U.dexith && s.unit u == .off then { s with dx := { s.dx with warm := false } }
    else if 66 ≤ u && u < 74 then s.put (F.ETH_STATUS_LINK (u - 66)) 0
    else s

/-! ## What units ask of each other -/

/-- Every port looks at its opening conditions (R250, R282). -/
def portsLook (s : Body) : Body := (s.forEach (List.range 16) cxlLook).forEach (List.range 8) ethLook

/-- One request of a unit to another. -/
def todoOne (s : Body) : Todo → Body
  | .startSteps u => s.startSteps u
  | .stopSteps u => s.stopSteps u
  | .started u => s.started u
  | .hobOff why => s.hobOffReq why
  | .hobFlushed => s.hobFlushDone
  | .hobDown => s.unitsHeld
  | .handoff => s.handoffFreeze
  | .systemReset cause => s.sysReset cause
  | .resetNow => { s with boot := { s.boot with resetReq := some s.boot.cause } }
  | .changeEnd => s.hdmHeld
  | .ports => s.portsLook
  | .persisted (.gpf p tag) => (s.inc (F.CXP_COUNT_1_GPF p)).send (.gpfDone p 2 tag)
  | .persisted (.flagged n f) => s.rdmaPersisted n f
  | .lossAccepted => s.incCounter 3
  | .refetch r => s.rdmaRefetch r
  | .delivered tag ok => s.delivered tag ok
  | .answer (.cxl p k tag) line data poison at_ => s.cxlDone p k tag line data poison at_
  | .answer r line data poison _ => s.rdmaAnswered r line data poison
  | .admitted (.cxl p k tag) _ => (s.inc (F.CXP_COUNT_0_WRITES p)).send (.cxlCmp p k tag (s.devLoad p))
  | .admitted (.cxlSpec p) _ => s.inc (F.CXP_COUNT_0_WRITES p)
  | .admitted (.job _) _ => s
  | .admitted .mirror _ => s
  | .admitted r _ => s.rdmaAdmitted r

/-- Serve what units have asked for, in order, until nothing is asked. -/
def runTodos : Nat → Body → Body
  | 0, s => s
  | n + 1, s =>
    match s.todo with
    | [] => s
    | t :: r => runTodos n ({ s with todo := r }.todoOne t)

/-- How many requests one command may serve; any beyond stay asked and go with the next command. -/
def todoFuel : Nat := 8192

/-- The power-fail sequence begins (R202, R204 step 1): the twin is informed by a heartbeat out of turn, and a follower leaves (R212). -/
def pfStart (s : Body) (source : Nat) : Body :=
  if s.per.pf != .idle || !s.isOn U.persist then s
  else
    let s := s.pfBegin source
    if s.follows then s.followLeave else s.heartbeatOut

/-- Every power-down that begins while the persistence unit is ON runs the power-fail sequence (R202); only a power fail sets its
source. -/
def flushLook (s : Body) : Body :=
  if s.hobState == .flushing then s.pfStart (s.get F.PFAIL_STATUS_SOURCE) else s

/-- A power fail is detected from a source that PFAIL_SRC enables (R203, R417): it is latched, the power-fail sequence begins when the
persistence unit is ON, and the Hob takes an OFF. -/
def powerFail (s : Body) (source : Nat) : Body :=
  if !s.hob.present || !nbit s.cfg.img.qui.pfailSrc (source - 1) || s.hobState == .off || s.flag F.HOB_STATUS_PFAIL then s
  else
    let s := (s.put F.HOB_STATUS_PFAIL 1).raise U.hob F.HOB_EVENTS_PFAIL source
    ((s.put F.PFAIL_STATUS_SOURCE source).pfStart source).hobOffReq .powerFail

/-- The units around one command's effect: what it asked of others, what waits at the line order unit, then what the twin, the CXL
event logs and the boot reports take from it. -/
def unitsRun (s : Body) : Body :=
  let s := (runTodos todoFuel s).flushLook.pumpHeld
  let s := (runTodos todoFuel s).moduleRecords.ackTry.resyncHeld
  (runTodos todoFuel s).portOpened

end Body

namespace State

/-- The state once the other units and the Pass have answered what a command made of its own unit; a system reset that it brings about
follows at its end (R433). -/
def settled (s : State) (b : Body) : State :=
  let t := s.taken b.unitsRun
  match t.body.boot.resetReq with
  | none => t
  | some cause => finish (t.reset_ false cause [] [])

/-- A command that may concern several units. -/
def runU (s : State) (f : Body → Body) : Host.Outcome State Fault Refusal := .next (s.settled (f s.body))

end State

end Sys2Proof.Machine
end

