-- ==== Sys2Proof/Machine/ExecLine.lean ====
section
/-! DEFINITION. Commands of the tiers: translation, near cache, Stockpot, media (chapters 4 to 7). -/

namespace Sys2Proof.Machine

/-- A write of one WO field of a register, the other fields as they stand, and what the command then does. -/
def Body.bitCommand (s : Body) (actor : Actor) (f : Fld) (v : Nat) (act : Body → Body) : Body :=
  s.command actor f.addr (f.insert (s.word f.addr) v).toNat act

/-! ## Chapter 4 -/

/-- XLATE_SNAPSHOT (R101). -/
def execXlateSnapshot (actor : Actor) (line : Nat) (s : State) : Host.Outcome State Fault Refusal :=
  s.runU (·.select actor A.XLATE_ADDR (line * 64) (·.xlateSnap line))

/-- ASSIST_TIMEOUT (R97, R98, R112, R172): the request counts as unanswered. -/
def execAssistTimeout (req : Nat) (s : State) : Host.Outcome State Fault Refusal :=
  s.runU fun b => match b.tier.assists.find? (·.req == req) with
    | some r => b.askEnd r none none
    | none => b

/-- NO_TWIN_READ_BOUND (R98). -/
def execNoTwinReadBound (mr : Nat) (s : State) : Host.Outcome State Fault Refusal := s.runU (·.noTwinBound mr)

/-! ## Chapter 5 -/

/-- NC_FILL (R108). -/
def execNcFill (mr : Nat) (s : State) : Host.Outcome State Fault Refusal := s.runU (·.ncFill mr)

/-- NC_REPAIR_REQUEST (R113). -/
def execNcRepairRequest (line : Nat) (s : State) : Host.Outcome State Fault Refusal := s.runU (·.repairSend line)

/-- COLANDER_ACCEPT (R109). -/
def execColanderAccept (col : Nat) (s : State) : Host.Outcome State Fault Refusal := s.runU (·.colAccept col)

/-- A write of NC_OP_CTL (R118). -/
def Body.ncOpCommand (s : Body) (actor : Actor) (op : Nat) (kind : NcOpKind) (whole : Bool) : Body :=
  s.command actor A.NC_OP_CTL (op + 4 * b2n whole) (·.ncOpStart kind whole)

/-- NC_FLUSH (R118). -/
def execNcFlush (actor : Actor) (whole : Bool) (s : State) : Host.Outcome State Fault Refusal :=
  s.runU (·.ncOpCommand actor 1 .flush whole)

/-- NC_INVALIDATE (R118). -/
def execNcInvalidate (actor : Actor) (whole : Bool) (s : State) : Host.Outcome State Fault Refusal :=
  s.runU (·.ncOpCommand actor 2 .invalidate whole)

/-- NC_FLUSH_INVALIDATE (R118). -/
def execNcFlushInvalidate (actor : Actor) (whole : Bool) (s : State) : Host.Outcome State Fault Refusal :=
  s.runU (·.ncOpCommand actor 3 .flushInvalidate whole)

/-- NC_OP_DONE (R118): the Colander holds no line of the operation any more. -/
def execNcOpDone (s : State) : Host.Outcome State Fault Refusal :=
  s.runU fun b => match b.nc.op with
    | some o =>
      if b.ncOpOpen o then b
      else
        let b := ({ b with nc := { b.nc with op := none } }).put F.NC_OP_STATUS_STATE 2
        (b.put F.NC_OP_STATUS_SETS_DONE 131072).raise U.nc F.NC_EVENTS_OP_DONE
    | none => b

/-- NC_MR_SNAPSHOT (R120). -/
def execNcMrSnapshot (actor : Actor) (mr : Nat) (s : State) : Host.Outcome State Fault Refusal :=
  s.runU (·.select actor A.NC_MR_SEL mr (·.mrSnap mr))

/-- NC_COL_SNAPSHOT (R120). -/
def execNcColSnapshot (actor : Actor) (col : Nat) (s : State) : Host.Outcome State Fault Refusal :=
  s.runU (·.select actor A.NC_COL_SEL col (·.colSnap col))

/-! ## Chapter 6 -/

/-- CHANNEL_SET_FIX (R124). -/
def execChannelSetFix (s : State) : Host.Outcome State Fault Refusal := s.runU (·.channelSetFix)

/-- WRITE_BACK_DONE (R130). -/
def execWriteBackDone (gran : Nat) (s : State) : Host.Outcome State Fault Refusal := s.runU (·.wbDone gran)

/-- REFRESH_ROUND (R135, R136): the round is issued; a mode register may request the higher rate. -/
def execRefreshRound (ch : Nat) (request : Bool) (s : State) : Host.Outcome State Fault Refusal :=
  s.runU fun b =>
    if !b.isOn (U.sp ch) then b
    else ((b.setSpCh ch { b.spCh ch with modeReq := request }).refreshRate ch).refreshRound ch

/-- NEIGHBOUR_REFRESH (R137). -/
def execNeighbourRefresh (ch bank row : Nat) (s : State) : Host.Outcome State Fault Refusal := s.runU (·.nrrQueue ch bank row)

/-- CA_PARITY_ALERT (R141): `since` is the bus cycles since the alert before. -/
def execCaParityAlert (ch since : Nat) (s : State) : Host.Outcome State Fault Refusal := s.runU (·.parityAlert ch since)

/-- FREEZE_HOLD_EXPIRE (R142). -/
def execFreezeHoldExpire (ch mr : Nat) (s : State) : Host.Outcome State Fault Refusal := s.runU (·.freezeHoldEnd ch mr)

/-- A thaw begins on a frozen channel (R143). -/
def Body.thaw (s : Body) (ch : Nat) : Body :=
  if s.spMode ch == .frozen then s.setSpCh ch { s.spCh ch with thawing := true } else s

/-- THAW (R143). -/
def execThaw (actor : Actor) (ch : Nat) (s : State) : Host.Outcome State Fault Refusal :=
  s.runU fun b => b.bitCommand actor (F.SP_CH_CTL_THAW ch) 1 (·.thaw ch)

/-- THAW_DONE (R143): whether every tag line reads good, and how long the thaw took. -/
def execThawDone (ch : Nat) (good : Bool) (us : Nat) (s : State) : Host.Outcome State Fault Refusal :=
  s.runU (·.thawEnd ch good us)

/-- An accepted DECLARE_LOST also loses the channel's part of the Ramekin area (R143, R294). -/
def Body.lose (s : Body) (ch : Nat) : Body :=
  let t := s.declareLost ch
  if t.flag (F.SP_CH_STATUS_LOST ch) && s.spMode ch == .frozen then t.rkAreaLost ch else t

/-- DECLARE_LOST (R143). -/
def execDeclareLost (actor : Actor) (ch : Nat) (s : State) : Host.Outcome State Fault Refusal :=
  s.runU fun b => b.bitCommand actor (F.SP_CH_CTL_DECLARE_LOST ch) 1 (·.lose ch)

/-- FILL_GO (R145). -/
def execFillGo (actor : Actor) (mask : Nat) (s : State) : Host.Outcome State Fault Refusal :=
  s.runU (·.command actor A.SP_FILL_CTL (1 + 2 * mask) (·.fillGo mask))

/-- FILL_DONE (R145). -/
def execFillDone (s : State) : Host.Outcome State Fault Refusal := s.runU (·.fillEnd)

/-- SCRUB_GO (R146). -/
def execScrubGo (actor : Actor) (s : State) : Host.Outcome State Fault Refusal := s.runU (·.command actor A.SP_SCRUB_CTL 1 (·.scrubGo))

/-- SCRUB_DONE (R146): the SPAs corrected and uncorrectable, and how long it took. -/
def execScrubDone (fixed bad : List Nat) (us : Nat) (s : State) : Host.Outcome State Fault Refusal :=
  s.runU (·.scrubEnd fixed bad us)

/-! ## Chapter 7 -/

/-- MEDIA_READ_DATA (R157, R163, R171): what the code corrects, bits a codeword, at first and on the retries. -/
def execMediaReadData (reader : MediaReader) (first retried : Option Nat) (s : State) : Host.Outcome State Fault Refusal :=
  s.runU fun b => match reader with
    | .miss mr => b.missRead mr first retried
    | .op id cw => b.opRead id cw first retried

/-- MEDIA_ALERT (R150): a command error or an alarm is an event; a program failure shows in its STATUS. -/
def execMediaAlert (md cause : Nat) (s : State) : Host.Outcome State Fault Refusal :=
  s.runU fun b => b.when (cause != 0) (·.raise (U.md md) (F.MD_EVENTS_ALERT md) cause)

/-- STROBE_RECENTRE (R153): done in idle bus time, or in a flexible read slot. -/
def execStrobeRecentre (md : Nat) (used : Bool) (s : State) : Host.Outcome State Fault Refusal :=
  s.runU fun b => b.when (used && b.isOn (U.md md)) (·.slotTake md)

/-- RETRAIN (R183). -/
def execRetrain (actor : Actor) (md result us : Nat) (s : State) : Host.Outcome State Fault Refusal :=
  s.runU fun b => b.bitCommand actor (F.MD_CTL_RETRAIN md) 1 (·.mdRetrain md result us)

/-- FORMAT (R156). -/
def execFormat (actor : Actor) (md mask : Nat) (s : State) : Host.Outcome State Fault Refusal :=
  s.runU fun b => b.command actor (A.MD_CTL md) ((b.word (A.MD_CTL md)).toNat + 4 + 8 * mask) (·.mdFormat md mask)

/-- FORMAT_DONE (R155, R156): the capacity that the package reports goes into its label. -/
def execFormatDone (md pos gib : Nat) (s : State) : Host.Outcome State Fault Refusal := s.runU (·.mdFormatted md pos gib)

/-- SCOURER_VISIT (R176): bits corrected in each of the 16 codewords, none for an uncorrectable one. -/
def execScourerVisit (md : Nat) (bits : List (Option Nat)) (s : State) : Host.Outcome State Fault Refusal := s.runU (·.scourVisit md bits)

/-- MAP_READ_DATA (R161): whether each copy of the map codeword reads well. -/
def execMapReadData (lg : Nat) (ok0 ok1 : Bool) (s : State) : Host.Outcome State Fault Refusal :=
  s.runU (·.mapRead lg ok0 ok1 Body.mapLost)

/-- PROGRAM_STATUS (R163, R166). -/
def execProgramStatus (op cw : Nat) (pass : Bool) (s : State) : Host.Outcome State Fault Refusal :=
  s.runU (·.programStatus op cw pass)

/-- RELOCATION_DONE (R167, R170, R173): the programs have passed and the entry switches to the new slot. -/
def execRelocationDone (op : Nat) (s : State) : Host.Outcome State Fault Refusal :=
  s.runU fun b => match b.mop op with
    | some o => if o.done then b.opFinish o else b
    | none => b

/-- PIN_FILL_GRANULE (R87, R128): in an idle media read slot one granule of a PIN partition is promoted. -/
def Body.pinFill (b : Body) (gran : Nat) : Body :=
  match b.partOf (gran * 64), b.lgOf (gran * 64), b.spPlace gran with
  | some p, some lg, some (c, set) =>
    if b.placeMode p.id != 1 || !b.slotOpen (b.place lg).ch then b
    else if (b.spFind gran).isNone && b.pinnedIn c set ≥ 6 then b.incSat F.SP_DIRTY_STATE_PIN_SET_FULL
    else match b.promote lg gran p.id with
      | some b' => match b'.spFind gran with
        | some (c, k, x) => (b'.setBlock c k { x with pinned := true }).slotTake (b'.place lg).ch
        | none => b'
      | none => b.inc F.PLACE_COUNT_PROMOTE_DECLINED
  | _, _, _ => b

/-- PIN_FILL_GRANULE (R87, R128). -/
def execPinFillGranule (gran : Nat) (s : State) : Host.Outcome State Fault Refusal := s.runU (·.pinFill gran)

end Sys2Proof.Machine
end

