-- ==== Sys2Proof/Machine/ExecBoot.lean ====
section
/-! DEFINITION. Commands of boot, reset and readback (chapter 18). -/

namespace Sys2Proof.Machine

/-- POWER_ON_RESET (R430, R433): the always-on rail rises; the Rack groups that stage 0 finds uncorrectable, and corrects. -/
def execPowerOnReset (bad corrected : List Nat) (s : State) : Host.Outcome State Fault Refusal :=
  if s.body.boot.powered then .next s else .next (s.reset_ true 0 bad corrected).finish

/-- ALWAYS_ON_LOSS (R387, R433, R444). -/
def execAlwaysOnLoss (s : State) : Host.Outcome State Fault Refusal := .next s.powerLost

/-- BOOT_IMAGE_LOADED (R69, R71, R430): what verification found of each slot, the times of stages 1 and 2. -/
def execBootImageLoaded (a b : SlotVerdict) (us1 us2 : Nat) (s : State) : Host.Outcome State Fault Refusal :=
  s.runU (·.bootLoaded a b us1 us2)

/-- BOOT_HOB_UP (R430). -/
def execBootHobUp (us : Nat) (s : State) : Host.Outcome State Fault Refusal := s.runU (·.bootUp us)

/-- BOOT_RELEASE (R430, R431). -/
def execBootRelease (us : Nat) (s : State) : Host.Outcome State Fault Refusal := s.runU (·.bootRelease us)

/-- SYSRST_N (R433). -/
def execSysrstN (s : State) : Host.Outcome State Fault Refusal := s.runU (·.sysReset 1)

/-- SYSTEM_RESET (R433). -/
def execSystemReset (actor : Actor) (s : State) : Host.Outcome State Fault Refusal :=
  s.runU (·.command actor A.BOOT_CTL 1 (·.sysReset 2))

/-- WARM_RESTART (R433, R435). -/
def execWarmRestart (actor : Actor) (s : State) : Host.Outcome State Fault Refusal :=
  s.runU (·.command actor A.BOOT_CTL 2 (·.warmRestart))

/-- WDT_KICK (R436). -/
def execWdtKick (actor : Actor) (s : State) : Host.Outcome State Fault Refusal :=
  s.runU (·.command actor A.BOOT_WDT_KICK 1 (·.wdtKick))

/-- WDT_EXPIRE (R436). -/
def execWdtExpire (s : State) : Host.Outcome State Fault Refusal := s.runU (·.wdtExpire)

/-- STATE_SNAP (R437): whether a word of the row needed correction, and the words that could not be corrected. -/
def execStateSnap (actor : Actor) (fixed : Bool) (bad : List Nat) (s : State) : Host.Outcome State Fault Refusal :=
  s.runU (·.command actor A.STATE_CMD 1 (·.stateSnap fixed bad))

/-- STATE_SNAP_DONE (R437). -/
def execStateSnapDone (fixed : Bool) (bad : List Nat) (s : State) : Host.Outcome State Fault Refusal :=
  s.runU (·.stateSnapped fixed bad)

end Sys2Proof.Machine
end

