-- ==== Sys2Proof/Machine/Frame.lean ====
section
/-! DEFINITION. The frame (R16 to R23): the tick with its fixed work, overruns and the admission cut, the seal phase, the plan. -/

namespace Sys2Proof.Machine

namespace Body

/-- Frames run from the end of the time unit's start steps, and go on free of any discipline after it has stopped (R41, R48). -/
def framesRun (s : Body) : Bool := s.isOn U.time || s.unit U.time == .stopping || 0 < s.frame.ticks

/-! ## The admission cut (R22, R23) -/

/-- The cut level in force is chosen (R23): a forced level, level 0 with the automatic cut disabled, else the computed one; a change is
posted. -/
def cutApply (s : Body) : Body :=
  let lvl := if s.flag F.FRAME_OVR_CTL_FORCE_EN then min 4 (s.get F.FRAME_OVR_CTL_FORCE_LEVEL)
    else if s.flag F.FRAME_OVR_CTL_AUTO_CUT_DIS then 0 else s.get F.FRAME_OVR_STATUS_AUTO_LEVEL
  if lvl = s.get F.FRAME_OVR_STATUS_LEVEL then s
  else (s.put F.FRAME_OVR_STATUS_LEVEL lvl).postN U.persist .cutChange lvl

/-- A change of the computed level that is due is made (R22). -/
def cutChange (s : Body) : Body :=
  let l := s.get F.FRAME_OVR_STATUS_AUTO_LEVEL
  let due := s.frame.cutDue
  let s := { s with frame := { s.frame with cutDue := 0 } }
  if due = 1 then s.put F.FRAME_OVR_STATUS_AUTO_LEVEL (min 4 (l + 1))
  else if due = 2 then s.put F.FRAME_OVR_STATUS_AUTO_LEVEL (l - 1) else s

/-- The ended frame is counted as an overrun frame or a clean one (R21, R22): with the 8th overrun in a row, or the 64th clean frame, a
change of level falls due. -/
def overrunCount (s : Body) (ovr : Bool) : Body :=
  let f := s.frame
  let l := s.get F.FRAME_OVR_STATUS_AUTO_LEVEL
  let run := if ovr then f.ovrRun + 1 else 0
  let clean := if ovr then 0 else f.cleanRun + 1
  let due := if ovr && run % 8 == 0 && l < 4 then 1 else if !ovr && clean % 64 == 0 && 0 < l then 2 else 0
  let s := { s with frame := { f with ovrRun := run, cleanRun := clean, cutDue := due } }
  let s := (s.put F.FRAME_OVR_STATUS_RUN (min 255 run)).put F.FRAME_OVR_STATUS_CLEAN_RUN (min 64 clean)
  if ovr then s.inc F.FRAME_OVR_COUNT_COUNT else s

/-! ## The plan (R18, R424) -/

/-- Pause of a Simmer level in sixteenths of a frame (R424). -/
def pauseOf (lvl : Nat) : Nat := if lvl = 7 then 8 else lvl

/-- The plan of the frame after the current one, as it opens (R18, R135). -/
def planNew (s : Body) : Plan :=
  { frame := s.frameNo + 1, refresh := s.periodNs / 250, pause := pauseOf (s.get F.TH_STATUS_LEVEL) }

/-- The plan built for the new frame becomes its plan, with the work carried into it, and the next plan opens (R18, R21). -/
def planTurn (s : Body) (ovr : Bool) : Body :=
  { s with frame := { s.frame with plan := { s.frame.next with frame := s.frameNo, carried := ovr }, next := s.planNew } }

/-- Cycle N − 128 (R16, R18): the seal phase begins, the copies of the frame are chosen (R237), the plan of the next frame is frozen with
the Simmer level that applies to it. -/
def planFreeze (s : Body) : Body :=
  if !s.framesRun || s.frame.sealing then s
  else
    let s := { s with frame := { s.frame with sealing := true } }.resyncCopy
    let lvl := s.get F.TH_STATUS_LEVEL
    { s with frame := { s.frame with next := { s.frame.next with frozen := true, pause := pauseOf lvl } }, th := { s.th with planLevel := lvl } }

/-! ## The tick (R18) -/

/-- A retraining channel issues commands again from the tick after it (R156). -/
def holdsEnd (s : Body) : Body :=
  s.forEach s.mdChans fun s c => if (s.mdCh c).hold then s.setMdCh c { s.mdCh c with hold := false } else s

/-- A frame that begins at a Simmer level above 0 is throttled (R428). -/
def throttleTick (s : Body) : Body := if 1 ≤ s.get F.TH_STATUS_LEVEL then s.inc F.TH_COUNT_FRAMES_THROTTLED else s

/-- The frame interrupt is set on every core with FRAME_IE (R366). -/
def frameInterrupt (s : Body) : Body :=
  s.forEach ((List.range 16).filter fun k => s.flag (F.EVQ_CTL_FRAME_IE k)) fun s k => (s.putBit F.DX_FRAME_ACK_ACK k true).coreWake k

/-- The takeover of R232 ends with the first admission; entries left from the other controller are sorted then (R333). -/
def takeoverEnd (s : Body) : Body :=
  let was := s.twin.takeover
  let s := s.takeoverTick
  if was && !s.twin.takeover then s.catchUpSort else s

/-- Domain time moves on, the ended frame's batch and overruns are settled (R21, R22, R38, R226). -/
def tickTime (s : Body) (t : TickObs) : Body :=
  let f := s.frameNo
  let s := (s.cutChange).timeTick t.steer
  let s := { s with frame := { s.frame with sealing := false } }
  let r := s.sealTick f
  let ovr := t.overrun || r.2
  ((r.1.overrunCount ovr).cutApply).planTurn ovr

/-- Levels and limits of the new frame (R129, R182, R200), the twin's count of missed frames, then the grant (R190). -/
def tickGrant (s : Body) (f : Nat) : Body :=
  let s := ((s.budgetTick).levelTick).vaultTick
  let s := s.twinTick f
  let s := if s.unit U.persist == .stopping then { s with per := { s.per with stopWait := true } } else s
  s.creditTick

/-- The fixed work of cycle 0, commit points first (R18), then what the units start with the frame. -/
def tickWork (s : Body) (t : TickObs) : Body :=
  let s := (((s.commitTick).takeoverEnd).flushTick).queuesTick
  let s := (((s.holdsEnd).wbTick).nrrIssue).slotsRetry
  let s := ((s.schedTick).markTick).admitAll
  let s := (s.jobTick t.blocks0 t.blocks1).throttleTick
  s.frameInterrupt.later .ports

/-- The tick that ends a frame and begins the next. -/
def frameTick (s : Body) (t : TickObs) : Body :=
  if !s.framesRun then s
  else
    let f := s.frameNo
    ((s.tickTime t).tickGrant f).tickWork t

end Body

/-- FRAME_TICK (R16, R18): whether planned flexible work was left, what the discipline loop adds, the job blocks done in the frame. -/
def execFrameTick (t : TickObs) (s : State) : Host.Outcome State Fault Refusal := s.runU (·.frameTick t)

/-- PLAN_FREEZE (R18). -/
def execPlanFreeze (s : State) : Host.Outcome State Fault Refusal := s.runU (·.planFreeze)

/-- ADMISSION_CUT_CHANGE (R22): the change of level that is due takes effect at the tick that has just begun. -/
def execAdmissionCutChange (s : State) : Host.Outcome State Fault Refusal :=
  s.runU fun b => if b.frame.cutDue = 0 then b else ((b.cutChange).cutApply).grantSet.admitAll

end Sys2Proof.Machine
end

