-- ==== Sys2Proof/Machine/Written.lean ====
section
/-! DEFINITION. What follows the fields that a register write takes (R7, R29 and the register rules of each chapter): requests, refused
values that are undone, snapshots, and the commands that WO fields carry. -/

namespace Sys2Proof.Machine

/-- A register write whose fields have been judged: the actor, the register, the word written, the WO bits taken, the state before. -/
structure Written where
  actor : Actor
  addr  : Nat
  value : Word
  wo    : Word
  old   : Body
  deriving DecidableEq, Repr

namespace Body

/-- Index of an address in an array of registers. -/
def arrayIx (a base stride n : Nat) : Option Nat :=
  if base ≤ a && (a - base) % stride == 0 && (a - base) / stride < n then some ((a - base) / stride) else none

/-- Whether a write takes a field. -/
def took (w : Written) (f : Fld) : Bool := f.addr == w.addr && w.old.takes w.actor f w.value

/-- Whether a WO field of one bit was written as one. -/
def pressed (w : Written) (f : Fld) : Bool := f.addr == w.addr && f.ofWord w.wo == 1

/-- Whether a write has changed a field. -/
def changed (s : Body) (w : Written) (f : Fld) : Bool := f.addr == w.addr && s.get f != w.old.get f

/-- ENABLE of a unit's control register, written, is a request (R29). -/
def wroteEnable (s : Body) (w : Written) : Body :=
  s.forEach ((List.range 80).filter fun u => match enableFld u with
    | some f => took w f
    | none => false) fun s u =>
    if ((enableFld u).map s.flag).getD false then s.unitEnable u else s.unitDisable u

/-- CONFIG and TIME (R52, R68, R73, R78, R460). -/
def wroteTime (s : Body) (w : Written) : Body :=
  let s := s.when (pressed w F.SLOT_CHECK_CHECK_A) (·.slotAsk .slotA)
  let s := s.when (pressed w F.SLOT_CHECK_CHECK_B) (·.slotAsk .slotB)
  let s := s.when (w.addr == A.CHANGE_CTL) fun s =>
    s.changeWrite (pressed w F.CHANGE_CTL_REQUEST) (pressed w F.CHANGE_CTL_CANCEL) (F.CHANGE_CTL_SOURCE_SLOT.ofWord w.wo)
  let s := s.when (pressed w F.SVN_COMMIT_COMMIT) svnCommit
  let s := s.when (s.changed w F.TIME_CTL_BEACON_EN && !s.flag F.TIME_CTL_BEACON_EN) fun s =>
    { s with time := { s.time with leaving := true } }
  if !s.changed w F.TIME_CTL_FREEZE then s
  else if s.flag F.TIME_CTL_FREEZE then s.referenceLost else { s with time := { s.time with regain := true } }

/-- NEARCACHE and STOCKPOT (R118, R120, R134, R143, R145, R146). -/
def wroteTiers (s : Body) (w : Written) : Body :=
  let s := s.when (w.addr == A.NC_OP_CTL) fun s =>
    let whole := pressed w F.NC_OP_CTL_WHOLE
    match F.NC_OP_CTL_OP.ofWord w.wo with
    | 1 => s.ncOpStart .flush whole
    | 2 => s.ncOpStart .invalidate whole
    | 3 => s.ncOpStart .flushInvalidate whole
    | _ => s
  let s := s.when (took w F.NC_MR_SEL_INDEX) fun s => s.mrSnap (s.get F.NC_MR_SEL_INDEX)
  let s := s.when (took w F.NC_COL_SEL_INDEX) fun s => s.colSnap (s.get F.NC_COL_SEL_INDEX)
  let s := s.when (w.addr == A.SP_RT_CFG) rtPanic
  let s := s.when (pressed w F.SP_FILL_CTL_GO) (·.fillGo (F.SP_FILL_CTL_CH_MASK.ofWord w.wo))
  let s := s.when (pressed w F.SP_SCRUB_CTL_GO) scrubGo
  match arrayIx w.addr (A.SP_CH_CTL 0) 0x1000 12 with
  | some k =>
    let s := s.when (pressed w (F.SP_CH_CTL_THAW k)) (·.thaw k)
    s.when (pressed w (F.SP_CH_CTL_DECLARE_LOST k)) (·.lose k)
  | none => s

/-- MEDIA, MTL and PERSIST with the partitions (R88, R101, R156, R174, R184, R208). -/
def wroteStore (s : Body) (w : Written) : Body :=
  let s := match arrayIx w.addr (A.MD_CTL 0) 0x800 32 with
    | some k => s.when (pressed w (F.MD_CTL_FORMAT k)) (·.mdFormat k ((F.MD_CTL_FORMAT_PKG k).ofWord w.wo))
    | none => s
  let s := s.when (pressed w F.MTL_CTL_MAP_FLUSH) mapFlushAll
  let s := s.when (w.addr == A.MTL_UNTRUST_CLR && w.wo != 0) (·.ruleClear (F.MTL_UNTRUST_CLR_MASK.ofWord w.wo))
  let s := s.when (took w F.XLATE_ADDR_LINE) fun s => s.xlateSnap (s.get F.XLATE_ADDR_LINE)
  let s := s.when (pressed w F.PERSIST_CTL_ACCEPT_LOSS) acceptLoss
  match arrayIx w.addr (A.PART_CTL 0) 0x20 256 with
  | some k => s.when (took w (F.PART_CTL_PLACE_MODE k)) (·.placeModeSettle k (w.old.get (F.PART_CTL_PLACE_MODE k)))
  | none => s

/-- TWIN and CXLPORT (R233, R240, R249, R258, R264). -/
def wrotePorts (s : Body) (w : Written) : Body :=
  let s := s.when (pressed w F.TWIN_CTL_HANDOFF) handoffAsk
  let s := s.when (pressed w F.TWIN_CTL_FORCE_SOLO) forceSolo
  let s := match arrayIx w.addr (A.CXP_CTL 0) 0x1000 16 with
    | some p => s.when (s.changed w (F.CXP_CTL_LINK_DISABLE p) && s.flag (F.CXP_CTL_LINK_DISABLE p)) (·.cxlDown p)
    | none => s
  let s := match arrayIx w.addr (A.CXP_CREDIT 0) 0x1000 16 with
    | some p => s.when (took w (F.CXP_CREDIT_RD_QUOTA p)) (·.quotaSettle p (w.old.get (F.CXP_CREDIT_RD_QUOTA p)))
    | none => s
  match arrayIx w.addr (A.CXP_HDM_SEL 0) 0x1000 16 with
  | some p => s.when (took w (F.CXP_HDM_SEL_LD p)) (·.hdmSnap p)
  | none => s

/-- RDMA (R285, R292, R293). -/
def wroteRdma (s : Body) (w : Written) : Body :=
  let s := s.when (took w F.RDMA_DOORBELL_QPN && s.isOn U.rdma) (·.reqPump (F.RDMA_DOORBELL_QPN.ofWord w.wo))
  let s := s.when (took w F.RDMA_PEEK_SEL_KIND) rdmaPeek
  let i := F.RDMA_CMD_INDEX.ofWord w.wo
  if w.addr != A.RDMA_CMD then s
  else match F.RDMA_CMD_OP.ofWord w.wo with
    | 1 => s.rdmaBegin i (·.rdmaConnect i)
    | 2 => s.rdmaBegin i (·.rdmaAccept i)
    | 3 => s.rdmaBegin i (·.rdmaReject i)
    | 4 => s.rdmaBegin i (·.rdmaDisconnect i)
    | 5 => s.rdmaBegin i (·.regCreate i)
    | 6 => s.rdmaBegin i (·.regDereg i)
    | 7 => s.rdmaBegin i (·.trigCmd i)
    | 8 => s.rdmaBegin i (·.pdSet i)
    | _ => s

/-- RAMEKIN (R296, R299, R301, R302, R304, R311). -/
def wroteRamekin (s : Body) (w : Written) : Body :=
  let s := match arrayIx w.addr (A.RK_POOL_CFG 0) 8 6 with
    | some p => s.when (took w (F.RK_POOL_CFG_MIB p)) (·.rkCfgWritten p (w.old.get (F.RK_POOL_CFG_MIB p)))
    | none => s
  let s := match arrayIx w.addr (A.RK_MIN 0 0) 8 96 with
    | some k => s.when (took w (F.RK_MIN_MIN (k / 6) (k % 6))) (·.rkMinWritten (k / 6) (k % 6) (w.old.get (F.RK_MIN_MIN (k / 6) (k % 6))))
    | none => s
  let s := match arrayIx w.addr (A.RK_ALLOC 0) 8 16 with
    | some n => s.when (took w (F.RK_ALLOC_SIZE n))
        (·.rkAllocPort n ((F.RK_ALLOC_SIZE n).ofWord w.wo) ((F.RK_ALLOC_OWNER n).ofWord w.wo) ((F.RK_ALLOC_SEQ n).ofWord w.wo) false)
    | none => s
  let s := match arrayIx w.addr (A.RK_FREE 0) 8 16 with
    | some n => s.when (took w (F.RK_FREE_HANDLE n))
        (·.rkFree ((F.RK_FREE_HANDLE n).ofWord w.wo) ((F.RK_FREE_OWNER n).ofWord w.wo) (pressed w (F.RK_FREE_FORCE n)))
    | none => s
  let s := s.when (pressed w F.RK_REBUILD_GO) (·.rkRebuild (F.RK_REBUILD_POOL.ofWord w.wo))
  s.when (took w F.RK_PEEK_SEL_POOL) rkPeek

/-- QUEUE (R305, R306, R309 to R311). -/
def wroteQueue (s : Body) (w : Written) : Body :=
  let s := s.when (took w F.Q_CFG_SEL_QUEUE) qShow
  let s := s.when (took w F.Q_CFG_BASE) fun s => s.qConfigure (s.get F.Q_CFG_SEL_QUEUE) w.value
  let s := s.when (took w F.Q_WIN_SEL_QUEUE) qWinSnap
  let s := match arrayIx w.addr (A.Q_PUSH 0) 0x40 256 with
    | some k => s.when (took w (F.Q_PUSH_WORD k)) (·.qPush k w.value)
    | none => s
  match arrayIx w.addr (A.Q_FLUSH 0) 0x40 256 with
  | some k => s.when (pressed w (F.Q_FLUSH_FLUSH k)) (·.qFlushSlot k)
  | none => s

/-- SCHED and CIPHER (R317, R338, R339, R341, R347, R350, R353, R356, R358, R361). The package of a key install, and a debug submission,
have rows of their own: what their checks find comes with those commands. -/
def wroteKeys (s : Body) (w : Written) : Body :=
  let s := if w.addr != A.SCHED_TBL_CMD then s else match F.SCHED_TBL_CMD_OP.ofWord w.wo with
    | 1 => s.tblWrite
    | 2 => s.tblSnapshot
    | 3 => s.tblCancel
    | _ => s
  let s := s.when (w.addr == A.KEY_CMD && F.KEY_CMD_OP.ofWord w.wo == 2) keyDiscard
  let s := s.when (took w F.KEY_SLOT_SEL_SLOT) fun s => s.keySlotSnap (s.get F.KEY_SLOT_SEL_SLOT)
  let s := if w.addr != A.FUSE_CMD then s else match F.FUSE_CMD_OP.ofWord w.wo with
    | 1 => s.fuseProgram (F.FUSE_CMD_SLOT.ofWord w.wo)
    | 2 => s.fuseRevoke (F.FUSE_CMD_SLOT.ofWord w.wo)
    | _ => s
  let s := s.when (took w F.UNTRUST_SEL_ENTRY) fun s => s.untrustSnap (s.get F.UNTRUST_SEL_ENTRY)
  let s := if w.addr != A.UNTRUST_CMD then s else match F.UNTRUST_CMD_OP.ofWord w.wo with
    | 1 => s.untrustSet
    | 2 => s.untrustClr (F.UNTRUST_CMD_ENTRY.ofWord w.wo)
    | _ => s
  let s := s.when (pressed w F.FW_MEASURE_CMD_EXTEND) fwExtend
  let s := s.when (pressed w F.DBG_CTL_NEW_CHALLENGE) dbgChallenge
  match arrayIx w.addr (A.JOB_GO 0) 0x80 2 with
  | some q =>
    let s := s.when (pressed w (F.JOB_GO_ABORT q)) (·.jobAbort q)
    s.when (pressed w (F.JOB_GO_GO q) && (s.get (F.JOB_OP_OP q) == 1 || s.get (F.JOB_OP_OP q) == 2)) (·.jobGo q)
  | none => s

/-- MTIP of a core follows its mtimecmp (R366). -/
def mtipLook (s : Body) (k : Nat) : Body :=
  let on : Bool := s.mtime ≥ s.get (F.DX_MTIMECMP_CMP k)
  let s := (s.setCore k { s.core k with mtip := on }).when on (·.coreWake k)
  s.coreRegs k

/-- DEXITH and CFLASH (R365, R366, R369, R371, R376). DX_IPI and DX_IPI_CLR show the same bits. -/
def wroteCores (s : Body) (w : Written) : Body :=
  let s := s.when (w.addr == A.DX_IPI) fun s =>
    (s.setWord A.DX_IPI_CLR (s.word A.DX_IPI)).forEach ((List.range 16).filter (nbit (s.get F.DX_IPI_PENDING))) coreWake
  let s := s.when (w.addr == A.DX_IPI_CLR) fun s => s.setWord A.DX_IPI (s.word A.DX_IPI_CLR)
  let s := match arrayIx w.addr (A.DX_CORE_CTL 0) 0x40 16 with
    | some k =>
      let s := if !took w (F.DX_CORE_CTL_RUN k) then s else if s.flag (F.DX_CORE_CTL_RUN k) then s.coreRun k else s.coreStop k
      let s := s.when (pressed w (F.DX_CORE_CTL_RESET k)) (·.coreRestart k)
      let s := s.when (pressed w (F.DX_CORE_CTL_TCM_CLEAR k)) fun s => s.putCore k { s.core k with clearing := true }
      s.when (pressed w (F.DX_CORE_CTL_NMI k)) (·.coreNmi k)
    | none => s
  let s := match arrayIx w.addr (A.DX_MTIMECMP 0) 0x40 16 with
    | some k => s.mtipLook k
    | none => s
  let s := match arrayIx w.addr (A.EVQ_CTL 0) 0x80 16 with
    | some k =>
      let s := s.when (pressed w (F.EVQ_CTL_FLUSH k)) (·.evqFlush k)
      s.when (s.flag (F.EVQ_CTL_IE k) && !(s.core k).fifo.isEmpty) (·.coreWake k)
    | none => s
  if w.addr != A.CF_CMD then s
  else match F.CF_CMD_OP.ofWord w.wo with
    | 1 => s.cfCommand .program
    | 2 => s.cfCommand .erase
    | 3 => s.cfCommand .hash
    | _ => s

/-- RACK and SPIKE (R397, R398, R401, R402, R404, R405). The submission of a clear has a row of its own. -/
def wroteRecords (s : Body) (w : Written) : Body :=
  let s := s.when (took w F.RACK_RD_ADDR_GROUP) fun s => s.rackSnap (s.get F.RACK_RD_ADDR_GROUP) .good
  let s := s.when (w.addr == A.RACK_FW_CMD && w.wo != 0) (·.rackFw (F.RACK_FW_CMD_GROUP.ofWord w.wo) (F.RACK_FW_CMD_COUNT.ofWord w.wo))
  let s := if !took w F.SPK_CTL_FREEZE then s else if s.flag F.SPK_CTL_FREEZE then s.spkFreeze else s.spkUnfreeze
  let s := s.when (pressed w F.SPK_CTL_FLUSH) (·.spkFlush false)
  let s := s.when (pressed w F.SPK_CLR_CTL_NEW_CHALLENGE) clrChallenge
  let s := match arrayIx w.addr (A.SPK_W_CURSOR 0) 0x100 2 with
    | some k => s.when (took w (F.SPK_W_CURSOR_SEQ k)) (·.spkSetCursor k w.value.toNat)
    | none => s
  match arrayIx w.addr (A.SPK_W_STEP 0) 0x100 2 with
  | some k => s.when (pressed w (F.SPK_W_STEP_STEP k)) (·.spkStep k)
  | none => s

/-- HOB, THERMAL, BOOT and STATE (R413, R414, R416, R420, R427, R433, R435, R436, R437). -/
def wrotePower (s : Body) (w : Written) : Body :=
  let s := if w.addr != A.HOB_REQ then s else match F.HOB_REQ_OP.ofWord w.wo with
    | 1 => s.hobOnReq
    | 2 => s.hobOffReq .request
    | _ => s
  let s := match arrayIx w.addr (A.HOB_RAIL_CTL 0) 0x40 24 with
    | some r =>
      let s := s.when (pressed w (F.HOB_RAIL_CTL_RETRY r)) (·.railRetry r)
      s.when (pressed w (F.HOB_RAIL_CTL_SKIP_WAIT r)) (·.railSkip r)
    | none => s
  let s := match arrayIx w.addr (A.HOB_RST 0) 8 8 with
    | some n => s.when (pressed w (F.HOB_RST_PULSE n) || s.flag (F.HOB_RST_HOLD n)) (·.rstAssert n)
    | none => s
  let s := s.when (w.addr == A.TH_CTL) thLevels
  let s := s.when (pressed w F.STATE_CMD_SNAP) (·.stateSnap false [])
  let s := s.when (pressed w F.BOOT_WDT_KICK_KICK) wdtKick
  let s := s.when (pressed w F.BOOT_CTL_WARM_RESTART) warmRestart
  s.when (pressed w F.BOOT_CTL_SYSTEM_RESET) (·.sysReset 2)

/-- What follows a register write but the requests of ENABLE, by the block that holds the register (R33). -/
def wroteRest (s : Body) (w : Written) : Body :=
  match blockOf w.addr with
  | none => s
  | some b =>
    if b ≤ 2 then s.wroteTime w
    else if b ≤ 4 then s.wroteTiers w
    else if b ≤ 7 then s.wroteStore w
    else if b ≤ 9 then s.wrotePorts w
    else if b = 10 then s.wroteRdma w
    else if b = 11 then s.wroteRamekin w
    else if b = 12 then s.wroteQueue w
    else if b ≤ 14 then s.wroteKeys w
    else if b ≤ 16 then s.wroteCores w
    else if b ≤ 18 then s.wroteRecords w
    else s.wrotePower w

/-- What follows a register write. -/
def written (s : Body) (w : Written) : Body := (s.wroteEnable w).wroteRest w

/-- A full-width write of a register of CSPACE: judged field by field (R11), then acted on. -/
def writeReg (s : Body) (actor : Actor) (a : Nat) (value : Word) : Body :=
  let r := s.judge actor a value
  match findReg a with
  | none => r.1
  | some _ => r.1.written { actor := actor, addr := a, value := value, wo := r.2, old := s }

/-- A host's write through its management window (R262, R402): the window of the Spike takes CURSOR and STEP. -/
def writeWindow (s : Body) (p k off : Nat) (value : Word) : Body :=
  let actor := Actor.host p k
  let own := !s.blocked 18 actor
  if off = 0x1000 then
    if own then s.spkSetCursor (spkWin actor) value.toNat else s.violation actor off
  else if off = 0x1008 then
    if value.getLsbD 0 then (if own then s.spkStep (spkWin actor) else s.violation actor off) else s
  else if off = 0x1010 || (0x1040 ≤ off && off < 0x1080) then s
  else match s.windowReg p k off with
    | some a => s.writeReg actor a value
    | none => s.violation actor off

/-- A write that reaches the register block (R5, R33): one narrower than 64 bits or misaligned is discarded. -/
def writeAny (s : Body) (actor : Actor) (addr nbytes : Nat) (value : Word) : Body :=
  if nbytes != 8 || addr % 8 != 0 then s.violation actor addr
  else match actor with
    | .host p k => s.writeWindow p k addr value
    | _ => s.writeReg actor addr value

end Body

end Sys2Proof.Machine
end

