-- ==== Sys2Proof/Machine/ExecChange.lean ====
section
/-! DEFINITION. The structure change in service (R65, R73 to R76): its commands and what applies at the tick of A. -/

namespace Sys2Proof.Machine

namespace Body

/-- The bits of a REGDEF entry that the old image does not hold alike, field by field (R65). -/
def regdefDelta (old : List RegDefEntry) (e : RegDefEntry) : RegDefEntry :=
  match findReg e.addr with
  | none => { e with mask := 0 }
  | some r =>
    let fresh := (Img.regdefFields r).foldl (fun m f =>
      let bits := (2 ^ f.w - 1) * 2 ^ f.lo
      let same := old.any fun o => o.addr == e.addr && o.mask &&& bits == bits && o.value &&& bits == e.value &&& bits
      if same then m else m ||| bits) 0
    { e with mask := e.mask &&& fresh }

/-- A register that the new image alters takes its fields, with what follows such a write; an ENABLE that changes is a request. -/
def regdefTake (s : Body) (e : RegDefEntry) : Body :=
  let t := s.regdefSet e
  let w : Written := { actor := .firmware, addr := e.addr, value := t.word e.addr, wo := 0, old := s }
  if t.word e.addr = s.word e.addr then s
  else
    let flips := (List.range 80).any fun u => match enableFld u with
      | some f => f.addr == e.addr && t.get f != s.get f
      | none => false
    (t.when flips (·.wroteEnable w)).wroteRest w

/-- Logical devices whose partition changes its size rebuild their CDAT (R258). -/
def cdatLook (s : Body) (old : List PartDef) : Body :=
  s.forEach (List.range s.cxlPortCount) fun s p => s.forEach (List.range (s.ldCount p)) fun s k =>
    let was := old.find? fun d => nbit d.flags 0 && d.port == p && d.ld == k
    if (was.map (·.size)) == (s.ldPart p k).map (·.size) then s else s.cdatBump p k

/-- The tick of A (R73, R76): the new image becomes the loaded image, admission resumes, the refusals are lifted. -/
def changeApply (s : Body) : Body :=
  if s.changeState != 3 || s.frameNo < s.get F.CHANGE_FRAME_APPLY then s
  else match s.cfg.newImg with
    | none => s
    | some i =>
      let old := s.cfg.img.qui
      let (slot, root) := (s.cfg.changeSlot, s.cfg.newRoot)
      let s := { s with cfg := { s.cfg with img := i, sram := s.cfg.newSram } }
      let s := ((s.put F.CONFIG_STATUS_SLOT slot).put F.CONFIG_STATUS_ROOT_SLOT root).imageRegs
      let s := (s.partRegs).ldRegs.put F.FLUSH_PARAM_E_HOLDUP_MJ i.qui.holdupMj
      let s := (s.cdatLook old.parts).forEach (i.qui.regdefs.map (regdefDelta old.regdefs)) regdefTake
      let s := (s.quotaFix.when (s.isOn U.mtl) bringUp).pinRegs.sourcesLook
      let s := (s.put F.CHANGE_APPLIED_FRAME s.frameNo).changeEnd 4 0 F.CONFIG_EVENTS_CHANGE_APPLIED
      ((s.grantSet).admitAll).later .ports

end Body

/-- CHANGE_REQUEST (R73): a write of CHANGE_CTL with REQUEST, and CANCEL when `cancel` says so. -/
def execChangeRequest (actor : Actor) (slot : Nat) (cancel : Bool) (s : State) : Host.Outcome State Fault Refusal :=
  s.runU (·.command actor A.CHANGE_CTL (1 + 2 * b2n cancel + 4 * (slot % 2)) (·.changeWrite true cancel (slot % 2)))

/-- CHANGE_CANCEL (R73). -/
def execChangeCancel (actor : Actor) (s : State) : Host.Outcome State Fault Refusal :=
  s.runU (·.command actor A.CHANGE_CTL 2 (·.changeCancel))

/-- CHANGE_CHECK_DONE (R73). -/
def execChangeCheckDone (v : SlotVerdict) (s : State) : Host.Outcome State Fault Refusal := s.runU (·.changeChecked v)

/-- CHANGE_AGREEMENT_CHECK (R73). -/
def execChangeAgreementCheck (s : State) : Host.Outcome State Fault Refusal := s.runU (·.changeAgree)

/-- CHANGE_QUIESCE (R73, R74): admission stops with the tick of A − 2. -/
def execChangeQuiesce (s : State) : Host.Outcome State Fault Refusal :=
  s.runU fun b => if b.changeState = 2 then b.changeQuiesce.grantSet else b

/-- CHANGE_APPLY (R73, R76). -/
def execChangeApply (s : State) : Host.Outcome State Fault Refusal := s.runU (·.changeApply)

end Sys2Proof.Machine
end

