-- ==== Sys2Proof/Machine/Read.lean ====
section
/-! DEFINITION. What a register reads as (R5, R7, R10, R33): the register file, the live fields that other state gives, zero for WO fields
and outside every register map. -/

namespace Sys2Proof.Machine

namespace Body

/-- MiB that sectors fill, rounded up. -/
def sectorMib (n : Nat) : Nat := cdiv (64 * n) (2 ^ 20)

/-- Blocks of the Stockpot with their channel. -/
def allBlocks (s : Body) : List (Nat × SpBlock) := s.sp.ch.flatMap fun x => x.2.blocks.map fun b => (x.1, b.2)

/-- DIRTY sectors of the blocks that a test picks. -/
def dirtyWhere (s : Body) (p : Nat × SpBlock → Bool) : Nat := sum ((s.allBlocks.filter p).map fun b => (bitsOf b.2.dirty).length)

/-- Free and retired slots of a package, the least wear of a free one and the highest wear (R167, R183). -/
def spareOf (s : Body) (k pos : Nat) : Nat × Nat × Nat × Nat :=
  match mget (s.mdCh k).pkgs pos with
  | none => (0, 0, 0, 0)
  | some p =>
    let l := s.slotsOf k pos
    let gone := (l.filter fun x => x.2.used || x.2.retired).length
    let free := l.filter fun x => !x.2.used && !x.2.retired
    let low := if l.length < p.slots then 0 else (free.map (·.2.wear)).foldl min 0xFFFFFFFF
    (p.slots - gone, (l.filter (·.2.retired)).length, low, (l.map (·.2.wear)).foldl max 0)

/-- Live fields of CONFIG, NEARCACHE and STOCKPOT (R76, R105, R121, R148). -/
def liveTiers (s : Body) (a : Nat) : List (Fld × Nat) :=
  if a = A.CONFIG_READ_DATA then [(⟨a, 0, 64⟩, (mgetD s.cfg.sram (s.get F.CONFIG_READ_ADDR_WORD) 0).toNat)]
  else if a = A.NC_STATUS then
    [(F.NC_STATUS_MR_BUSY, s.nc.mrs.length), (F.NC_STATUS_COL_BUSY, s.nc.col.length), (F.NC_STATUS_DIRTY_LINES, s.ncDirty)]
  else if A.NC_WAY_MASK 0 ≤ a && a ≤ A.NC_WAY_MASK 15 then
    let k := (a - A.NC_WAY_MASK 0) / 8
    [(F.NC_WAY_MASK_EFFECTIVE k, s.classMask k)]
  else if a = A.SP_CAPACITY then
    [(F.SP_CAPACITY_DIMM_GIB, sum ((List.range 12).map fun k => if s.isOn (U.sp k) then s.get (F.SP_CH_DIMM_GIB k) else 0))]
  else match (List.range 12).find? (fun k => a == A.SP_CH_STATUS k) with
    | some k => [(F.SP_CH_STATUS_DIRTY_MIB k, sectorMib (s.dirtyWhere fun b => b.1 == k))]
    | none => []

/-- Live fields of MEDIA, MTL and PERSIST (R100, R183, R184, R210). -/
def liveMedia (s : Body) (a : Nat) : List (Fld × Nat) :=
  if a = A.MTL_STATUS then [(F.MTL_STATUS_MAP_DIRTY, s.dirtyMap.length)]
  else if a = A.PERSIST_STATUS then [(F.PERSIST_STATUS_SOLO_DURABLE, b2n (s.role == .solo))]
  else if a = A.MTL_PROG_CFG then [(F.MTL_PROG_CFG_INFLIGHT, s.inFlight fun _ => true)]
  else match (List.range 256).find? (fun k => a == A.MTL_PART_RES k) with
    | some k =>
      [(F.MTL_PART_RES_SP_MIB k, cdiv (4096 * (s.allBlocks.filter fun b => b.2.part == k).length) (2 ^ 20)),
       (F.MTL_PART_RES_DIRTY_MIB k, sectorMib (s.dirtyWhere fun b => b.2.part == k))]
    | none =>
      if a < 0x60000 || 0x70000 ≤ a then [] else
      let k := (a - 0x60000) / 0x800
      let pos := if a = A.MD_SPARE_1 k || a = A.MD_WEAR_1 k then 1 else 0
      let (free, gone, low, high) := s.spareOf k pos
      if a = A.MD_STATUS k then [(F.MD_STATUS_PROG_INFLIGHT k, s.inFlight fun o => o.ch == k)]
      else if a = A.MD_SPARE_0 k || a = A.MD_SPARE_1 k then [(⟨a, 0, 32⟩, free), (⟨a, 32, 32⟩, gone)]
      else if a = A.MD_WEAR_0 k || a = A.MD_WEAR_1 k then [(⟨a, 0, 32⟩, low), (⟨a, 32, 32⟩, high)]
      else []

/-- The head item of the queue a slot serves (R306, R307, R313): an unbound slot, or one of an engine's queue, reads zero. -/
def liveSlot (s : Body) (k a : Nat) : List (Fld × Nat) :=
  if !s.flag (F.Q_BIND_BOUND k) then []
  else
    let q := s.queue (s.get (F.Q_BIND_QUEUE k))
    let popped := qPopped q
    let head := q.words.take (q.item - popped)
    if a = A.Q_PEEK k then [(F.Q_PEEK_WORD k, (q.words.head?.map fun w => w.data.toNat).getD 0)]
    else if a = A.Q_HEAD k then
      [(F.Q_HEAD_EMPTY k, b2n q.words.isEmpty), (F.Q_HEAD_GAP k, b2n ((q.words.head?.map (·.gap)).getD false)),
       (F.Q_HEAD_POISON k, b2n (head.any (·.bad))), (F.Q_HEAD_WORDS_POPPED k, popped), (F.Q_HEAD_WORDS k, q.words.length)]
    else []

/-- Live fields of CIPHER, DEXITH and CFLASH (R361, R368, R369, R384, R385). -/
def liveCores (s : Body) (a : Nat) : List (Fld × Nat) :=
  if a = A.CF_STATUS then [(F.CF_STATUS_WP_LOCKED, s.get F.CF_WP_CTL_LOCK)]
  else if 0x110c00 ≤ a && a < 0x110c60 then [(⟨a, 0, 64⟩, (Config.kaPub ((a - 0x110c00) / 8)).toNat)]
  else if 0x120800 ≤ a && a < 0x121000 then
    let k := (a - 0x120800) / 0x80
    let x := s.core k
    let w := (x.fifo.head?.map EvqEntry.words).getD []
    if a = A.EVQ_STATUS k then [(F.EVQ_STATUS_COUNT k, x.fifo.length), (F.EVQ_STATUS_GAP_PENDING k, b2n (x.gapN != 0))]
    else match (List.range 4).find? (fun i => a == A.EVQ_PEEK k i) with
      | some i => [(⟨a, 0, 64⟩, (w.getD i 0).toNat)]
      | none => []
  else []

/-- Live fields of RACK and SPIKE (R392, R402, R407, R408). -/
def liveRecords (s : Body) (a : Nat) : List (Fld × Nat) :=
  let seqs := s.spkHeld.map (·.seq)
  if a = A.RACK_STATUS then
    [(F.RACK_STATUS_SUPPLY_HOLD, b2n s.rackSupplyHold), (F.RACK_STATUS_TEMP_HOLD, b2n s.rackTempHold),
     (F.RACK_STATUS_PENDING, s.rack.queue.length), (F.RACK_STATUS_AON_MV, s.rack.aonMv)]
  else if a = A.RACK_OPSEC then [(F.RACK_OPSEC_SECONDS, s.counter 0)]
  else if a = A.RACK_PWRCYC then [(F.RACK_PWRCYC_CYCLES, s.counter 1)]
  else if a = A.RACK_LOSS then [(F.RACK_LOSS_DIRTY_SHUTDOWNS, s.counter 3)]
  else if a = A.SPK_STATUS then
    [(F.SPK_STATUS_UNFLUSHED, s.spk.unfl), (F.SPK_STATUS_FROZEN, b2n s.spk.frozen), (F.SPK_STATUS_FLUSHING, b2n s.spk.flushing.isSome),
     (F.SPK_STATUS_CLEARING, b2n s.spk.clearing.isSome), (F.SPK_STATUS_SIDE_HELD, s.spk.side.length)]
  else if a = A.SPK_MISSED then [(F.SPK_MISSED_MISSED_WHILE_FROZEN, s.spk.missed), (F.SPK_MISSED_SIDE_FULL, s.spk.sideFull)]
  else if a = A.SPK_OLDEST then [(F.SPK_OLDEST_SEQ, (seqs.foldl (fun b x => some (min (b.getD x) x)) none).getD 0)]
  else if a = A.SPK_NEWEST then [(F.SPK_NEWEST_SEQ, seqs.foldl max 0)]
  else []

/-- The readback shadow of the register that SHADOW_SEL names (R439, R441). -/
def shadowWord (s : Body) (a : Nat) : Word :=
  let sel := 8 * s.get F.SHADOW_SEL_ADDR
  let x := mget s.rb.shadows sel
  if a = A.SHADOW_VALUE then (x.map (·.value)).getD 0
  else if a = A.SHADOW_SEQ then BitVec.ofNat 64 ((x.map (·.seq)).getD 0)
  else BitVec.ofNat 64 (b2n x.isSome + 2 * (x.map (·.actor)).getD 0 + sel)

/-- Live fields of a CXL port (R264): what moves with the queues, the read credits and the partitions. -/
def liveCxl (s : Body) (p a : Nat) : List (Fld × Nat) :=
  if a = A.CXP_STATUS p then [(F.CXP_STATUS_DEVLOAD p, s.devLoad p)]
  else if a = A.CXP_CREDIT p then
    [(F.CXP_CREDIT_RD_OUT p, (s.cxp p).reads.length), (F.CXP_CREDIT_RD_EFFECTIVE p, s.rdEffective p)]
  else if a = A.CXP_HELD p then [(F.CXP_HELD_HELD p, (s.cxp p).held.length)]
  else match (List.range 16).find? (fun k => a == A.CXP_LD p k) with
    | some k => [(F.CXP_LD_MEMORY_ACTIVE p k, b2n (k < s.ldCount p && s.memActive p k))]
    | none => []

/-- Live fields of TWIN that the frame period, the bitmap and the split log give (R241). -/
def liveTwin (s : Body) (a : Nat) : List (Fld × Nat) :=
  if a = A.TWIN_LINK then [(F.TWIN_LINK_LAT_LIMIT_NS, (s.periodNs - 300) / 2)]
  else if a = A.RESYNC_STATUS then [(F.RESYNC_STATUS_REMAINING, s.twin.resync.bitmap.length)]
  else if a = A.SPLIT_LOG then [(F.SPLIT_LOG_ENTRIES, s.twin.resync.log.length)]
  else []

/-- Live fields of TWIN, CXLPORT, HOB and of the access slots (R241, R264, R313, R428). -/
def liveRest (s : Body) (a : Nat) : List (Fld × Nat) :=
  if a < 0xb0000 then s.liveTwin a
  else if a < 0xc0000 then s.liveCxl ((a - 0xb0000) / 0x1000) a
  else if 0xf8000 ≤ a && a < 0xfc000 then s.liveSlot ((a - 0xf8000) / 0x40) a
  else match (List.range 8).find? (fun n => a == A.HOB_RST n) with
    | some n => [(F.HOB_RST_ASSERTED n, b2n (!s.hob.outs.contains n))]
    | none => []

/-- What a register of CSPACE reads as; reading changes nothing (R10). -/
def readReg (s : Body) (a : Nat) : Word :=
  match blockOf a with
  | none => 0
  | some b =>
    let live := if b ≤ 4 then s.liveTiers a else if b ≤ 7 then s.liveMedia a else if 14 ≤ b && b ≤ 16 then s.liveCores a
      else if b ≤ 13 || b = 19 then s.liveRest a else if b ≤ 18 then s.liveRecords a else []
    if 0x150100 ≤ a && a < 0x150300 then s.spkWindowWord ((a - 0x150100) / 0x100) (a % 0x100)
    else if a = A.SHADOW_VALUE || a = A.SHADOW_SEQ || a = A.SHADOW_INFO then s.shadowWord a
    else live.foldl (fun w x => x.1.insert w x.2) (s.word a)

/-- A read that reaches the register block (R5, R33): one narrower than 64 bits, misaligned or outside every register map returns zero
and posts a violation. A read of EVQ_POP or Q_POP consumes (R10). -/
def readAny (s : Body) (actor : Actor) (a nbytes : Nat) : Body × Word :=
  if nbytes != 8 || a % 8 != 0 || (findReg a).isNone then (s.violation actor a, 0) else (s, s.readReg a)

end Body

end Sys2Proof.Machine
end

