-- ==== Sys2Proof/Machine/ExecCore.lean ====
section
/-! DEFINITION. Memory accesses of the service cores and of a debugger (R362 to R365, R371), and register writes (R11). -/

namespace Sys2Proof.Machine

namespace Body

/-- What an address of a service core's map names (R363). -/
inductive CoreTarget where
  | tcm (core off : Nat) (own : Bool)
  | sram (off : Nat)
  | flash (off : Nat)
  | cspace (off : Nat)
  | ramekin (off : Nat)
  | nothing
  deriving DecidableEq, Repr

/-- The target of `n` bytes at an address of core `k`. -/
def coreTarget (s : Body) (k addr n : Nat) : CoreTarget :=
  let within := fun (base len : Nat) => decide (base ≤ addr ∧ addr + n ≤ base + len)
  let other := (addr - 0x2000000) / 0x80000
  if within 0x1000000 0x80000 then .tcm k (addr - 0x1000000) true
  else if within 0x2000000 0x800000 && within (0x2000000 + 0x80000 * other) 0x80000 then .tcm other ((addr - 0x2000000) % 0x80000) false
  else if within 0x4000000 0x800000 then .sram (addr - 0x4000000)
  else if within 0x10000000 0x10000000 then .flash (addr - 0x10000000)
  else if within 0x1000000000 0x2000000 then .cspace (addr - 0x1000000000)
  else if within 0x2000000000 (s.cfg.img.fix.ramekinGib * 2 ^ 30) then .ramekin (addr - 0x2000000000)
  else .nothing

/-- Bytes of the Ramekin region, little-endian (R294). -/
def rkLoad (s : Body) (off n : Nat) : Word := BitVec.ofNat 64 (Img.le s.rkByte off n)
/-- Store bytes in the Ramekin region. -/
def rkStore (s : Body) (off n : Nat) (v : Word) : Body :=
  s.forEach (List.range n) fun s i => s.setRkByte (off + i) (v.toNat / 256 ^ i % 256)

/-- A core's access to the Ramekin window (R363, R365): poison and a frozen channel answer with an access fault. -/
def rkAccess (s : Body) (k : Nat) (kind : CoreAcc) (addr off n : Nat) (data : Word) : Body :=
  let s := if kind == .load && s.rkReach off then s.rkSeen off else s
  let bad : Bool := !s.rkReach off || (kind == .load && (s.rkLine (off / 64)).2)
  if kind == .fetch || off % n != 0 then s.coreFault k kind addr
  else if bad then (s.raise U.dexith F.DX_EVENTS_RAMEKIN_POISON k).coreFault k kind addr
  else if kind == .store then s.rkStore off n data
  else s.send (.coreData k (s.rkLoad off n))

/-- A core's load of CSPACE: reading EVQ_POP or Q_POP takes the head away (R10). -/
def cspaceLoad (s : Body) (k a n : Nat) : Body :=
  let r := s.readAny .firmware a n
  match (List.range 16).find? (fun c => a == A.EVQ_POP c && n == 8), arrayIx a (A.Q_POP 0) 0x40 256 with
  | some c, _ => s.evqPop c
  | _, some q => if n == 8 then s.qPop q else r.1.send (.coreData k r.2)
  | none, none => r.1.send (.coreData k r.2)

/-- A memory access of a service core (R363 to R365). -/
def coreAccess (s : Body) (k : Nat) (kind : CoreAcc) (addr n : Nat) (data : Word) (ecc : Ecc) : Body :=
  if (s.core k).st != .running then s
  else match s.coreTarget k addr n with
    | .tcm t off own => if kind == .fetch && !own then s.coreFault k kind addr else s.tcmAccess k t kind addr off n data ecc
    | .sram off => s.sramAccess k kind addr off n data ecc
    | .flash off =>
      match kind with
      | .fetch => s.flashRead (.fetch k false) (off / 8 * 8)
      | .load => s.flashRead (.load k) (off / 8 * 8)
      | .store => s.coreFault k kind addr
    | .cspace off =>
      match kind with
      | .fetch => s.coreFault k kind addr
      | .load => s.cspaceLoad k off n
      | .store => s.writeAny .firmware off n data
    | .ramekin off => s.rkAccess k kind addr off n data
    | .nothing => s.coreFault k kind addr

/-- A debugger's abstract command on a halted core (R362, R371). Registers carry the numbers of the RISC-V debug specification: x0 reads
zero, 0x7B1 is the program counter, 0x342 mcause, 0x343 mtval, 0xFC0 the current frame number. -/
def dbgCommand (s : Body) (k : Nat) (c : DbgCmd) : Body :=
  let x := s.core k
  if !s.debugOpen || x.st != .halted then s
  else match c with
    | .readReg r =>
      s.send (.dbgData k (if r = 0x1000 then 0 else if r = 0x7B1 then x.pc else if r = 0x342 then x.mcause else if r = 0x343 then x.mtval
        else if r = 0xFC0 then BitVec.ofNat 64 s.frameNo else mgetD x.regs r 0))
    | .writeReg r v =>
      if r = 0x1000 || r = 0xFC0 then s
      else if r = 0x7B1 then s.putCore k { x with pc := v }
      else if r = 0x342 then s.setCore k { x with mcause := v }
      else if r = 0x343 then s.setCore k { x with mtval := v }
      else s.setCore k { x with regs := mput 0 x.regs r v }
    | .readMem addr =>
      match s.coreTarget k addr 8 with
      | .tcm t off _ => s.send (.dbgData k (memLoad (s.core t).tcm off 8))
      | .sram off => s.send (.dbgData k (memLoad s.dx.sram off 8))
      | .flash off => s.flashRead .debug (off / 8 * 8)
      | .cspace off => let r := s.readAny .firmware off 8; r.1.send (.dbgData k r.2)
      | .ramekin off =>
        let s := if s.rkReach off then s.rkSeen off else s
        s.send (.dbgData k (if s.rkReach off && !(s.rkLine (off / 64)).2 then s.rkLoad off 8 else 0))
      | .nothing => s.send (.dbgData k 0)
    | .writeMem addr v =>
      match s.coreTarget k addr 8 with
      | .tcm t off _ => s.tcmAccess k t .store addr off 8 v .good
      | .sram off => s.sramAccess k .store addr off 8 v .good
      | .cspace off => s.writeAny .firmware off 8 v
      | .ramekin off => if s.rkReach off then s.rkStore off 8 v else s
      | .flash _ => s
      | .nothing => s

end Body

/-- REGISTER_WRITE (R5, R11, R12, R33): a host's address is an offset in its management window (R262). -/
def execRegisterWrite (actor : Actor) (addr nbytes : Nat) (value : Word) (s : State) : Host.Outcome State Fault Refusal :=
  s.runU (·.writeAny actor addr nbytes value)

/-- CORE_MEMORY_ACCESS (R363). -/
def execCoreMemoryAccess (core : Nat) (kind : CoreAcc) (addr size : Nat) (data : Word) (ecc : Ecc) (s : State) :
    Host.Outcome State Fault Refusal :=
  s.runU (·.coreAccess core kind addr size data ecc)

/-- DEBUG_ABSTRACT_COMMAND (R371). -/
def execDebugAbstractCommand (core : Nat) (cmd : DbgCmd) (s : State) : Host.Outcome State Fault Refusal :=
  s.runU (·.dbgCommand core cmd)

end Sys2Proof.Machine
end

