-- ==== Sys2Proof/Machine/ExecCxl.lean ====
section
/-! DEFINITION. Commands of the CXL host ports (chapter 10). -/

namespace Sys2Proof.Machine

/-! ## CXL.mem (R248 to R252) -/

/-- MEM_RD (R248). -/
def execMemRd (port ld tag hpa : Nat) (obs : TierObs) (s : State) : Host.Outcome State Fault Refusal :=
  s.runU fun b => b.cxlReq port (.read ld tag hpa) (·.cxlRead port ld tag hpa obs)

/-- MEM_RD_DATA (R248). -/
def execMemRdData (port ld tag hpa : Nat) (obs : TierObs) (s : State) : Host.Outcome State Fault Refusal :=
  s.runU fun b => b.cxlReq port (.read ld tag hpa) (·.cxlRead port ld tag hpa obs)

/-- MEM_SPEC_RD (R248). -/
def execMemSpecRd (port ld hpa : Nat) (obs : TierObs) (s : State) : Host.Outcome State Fault Refusal := s.runU (·.cxlSpec port ld hpa obs)

/-- MEM_INV (R248). -/
def execMemInv (port ld tag : Nat) (s : State) : Host.Outcome State Fault Refusal :=
  s.runU fun b => b.cxlReq port (.noData ld tag) (·.cxlNoData port ld tag)

/-- MEM_INV_NT (R248). -/
def execMemInvNt (port ld tag : Nat) (s : State) : Host.Outcome State Fault Refusal :=
  s.runU fun b => b.cxlReq port (.noData ld tag) (·.cxlNoData port ld tag)

/-- MEM_CLN_EVCT (R248). -/
def execMemClnEvct (port ld tag : Nat) (s : State) : Host.Outcome State Fault Refusal :=
  s.runU fun b => b.cxlReq port (.noData ld tag) (·.cxlNoData port ld tag)

/-- MEM_WR (R248): every byte of the line. -/
def execMemWr (port ld tag hpa : Nat) (data : LineData) (s : State) : Host.Outcome State Fault Refusal :=
  s.runU (·.cxlRwd port ld tag hpa data Body.allBytes)

/-- MEM_WR_PTL (R248): the enabled bytes. -/
def execMemWrPtl (port ld tag hpa : Nat) (data : LineData) (mask : Mask) (s : State) : Host.Outcome State Fault Refusal :=
  s.runU (·.cxlRwd port ld tag hpa data mask)

/-- CXL_BAD_OPCODE (R248). -/
def execCxlBadOpcode (port : Nat) (s : State) : Host.Outcome State Fault Refusal :=
  s.runU fun b => if b.cxlUp port then b.cxlProtocol port else b

/-- GPF_PHASE_1 (R252). -/
def execGpfPhase1 (port tag : Nat) (s : State) : Host.Outcome State Fault Refusal :=
  s.runU fun b => if b.cxlUp port then b.send (.gpfDone port 1 tag) else b

/-- GPF_PHASE_2 (R252). -/
def execGpfPhase2 (port tag : Nat) (s : State) : Host.Outcome State Fault Refusal := s.runU (·.gpf2 port tag)

/-! ## Configuration, links, IDE (R247, R249, R259 to R264) -/

/-- HDM_DECODER_COMMIT (R247). -/
def execHdmDecoderCommit (port ld dec base size skip iw ig : Nat) (lock : Bool) (s : State) : Host.Outcome State Fault Refusal :=
  s.runU (·.hdmCommit port ld ⟨dec, base, size, skip, iw, ig, lock⟩)

/-- MEM_ENABLE_SET (R260). -/
def execMemEnableSet (port ld : Nat) (s : State) : Host.Outcome State Fault Refusal :=
  s.runU fun b => if b.ldUp port ld then ((b.ldMod port ld fun l => { l with memEnable := true }).ldShow port ld).cxpShow port else b

/-- CXL_LINK_UP (R260): the rate, the width and whether 256-byte flits were negotiated. -/
def execCxlLinkUp (port rate width : Nat) (flit : Bool) (s : State) : Host.Outcome State Fault Refusal :=
  s.runU (·.cxlLinkUp port rate width flit)

/-- CXL_LINK_DOWN (R261). -/
def execCxlLinkDown (port : Nat) (s : State) : Host.Outcome State Fault Refusal := s.runU (·.cxlDown port)

/-- CXL_FLR (R261). -/
def execCxlFlr (port ld : Nat) (s : State) : Host.Outcome State Fault Refusal := s.runU (·.cxlFlr port ld)

/-- IDE_MAC_FAIL (R259). -/
def execIdeMacFail (port : Nat) (s : State) : Host.Outcome State Fault Refusal := s.runU (·.ideFail port)

/-- IDE_KEY_EXCHANGE (R259): of the CXL.mem stream, or of the link IDE stream of CXL.io. -/
def execIdeKeyExchange (port : Nat) (io : Bool) (s : State) : Host.Outcome State Fault Refusal := s.runU (·.ideKeys port io)

/-- RD_QUOTA_WRITE (R249). -/
def execRdQuotaWrite (actor : Actor) (port quota : Nat) (s : State) : Host.Outcome State Fault Refusal :=
  s.runU (·.quotaWrite actor port quota)

/-- CXP_HDM_SNAPSHOT (R264). -/
def execCxpHdmSnapshot (actor : Actor) (port ld decoder : Nat) (s : State) : Host.Outcome State Fault Refusal :=
  s.runU (·.select actor (A.CXP_HDM_SEL port) (ld + 16 * decoder) (·.hdmSnap port))

/-! ## Mailbox (R255 to R257, R438) -/

/-- A mailbox command that only answers. -/
def Body.mboxAns (s : Body) (port ld op : Nat) (a : Body → CxlAns) : Body := (s.mboxOp port ld op).mbox port ld a

/-- IDENTIFY (R256). -/
def execIdentify (port ld : Nat) (s : State) : Host.Outcome State Fault Refusal := s.runU (·.mboxAns port ld 0x0001 fun _ => .identify)

/-- How far a background command has come: none, a percentage that the spec leaves open while it runs, or 100 (R256). -/
def Body.bgAns (s : Body) (port ld : Nat) : CxlAns :=
  let l := s.ldOf port ld
  .bgStatus l.scan.isSome (if l.scan.isSome then 1 + (Config.freeWord s.freeCtr).toNat % 99 else if l.bgDone then 100 else 0)

/-- BACKGROUND_OPERATION_STATUS (R256). -/
def execBackgroundOperationStatus (port ld : Nat) (s : State) : Host.Outcome State Fault Refusal :=
  s.runU fun b => (b.mboxAns port ld 0x0002 (·.bgAns port ld)).fresh

/-- GET_SUPPORTED_LOGS (R256). -/
def execGetSupportedLogs (port ld : Nat) (s : State) : Host.Outcome State Fault Refusal :=
  s.runU (·.mboxAns port ld 0x0400 fun _ => .supportedLogs)

/-- GET_LOG (R256): the command effects log alone. -/
def execGetLog (port ld : Nat) (effects : Bool) (s : State) : Host.Outcome State Fault Refusal :=
  s.runU (·.mboxAns port ld 0x0401 fun _ => if effects then .effectsLog else .invalid)

/-- GET_EVENT_RECORDS (R255). -/
def execGetEventRecords (port ld log : Nat) (s : State) : Host.Outcome State Fault Refusal :=
  s.runU (·.mboxAns port ld 0x0100 (·.eventsAns port ld log))

/-- CLEAR_EVENT_RECORDS (R255). -/
def execClearEventRecords (port ld log : Nat) (all : Bool) (handles : List Nat) (s : State) : Host.Outcome State Fault Refusal :=
  s.runU fun b => (b.mboxOp port ld 0x0101).eventsClear port ld log all handles

/-- GET_EVENT_INTERRUPT_POLICY (R255). -/
def execGetEventInterruptPolicy (port ld : Nat) (s : State) : Host.Outcome State Fault Refusal :=
  s.runU (·.mboxAns port ld 0x0102 fun b => .policy (b.ldOf port ld).policy)

/-- SET_EVENT_INTERRUPT_POLICY (R255). -/
def execSetEventInterruptPolicy (port ld policy : Nat) (s : State) : Host.Outcome State Fault Refusal :=
  s.runU fun b => (b.mboxOp port ld 0x0103).mbox port ld (fun _ => .done) (·.ldMod port ld fun l => { l with policy := policy })

/-- GET_FW_INFO (R256). -/
def execGetFwInfo (port ld : Nat) (s : State) : Host.Outcome State Fault Refusal :=
  s.runU (·.mboxAns port ld 0x0200 fun b => .fwInfo b.cfg.img.sequence)

/-- GET_TIMESTAMP (R256). -/
def execGetTimestamp (port ld : Nat) (s : State) : Host.Outcome State Fault Refusal :=
  s.runU (·.mboxAns port ld 0x0300 fun b => .timestamp (b.cxlTime port ld))

/-- SET_TIMESTAMP (R255, R256). -/
def execSetTimestamp (port ld time : Nat) (s : State) : Host.Outcome State Fault Refusal :=
  s.runU fun b => (b.mboxOp port ld 0x0301).mbox port ld (fun _ => .done)
    (fun b => b.ldMod port ld fun l => { l with tsSet := true, tsBase := time, tsAt := b.time.tai })

/-- IDENTIFY_MEMORY_DEVICE (R256). -/
def execIdentifyMemoryDevice (port ld : Nat) (s : State) : Host.Outcome State Fault Refusal :=
  s.runU (·.mboxAns port ld 0x4000 fun b => .memoryDevice (b.ldGib port ld * 2 ^ 30))

/-- GET_PARTITION_INFO (R256). -/
def execGetPartitionInfo (port ld : Nat) (s : State) : Host.Outcome State Fault Refusal :=
  s.runU (·.mboxAns port ld 0x4100 fun b => .partition (b.ldGib port ld * 2 ^ 30))

/-- GET_HEALTH_INFO (R257). -/
def execGetHealthInfo (port ld : Nat) (s : State) : Host.Outcome State Fault Refusal :=
  s.runU (·.mboxAns port ld 0x4200 (·.healthAns port))

/-- GET_ALERT_CONFIGURATION (R256). -/
def execGetAlertConfiguration (port ld : Nat) (s : State) : Host.Outcome State Fault Refusal :=
  s.runU (·.mboxAns port ld 0x4201 fun b => .alerts (b.ldOf port ld).alerts)

/-- SET_ALERT_CONFIGURATION (R256). -/
def execSetAlertConfiguration (port ld valid enable : Nat) (values : List Nat) (s : State) : Host.Outcome State Fault Refusal :=
  s.runU fun b => (b.mboxOp port ld 0x4202).alertsSet port ld valid enable values

/-- GET_SHUTDOWN_STATE (R256). -/
def execGetShutdownState (port ld : Nat) (s : State) : Host.Outcome State Fault Refusal :=
  s.runU (·.mboxAns port ld 0x4203 fun b => .shutdown (b.cxl.dirty.contains (16 * port + ld)))

/-- SET_SHUTDOWN_STATE (R256). -/
def execSetShutdownState (port ld : Nat) (dirty : Bool) (s : State) : Host.Outcome State Fault Refusal :=
  s.runU fun b => (b.mboxOp port ld 0x4204).shutdownSet port ld dirty

/-- GET_POISON_LIST (R256): from a line of the LD DPA offsets, over `lines` lines. -/
def execGetPoisonList (port ld first lines : Nat) (s : State) : Host.Outcome State Fault Refusal :=
  s.runU fun b => (b.mboxOp port ld 0x4300).poisonScan port ld first lines

/-- POISON_LIST_DONE (R256). -/
def execPoisonListDone (port ld : Nat) (s : State) : Host.Outcome State Fault Refusal := s.runU (·.poisonScanned port ld)

/-- MAILBOX_UNSUPPORTED (R256): any other command. -/
def execMailboxUnsupported (port ld op : Nat) (s : State) : Host.Outcome State Fault Refusal :=
  s.runU (·.mboxAns port ld op fun _ => .unsupported)

/-! ## The fabric manager's device and DOE (R245, R246, R258) -/

/-- Bytes of each logical device of a port, by LD-ID. -/
def Body.ldSizes (s : Body) (port : Nat) : List Nat := (List.range (s.ldCount port)).map fun k => s.ldGib port k * 2 ^ 30

/-- GET_LD_INFO (R246). -/
def execGetLdInfo (port : Nat) (s : State) : Host.Outcome State Fault Refusal :=
  s.runU fun b => b.fmAns port (.ldInfo (Body.sum (b.ldSizes port)) (b.ldCount port))

/-- GET_LD_ALLOCATIONS (R246). -/
def execGetLdAllocations (port : Nat) (s : State) : Host.Outcome State Fault Refusal := s.runU fun b => b.fmAns port (.ldAllocations (b.ldSizes port))

/-- SET_LD_ALLOCATIONS (R246). -/
def execSetLdAllocations (port : Nat) (s : State) : Host.Outcome State Fault Refusal := s.runU (·.fmAns port .unsupported)

/-- QOS_STATUS (R246). -/
def execQosStatus (port : Nat) (s : State) : Host.Outcome State Fault Refusal := s.runU fun b => b.fmAns port (.qos (b.devLoad port))

/-- DOE_DISCOVERY (R245). -/
def execDoeDiscovery (port ld index : Nat) (s : State) : Host.Outcome State Fault Refusal := s.runU (·.doeDiscovery port ld index)

/-- CDAT_TABLE_ACCESS (R258). -/
def execCdatTableAccess (port ld : Nat) (s : State) : Host.Outcome State Fault Refusal := s.runU fun b => b.doe port ld (b.cdatAns port ld)

end Sys2Proof.Machine
end

