-- ==== Sys2Proof/Machine/ExecHob.lean ====
section
/-! DEFINITION. Commands of the Hob and of the thermal monitor (chapter 17). -/

namespace Sys2Proof.Machine

/-! ## Rails (R410 to R419) -/

/-- ADC_CONVERSION (R410): one sense input; `us` is the time since the rail's enable was deasserted. -/
def execAdcConversion (rail reading us : Nat) (s : State) : Host.Outcome State Fault Refusal :=
  s.runU fun b => let r := b.adc rail reading us; if r.2 then r.1.powerFail 2 else r.1

/-- RAIL_ENABLE (R411, R418): the minimum off time of the rail whose turn it is has passed. -/
def execRailEnable (rail : Nat) (s : State) : Host.Outcome State Fault Refusal := s.runU (·.railEnable rail)

/-- RAIL_PG_CHANGE (R411). -/
def execRailPgChange (rail : Nat) (high : Bool) (s : State) : Host.Outcome State Fault Refusal := s.runU (·.railPg rail high)

/-- RAIL_UP (R411): its power-good has been high for DEBOUNCE_US; `us` since its enable. -/
def execRailUp (rail us : Nat) (s : State) : Host.Outcome State Fault Refusal := s.runU (·.railUp rail us)

/-- RAIL_FAIL_UP (R412). -/
def execRailFailUp (rail us : Nat) (s : State) : Host.Outcome State Fault Refusal := s.runU (·.railFail rail us)

/-- RAIL_DOWN_TIMEOUT (R414, R415). -/
def execRailDownTimeout (rail us : Nat) (s : State) : Host.Outcome State Fault Refusal := s.runU (·.railTimeout rail us)

/-- RAIL_PG_LOST (R419). -/
def execRailPgLost (rail us : Nat) (s : State) : Host.Outcome State Fault Refusal := s.runU (·.railLost rail us)

/-- RAIL_RETRY (R413). -/
def execRailRetry (actor : Actor) (rail : Nat) (s : State) : Host.Outcome State Fault Refusal :=
  s.runU (·.bitCommand actor (F.HOB_RAIL_CTL_RETRY rail) 1 (·.railRetry rail))

/-- RAIL_SKIP_WAIT (R414). -/
def execRailSkipWait (actor : Actor) (rail : Nat) (s : State) : Host.Outcome State Fault Refusal :=
  s.runU (·.bitCommand actor (F.HOB_RAIL_CTL_SKIP_WAIT rail) 1 (·.railSkip rail))

/-! ## Requests (R416, R417) -/

/-- HOB_ON (R416). -/
def execHobOn (actor : Actor) (s : State) : Host.Outcome State Fault Refusal := s.runU (·.command actor A.HOB_REQ 1 (·.hobOnReq))

/-- HOB_OFF (R416). -/
def execHobOff (actor : Actor) (s : State) : Host.Outcome State Fault Refusal :=
  s.runU (·.command actor A.HOB_REQ 2 (·.hobOffReq .request))

/-- INPUT_RETURN (R416): PFAIL_N high and SAG_SENSE above SAG_MV for 100 ms; an ON when a power fail brought the rails down, or is
bringing them down (R202, R417). -/
def execInputReturn (s : State) : Host.Outcome State Fault Refusal :=
  s.runU fun b =>
    let falling : Bool := (b.hobState == HobState.flushing || b.hobState == HobState.poweringDown) && b.hob.offWhy == DownCause.powerFail
    if b.hob.pfDown then ({ b with hob := { b.hob with pfDown := false } }).hobOnReq
    else if falling then b.hobOnReq else b

/-! ## Reset outputs (R420) -/

/-- RESET_RELEASE (R420): the stretch of an output has passed. -/
def execResetRelease (n : Nat) (s : State) : Host.Outcome State Fault Refusal :=
  s.runU fun b =>
    if b.rstMay n && !b.hob.outs.contains n then
      ({ b with hob := { b.hob with outs := insertNat b.hob.outs n } }).send (.resetOut n false)
    else b

/-- RESET_PULSE (R420). -/
def execResetPulse (actor : Actor) (n : Nat) (s : State) : Host.Outcome State Fault Refusal :=
  s.runU (·.bitCommand actor (F.HOB_RST_PULSE n) 1 (·.rstAssert n))

/-! ## Thermal monitor (R422 to R427) -/

/-- THERMAL_SAMPLE (R422): one sensor, in 1/8 °C, none when it cannot be read; `us` since its last sample. -/
def execThermalSample (cls : SensClass) (n : Nat) (temp : Option Int) (us : Nat) (s : State) : Host.Outcome State Fault Refusal :=
  s.runU (·.thermalSample cls n temp us)

/-- THERMAL_TRIP (R425). -/
def execThermalTrip (s : State) : Host.Outcome State Fault Refusal := s.runU (·.thermalTrip)

end Sys2Proof.Machine
end

