-- ==== Sys2Proof/Machine/ExecPersist.lean ====
section
/-! DEFINITION. Commands of the unit lifecycle and of persistence (chapters 1 and 8). -/

namespace Sys2Proof.Machine

/-! ## The lifecycle (R29) -/

/-- UNIT_ENABLE (R29): a write of the unit's ENABLE. -/
def execUnitEnable (actor : Actor) (unit : Nat) (s : State) : Host.Outcome State Fault Refusal := s.runU (·.writeEnable actor unit true)

/-- UNIT_DISABLE (R29). -/
def execUnitDisable (actor : Actor) (unit : Nat) (s : State) : Host.Outcome State Fault Refusal := s.runU (·.writeEnable actor unit false)

/-- UNIT_START_DONE (R29). -/
def execUnitStartDone (unit us : Nat) (obs : StartObs) (s : State) : Host.Outcome State Fault Refusal := s.runU (·.startDone unit us obs)

/-- UNIT_START_FAIL (R29). -/
def execUnitStartFail (unit code : Nat) (s : State) : Host.Outcome State Fault Refusal := s.runU (·.startFail unit code)

/-- UNIT_STOP_DONE (R29). -/
def execUnitStopDone (unit : Nat) (s : State) : Host.Outcome State Fault Refusal := s.runU (·.stopDone unit)

/-- UNIT_FAULT_STOP (R29, R413). -/
def execUnitFaultStop (unit : Nat) (s : State) : Host.Outcome State Fault Refusal := s.runU (·.unitFault unit)

/-! ## Power fail (R203, R204) -/

namespace Body

/-- Step 2 at the tick of P+1: admission stops; a flash erase is abandoned, a program finishes (R204, R383). -/
def pfStop (s : Body) : Body :=
  if s.per.pf != .detected || s.frameNo < s.per.pfFrame + 1 then s
  else
    let s := { s with per := { s.per with pf := .stopped } }
    let s := match s.cf.op with
      | some o => if o.kind == CfKind.erase then ({ s with cf := { s.cf with op := none } }).flashStatus else s
      | none => s
    s.grantSet.later .ports

/-- The change to NONE of a power fail: RELEASE is sent, and the epoch record written before serves (R212). -/
def pfRole (s : Body) : Body :=
  if !s.holds then s
  else
    let s := s.trivetSend 5 0 false
    let s := (s.put F.TWIN_STATUS_ROLE 0).raise U.twin F.TWIN_EVENTS_ROLE_CHANGE 0
    (s.roleDrop.postN U.twin .lostRole).timeRegs

/-- Step 3 at the tick of P+2: the commit point of P where it may be declared, the epoch record of the role held, the move to NONE
(R204, R212, R239). -/
def pfCommit (s : Body) : Body :=
  if s.per.pf != .stopped || s.frameNo < s.per.pfFrame + 2 then s
  else
    let s := s.commitRun
    let clean := s.role == .active && !s.per.batches.any fun b => b.frame ≤ s.per.pfFrame
    let s := (s.epochWrite .powerFail s.role clean).pfRole
    { s with per := { s.per with pf := .committed } }.later .ports

/-- The Spike's flush is complete, or abandoned at a power fail (R401); a power fail's flush lets the Hob power down (R204 steps 5 and
6, R396). -/
def spikeFlushed (s : Body) (abandoned : Bool) (totalUs : Nat) : Body :=
  match s.spk.flushing with
  | none => s
  | some left =>
    let pf := s.spk.pfFlush
    if left != 0 && !(pf && abandoned) then s
    else
      let again := s.spk.flushReq && !s.spk.frozen
      let s := { s with spk := { s.spk with flushing := none, pfFlush := false, flushReq := s.spk.flushReq && s.spk.frozen } }
      let s := if pf && s.per.pf == .sealed then
          let s := { s with per := { s.per with pf := .flushed } }.put F.PFAIL_TIME_TOTAL_US totalUs
          (s.when (left == 0) (·.pfRecord true)).later .hobFlushed
        else s
      let s := s.when (left == 0) (·.raise U.spike F.SPK_EVENTS_FLUSH_DONE)
      if again then s.spkFlush false else s

end Body

/-- PFAIL_N_ASSERT (R203). -/
def execPfailNAssert (s : State) : Host.Outcome State Fault Refusal := s.runU (·.powerFail 1)

/-- PFAIL_STOP_ADMISSION (R204 step 2). -/
def execPfailStopAdmission (s : State) : Host.Outcome State Fault Refusal := s.runU (·.pfStop)

/-- PFAIL_COMMIT (R204 step 3). -/
def execPfailCommit (s : State) : Host.Outcome State Fault Refusal := s.runU (·.pfCommit)

/-- VAULT_WRITE (R181, R204 step 4). -/
def execVaultWrite (s : State) : Host.Outcome State Fault Refusal := s.runU (·.vaultWrite)

/-- VAULT_SEALED (R181, R204 step 5): how long step 4 took. -/
def execVaultSealed (us : Nat) (s : State) : Host.Outcome State Fault Refusal := s.runU (·.vaultSealed us)

/-- SPIKE_FLUSH_DONE (R401, R204 step 6): whether it was abandoned after 10 ms; at a power fail the time from detection. -/
def execSpikeFlushDone (abandoned : Bool) (totalUs : Nat) (s : State) : Host.Outcome State Fault Refusal :=
  s.runU (·.spikeFlushed abandoned totalUs)

/-! ## Replay (R206 to R208) -/

/-- REPLAY_DONE (R207). -/
def execReplayDone (s : State) : Host.Outcome State Fault Refusal := s.runU (·.replayDone)

/-- ACCEPT_LOSS (R208). -/
def execAcceptLoss (actor : Actor) (s : State) : Host.Outcome State Fault Refusal :=
  s.runU fun b => b.bitCommand actor F.PERSIST_CTL_ACCEPT_LOSS 1 (·.acceptLoss)

end Sys2Proof.Machine
end

