-- ==== Sys2Proof/Machine/ExecRdma.lean ====
section
/-! DEFINITION. Commands of the Ethernet ports and the RDMA transport engine (chapter 11). -/

namespace Sys2Proof.Machine

/-! ## Ports (R265, R267) -/

/-- ETH_LINK_UP (R267). -/
def execEthLinkUp (port : Nat) (s : State) : Host.Outcome State Fault Refusal := s.runU (·.ethLinkUp port)

/-- ETH_LINK_DOWN (R267). -/
def execEthLinkDown (port cause : Nat) (s : State) : Host.Outcome State Fault Refusal := s.runU (·.ethLinkDown port cause)

/-- ETH_FRAME_DISCARD (R265): a received frame that carries IP options, IPv6 extension headers or a fragment. -/
def execEthFrameDiscard (port : Nat) (s : State) : Host.Outcome State Fault Refusal :=
  s.runU fun b =>
    if port < b.ethPortCount && b.isOn (U.eth port) && b.get (F.ETH_STATUS_LINK port) == 2 then
      (b.inc (F.ETH_COUNT_0_RX_PKTS port)).incSat (F.ETH_COUNT_1_DISCARDED port)
    else b

/-! ## Connections (R270, R272) -/

/-- A connection message for a queue pair arrives on its port. -/
def Body.cmRx (s : Body) (n : Nat) (act : Body → Body) : Body :=
  let p := (s.qp n).cfg.port
  if (s.qp n).st == .reset || !s.ethUp p then s else act (s.inc (F.ETH_COUNT_0_RX_PKTS p))

/-- CM_REQ (R270). -/
def execCmReq (port : Nat) (m : CmReq) (s : State) : Host.Outcome State Fault Refusal := s.runU (·.cmReq port m)

/-- CM_RTU (R272). -/
def execCmRtu (qpn : Nat) (s : State) : Host.Outcome State Fault Refusal := s.runU (·.cmRx qpn (·.cmRtu qpn))

/-- CM_REP (R272): the peer's QPN and starting PSN. -/
def execCmRep (qpn remote psn : Nat) (s : State) : Host.Outcome State Fault Refusal :=
  s.runU (·.cmRx qpn (·.cmRepRecv qpn remote psn))

/-- CM_DREQ (R272). -/
def execCmDreq (qpn : Nat) (s : State) : Host.Outcome State Fault Refusal := s.runU (·.cmRx qpn (·.cmGone qpn .drep))

/-- MRA_TIMEOUT (R272). -/
def execMraTimeout (qpn : Nat) (s : State) : Host.Outcome State Fault Refusal := s.runU (·.mraTimeout qpn)

/-- QP_ERROR_TIMEOUT (R272). -/
def execQpErrorTimeout (qpn : Nat) (s : State) : Host.Outcome State Fault Refusal := s.runU (·.qpTimeout qpn)

/-! ## Requests at the responder (R269, R273 to R278) -/

/-- RDMA_WRITE (R269): one packet; its first carries the RETH. -/
def execRdmaWrite (port qpn psn : Nat) (ce : Bool) (h : Option Reth) (last : Bool) (data : List Byte) (s : State) :
    Host.Outcome State Fault Refusal :=
  s.runU (·.rdmaPacket port qpn psn ce (·.psnCheck qpn psn (·.dupWrite qpn psn) (·.writePacket qpn psn h last none data)))

/-- RDMA_WRITE_IMM (R269): the packet that ends a WRITE with immediate. -/
def execRdmaWriteImm (port qpn psn : Nat) (ce : Bool) (h : Option Reth) (imm : Nat) (data : List Byte) (s : State) :
    Host.Outcome State Fault Refusal :=
  s.runU (·.rdmaPacket port qpn psn ce (·.psnCheck qpn psn (·.dupWrite qpn psn) (·.writePacket qpn psn h true (some imm) data)))

/-- RDMA_READ (R269); a duplicate is executed again (R278). -/
def execRdmaRead (port qpn psn : Nat) (ce : Bool) (h : Reth) (s : State) : Host.Outcome State Fault Refusal :=
  s.runU (·.rdmaPacket port qpn psn ce (·.psnCheck qpn psn (·.readPacket qpn psn h true) (·.readPacket qpn psn h false)))

/-- COMPARE_SWAP (R269). -/
def execCompareSwap (port qpn psn : Nat) (ce : Bool) (va key compare swap : Nat) (s : State) : Host.Outcome State Fault Refusal :=
  s.runU (·.rdmaPacket port qpn psn ce
    (·.psnCheck qpn psn (·.dupAtomic qpn psn) (·.atomicPacket qpn psn va key true compare swap)))

/-- FETCH_ADD (R269). -/
def execFetchAdd (port qpn psn : Nat) (ce : Bool) (va key addend : Nat) (s : State) : Host.Outcome State Fault Refusal :=
  s.runU (·.rdmaPacket port qpn psn ce
    (·.psnCheck qpn psn (·.dupAtomic qpn psn) (·.atomicPacket qpn psn va key false addend 0)))

/-- RDMA_SEND (R269). -/
def execRdmaSend (port qpn psn : Nat) (ce first last : Bool) (data : List Byte) (s : State) : Host.Outcome State Fault Refusal :=
  s.runU (·.rdmaPacket port qpn psn ce (·.psnCheck qpn psn (·.dupSend qpn) (·.sendPacket qpn psn first last data)))

/-- SPRAY_WRITE (R276). -/
def execSprayWrite (port qpn psn : Nat) (ce : Bool) (h : SprayHdr) (data : List Byte) (s : State) : Host.Outcome State Fault Refusal :=
  s.runU (·.rdmaPacket port qpn psn ce (·.psnCheck qpn psn (·.dupWrite qpn psn) (·.sprayPacket qpn psn h false data)))

/-- SPRAY_WRITE_IMM (R276). -/
def execSprayWriteImm (port qpn psn : Nat) (ce : Bool) (h : SprayHdr) (data : List Byte) (s : State) :
    Host.Outcome State Fault Refusal :=
  s.runU (·.rdmaPacket port qpn psn ce (·.psnCheck qpn psn (·.dupWrite qpn psn) (·.sprayPacket qpn psn h true data)))

/-- REORDER_TIMER (R277). -/
def execReorderTimer (qpn : Nat) (s : State) : Host.Outcome State Fault Refusal := s.runU (·.reorderEnd qpn)

/-! ## The requester (R284 to R288) -/

/-- A packet for the requester of a queue pair arrives on a port (R272). -/
def Body.answerRx (s : Body) (p n : Nat) (act : Body → Body) : Body :=
  if !s.ethUp p then s
  else
    let s := s.inc (F.ETH_COUNT_0_RX_PKTS p)
    let q := s.qp n
    if (q.st != .rtr && q.st != .rts) || q.cfg.port != p then s.incSat F.RDMA_COUNT_1_NO_QP else act s

/-- RDMA_ACK_RX (R286). -/
def execRdmaAckRx (port qpn psn : Nat) (kind : AckKind) (s : State) : Host.Outcome State Fault Refusal :=
  s.runU (·.answerRx port qpn (·.ackRecv qpn psn kind))

/-- READ_RESPONSE_RX (R286). -/
def execReadResponseRx (port qpn psn : Nat) (data : List Byte) (s : State) : Host.Outcome State Fault Refusal :=
  s.runU (·.answerRx port qpn (·.readResponse qpn psn data))

/-- SACK_RX (R286). -/
def execSackRx (port qpn psn : Nat) (ranges : List (Nat × Nat)) (s : State) : Host.Outcome State Fault Refusal :=
  s.runU (·.answerRx port qpn (·.sackRecv qpn psn ranges))

/-- POISON_NAK_RX (R288). -/
def execPoisonNakRx (port qpn psn delivered start len : Nat) (s : State) : Host.Outcome State Fault Refusal :=
  s.runU (·.answerRx port qpn (·.poisonNakRecv qpn psn delivered start len))

/-- CNP_RX (R286). -/
def execCnpRx (port qpn : Nat) (s : State) : Host.Outcome State Fault Refusal := s.runU (·.answerRx port qpn (·.cnpRecv qpn))

/-- DCQCN_RECOVERY (R286). -/
def execDcqcnRecovery (qpn : Nat) (s : State) : Host.Outcome State Fault Refusal := s.runU (·.rateRecover qpn)

/-- RETRANSMIT_TIMEOUT (R286). -/
def execRetransmitTimeout (qpn : Nat) (s : State) : Host.Outcome State Fault Refusal :=
  s.runU fun b => if b.ethUp (b.qp qpn).cfg.port then b.retransmit qpn else b

/-! ## Commands of firmware (R279, R280, R285, R292, R293) -/

/-- RDMA_CONNECT (R292). -/
def execRdmaConnect (actor : Actor) (qpn : Nat) (s : State) : Host.Outcome State Fault Refusal :=
  s.runU (·.rdmaCmd actor 1 qpn (·.rdmaConnect qpn))

/-- RDMA_ACCEPT (R292). -/
def execRdmaAccept (actor : Actor) (qpn : Nat) (s : State) : Host.Outcome State Fault Refusal :=
  s.runU (·.rdmaCmd actor 2 qpn (·.rdmaAccept qpn))

/-- RDMA_REJECT (R292). -/
def execRdmaReject (actor : Actor) (qpn : Nat) (s : State) : Host.Outcome State Fault Refusal :=
  s.runU (·.rdmaCmd actor 3 qpn (·.rdmaReject qpn))

/-- RDMA_DISCONNECT (R292). -/
def execRdmaDisconnect (actor : Actor) (qpn : Nat) (s : State) : Host.Outcome State Fault Refusal :=
  s.runU (·.rdmaCmd actor 4 qpn (·.rdmaDisconnect qpn))

/-- REG_CREATE (R279). -/
def execRegCreate (actor : Actor) (region : Nat) (s : State) : Host.Outcome State Fault Refusal :=
  s.runU (·.rdmaCmd actor 5 region (·.regCreate region))

/-- REG_DEREG (R280). -/
def execRegDereg (actor : Actor) (region : Nat) (s : State) : Host.Outcome State Fault Refusal :=
  s.runU (·.rdmaCmd actor 6 region (·.regDereg region))

/-- REG_DEREG_DONE (R280). -/
def execRegDeregDone (region : Nat) (s : State) : Host.Outcome State Fault Refusal := s.runU (·.regDeregDone region)

/-- TRIG_SET (R292). -/
def execTrigSet (actor : Actor) (trig : Nat) (s : State) : Host.Outcome State Fault Refusal :=
  s.runU (·.rdmaCmd actor 7 trig (·.trigCmd trig))

/-- PD_SET (R292). -/
def execPdSet (actor : Actor) (pd : Nat) (s : State) : Host.Outcome State Fault Refusal :=
  s.runU (·.rdmaCmd actor 8 pd (·.pdSet pd))

/-- RDMA_DOORBELL (R285). -/
def execRdmaDoorbell (actor : Actor) (qpn : Nat) (s : State) : Host.Outcome State Fault Refusal :=
  s.runU (·.select actor A.RDMA_DOORBELL qpn fun b => if b.isOn U.rdma then b.reqPump qpn else b)

/-- RDMA_PEEK (R293). -/
def execRdmaPeek (actor : Actor) (kind index : Nat) (s : State) : Host.Outcome State Fault Refusal :=
  s.runU (·.select actor A.RDMA_PEEK_SEL (kind + 4 * index) (·.rdmaPeek))

end Sys2Proof.Machine
end

