-- ==== Sys2Proof/Machine/ExecSched.lean ====
section
/-! DEFINITION. Commands of the schedule engine (chapter 13), of the cipher jobs and of the two SPDM requests that can open the ports
(chapter 14). -/

namespace Sys2Proof.Machine

/-! ## Chapter 13 -/

/-- SCHED_TBL_WRITE (R317). -/
def execSchedTblWrite (actor : Actor) (s : State) : Host.Outcome State Fault Refusal :=
  s.runU (·.command actor A.SCHED_TBL_CMD 1 (·.tblWrite))

/-- SCHED_TBL_SNAPSHOT (R317). -/
def execSchedTblSnapshot (actor : Actor) (s : State) : Host.Outcome State Fault Refusal :=
  s.runU (·.command actor A.SCHED_TBL_CMD 2 (·.tblSnapshot))

/-- SCHED_TBL_CANCEL (R317). -/
def execSchedTblCancel (actor : Actor) (s : State) : Host.Outcome State Fault Refusal :=
  s.runU (·.command actor A.SCHED_TBL_CMD 3 (·.tblCancel))

/-- SCHED_STAGE_START (R318). -/
def execSchedStageStart (entry : Nat) (s : State) : Host.Outcome State Fault Refusal := s.runU (·.stageStart entry)

/-- SCHED_ROOM (R319). -/
def execSchedRoom (entry : Nat) (s : State) : Host.Outcome State Fault Refusal := s.runU (·.roomArise entry)

/-- SCHED_STAGING_READ_DONE (R320, R331). -/
def execSchedStagingReadDone (entry line : Nat) (find : StageFind) (answer : List LineData) (poison : Mask) (s : State) :
    Host.Outcome State Fault Refusal :=
  s.runU (·.stageRead entry line find answer poison)

/-- READY_BEACON_SEND (R324). -/
def execReadyBeaconSend (entry : Nat) (s : State) : Host.Outcome State Fault Refusal := s.runU (·.beaconFrame entry)

/-- READY_BEACON_RX (R325). -/
def execReadyBeaconRx (m : ReadyMsg) (tagOk : Bool) (s : State) : Host.Outcome State Fault Refusal := s.runU (·.readyRx m tagOk)

/-- SCHED_LAUNCH (R326, R333). -/
def execSchedLaunch (entry : Nat) (s : State) : Host.Outcome State Fault Refusal := s.runU (·.schedDecide entry)

/-- SCHED_ABANDON (R318). -/
def execSchedAbandon (entry : Nat) (s : State) : Host.Outcome State Fault Refusal := s.runU (·.schedExpire entry)

/-- SCHED_CHUNK_RELEASE (R328). -/
def execSchedChunkRelease (entry : Nat) (s : State) : Host.Outcome State Fault Refusal := s.runU (·.schedRelease entry)

/-- SCHED_RECORD_SEND (R329). -/
def execSchedRecordSend (entry dest : Nat) (s : State) : Host.Outcome State Fault Refusal := s.runU (·.recordGo entry dest)

/-- SCHED_CATCHUP_EXPIRE (R333). -/
def execSchedCatchupExpire (entry : Nat) (s : State) : Host.Outcome State Fault Refusal := s.runU (·.catchUpExpire entry)

/-! ## Chapter 14 -/

/-- JOB_ABORT (R350). -/
def execJobAbort (actor : Actor) (q : Nat) (s : State) : Host.Outcome State Fault Refusal :=
  s.runU (·.command actor (A.JOB_GO (q % 2)) 2 (·.jobAbort (q % 2)))

/-- JOB_DONE (R348, R349): for an import, whether the container's tag verifies. -/
def execJobDone (q : Nat) (tagOk : Bool) (s : State) : Host.Outcome State Fault Refusal := s.runU (·.jobDone (q % 2) tagOk)

/-- MARK_DONE (R352). -/
def execMarkDone (s : State) : Host.Outcome State Fault Refusal := s.runU (·.markDone)

/-- UNTRUST_SET (R353). -/
def execUntrustSet (actor : Actor) (s : State) : Host.Outcome State Fault Refusal :=
  s.runU (·.command actor A.UNTRUST_CMD 1 (·.untrustSet))

/-- SPDM_CHALLENGE (R357). -/
def execSpdmChallenge (slot : Nat) (mctp : Bool) (s : State) : Host.Outcome State Fault Refusal := s.runU (·.spdmChallenge slot mctp)

/-- SPDM_GET_MEASUREMENTS (R356). -/
def execSpdmGetMeasurements (index : Nat) (signed mctp : Bool) (s : State) : Host.Outcome State Fault Refusal :=
  s.runU (·.spdmMeasure index signed mctp)

end Sys2Proof.Machine
end

