-- ==== Sys2Proof/Machine/ExecTwin.lean ====
section
/-! DEFINITION. Commands of the twin link, the lease and the witness (chapter 9). -/

namespace Sys2Proof.Machine

/-- LEASE_STOP (R195). -/
def execLeaseStop (s : State) : Host.Outcome State Fault Refusal := s.runU (·.leaseStop)

/-- MIRROR_SEGMENT_SEND (R224). -/
def execMirrorSegmentSend (s : State) : Host.Outcome State Fault Refusal := s.runU (·.mirrorSegment)

/-- SEAL_SEND (R224). -/
def execSealSend (s : State) : Host.Outcome State Fault Refusal := s.runU (·.sealSend)

/-- SEGMENT_RX (R227). -/
def execSegmentRx (h : MsgHdr) (m : SegMsg) (s : State) : Host.Outcome State Fault Refusal := s.runU (·.segmentRx h m)

/-- SEAL_RX (R227). -/
def execSealRx (h : MsgHdr) (m : SealMsg) (s : State) : Host.Outcome State Fault Refusal := s.runU (·.sealRx h m)

/-- ACK_RX (R31, R235, R237). -/
def execAckRx (h : MsgHdr) (batch status : Nat) (s : State) : Host.Outcome State Fault Refusal := s.runU (·.ackRx h batch status)

/-- HEARTBEAT_SEND (R230): at cycle 64, `sub` sixteenths of a nanosecond into the frame. -/
def execHeartbeatSend (sub : Nat) (s : State) : Host.Outcome State Fault Refusal := s.runU (·.heartbeatSend sub)

/-- HEARTBEAT_RX (R230): its content and its arrival, in sixteenths of a nanosecond of domain time. -/
def execHeartbeatRx (h : MsgHdr) (m : Heartbeat) (at_ : Nat) (s : State) : Host.Outcome State Fault Refusal := s.runU (·.heartbeatRx h m at_)

/-- HEARTBEAT_MISS_64 (R231). -/
def execHeartbeatMiss64 (s : State) : Host.Outcome State Fault Refusal := s.runU (·.missed64)

/-- ASSIST_REQ_RX (R229). -/
def execAssistReqRx (h : MsgHdr) (req : Nat) (kind : AssistKind) (line : Nat) (pos : MPos) (s : State) : Host.Outcome State Fault Refusal :=
  s.runU (·.assistReqRx h req kind line pos)

/-- ASSIST_RESP_RX (R96). -/
def execAssistRespRx (h : MsgHdr) (req status : Nat) (poison : Mask) (lines : List LineData) (s : State) : Host.Outcome State Fault Refusal :=
  s.runU (·.assistRespRx h req status poison lines)

/-- RESYNC_START_RX (R212, R432). -/
def execResyncStartRx (h : MsgHdr) (mode : Nat) (s : State) : Host.Outcome State Fault Refusal := s.runU (·.resyncStartRx h mode)

/-- RESYNC_LOG_RX (R236). -/
def execResyncLogRx (h : MsgHdr) (mode : Nat) (grans : List Nat) (s : State) : Host.Outcome State Fault Refusal :=
  s.runU (·.resyncLogRx h mode grans)

/-- RESYNC_DONE_RX (R238). -/
def execResyncDoneRx (h : MsgHdr) (s : State) : Host.Outcome State Fault Refusal := s.runU (·.resyncDoneRx h)

/-- RESYNC_ABORT_RX (R223). -/
def execResyncAbortRx (h : MsgHdr) (s : State) : Host.Outcome State Fault Refusal := s.runU (·.resyncAbortRx h)

/-- TWIN_NAK_RX (R222). -/
def execTwinNakRx (h : MsgHdr) (frame seq : Nat) (s : State) : Host.Outcome State Fault Refusal := s.runU (·.nakRx h frame seq)

/-- HELLO_RX (R346). -/
def execHelloRx (h : MsgHdr) (m : HelloMsg) (s : State) : Host.Outcome State Fault Refusal := s.runU (·.helloRx h m)

/-- RELAY_RX (R216): whether the Trivet message's own tag verifies, and an answer's round trip. -/
def execRelayRx (h : MsgHdr) (m : TrivetMsg) (key : Nat) (us : Nat) (s : State) : Host.Outcome State Fault Refusal :=
  s.runU (·.relayRx h m key us)

/-- TWIN_LINK_TRAIN (R219): the groups that trained. -/
def execTwinLinkTrain (main fall : Bool) (s : State) : Host.Outcome State Fault Refusal :=
  s.runU fun b => if b.isOn U.twin then b.linkTrain main fall else b

/-- TWIN_LINK_DOWN (R346). -/
def execTwinLinkDown (s : State) : Host.Outcome State Fault Refusal := s.runU (·.linkDown)

/-- TWIN_GROUP_FALLBACK (R221): the main group lost lock, or its replays are too many. -/
def execTwinGroupFallback (lock : Bool) (s : State) : Host.Outcome State Fault Refusal := s.runU (·.groupFallback lock)

/-- MAIN_STABLE (R221). -/
def execMainStable (s : State) : Host.Outcome State Fault Refusal := s.runU (·.mainStable)

/-- GROUP_REVERT (R221). -/
def execGroupRevert (s : State) : Host.Outcome State Fault Refusal := s.runU (·.groupRevert)

/-- LEASE_RENEW (R213). -/
def execLeaseRenew (s : State) : Host.Outcome State Fault Refusal := s.runU (·.leaseRenew)

/-- TRIVET_REQUEST_TIMEOUT (R213). -/
def execTrivetRequestTimeout (id : Nat) (s : State) : Host.Outcome State Fault Refusal := s.runU (·.reqTimeout id)

/-- TRIVET_GRANT_RX (R212): a GRANT from the image's address `src`, whether its tag verifies, the round trip. -/
def execTrivetGrantRx (m : TrivetMsg) (src : Nat) (key : Nat) (us : Nat) (s : State) : Host.Outcome State Fault Refusal :=
  s.runU (·.trivetAnswer { m with typ := 3 } (some src) key us)

/-- TRIVET_REFUSE_RX (R212). -/
def execTrivetRefuseRx (m : TrivetMsg) (src : Nat) (key : Nat) (us : Nat) (s : State) : Host.Outcome State Fault Refusal :=
  s.runU (·.trivetAnswer { m with typ := 4 } (some src) key us)

/-- LEASE_EXPIRE (R212). -/
def execLeaseExpire (s : State) : Host.Outcome State Fault Refusal := s.runU (·.leaseExpire)

/-- HANDOFF (R233). -/
def execHandoff (actor : Actor) (s : State) : Host.Outcome State Fault Refusal :=
  s.runU fun b => b.bitCommand actor F.TWIN_CTL_HANDOFF 1 (·.handoffAsk)

/-- HANDOFF_RELEASE (R233). -/
def execHandoffRelease (s : State) : Host.Outcome State Fault Refusal := s.runU (·.handoffRelease)

/-- FORCE_SOLO (R240). -/
def execForceSolo (actor : Actor) (s : State) : Host.Outcome State Fault Refusal :=
  s.runU fun b => b.bitCommand actor F.TWIN_CTL_FORCE_SOLO 1 (·.forceSolo)

/-- PAIR_WAIT_EXPIRE (R240). -/
def execPairWaitExpire (s : State) : Host.Outcome State Fault Refusal := s.runU (·.pairWait)

/-- SWITCH_FRAME (R238). -/
def execSwitchFrame (s : State) : Host.Outcome State Fault Refusal := s.runU (·.switchFrame)

/-- SWITCH_FRAME_DEFER (R238). -/
def execSwitchFrameDefer (s : State) : Host.Outcome State Fault Refusal := s.runU (·.switchDefer)

/-- WITNESS_RENEW_RX (R214). -/
def execWitnessRenewRx (m : TrivetMsg) (key : Nat) (s : State) : Host.Outcome State Fault Refusal :=
  s.runU (·.witnessRx { m with typ := 1 } key)

/-- WITNESS_REQUEST_RX (R214). -/
def execWitnessRequestRx (m : TrivetMsg) (key : Nat) (s : State) : Host.Outcome State Fault Refusal :=
  s.runU (·.witnessRx { m with typ := 2 } key)

/-- WITNESS_RELEASE_RX (R214). -/
def execWitnessReleaseRx (m : TrivetMsg) (key : Nat) (s : State) : Host.Outcome State Fault Refusal :=
  s.runU (·.witnessRx { m with typ := 5 } key)

/-- WITNESS_LEASE_END (R214). -/
def execWitnessLeaseEnd (low high : Nat) (s : State) : Host.Outcome State Fault Refusal := s.runU (·.witnessEnd low high)

/-- WITNESS_START_HOLD_END (R217). -/
def execWitnessStartHoldEnd (s : State) : Host.Outcome State Fault Refusal := s.runU (·.witnessHoldEnd)

end Sys2Proof.Machine
end

