-- ==== Sys2Proof/Machine/Dispatch.lean ====
section
/-! DEFINITION. One arm for each command. -/

namespace Sys2Proof.Machine

/-- The effect of a command on everything but the queue. -/
def exec (i : Instr) (s : State) : Host.Outcome State Fault Refusal :=
  match i with
  | .registerWrite actor addr nbytes value => Sys2Proof.Machine.execRegisterWrite actor addr nbytes value s
  | .frameTick t => Sys2Proof.Machine.execFrameTick t s
  | .planFreeze => Sys2Proof.Machine.execPlanFreeze s
  | .admissionCutChange => Sys2Proof.Machine.execAdmissionCutChange s
  | .passOverflow src => Sys2Proof.Machine.execPassOverflow src s
  | .passMarkStore => Sys2Proof.Machine.execPassMarkStore s
  | .passMarkStall => Sys2Proof.Machine.execPassMarkStall s
  | .passMarkStoreDone => Sys2Proof.Machine.execPassMarkStoreDone s
  | .unitEnable actor unit => Sys2Proof.Machine.execUnitEnable actor unit s
  | .unitDisable actor unit => Sys2Proof.Machine.execUnitDisable actor unit s
  | .unitStartDone unit us obs => Sys2Proof.Machine.execUnitStartDone unit us obs s
  | .unitStartFail unit code => Sys2Proof.Machine.execUnitStartFail unit code s
  | .unitStopDone unit => Sys2Proof.Machine.execUnitStopDone unit s
  | .unitFaultStop unit => Sys2Proof.Machine.execUnitFaultStop unit s
  | .trefLost => Sys2Proof.Machine.execTrefLost s
  | .ptpMessage port transport domain clock best time offset => Sys2Proof.Machine.execPtpMessage port transport domain clock best time offset s
  | .tsyncInEdge late => Sys2Proof.Machine.execTsyncInEdge late s
  | .tsyncFault missing => Sys2Proof.Machine.execTsyncFault missing s
  | .epochPulse => Sys2Proof.Machine.execEpochPulse s
  | .discoveryBeaconRx m src tagOk => Sys2Proof.Machine.execDiscoveryBeaconRx m src tagOk s
  | .peerLost member => Sys2Proof.Machine.execPeerLost member s
  | .phaseMeasurement offset => Sys2Proof.Machine.execPhaseMeasurement offset s
  | .syncLocked => Sys2Proof.Machine.execSyncLocked s
  | .referenceLost => Sys2Proof.Machine.execReferenceLost s
  | .holdoverExceeded => Sys2Proof.Machine.execHoldoverExceeded s
  | .referenceRegained offset => Sys2Proof.Machine.execReferenceRegained offset s
  | .timeFreezeSet actor => Sys2Proof.Machine.execTimeFreezeSet actor s
  | .timeFreezeClear actor => Sys2Proof.Machine.execTimeFreezeClear actor s
  | .slotCheckA actor => Sys2Proof.Machine.execSlotCheckA actor s
  | .slotCheckB actor => Sys2Proof.Machine.execSlotCheckB actor s
  | .slotCheckDone v => Sys2Proof.Machine.execSlotCheckDone v s
  | .changeRequest actor slot cancel => Sys2Proof.Machine.execChangeRequest actor slot cancel s
  | .changeCancel actor => Sys2Proof.Machine.execChangeCancel actor s
  | .changeCheckDone v => Sys2Proof.Machine.execChangeCheckDone v s
  | .changeAgreementCheck => Sys2Proof.Machine.execChangeAgreementCheck s
  | .changeQuiesce => Sys2Proof.Machine.execChangeQuiesce s
  | .changeApply => Sys2Proof.Machine.execChangeApply s
  | .svnCommit actor => Sys2Proof.Machine.execSvnCommit actor s
  | .recoveryImageWrite offset words => Sys2Proof.Machine.execRecoveryImageWrite offset words s
  | .purgeDone => Sys2Proof.Machine.execPurgeDone s
  | .placeModeWrite actor part mode => Sys2Proof.Machine.execPlaceModeWrite actor part mode s
  | .promoteFilterDecay => Sys2Proof.Machine.execPromoteFilterDecay s
  | .pinFillGranule gran => Sys2Proof.Machine.execPinFillGranule gran s
  | .xlateSnapshot actor line => Sys2Proof.Machine.execXlateSnapshot actor line s
  | .assistTimeout req => Sys2Proof.Machine.execAssistTimeout req s
  | .noTwinReadBound mr => Sys2Proof.Machine.execNoTwinReadBound mr s
  | .ncFill mr => Sys2Proof.Machine.execNcFill mr s
  | .ncRepairRequest line => Sys2Proof.Machine.execNcRepairRequest line s
  | .colanderAccept col => Sys2Proof.Machine.execColanderAccept col s
  | .ncFlush actor whole => Sys2Proof.Machine.execNcFlush actor whole s
  | .ncInvalidate actor whole => Sys2Proof.Machine.execNcInvalidate actor whole s
  | .ncFlushInvalidate actor whole => Sys2Proof.Machine.execNcFlushInvalidate actor whole s
  | .ncOpDone => Sys2Proof.Machine.execNcOpDone s
  | .ncMrSnapshot actor mr => Sys2Proof.Machine.execNcMrSnapshot actor mr s
  | .ncColSnapshot actor col => Sys2Proof.Machine.execNcColSnapshot actor col s
  | .channelSetFix => Sys2Proof.Machine.execChannelSetFix s
  | .writeBackDone gran => Sys2Proof.Machine.execWriteBackDone gran s
  | .refreshRound ch request => Sys2Proof.Machine.execRefreshRound ch request s
  | .neighbourRefresh ch bank row => Sys2Proof.Machine.execNeighbourRefresh ch bank row s
  | .caParityAlert ch since => Sys2Proof.Machine.execCaParityAlert ch since s
  | .freezeHoldExpire ch mr => Sys2Proof.Machine.execFreezeHoldExpire ch mr s
  | .thaw actor ch => Sys2Proof.Machine.execThaw actor ch s
  | .thawDone ch good us => Sys2Proof.Machine.execThawDone ch good us s
  | .declareLost actor ch => Sys2Proof.Machine.execDeclareLost actor ch s
  | .fillGo actor mask => Sys2Proof.Machine.execFillGo actor mask s
  | .fillDone => Sys2Proof.Machine.execFillDone s
  | .scrubGo actor => Sys2Proof.Machine.execScrubGo actor s
  | .scrubDone fixed bad us => Sys2Proof.Machine.execScrubDone fixed bad us s
  | .mediaReadData reader first retried => Sys2Proof.Machine.execMediaReadData reader first retried s
  | .mapReadData lg ok0 ok1 => Sys2Proof.Machine.execMapReadData lg ok0 ok1 s
  | .programStatus op cw pass => Sys2Proof.Machine.execProgramStatus op cw pass s
  | .mediaAlert md cause => Sys2Proof.Machine.execMediaAlert md cause s
  | .strobeRecentre md used => Sys2Proof.Machine.execStrobeRecentre md used s
  | .retrain actor md result us => Sys2Proof.Machine.execRetrain actor md result us s
  | .format actor md mask => Sys2Proof.Machine.execFormat actor md mask s
  | .formatDone md pos gib => Sys2Proof.Machine.execFormatDone md pos gib s
  | .mapEntryWriteback lg => Sys2Proof.Machine.execMapEntryWriteback lg s
  | .mapFlush actor => Sys2Proof.Machine.execMapFlush actor s
  | .relocationDone op => Sys2Proof.Machine.execRelocationDone op s
  | .disturbDecay => Sys2Proof.Machine.execDisturbDecay s
  | .scourerVisit md bits => Sys2Proof.Machine.execScourerVisit md bits s
  | .untrustRuleClear actor mask => Sys2Proof.Machine.execUntrustRuleClear actor mask s
  | .pfailNAssert => Sys2Proof.Machine.execPfailNAssert s
  | .pfailStopAdmission => Sys2Proof.Machine.execPfailStopAdmission s
  | .pfailCommit => Sys2Proof.Machine.execPfailCommit s
  | .vaultWrite => Sys2Proof.Machine.execVaultWrite s
  | .vaultSealed us => Sys2Proof.Machine.execVaultSealed us s
  | .replayDone => Sys2Proof.Machine.execReplayDone s
  | .acceptLoss actor => Sys2Proof.Machine.execAcceptLoss actor s
  | .leaseStop => Sys2Proof.Machine.execLeaseStop s
  | .mirrorSegmentSend => Sys2Proof.Machine.execMirrorSegmentSend s
  | .sealSend => Sys2Proof.Machine.execSealSend s
  | .segmentRx h m => Sys2Proof.Machine.execSegmentRx h m s
  | .sealRx h m => Sys2Proof.Machine.execSealRx h m s
  | .ackRx h batch status => Sys2Proof.Machine.execAckRx h batch status s
  | .heartbeatSend sub => Sys2Proof.Machine.execHeartbeatSend sub s
  | .heartbeatRx h m at_ => Sys2Proof.Machine.execHeartbeatRx h m at_ s
  | .heartbeatMiss64 => Sys2Proof.Machine.execHeartbeatMiss64 s
  | .assistReqRx h req kind line pos => Sys2Proof.Machine.execAssistReqRx h req kind line pos s
  | .assistRespRx h req status poison lines => Sys2Proof.Machine.execAssistRespRx h req status poison lines s
  | .resyncStartRx h mode => Sys2Proof.Machine.execResyncStartRx h mode s
  | .resyncLogRx h mode grans => Sys2Proof.Machine.execResyncLogRx h mode grans s
  | .resyncDoneRx h => Sys2Proof.Machine.execResyncDoneRx h s
  | .resyncAbortRx h => Sys2Proof.Machine.execResyncAbortRx h s
  | .twinNakRx h frame seq => Sys2Proof.Machine.execTwinNakRx h frame seq s
  | .helloRx h m => Sys2Proof.Machine.execHelloRx h m s
  | .relayRx h m key us => Sys2Proof.Machine.execRelayRx h m key us s
  | .twinLinkTrain main fall => Sys2Proof.Machine.execTwinLinkTrain main fall s
  | .twinLinkDown => Sys2Proof.Machine.execTwinLinkDown s
  | .twinGroupFallback lock => Sys2Proof.Machine.execTwinGroupFallback lock s
  | .mainStable => Sys2Proof.Machine.execMainStable s
  | .groupRevert => Sys2Proof.Machine.execGroupRevert s
  | .leaseRenew => Sys2Proof.Machine.execLeaseRenew s
  | .trivetRequestTimeout id => Sys2Proof.Machine.execTrivetRequestTimeout id s
  | .trivetGrantRx m src key us => Sys2Proof.Machine.execTrivetGrantRx m src key us s
  | .trivetRefuseRx m src key us => Sys2Proof.Machine.execTrivetRefuseRx m src key us s
  | .leaseExpire => Sys2Proof.Machine.execLeaseExpire s
  | .handoff actor => Sys2Proof.Machine.execHandoff actor s
  | .handoffRelease => Sys2Proof.Machine.execHandoffRelease s
  | .forceSolo actor => Sys2Proof.Machine.execForceSolo actor s
  | .pairWaitExpire => Sys2Proof.Machine.execPairWaitExpire s
  | .switchFrame => Sys2Proof.Machine.execSwitchFrame s
  | .switchFrameDefer => Sys2Proof.Machine.execSwitchFrameDefer s
  | .witnessRenewRx m key => Sys2Proof.Machine.execWitnessRenewRx m key s
  | .witnessRequestRx m key => Sys2Proof.Machine.execWitnessRequestRx m key s
  | .witnessReleaseRx m key => Sys2Proof.Machine.execWitnessReleaseRx m key s
  | .witnessLeaseEnd low high => Sys2Proof.Machine.execWitnessLeaseEnd low high s
  | .witnessStartHoldEnd => Sys2Proof.Machine.execWitnessStartHoldEnd s
  | .memRd port ld tag hpa obs => Sys2Proof.Machine.execMemRd port ld tag hpa obs s
  | .memRdData port ld tag hpa obs => Sys2Proof.Machine.execMemRdData port ld tag hpa obs s
  | .memSpecRd port ld hpa obs => Sys2Proof.Machine.execMemSpecRd port ld hpa obs s
  | .memInv port ld tag => Sys2Proof.Machine.execMemInv port ld tag s
  | .memInvNt port ld tag => Sys2Proof.Machine.execMemInvNt port ld tag s
  | .memClnEvct port ld tag => Sys2Proof.Machine.execMemClnEvct port ld tag s
  | .memWr port ld tag hpa data => Sys2Proof.Machine.execMemWr port ld tag hpa data s
  | .memWrPtl port ld tag hpa data mask => Sys2Proof.Machine.execMemWrPtl port ld tag hpa data mask s
  | .cxlBadOpcode port => Sys2Proof.Machine.execCxlBadOpcode port s
  | .gpfPhase1 port tag => Sys2Proof.Machine.execGpfPhase1 port tag s
  | .gpfPhase2 port tag => Sys2Proof.Machine.execGpfPhase2 port tag s
  | .hdmDecoderCommit port ld dec base size skip iw ig lock => Sys2Proof.Machine.execHdmDecoderCommit port ld dec base size skip iw ig lock s
  | .memEnableSet port ld => Sys2Proof.Machine.execMemEnableSet port ld s
  | .cxlLinkUp port rate width flit => Sys2Proof.Machine.execCxlLinkUp port rate width flit s
  | .cxlLinkDown port => Sys2Proof.Machine.execCxlLinkDown port s
  | .cxlFlr port ld => Sys2Proof.Machine.execCxlFlr port ld s
  | .ideMacFail port => Sys2Proof.Machine.execIdeMacFail port s
  | .ideKeyExchange port io => Sys2Proof.Machine.execIdeKeyExchange port io s
  | .rdQuotaWrite actor port quota => Sys2Proof.Machine.execRdQuotaWrite actor port quota s
  | .cxpHdmSnapshot actor port ld decoder => Sys2Proof.Machine.execCxpHdmSnapshot actor port ld decoder s
  | .identify port ld => Sys2Proof.Machine.execIdentify port ld s
  | .backgroundOperationStatus port ld => Sys2Proof.Machine.execBackgroundOperationStatus port ld s
  | .getSupportedLogs port ld => Sys2Proof.Machine.execGetSupportedLogs port ld s
  | .getLog port ld effects => Sys2Proof.Machine.execGetLog port ld effects s
  | .getEventRecords port ld log => Sys2Proof.Machine.execGetEventRecords port ld log s
  | .clearEventRecords port ld log all handles => Sys2Proof.Machine.execClearEventRecords port ld log all handles s
  | .getEventInterruptPolicy port ld => Sys2Proof.Machine.execGetEventInterruptPolicy port ld s
  | .setEventInterruptPolicy port ld policy => Sys2Proof.Machine.execSetEventInterruptPolicy port ld policy s
  | .getFwInfo port ld => Sys2Proof.Machine.execGetFwInfo port ld s
  | .getTimestamp port ld => Sys2Proof.Machine.execGetTimestamp port ld s
  | .setTimestamp port ld time => Sys2Proof.Machine.execSetTimestamp port ld time s
  | .identifyMemoryDevice port ld => Sys2Proof.Machine.execIdentifyMemoryDevice port ld s
  | .getPartitionInfo port ld => Sys2Proof.Machine.execGetPartitionInfo port ld s
  | .getHealthInfo port ld => Sys2Proof.Machine.execGetHealthInfo port ld s
  | .getAlertConfiguration port ld => Sys2Proof.Machine.execGetAlertConfiguration port ld s
  | .setAlertConfiguration port ld valid enable values => Sys2Proof.Machine.execSetAlertConfiguration port ld valid enable values s
  | .getShutdownState port ld => Sys2Proof.Machine.execGetShutdownState port ld s
  | .setShutdownState port ld dirty => Sys2Proof.Machine.execSetShutdownState port ld dirty s
  | .getPoisonList port ld first lines => Sys2Proof.Machine.execGetPoisonList port ld first lines s
  | .poisonListDone port ld => Sys2Proof.Machine.execPoisonListDone port ld s
  | .mailboxUnsupported port ld op => Sys2Proof.Machine.execMailboxUnsupported port ld op s
  | .getLdInfo port => Sys2Proof.Machine.execGetLdInfo port s
  | .getLdAllocations port => Sys2Proof.Machine.execGetLdAllocations port s
  | .setLdAllocations port => Sys2Proof.Machine.execSetLdAllocations port s
  | .qosStatus port => Sys2Proof.Machine.execQosStatus port s
  | .doeDiscovery port ld index => Sys2Proof.Machine.execDoeDiscovery port ld index s
  | .cdatTableAccess port ld => Sys2Proof.Machine.execCdatTableAccess port ld s
  | .ethLinkUp port => Sys2Proof.Machine.execEthLinkUp port s
  | .ethLinkDown port cause => Sys2Proof.Machine.execEthLinkDown port cause s
  | .cmReq port m => Sys2Proof.Machine.execCmReq port m s
  | .cmRtu qpn => Sys2Proof.Machine.execCmRtu qpn s
  | .cmRep qpn remote psn => Sys2Proof.Machine.execCmRep qpn remote psn s
  | .cmDreq qpn => Sys2Proof.Machine.execCmDreq qpn s
  | .mraTimeout qpn => Sys2Proof.Machine.execMraTimeout qpn s
  | .qpErrorTimeout qpn => Sys2Proof.Machine.execQpErrorTimeout qpn s
  | .rdmaWrite port qpn psn ce h last data => Sys2Proof.Machine.execRdmaWrite port qpn psn ce h last data s
  | .rdmaWriteImm port qpn psn ce h imm data => Sys2Proof.Machine.execRdmaWriteImm port qpn psn ce h imm data s
  | .rdmaRead port qpn psn ce h => Sys2Proof.Machine.execRdmaRead port qpn psn ce h s
  | .compareSwap port qpn psn ce va key compare swap => Sys2Proof.Machine.execCompareSwap port qpn psn ce va key compare swap s
  | .fetchAdd port qpn psn ce va key addend => Sys2Proof.Machine.execFetchAdd port qpn psn ce va key addend s
  | .rdmaSend port qpn psn ce first last data => Sys2Proof.Machine.execRdmaSend port qpn psn ce first last data s
  | .sprayWrite port qpn psn ce h data => Sys2Proof.Machine.execSprayWrite port qpn psn ce h data s
  | .sprayWriteImm port qpn psn ce h data => Sys2Proof.Machine.execSprayWriteImm port qpn psn ce h data s
  | .reorderTimer qpn => Sys2Proof.Machine.execReorderTimer qpn s
  | .rdmaAckRx port qpn psn kind => Sys2Proof.Machine.execRdmaAckRx port qpn psn kind s
  | .readResponseRx port qpn psn data => Sys2Proof.Machine.execReadResponseRx port qpn psn data s
  | .sackRx port qpn psn ranges => Sys2Proof.Machine.execSackRx port qpn psn ranges s
  | .poisonNakRx port qpn psn delivered start len => Sys2Proof.Machine.execPoisonNakRx port qpn psn delivered start len s
  | .cnpRx port qpn => Sys2Proof.Machine.execCnpRx port qpn s
  | .dcqcnRecovery qpn => Sys2Proof.Machine.execDcqcnRecovery qpn s
  | .retransmitTimeout qpn => Sys2Proof.Machine.execRetransmitTimeout qpn s
  | .rdmaConnect actor qpn => Sys2Proof.Machine.execRdmaConnect actor qpn s
  | .rdmaAccept actor qpn => Sys2Proof.Machine.execRdmaAccept actor qpn s
  | .rdmaReject actor qpn => Sys2Proof.Machine.execRdmaReject actor qpn s
  | .rdmaDisconnect actor qpn => Sys2Proof.Machine.execRdmaDisconnect actor qpn s
  | .regCreate actor region => Sys2Proof.Machine.execRegCreate actor region s
  | .regDereg actor region => Sys2Proof.Machine.execRegDereg actor region s
  | .regDeregDone region => Sys2Proof.Machine.execRegDeregDone region s
  | .trigSet actor trig => Sys2Proof.Machine.execTrigSet actor trig s
  | .pdSet actor pd => Sys2Proof.Machine.execPdSet actor pd s
  | .rdmaDoorbell actor qpn => Sys2Proof.Machine.execRdmaDoorbell actor qpn s
  | .rdmaPeek actor kind index => Sys2Proof.Machine.execRdmaPeek actor kind index s
  | .rkAlloc actor n size owner seq bad => Sys2Proof.Machine.execRkAlloc actor n size owner seq bad s
  | .rkFree actor n handle owner force bad => Sys2Proof.Machine.execRkFree actor n handle owner force bad s
  | .rkCacheRefill pool bad => Sys2Proof.Machine.execRkCacheRefill pool bad s
  | .rkRebuild actor pool => Sys2Proof.Machine.execRkRebuild actor pool s
  | .rkRebuildDone pool bad => Sys2Proof.Machine.execRkRebuildDone pool bad s
  | .rkPeek actor pool entry => Sys2Proof.Machine.execRkPeek actor pool entry s
  | .qCfgWrite actor value => Sys2Proof.Machine.execQCfgWrite actor value s
  | .qPush actor slot value => Sys2Proof.Machine.execQPush actor slot value s
  | .qGapMarker queue => Sys2Proof.Machine.execQGapMarker queue s
  | .qPop actor slot bad => Sys2Proof.Machine.execQPop actor slot bad s
  | .qFlush actor slot => Sys2Proof.Machine.execQFlush actor slot s
  | .qWinSnapshot actor queue offset bad => Sys2Proof.Machine.execQWinSnapshot actor queue offset bad s
  | .schedTblWrite actor => Sys2Proof.Machine.execSchedTblWrite actor s
  | .schedTblSnapshot actor => Sys2Proof.Machine.execSchedTblSnapshot actor s
  | .schedTblCancel actor => Sys2Proof.Machine.execSchedTblCancel actor s
  | .schedStageStart entry => Sys2Proof.Machine.execSchedStageStart entry s
  | .schedRoom entry => Sys2Proof.Machine.execSchedRoom entry s
  | .schedStagingReadDone entry line find answer poison => Sys2Proof.Machine.execSchedStagingReadDone entry line find answer poison s
  | .readyBeaconSend entry => Sys2Proof.Machine.execReadyBeaconSend entry s
  | .readyBeaconRx m tagOk => Sys2Proof.Machine.execReadyBeaconRx m tagOk s
  | .schedLaunch entry => Sys2Proof.Machine.execSchedLaunch entry s
  | .schedAbandon entry => Sys2Proof.Machine.execSchedAbandon entry s
  | .schedChunkRelease entry => Sys2Proof.Machine.execSchedChunkRelease entry s
  | .schedRecordSend entry dest => Sys2Proof.Machine.execSchedRecordSend entry dest s
  | .schedCatchupExpire entry => Sys2Proof.Machine.execSchedCatchupExpire entry s
  | .keyInstall actor root certOk sigOk wrapOk => Sys2Proof.Machine.execKeyInstall actor root certOk sigOk wrapOk s
  | .keyDiscardNext actor => Sys2Proof.Machine.execKeyDiscardNext actor s
  | .keyActivate => Sys2Proof.Machine.execKeyActivate s
  | .fuseProgram actor slot => Sys2Proof.Machine.execFuseProgram actor slot s
  | .fuseRevoke actor slot => Sys2Proof.Machine.execFuseRevoke actor slot s
  | .jobExport actor q => Sys2Proof.Machine.execJobExport actor q s
  | .jobImport actor q => Sys2Proof.Machine.execJobImport actor q s
  | .jobAbort actor q => Sys2Proof.Machine.execJobAbort actor q s
  | .jobDone q tagOk => Sys2Proof.Machine.execJobDone q tagOk s
  | .markDone => Sys2Proof.Machine.execMarkDone s
  | .untrustSet actor => Sys2Proof.Machine.execUntrustSet actor s
  | .untrustClr actor entry => Sys2Proof.Machine.execUntrustClr actor entry s
  | .untrustSnapshot actor entry => Sys2Proof.Machine.execUntrustSnapshot actor entry s
  | .keySlotSnapshot actor slot => Sys2Proof.Machine.execKeySlotSnapshot actor slot s
  | .fwMeasureExtend actor => Sys2Proof.Machine.execFwMeasureExtend actor s
  | .dbgNewChallenge actor => Sys2Proof.Machine.execDbgNewChallenge actor s
  | .dbgSubmit actor level root sigOk => Sys2Proof.Machine.execDbgSubmit actor level root sigOk s
  | .spdmGetVersion => Sys2Proof.Machine.execSpdmGetVersion s
  | .spdmGetCapabilities => Sys2Proof.Machine.execSpdmGetCapabilities s
  | .spdmNegotiateAlgorithms common => Sys2Proof.Machine.execSpdmNegotiateAlgorithms common s
  | .spdmGetDigests => Sys2Proof.Machine.execSpdmGetDigests s
  | .spdmGetCertificate slot offset length => Sys2Proof.Machine.execSpdmGetCertificate slot offset length s
  | .spdmChallenge slot mctp => Sys2Proof.Machine.execSpdmChallenge slot mctp s
  | .spdmGetMeasurements index signed mctp => Sys2Proof.Machine.execSpdmGetMeasurements index signed mctp s
  | .spdmKeyExchange session => Sys2Proof.Machine.execSpdmKeyExchange session s
  | .spdmFinish session ok => Sys2Proof.Machine.execSpdmFinish session ok s
  | .spdmEndSession session => Sys2Proof.Machine.execSpdmEndSession session s
  | .coreRunSet actor core => Sys2Proof.Machine.execCoreRunSet actor core s
  | .coreRunClear actor core => Sys2Proof.Machine.execCoreRunClear actor core s
  | .coreReset actor core => Sys2Proof.Machine.execCoreReset actor core s
  | .tcmClear actor core => Sys2Proof.Machine.execTcmClear actor core s
  | .tcmClearDone core => Sys2Proof.Machine.execTcmClearDone core s
  | .coreNmi actor core => Sys2Proof.Machine.execCoreNmi actor core s
  | .evqPop actor core => Sys2Proof.Machine.execEvqPop actor core s
  | .evqFlush actor core => Sys2Proof.Machine.execEvqFlush actor core s
  | .mtimecmpMatch core => Sys2Proof.Machine.execMtimecmpMatch core s
  | .keeperCoreHalt k => Sys2Proof.Machine.execKeeperCoreHalt k s
  | .keeperTakeover k => Sys2Proof.Machine.execKeeperTakeover k s
  | .debugHalt core => Sys2Proof.Machine.execDebugHalt core s
  | .debugResume core => Sys2Proof.Machine.execDebugResume core s
  | .debugAbstractCommand core cmd => Sys2Proof.Machine.execDebugAbstractCommand core cmd s
  | .cfProgram actor => Sys2Proof.Machine.execCfProgram actor s
  | .cfProgramDone us => Sys2Proof.Machine.execCfProgramDone us s
  | .cfErase actor => Sys2Proof.Machine.execCfErase actor s
  | .cfEraseDone us activeUs => Sys2Proof.Machine.execCfEraseDone us activeUs s
  | .cfHash actor => Sys2Proof.Machine.execCfHash actor s
  | .cfHashDone us => Sys2Proof.Machine.execCfHashDone us s
  | .flashRead who offset => Sys2Proof.Machine.execFlashRead who offset s
  | .eraseResume => Sys2Proof.Machine.execEraseResume s
  | .eraseStarved => Sys2Proof.Machine.execEraseStarved s
  | .rackBurstStart aonMv => Sys2Proof.Machine.execRackBurstStart aonMv s
  | .rackBurstDone => Sys2Proof.Machine.execRackBurstDone s
  | .operatingSecond => Sys2Proof.Machine.execOperatingSecond s
  | .rackSnapshot actor group ecc => Sys2Proof.Machine.execRackSnapshot actor group ecc s
  | .rackFwCmd actor group count => Sys2Proof.Machine.execRackFwCmd actor group count s
  | .spikeFlushRequest actor => Sys2Proof.Machine.execSpikeFlushRequest actor s
  | .spikeFlushDone abandoned totalUs => Sys2Proof.Machine.execSpikeFlushDone abandoned totalUs s
  | .spikeFreeze actor => Sys2Proof.Machine.execSpikeFreeze actor s
  | .spikeUnfreeze actor => Sys2Proof.Machine.execSpikeUnfreeze actor s
  | .spikeFreezeMax => Sys2Proof.Machine.execSpikeFreezeMax s
  | .spikeStep actor => Sys2Proof.Machine.execSpikeStep actor s
  | .spikeCursorWrite actor seq => Sys2Proof.Machine.execSpikeCursorWrite actor seq s
  | .spikeClearChallenge actor => Sys2Proof.Machine.execSpikeClearChallenge actor s
  | .spikeClearSubmit actor root sigOk => Sys2Proof.Machine.execSpikeClearSubmit actor root sigOk s
  | .spikeClearDone => Sys2Proof.Machine.execSpikeClearDone s
  | .adcConversion rail reading us => Sys2Proof.Machine.execAdcConversion rail reading us s
  | .railEnable rail => Sys2Proof.Machine.execRailEnable rail s
  | .railPgChange rail high => Sys2Proof.Machine.execRailPgChange rail high s
  | .railUp rail us => Sys2Proof.Machine.execRailUp rail us s
  | .railFailUp rail us => Sys2Proof.Machine.execRailFailUp rail us s
  | .railDownTimeout rail us => Sys2Proof.Machine.execRailDownTimeout rail us s
  | .railPgLost rail us => Sys2Proof.Machine.execRailPgLost rail us s
  | .railRetry actor rail => Sys2Proof.Machine.execRailRetry actor rail s
  | .railSkipWait actor rail => Sys2Proof.Machine.execRailSkipWait actor rail s
  | .hobOn actor => Sys2Proof.Machine.execHobOn actor s
  | .hobOff actor => Sys2Proof.Machine.execHobOff actor s
  | .inputReturn => Sys2Proof.Machine.execInputReturn s
  | .resetRelease n => Sys2Proof.Machine.execResetRelease n s
  | .resetPulse actor n => Sys2Proof.Machine.execResetPulse actor n s
  | .thermalSample cls n temp us => Sys2Proof.Machine.execThermalSample cls n temp us s
  | .thermalTrip => Sys2Proof.Machine.execThermalTrip s
  | .powerOnReset bad corrected => Sys2Proof.Machine.execPowerOnReset bad corrected s
  | .alwaysOnLoss => Sys2Proof.Machine.execAlwaysOnLoss s
  | .bootImageLoaded a b us1 us2 => Sys2Proof.Machine.execBootImageLoaded a b us1 us2 s
  | .bootHobUp us => Sys2Proof.Machine.execBootHobUp us s
  | .bootRelease us => Sys2Proof.Machine.execBootRelease us s
  | .sysrstN => Sys2Proof.Machine.execSysrstN s
  | .systemReset actor => Sys2Proof.Machine.execSystemReset actor s
  | .warmRestart actor => Sys2Proof.Machine.execWarmRestart actor s
  | .wdtKick actor => Sys2Proof.Machine.execWdtKick actor s
  | .wdtExpire => Sys2Proof.Machine.execWdtExpire s
  | .stateSnap actor fixed bad => Sys2Proof.Machine.execStateSnap actor fixed bad s
  | .stateSnapDone fixed bad => Sys2Proof.Machine.execStateSnapDone fixed bad s
  | .coreMemoryAccess core kind addr size data ecc => Sys2Proof.Machine.execCoreMemoryAccess core kind addr size data ecc s
  | .ethFrameDiscard port => Sys2Proof.Machine.execEthFrameDiscard port s
  | .ptpLost => Sys2Proof.Machine.execPtpLost s
  | .trefReturn => Sys2Proof.Machine.execTrefReturn s

end Sys2Proof.Machine
end

