-- ==== Sys2Proof/WellFormed.lean ====
section
/-! DEFINITION. Well-formed commands: every index names something the spec has (R11, R34, R62, R409 and the tables of each block). -/

namespace Sys2Proof

/-- A host actor is a logical device of a port that exists (R11, R243, R246). -/
def Actor.wf : Actor → Bool
  | .firmware => true
  | .host p l => p < 16 && l < 16
  | .bmc => true
  | .debugPort => true

/-- Every operand lies in the range its table gives. -/
def Instr.wf : Instr → Bool
  | .registerWrite actor _ nbytes _ => actor.wf && decide (nbytes < 9)
  | .frameTick _ => true
  | .planFreeze => true
  | .admissionCutChange => true
  | .passOverflow src => decide (src < 88)
  | .passMarkStore => true
  | .passMarkStall => true
  | .passMarkStoreDone => true
  | .unitEnable actor unit => actor.wf && decide (unit < 80)
  | .unitDisable actor unit => actor.wf && decide (unit < 80)
  | .unitStartDone unit us _ => decide (unit < 80) && decide (us < 2 ^ 32)
  | .unitStartFail unit _ => decide (unit < 80)
  | .unitStopDone unit => decide (unit < 80)
  | .unitFaultStop unit => decide (unit < 80)
  | .trefLost => true
  | .ptpMessage port _ _ _ _ _ _ => decide (port < 16)
  | .tsyncInEdge _ => true
  | .tsyncFault _ => true
  | .epochPulse => true
  | .discoveryBeaconRx _ src _ => decide (src < 88)
  | .peerLost _ => true
  | .phaseMeasurement _ => true
  | .syncLocked => true
  | .referenceLost => true
  | .holdoverExceeded => true
  | .referenceRegained _ => true
  | .timeFreezeSet actor => actor.wf
  | .timeFreezeClear actor => actor.wf
  | .slotCheckA actor => actor.wf
  | .slotCheckB actor => actor.wf
  | .slotCheckDone _ => true
  | .changeRequest actor _ _ => actor.wf
  | .changeCancel actor => actor.wf
  | .changeCheckDone _ => true
  | .changeAgreementCheck => true
  | .changeQuiesce => true
  | .changeApply => true
  | .svnCommit actor => actor.wf
  | .recoveryImageWrite _ _ => true
  | .purgeDone => true
  | .placeModeWrite actor part _ => actor.wf && decide (part < 256)
  | .promoteFilterDecay => true
  | .pinFillGranule _ => true
  | .xlateSnapshot actor line => actor.wf && decide (line < 2 ^ 41)
  | .assistTimeout _ => true
  | .noTwinReadBound mr => decide (mr < 4096)
  | .ncFill mr => decide (mr < 4096)
  | .ncRepairRequest line => decide (line < 2 ^ 41)
  | .colanderAccept col => decide (col < 512)
  | .ncFlush actor _ => actor.wf
  | .ncInvalidate actor _ => actor.wf
  | .ncFlushInvalidate actor _ => actor.wf
  | .ncOpDone => true
  | .ncMrSnapshot actor mr => actor.wf && decide (mr < 4096)
  | .ncColSnapshot actor col => actor.wf && decide (col < 512)
  | .channelSetFix => true
  | .writeBackDone _ => true
  | .refreshRound ch _ => decide (ch < 12)
  | .neighbourRefresh ch bank _ => decide (ch < 12) && decide (bank < 32)
  | .caParityAlert ch _ => decide (ch < 12)
  | .freezeHoldExpire ch mr => decide (ch < 12) && decide (mr < 4096)
  | .thaw actor ch => actor.wf && decide (ch < 12)
  | .thawDone ch _ us => decide (ch < 12) && decide (us < 2 ^ 32)
  | .declareLost actor ch => actor.wf && decide (ch < 12)
  | .fillGo actor mask => actor.wf && decide (mask < 4096)
  | .fillDone => true
  | .scrubGo actor => actor.wf
  | .scrubDone _ _ _ => true
  | .mediaReadData _ _ _ => true
  | .mapReadData _ _ _ => true
  | .programStatus _ _ _ => true
  | .mediaAlert md cause => decide (md < 32) && decide (cause < 3)
  | .strobeRecentre md _ => decide (md < 32)
  | .retrain actor md result _ => actor.wf && decide (md < 32) && decide (result < 16)
  | .format actor md mask => actor.wf && decide (md < 32) && decide (mask < 4)
  | .formatDone md pos _ => decide (md < 32) && decide (pos < 2)
  | .mapEntryWriteback _ => true
  | .mapFlush actor => actor.wf
  | .relocationDone _ => true
  | .disturbDecay => true
  | .scourerVisit md _ => decide (md < 32)
  | .untrustRuleClear actor _ => actor.wf
  | .pfailNAssert => true
  | .pfailStopAdmission => true
  | .pfailCommit => true
  | .vaultWrite => true
  | .vaultSealed us => decide (us < 2 ^ 32)
  | .replayDone => true
  | .acceptLoss actor => actor.wf
  | .leaseStop => true
  | .mirrorSegmentSend => true
  | .sealSend => true
  | .segmentRx _ _ => true
  | .sealRx _ _ => true
  | .ackRx _ _ _ => true
  | .heartbeatSend _ => true
  | .heartbeatRx _ _ _ => true
  | .heartbeatMiss64 => true
  | .assistReqRx _ _ _ line _ => decide (line < 2 ^ 41)
  | .assistRespRx _ _ _ _ _ => true
  | .resyncStartRx _ _ => true
  | .resyncLogRx _ _ _ => true
  | .resyncDoneRx _ => true
  | .resyncAbortRx _ => true
  | .twinNakRx _ _ _ => true
  | .helloRx _ _ => true
  | .relayRx _ _ _ _ => true
  | .twinLinkTrain _ _ => true
  | .twinLinkDown => true
  | .twinGroupFallback _ => true
  | .mainStable => true
  | .groupRevert => true
  | .leaseRenew => true
  | .trivetRequestTimeout _ => true
  | .trivetGrantRx _ src _ _ => decide (src < 8)
  | .trivetRefuseRx _ src _ _ => decide (src < 8)
  | .leaseExpire => true
  | .handoff actor => actor.wf
  | .handoffRelease => true
  | .forceSolo actor => actor.wf
  | .pairWaitExpire => true
  | .switchFrame => true
  | .switchFrameDefer => true
  | .witnessRenewRx _ _ => true
  | .witnessRequestRx _ _ => true
  | .witnessReleaseRx _ _ => true
  | .witnessLeaseEnd low high => decide (low < 4096) && decide (high < 4096)
  | .witnessStartHoldEnd => true
  | .memRd port ld tag hpa _ => decide (port < 16) && decide (ld < 16) && decide (tag < 2 ^ 16) && decide (hpa < 2 ^ 52)
  | .memRdData port ld tag hpa _ => decide (port < 16) && decide (ld < 16) && decide (tag < 2 ^ 16) && decide (hpa < 2 ^ 52)
  | .memSpecRd port ld hpa _ => decide (port < 16) && decide (ld < 16) && decide (hpa < 2 ^ 52)
  | .memInv port ld tag => decide (port < 16) && decide (ld < 16) && decide (tag < 2 ^ 16)
  | .memInvNt port ld tag => decide (port < 16) && decide (ld < 16) && decide (tag < 2 ^ 16)
  | .memClnEvct port ld tag => decide (port < 16) && decide (ld < 16) && decide (tag < 2 ^ 16)
  | .memWr port ld tag hpa _ => decide (port < 16) && decide (ld < 16) && decide (tag < 2 ^ 16) && decide (hpa < 2 ^ 52)
  | .memWrPtl port ld tag hpa _ _ => decide (port < 16) && decide (ld < 16) && decide (tag < 2 ^ 16) && decide (hpa < 2 ^ 52)
  | .cxlBadOpcode port => decide (port < 16)
  | .gpfPhase1 port tag => decide (port < 16) && decide (tag < 2 ^ 16)
  | .gpfPhase2 port tag => decide (port < 16) && decide (tag < 2 ^ 16)
  | .hdmDecoderCommit port ld dec base size skip iw ig _ => decide (port < 16) && decide (ld < 16) && decide (dec < 2) && decide (base < 2 ^ 36) && decide (size < 2 ^ 36) && decide (skip < 2 ^ 36) && decide (iw < 16) && decide (ig < 16)
  | .memEnableSet port ld => decide (port < 16) && decide (ld < 16)
  | .cxlLinkUp port rate width _ => decide (port < 16) && decide (rate < 5) && decide (width < 65)
  | .cxlLinkDown port => decide (port < 16)
  | .cxlFlr port ld => decide (port < 16) && decide (ld < 16)
  | .ideMacFail port => decide (port < 16)
  | .ideKeyExchange port _ => decide (port < 16)
  | .rdQuotaWrite actor port quota => actor.wf && decide (port < 16) && decide (quota < 8192)
  | .cxpHdmSnapshot actor port ld decoder => actor.wf && decide (port < 16) && decide (ld < 16) && decide (decoder < 2)
  | .identify port ld => decide (port < 16) && decide (ld < 16)
  | .backgroundOperationStatus port ld => decide (port < 16) && decide (ld < 16)
  | .getSupportedLogs port ld => decide (port < 16) && decide (ld < 16)
  | .getLog port ld _ => decide (port < 16) && decide (ld < 16)
  | .getEventRecords port ld log => decide (port < 16) && decide (ld < 16) && decide (log < 4)
  | .clearEventRecords port ld log _ _ => decide (port < 16) && decide (ld < 16) && decide (log < 4)
  | .getEventInterruptPolicy port ld => decide (port < 16) && decide (ld < 16)
  | .setEventInterruptPolicy port ld policy => decide (port < 16) && decide (ld < 16) && decide (policy < 2 ^ 32)
  | .getFwInfo port ld => decide (port < 16) && decide (ld < 16)
  | .getTimestamp port ld => decide (port < 16) && decide (ld < 16)
  | .setTimestamp port ld time => decide (port < 16) && decide (ld < 16) && decide (time < 2 ^ 64)
  | .identifyMemoryDevice port ld => decide (port < 16) && decide (ld < 16)
  | .getPartitionInfo port ld => decide (port < 16) && decide (ld < 16)
  | .getHealthInfo port ld => decide (port < 16) && decide (ld < 16)
  | .getAlertConfiguration port ld => decide (port < 16) && decide (ld < 16)
  | .setAlertConfiguration port ld _ _ _ => decide (port < 16) && decide (ld < 16)
  | .getShutdownState port ld => decide (port < 16) && decide (ld < 16)
  | .setShutdownState port ld _ => decide (port < 16) && decide (ld < 16)
  | .getPoisonList port ld _ _ => decide (port < 16) && decide (ld < 16)
  | .poisonListDone port ld => decide (port < 16) && decide (ld < 16)
  | .mailboxUnsupported port ld _ => decide (port < 16) && decide (ld < 16)
  | .getLdInfo port => decide (port < 16)
  | .getLdAllocations port => decide (port < 16)
  | .setLdAllocations port => decide (port < 16)
  | .qosStatus port => decide (port < 16)
  | .doeDiscovery port ld _ => decide (port < 16) && decide (ld < 16)
  | .cdatTableAccess port ld => decide (port < 16) && decide (ld < 16)
  | .ethLinkUp port => decide (port < 8)
  | .ethLinkDown port _ => decide (port < 8)
  | .cmReq port _ => decide (port < 8)
  | .cmRtu qpn => decide (qpn < 16777216)
  | .cmRep qpn remote psn => decide (qpn < 16777216) && decide (remote < 2 ^ 24) && decide (psn < 2 ^ 24)
  | .cmDreq qpn => decide (qpn < 16777216)
  | .mraTimeout qpn => decide (qpn < 16777216)
  | .qpErrorTimeout qpn => decide (qpn < 16777216)
  | .rdmaWrite port qpn psn _ _ _ _ => decide (port < 8) && decide (qpn < 2 ^ 24) && decide (psn < 2 ^ 24)
  | .rdmaWriteImm port qpn psn _ _ imm _ => decide (port < 8) && decide (qpn < 2 ^ 24) && decide (psn < 2 ^ 24) && decide (imm < 2 ^ 32)
  | .rdmaRead port qpn psn _ _ => decide (port < 8) && decide (qpn < 2 ^ 24) && decide (psn < 2 ^ 24)
  | .compareSwap port qpn psn _ va key compare swap => decide (port < 8) && decide (qpn < 2 ^ 24) && decide (psn < 2 ^ 24) && decide (va < 2 ^ 64) && decide (key < 2 ^ 32) && decide (compare < 2 ^ 64) && decide (swap < 2 ^ 64)
  | .fetchAdd port qpn psn _ va key addend => decide (port < 8) && decide (qpn < 2 ^ 24) && decide (psn < 2 ^ 24) && decide (va < 2 ^ 64) && decide (key < 2 ^ 32) && decide (addend < 2 ^ 64)
  | .rdmaSend port qpn psn _ _ _ _ => decide (port < 8) && decide (qpn < 2 ^ 24) && decide (psn < 2 ^ 24)
  | .sprayWrite port qpn psn _ _ _ => decide (port < 8) && decide (qpn < 2 ^ 24) && decide (psn < 2 ^ 24)
  | .sprayWriteImm port qpn psn _ _ _ => decide (port < 8) && decide (qpn < 2 ^ 24) && decide (psn < 2 ^ 24)
  | .reorderTimer qpn => decide (qpn < 16777216)
  | .rdmaAckRx port qpn psn _ => decide (port < 8) && decide (qpn < 2 ^ 24) && decide (psn < 2 ^ 24)
  | .readResponseRx port qpn psn _ => decide (port < 8) && decide (qpn < 2 ^ 24) && decide (psn < 2 ^ 24)
  | .sackRx port qpn psn _ => decide (port < 8) && decide (qpn < 2 ^ 24) && decide (psn < 2 ^ 24)
  | .poisonNakRx port qpn psn delivered start len => decide (port < 8) && decide (qpn < 2 ^ 24) && decide (psn < 2 ^ 24) && decide (delivered < 2 ^ 32) && decide (start < 2 ^ 32) && decide (len < 2 ^ 32)
  | .cnpRx port qpn => decide (port < 8) && decide (qpn < 2 ^ 24)
  | .dcqcnRecovery qpn => decide (qpn < 16777216)
  | .retransmitTimeout qpn => decide (qpn < 16777216)
  | .rdmaConnect actor qpn => actor.wf && decide (qpn < 16777216)
  | .rdmaAccept actor qpn => actor.wf && decide (qpn < 16777216)
  | .rdmaReject actor qpn => actor.wf && decide (qpn < 16777216)
  | .rdmaDisconnect actor qpn => actor.wf && decide (qpn < 16777216)
  | .regCreate actor region => actor.wf && decide (region < 2 ^ 24)
  | .regDereg actor region => actor.wf && decide (region < 2 ^ 24)
  | .regDeregDone region => decide (region < 1048576)
  | .trigSet actor trig => actor.wf && decide (trig < 4096)
  | .pdSet actor pd => actor.wf && decide (pd < 4096)
  | .rdmaDoorbell actor qpn => actor.wf && decide (qpn < 16777216)
  | .rdmaPeek actor kind index => actor.wf && decide (kind < 4) && decide (index < 2 ^ 24)
  | .rkAlloc actor n size owner seq _ => actor.wf && decide (n < 16) && decide (size < 2 ^ 19) && decide (owner < 16) && decide (seq < 256)
  | .rkFree actor n handle owner _ _ => actor.wf && decide (n < 16) && decide (handle < 2 ^ 36) && decide (owner < 16)
  | .rkCacheRefill pool _ => decide (pool < 6)
  | .rkRebuild actor pool => actor.wf && decide (pool < 8)
  | .rkRebuildDone pool _ => decide (pool < 6)
  | .rkPeek actor pool entry => actor.wf && decide (pool < 8) && decide (entry < 64)
  | .qCfgWrite actor _ => actor.wf
  | .qPush actor slot _ => actor.wf && decide (slot < 256)
  | .qGapMarker queue => decide (queue < 4096)
  | .qPop actor slot _ => actor.wf && decide (slot < 256)
  | .qFlush actor slot => actor.wf && decide (slot < 256)
  | .qWinSnapshot actor queue _ _ => actor.wf && decide (queue < 4096)
  | .schedTblWrite actor => actor.wf
  | .schedTblSnapshot actor => actor.wf
  | .schedTblCancel actor => actor.wf
  | .schedStageStart entry => decide (entry < 4096)
  | .schedRoom entry => decide (entry < 4096)
  | .schedStagingReadDone entry _ _ _ _ => decide (entry < 4096)
  | .readyBeaconSend entry => decide (entry < 4096)
  | .readyBeaconRx _ _ => true
  | .schedLaunch entry => decide (entry < 4096)
  | .schedAbandon entry => decide (entry < 4096)
  | .schedChunkRelease entry => decide (entry < 4096)
  | .schedRecordSend entry _ => decide (entry < 4096)
  | .schedCatchupExpire entry => decide (entry < 4096)
  | .keyInstall actor _ _ _ _ => actor.wf
  | .keyDiscardNext actor => actor.wf
  | .keyActivate => true
  | .fuseProgram actor slot => actor.wf && decide (slot < 8)
  | .fuseRevoke actor slot => actor.wf && decide (slot < 8)
  | .jobExport actor q => actor.wf && decide (q < 2)
  | .jobImport actor q => actor.wf && decide (q < 2)
  | .jobAbort actor q => actor.wf && decide (q < 2)
  | .jobDone q _ => decide (q < 2)
  | .markDone => true
  | .untrustSet actor => actor.wf
  | .untrustClr actor entry => actor.wf && decide (entry < 64)
  | .untrustSnapshot actor entry => actor.wf && decide (entry < 64)
  | .keySlotSnapshot actor slot => actor.wf && decide (slot < 128)
  | .fwMeasureExtend actor => actor.wf
  | .dbgNewChallenge actor => actor.wf
  | .dbgSubmit actor level _ _ => actor.wf && decide (level < 4)
  | .spdmGetVersion => true
  | .spdmGetCapabilities => true
  | .spdmNegotiateAlgorithms _ => true
  | .spdmGetDigests => true
  | .spdmGetCertificate _ _ _ => true
  | .spdmChallenge _ _ => true
  | .spdmGetMeasurements _ _ _ => true
  | .spdmKeyExchange _ => true
  | .spdmFinish _ _ => true
  | .spdmEndSession _ => true
  | .coreRunSet actor core => actor.wf && decide (core < 16)
  | .coreRunClear actor core => actor.wf && decide (core < 16)
  | .coreReset actor core => actor.wf && decide (core < 16)
  | .tcmClear actor core => actor.wf && decide (core < 16)
  | .tcmClearDone core => decide (core < 16)
  | .coreNmi actor core => actor.wf && decide (core < 16)
  | .evqPop actor core => actor.wf && decide (core < 16)
  | .evqFlush actor core => actor.wf && decide (core < 16)
  | .mtimecmpMatch core => decide (core < 16)
  | .keeperCoreHalt k => decide (k < 2)
  | .keeperTakeover k => decide (k < 2)
  | .debugHalt core => decide (core < 16)
  | .debugResume core => decide (core < 16)
  | .debugAbstractCommand core _ => decide (core < 16)
  | .cfProgram actor => actor.wf
  | .cfProgramDone _ => true
  | .cfErase actor => actor.wf
  | .cfEraseDone _ _ => true
  | .cfHash actor => actor.wf
  | .cfHashDone _ => true
  | .flashRead _ _ => true
  | .eraseResume => true
  | .eraseStarved => true
  | .rackBurstStart _ => true
  | .rackBurstDone => true
  | .operatingSecond => true
  | .rackSnapshot actor group _ => actor.wf && decide (group < 1048576)
  | .rackFwCmd actor group count => actor.wf && decide (group < 1048576) && decide (count < 128)
  | .spikeFlushRequest actor => actor.wf
  | .spikeFlushDone _ totalUs => decide (totalUs < 2 ^ 32)
  | .spikeFreeze actor => actor.wf
  | .spikeUnfreeze actor => actor.wf
  | .spikeFreezeMax => true
  | .spikeStep actor => actor.wf
  | .spikeCursorWrite actor _ => actor.wf
  | .spikeClearChallenge actor => actor.wf
  | .spikeClearSubmit actor _ _ => actor.wf
  | .spikeClearDone => true
  | .adcConversion rail reading us => decide (rail < 24) && decide (reading < 4096) && decide (us < 2 ^ 32)
  | .railEnable rail => decide (rail < 24)
  | .railPgChange rail _ => decide (rail < 24)
  | .railUp rail us => decide (rail < 24) && decide (us < 2 ^ 32)
  | .railFailUp rail us => decide (rail < 24) && decide (us < 2 ^ 32)
  | .railDownTimeout rail us => decide (rail < 24) && decide (us < 2 ^ 32)
  | .railPgLost rail us => decide (rail < 24) && decide (us < 2 ^ 32)
  | .railRetry actor rail => actor.wf && decide (rail < 24)
  | .railSkipWait actor rail => actor.wf && decide (rail < 24)
  | .hobOn actor => actor.wf
  | .hobOff actor => actor.wf
  | .inputReturn => true
  | .resetRelease n => decide (n < 8)
  | .resetPulse actor n => actor.wf && decide (n < 8)
  | .thermalSample _ n _ _ => decide (n < 64)
  | .thermalTrip => true
  | .powerOnReset _ _ => true
  | .alwaysOnLoss => true
  | .bootImageLoaded _ _ us1 us2 => decide (us1 < 2 ^ 32) && decide (us2 < 2 ^ 32)
  | .bootHobUp us => decide (us < 2 ^ 32)
  | .bootRelease us => decide (us < 2 ^ 32)
  | .sysrstN => true
  | .systemReset actor => actor.wf
  | .warmRestart actor => actor.wf
  | .wdtKick actor => actor.wf
  | .wdtExpire => true
  | .stateSnap actor _ _ => actor.wf
  | .stateSnapDone _ _ => true
  | .coreMemoryAccess core _ _ size _ _ => decide (core < 16) && decide (size = 1 ∨ size = 2 ∨ size = 4 ∨ size = 8)
  | .ethFrameDiscard port => decide (port < 8)
  | .ptpLost => true
  | .trefReturn => true

end Sys2Proof
end

