-- ==== Sys2Proof/Safety.lean ====
section
/-! DEFINITION. What a safe step is: the block answers a next state. Every error of the spec is an event, a status, poison or an
answer, so no command of the model faults. -/

namespace Sys2Proof.Machine

/-- A step from `s` is safe when it answers a next state. -/
def SafeStep (s : State) : Prop := ∃ t, step s = .next t

/-- Every well-formed command in front of any state is safe. -/
def AllSafe : Prop := ∀ (c : Instr) (s : State), c.wf = true → ∃ t, exec c s = .next t

end Sys2Proof.Machine
end

