-- ==== Sys2Proof/Certificates/Slice0/Obligations.lean ====
section
/-! DEFINITION. The statements for the provers. A completion statement says, for every command of a family, on which states and operands
the command has its own effect, and which state it then answers: `State.taken` and `State.settled` turn what the command makes of the
units into the next state (the Pass takes what was raised; other units answer what they were asked). -/

namespace Sys2Proof.Stmt

open Sys2Proof.Machine

/-- The units after a write of a register has been judged. -/
def wrote (b : Body) (actor : Actor) (a v : Nat) : Body := (b.judge actor a (BitVec.ofNat 64 v)).1

/-- A write of a register carries its command: some WO bit of it is taken. -/
abbrev acts (b : Body) (actor : Actor) (a v : Nat) : Prop := (b.judge actor a (BitVec.ofNat 64 v)).2 ≠ 0

/-- The word that writes one field of a register, the other fields as they stand. -/
def bitWord (b : Body) (f : Fld) (v : Nat) : Nat := (f.insert (b.word f.addr) v).toNat

/-- The command answers a next state, and what it makes of the units before the others answer has `P`. -/
def Leads (c : Instr) (s : State) (P : Body → Prop) : Prop :=
  ∃ b, exec c s = .next (s.settled b) ∧ P b

/-- The same for a command that concerns no other unit. -/
def LeadsAlone (c : Instr) (s : State) (P : Body → Prop) : Prop :=
  ∃ b, exec c s = .next (s.taken b) ∧ P b

/-- A message of the twin link comes in its order with a good tag (R222). -/
abbrev inOrder (b : Body) (h : MsgHdr) : Prop :=
  b.twin.link.session = true ∧ h.tagOk = true
  ∧ ((h.frame = b.twin.link.rxFrame ∧ h.seq = b.twin.link.rxSeq)
    ∨ (b.twin.link.rxFrame < h.frame ∧ h.seq = 0 ∧ b.twin.link.naked = false))

/-- The units after a message in its order has been taken: the next one is awaited. -/
def rcvd (b : Body) (h : MsgHdr) : Body :=
  b.linkMod fun l => { l with rxFrame := h.frame, rxSeq := h.seq + 1, naked := false }

/-- The mailbox command answers `a`: the answer goes out, its code is kept and its vector sent (R255, R256, R438). -/
def Answers (c : Instr) (s : State) (p k : Nat) (a : CxlAns) : Prop :=
  Leads c s fun b => .cxlAns p k a ∈ b.out ∧ (b.ldOf p k).lastCode = Body.mboxCode a ∧ ⟨U.cxl p, .named .msix, k * 8⟩ ∈ b.evs

/-- The units once a request packet for a queue pair has arrived and has been marked (R281). -/
def arrived (b : Body) (p n : Nat) (ce : Bool) : Body := (b.inc (F.ETH_COUNT_0_RX_PKTS p)).rdmaMark n ce

/-- A port takes request packets for a queue pair (R272, R282). -/
abbrev serves (b : Body) (p n : Nat) (ce : Bool) : Prop :=
  b.ethUp p = true ∧ b.rdmaShut = false ∧ ((b.qp n).st = .rtr ∨ (b.qp n).st = .rts) ∧ (b.qp n).cfg.port = p
  ∧ (arrived b p n ce).rdmaStopped = false ∧ b.per.hold = false ∧ (arrived b p n ce).attestedOk = true

/-- The units once an answer for the requester of a queue pair has arrived. -/
def answered (b : Body) (p : Nat) : Body := b.inc (F.ETH_COUNT_0_RX_PKTS p)

/-- A port takes answers for a queue pair that sends requests. -/
abbrev requests (b : Body) (p n : Nat) : Prop := b.ethUp p = true ∧ (b.qp n).st = .rts ∧ (b.qp n).cfg.port = p

/-- The units once a command of RDMA_CMD has begun (R292). -/
def begun (b : Body) (actor : Actor) (op i : Nat) : Body :=
  (((wrote b actor A.RDMA_CMD (op + 16 * (i % 2 ^ 24))).put F.RDMA_CMD_STATUS_STATE 1).put F.RDMA_CMD_STATUS_RESULT 0).put
    F.RDMA_CMD_STATUS_ECHO i

/-- A command of RDMA_CMD begins: the write carries it, the engine is ON and runs none (R292). -/
abbrev begins (b : Body) (actor : Actor) (op i : Nat) : Prop :=
  acts b actor A.RDMA_CMD (op + 16 * (i % 2 ^ 24)) ∧ b.get F.RDMA_CMD_STATUS_STATE ≠ 1 ∧ b.isOn U.rdma = true

end Sys2Proof.Stmt

open Sys2Proof Sys2Proof.Machine Sys2Proof.Stmt

/-! ## The step and the queue of commands -/

/-- A step runs the command at the front of the queue on the state with the rest of the queue.
The model's choices it rests on: log entry 8. -/
def Obligations.StepRunsFront : Prop :=
  ∀ (c : Instr) (rest : List Instr) (s : State), step { s with pending := c :: rest } = exec c { s with pending := rest }

/-- Every command completes: it answers a next state, leaves the queue of waiting commands alone, and only adds to the history of stamped
events. The model's choices it rests on: log entries 8 and 132. -/
def Obligations.EveryCommandCompletes : Prop :=
  ∀ (c : Instr) (s : State), ∃ t, exec c s = .next t ∧ t.pending = s.pending ∧ s.pass.last ≤ t.pass.last
    ∧ ∃ new, t.pass.log = new ++ s.pass.log

/-! ## The Pass (R24 to R27) -/

namespace Sys2Proof.Stmt

/-- The history of stamped events: PASS_SEQ strictly falls from the newest to the oldest, and none lies above the last one issued. -/
def PassHistory (s : State) : Prop :=
  s.pass.log.Pairwise (fun a b => b.seq < a.seq) ∧ ∀ e ∈ s.pass.log, e.seq ≤ s.pass.last

end Sys2Proof.Stmt

/-- PASS_SEQ never decreases and never repeats, resets and power cycles included: every step keeps the history strictly ordered.
The model's choices it rests on: log entry 132. -/
def Obligations.PassHistoryKept : Prop :=
  ∀ s t : State, PassHistory s → step s = .next t → PassHistory t ∧ s.pass.last ≤ t.pass.last

/-- The history of the state after reset is ordered. The model's choices it rests on: log entry 132. -/
def Obligations.PassHistoryAtReset : Prop := PassHistory State.reset

/-- What the Pass does with an event: with nothing waiting and stamping allowed it stamps at once, with the seed of the boot first, then one
above the last, below M + 2^32; else the event waits, but a non-fatal event that finds 14 non-fatal ones waiting at its source is discarded
and counted. -/
def Obligations.PassStamps : Prop :=
  (∀ (s : State) (e : PassEvent),
    (State.mayStamp s.pass = true → s.pass.bufs = [] →
      (s.present e).pass.last = State.nextSeq s.pass ∧ s.pass.last < (s.present e).pass.last
      ∧ ∃ st : Stamp, (s.present e).pass.log = st :: s.pass.log ∧ st.seq = State.nextSeq s.pass ∧ st.src = e.src ∧ st.ev = e.ev
        ∧ st.arg = e.arg ∧ st.frame = s.body.frameNo)
    ∧ (State.mayStamp s.pass = false → s.body.fatalClass e = true →
      (s.present e).pass.bufs = mset s.pass.bufs e.src (mgetD s.pass.bufs e.src [] ++ [e]) ∧ (s.present e).body = s.body)
    ∧ (State.mayStamp s.pass = false → s.body.fatalClass e = false →
      14 ≤ ((mgetD s.pass.bufs e.src []).filter (!s.body.fatalClass ·)).length →
      (s.present e).pass.bufs = s.pass.bufs ∧ mgetD (s.present e).pass.lost e.src 0 = mgetD s.pass.lost e.src 0 + 1
      ∧ (s.present e).body = s.body.inc (F.PASS_LOST_COUNT e.src)))
  ∧ (∀ p : PassSt, p.last < State.nextSeq p ∧ p.seed ≤ State.nextSeq p ∧ (p.seed ≤ p.last → State.nextSeq p = p.last + 1)
    ∧ (State.mayStamp p = true → p.ready = true ∧ State.nextSeq p < p.mark + 2 ^ 32))

/-- The commands of the Pass: a count of discards is presented, a mark store begins and ends, the Pass stalls.
The model's choices it rests on: log entry 28. -/
def Obligations.PassCommands : Prop :=
  (∀ (s : State) (src : Nat), mgetD s.pass.lost src 0 ≠ 0 →
    ((mgetD s.pass.bufs src []).filter (!s.body.fatalClass ·)).length < 14 →
    exec (.passOverflow src) s = .next (State.finish { s with
      pass := { s.pass with lost := merase s.pass.lost src }, body := s.body.postN src .passOverflow (mgetD s.pass.lost src 0) }))
  ∧ (∀ s : State, s.pass.storing = none → s.pass.ready = true → s.pass.mark + 2 ^ 31 ≤ s.pass.last →
    ∃ t, exec .passMarkStore s = .next t ∧ t.pass.storing = some (s.pass.mark + 2 ^ 31) ∧ t.pass.mark = s.pass.mark)
  ∧ (∀ s : State, s.pass.stall = false → s.pass.ready = true → s.pass.mark + 2 ^ 32 - 1 ≤ s.pass.last →
    ∃ t, exec .passMarkStall s = .next t ∧ t.pass.stall = true ∧ t.pass.mark = s.pass.mark)
  ∧ (∀ (s : State) (v : Nat), s.pass.storing = some v → s.body.ringBusy 0 = false →
    ∃ t, exec .passMarkStoreDone s = .next t ∧ t.pass.mark = v ∧ t.pass.storing = none ∧ t.pass.ready = true ∧ t.pass.stall = false)

/-! ## Registers (R5, R7, R10, R11) -/

/-- A field reads back what was put into it, and a field that shares no bit with it keeps its value.
Reads after writes, and the canonical form, of every memory held as words: the registers, a core's memories, the code flash (whose
programming only clears bits), the Rack, the Ramekin region. -/
def Obligations.MemoryOperations : Prop :=
  (∀ (b : Body) (f g : Fld) (v : Nat),
    (f.lo + f.w ≤ 64 → (b.put f v).get f = v % 2 ^ f.w) ∧ (f.apart g = true → (b.put f v).get g = b.get g))
  ∧ ((∀ (b : Body) (a : Nat) (x : Word), (b.setWord a x).word a = x ∧ (∀ k, k ≠ a → (b.setWord a x).word k = b.word k)
    ∧ (Memory.wf (fun _ => (0 : Word)) b.regs = true → Memory.wf (fun _ => (0 : Word)) (b.setWord a x).regs = true))
  ∧ (∀ (m : SMap Word) (a n : Nat) (v : Word) (x : Nat),
    Body.memByte (Body.memStore m a n v) x = (if a ≤ x ∧ x < a + n then v.toNat / 256 ^ (x - a) % 256 else Body.memByte m x)
    ∧ (Memory.wf (fun _ => (0 : Word)) m = true → Memory.wf (fun _ => (0 : Word)) (Body.memStore m a n v) = true))
  ∧ (∀ (b : Body) (n len k : Nat) (x : Word),
    (b.flashAnd n x).flashWord k = (if k = n then b.flashWord k &&& x else b.flashWord k)
    ∧ (b.flashErase n len).flashWord k = (if n ≤ k ∧ k < n + len then BitVec.allOnes 64 else b.flashWord k)
    ∧ (Memory.wf (fun _ => (0 : Word)) b.cf.words = true → Memory.wf (fun _ => (0 : Word)) (b.flashAnd n x).cf.words = true
      ∧ Memory.wf (fun _ => (0 : Word)) (b.flashErase n len).cf.words = true))
  ∧ (∀ (b : Body) (g k : Nat) (l : List Word),
    (b.writeGroups g l).group k = (if g ≤ k ∧ k < g + l.length then l.getD (k - g) 0 else b.group k)
    ∧ (Memory.wf (fun _ => (0 : Word)) b.rack.cells = true → Memory.wf (fun _ => (0 : Word)) (b.writeGroups g l).rack.cells = true))
  ∧ (∀ (b : Body) (r v k : Nat),
    (b.rkFilled (8 * (r / 8)) = true → (b.setRkByte r v).rkByte r = v % 256)
    ∧ (k ≠ r → (b.setRkByte r v).rkByte k = b.rkByte k)
    ∧ (Memory.wf (fun n => b.rkPattern (8 * n)) b.rk.words = true
      → Memory.wf (fun n => (b.setRkByte r v).rkPattern (8 * n)) (b.setRkByte r v).rk.words = true)))

/-- An access that is narrower than 64 bits, misaligned, or outside every register map changes no register: a read returns zero, the access
violation is posted, and nothing else happens. A good read changes nothing. -/
def Obligations.BadAccesses : Prop :=
  ((∀ (s : State) (actor : Actor) (a n : Nat) (v : Word), n ≠ 8 ∨ a % 8 ≠ 0 →
    Leads (.registerWrite actor a n v) s fun b => b = s.body.violation actor a)
  ∧ (∀ (b : Body) (actor : Actor) (a n : Nat) (v : Word),
    (n ≠ 8 ∨ a % 8 ≠ 0 → b.writeAny actor a n v = b.violation actor a)
    ∧ ((∀ p k, actor ≠ .host p k) → a % 8 = 0 → findReg a = none → b.writeAny actor a 8 v = b.violation actor a)
    ∧ (b.violation actor a).regs = b.regs
    ∧ (b.violation actor a).evs = b.evs ++ [⟨U.checker, .named .accessViolation, a % 2 ^ 25 + Body.actorNo actor * 2 ^ 25⟩]))
  ∧ (∀ (b : Body) (actor : Actor) (a n : Nat),
    (n ≠ 8 ∨ a % 8 ≠ 0 → b.readAny actor a n = (b.violation actor a, 0))
    ∧ (n = 8 → a % 8 = 0 → (findReg a).isSome = true → b.readAny actor a n = (b, b.readReg a)))

/-- How a write takes one field, by the field's access type (R7): an actor that its Writers column names, unblocked. -/
def Obligations.FieldTypes : Prop :=
  ∀ (b : Body) (r : RegDef) (a : Nat) (actor : Actor) (value : Word) (j : Body.Judged) (d : FieldDef),
    d.lo + d.w ≤ 64 → b.namesActor r a d actor value = true → b.portAbsent ⟨a, d.lo, d.w⟩ = false →
    let f : Fld := ⟨a, d.lo, d.w⟩
    let t := b.judgeField r a actor value false j d
    (d.typ = .ro → t = j)
    ∧ (d.typ = .rw → f.ofWord t.word = f.ofWord value ∧ t.viol = j.viol)
    ∧ (d.typ = .w1c → f.ofWord t.word = f.ofWord j.word &&& (2 ^ d.w - 1 - f.ofWord value) ∧ t.viol = j.viol)
    ∧ (d.typ = .w1s → f.ofWord t.word = f.ofWord j.word ||| f.ofWord value ∧ t.viol = j.viol)
    ∧ (d.typ = .wo → t.word = j.word ∧ f.ofWord t.wo = f.ofWord value ∧ t.taken = true ∧ t.viol = j.viol)
    ∧ (d.typ = .rwl → ∀ la lb, r.lock = some (la, lb) →
        ((b.word la).getLsbD lb = false → f.ofWord t.word = f.ofWord value ∧ t.viol = j.viol)
        ∧ ((b.word la).getLsbD lb = true → t.word = j.word ∧ (t.viol = true ↔ j.viol = true ∨ f.ofWord value ≠ f.ofWord j.word)))

/-- An actor that the Writers column does not name, or whose writes are blocked, leaves a field as it is; the write is a violation exactly
when it would have changed the field (R11, R12). -/
def Obligations.UnnamedActorChangesNothing : Prop :=
  ∀ (b : Body) (r : RegDef) (a : Nat) (actor : Actor) (value : Word) (blk : Bool) (j : Body.Judged) (d : FieldDef),
    b.namesActor r a d actor value = false ∨ blk = true →
    let f : Fld := ⟨a, d.lo, d.w⟩
    let t := b.judgeField r a actor value blk j d
    t.word = j.word ∧ t.wo = j.wo ∧ t.taken = j.taken
    ∧ (d.typ = .ro → t.viol = j.viol)
    ∧ (d.typ = .rw ∨ d.typ = .rwl → (t.viol = true ↔ j.viol = true ∨ f.ofWord value ≠ f.ofWord j.word))
    ∧ (d.typ = .w1c → (t.viol = true ↔ j.viol = true ∨ f.ofWord j.word &&& f.ofWord value ≠ 0))
    ∧ (d.typ = .w1s → (t.viol = true ↔ j.viol = true ∨ f.ofWord j.word ||| f.ofWord value ≠ f.ofWord j.word))
    ∧ (d.typ = .wo → (t.viol = true ↔ j.viol = true ∨ f.ofWord value ≠ 0))

/-- A judged write changes that register alone: every other register and what was asked of the units stay. REGISTER_WRITE of firmware, the
BMC or the debug port reaches the register block, is judged there and acted on. -/
def Obligations.RegisterWrites : Prop :=
  (∀ (b : Body) (actor : Actor) (a : Nat) (v : Word) (g : Fld), g.addr ≠ a →
    (b.judge actor a v).1.get g = b.get g ∧ (b.judge actor a v).1.todo = b.todo ∧ (b.judge actor a v).1.out = b.out)
  ∧ (∀ (s : State) (actor : Actor) (a : Nat) (v : Word) (r : RegDef), (∀ p k, actor ≠ .host p k) → a % 8 = 0 → findReg a = some r →
    Leads (.registerWrite actor a 8 v) s fun b =>
      b = (s.body.judge actor a v).1.written { actor := actor, addr := a, value := v, wo := (s.body.judge actor a v).2, old := s.body })

/-! ## Units and frames (R16 to R23, R29) -/

namespace Sys2Proof.Stmt

/-- The state entries of a unit that were handed to the Pass and not taken yet, oldest first. -/
def entered (b : Body) (u : Nat) : List Nat := (b.evs.filter fun e => e.src == u && e.ev == .named .unitEntry).map (·.arg % 4)

end Sys2Proof.Stmt

/-- The lifecycle table: what each event does to a unit in each state, and what then is pending; every state entry is posted. -/
def Obligations.LifecycleTable : Prop :=
  (∀ (b : Body) (u : Nat), u < 88 →
    (b.unit u = .off → b.boot.held = false → (b.unitEnable u).unit u = .starting ∧ .startSteps u ∈ (b.unitEnable u).todo
      ∧ entered (b.unitEnable u) u = entered b u ++ [1])
    ∧ (b.unit u = .off → b.boot.held = true → b.unitEnable u = b)
    ∧ (b.unit u = .off → b.unitDisable u = b)
    ∧ (b.unit u = .starting → (b.unitEnable u).unit u = .starting ∧ (b.unitEnable u).flag (F.UNIT_STATE_PENDING u) = false
      ∧ entered (b.unitEnable u) u = entered b u)
    ∧ (b.unit u = .starting → (b.unitDisable u).unit u = .starting ∧ (b.unitDisable u).unitPending u false = true
      ∧ entered (b.unitDisable u) u = entered b u)
    ∧ (b.unit u = .starting → b.unitPending u false = false → (b.unitStarted u).unit u = .on
      ∧ entered (b.unitStarted u) u = entered b u ++ [2])
    ∧ (b.unit u = .starting → b.unitPending u false = true →
        (b.unitStarted u).unit u = .stopping ∧ (b.unitStarted u).flag (F.UNIT_STATE_PENDING u) = false
        ∧ .stopSteps u ∈ (b.unitStarted u).todo ∧ entered (b.unitStarted u) u = entered b u ++ [2, 3])
    ∧ (b.unit u = .starting → (b.unitFail u).unit u = .stopping ∧ (b.unitFail u).flag (F.UNIT_STATE_START_FAILED u) = true
        ∧ (b.unitFail u).flag (F.UNIT_STATE_PENDING u) = false ∧ .stopSteps u ∈ (b.unitFail u).todo
        ∧ entered (b.unitFail u) u = entered b u ++ [3])
    ∧ (b.unit u = .on → b.unitEnable u = b)
    ∧ (b.unit u = .on → (b.unitDisable u).unit u = .stopping ∧ .stopSteps u ∈ (b.unitDisable u).todo
        ∧ entered (b.unitDisable u) u = entered b u ++ [3])
    ∧ (b.unit u = .on → (b.unitFault u).unit u = .stopping ∧ (b.unitFault u).flag (F.UNIT_STATE_FAULT_STOP u) = true
        ∧ .stopSteps u ∈ (b.unitFault u).todo ∧ entered (b.unitFault u) u = entered b u ++ [3])
    ∧ (b.unit u = .stopping → (b.unitEnable u).unit u = .stopping ∧ (b.unitEnable u).unitPending u true = true
        ∧ entered (b.unitEnable u) u = entered b u)
    ∧ (b.unit u = .stopping → (b.unitDisable u).unit u = .stopping ∧ (b.unitDisable u).flag (F.UNIT_STATE_PENDING u) = false
        ∧ entered (b.unitDisable u) u = entered b u)
    ∧ (b.unit u = .stopping → b.unitPending u true = false → (b.unitStopped u).unit u = .off
        ∧ entered (b.unitStopped u) u = entered b u ++ [0])
    ∧ (b.unit u = .stopping → b.unitPending u true = true →
        (b.unitStopped u).unit u = .starting ∧ (b.unitStopped u).flag (F.UNIT_STATE_PENDING u) = false
        ∧ .startSteps u ∈ (b.unitStopped u).todo ∧ entered (b.unitStopped u) u = entered b u ++ [0, 1]))
  ∧ (∀ (b : Body) (u : Nat) (st : UnitState), u < 88 →
    (b.unitEnter u st).unit u = st
    ∧ ∃ e, (b.unitEnter u st).evs = b.evs ++ [e] ∧ e.src = u ∧ e.ev = .named .unitEntry ∧ e.arg % 4 = Body.unitCode st
    ∧ ∀ v, v < 88 → v ≠ u → (b.unitEnter u st).unit v = b.unit v)

/-- The lifecycle commands: an enable or disable that the register takes is the request; the steps of a start and a stop end; a fault
stops a unit. -/
def Obligations.LifecycleCommands : Prop :=
  (∀ (s : State) (actor : Actor) (u : Nat) (f : Fld), Body.enableFld u = some f →
    (wrote s.body actor f.addr (bitWord s.body f 1)).flag f = true → s.body.unit u = .off → s.body.boot.held = false →
    Leads (.unitEnable actor u) s fun b => b.unit u = .starting ∧ .startSteps u ∈ b.todo)
  ∧ (∀ (s : State) (actor : Actor) (u : Nat) (f : Fld), Body.enableFld u = some f →
    (wrote s.body actor f.addr (bitWord s.body f 0)).flag f = false → s.body.unit u = .on →
    Leads (.unitDisable actor u) s fun b => b.unit u = .stopping ∧ .stopSteps u ∈ b.todo)
  ∧ (∀ (s : State) (u us : Nat) (obs : StartObs), u = U.time ∨ u = U.nc ∨ u = U.scourer ∨ u = U.rdma ∨ u = U.ramekin ∨ u = U.queue →
    s.body.unit u = .starting → s.body.unitPending u false = false →
    Leads (.unitStartDone u us obs) s fun b => b.unit u = .on ∧ .started u ∈ b.todo)
  ∧ (∀ (s : State) (u code : Nat), u = U.nc ∨ u = U.mtl ∨ u = U.twin ∨ u = U.rdma ∨ u = U.sched → s.body.unit u = .starting →
    Leads (.unitStartFail u code) s fun b => b.unit u = .stopping ∧ b.flag (F.UNIT_STATE_START_FAILED u) = true)
  ∧ (∀ (s : State) (u : Nat), u = U.scourer ∨ u = U.time → s.body.unit u = .stopping → s.body.unitPending u true = false →
    Leads (.unitStopDone u) s fun b => b.unit u = .off)
  ∧ (∀ (s : State) (u : Nat), u < 80 → s.body.unit u = .on →
    Leads (.unitFaultStop u) s fun b => b.unit u = .stopping ∧ b.flag (F.UNIT_STATE_FAULT_STOP u) = true)

/-- Overruns and the cut: an ended frame is counted, the eighth overrun in a row and the 64th clean frame make a change of the computed level
due, the level moves by one between 0 and 4, a forced level overrides it. The frame's own commands: the tick with its fixed work in order,
the seal phase with the frozen plan, a change of the cut level. -/
def Obligations.FrameCommands : Prop :=
  ((∀ b : Body,
    ((b.overrunCount true).get F.FRAME_OVR_COUNT_COUNT = (b.get F.FRAME_OVR_COUNT_COUNT + 1) % 2 ^ 64
      ∧ (b.overrunCount true).frame.ovrRun = b.frame.ovrRun + 1 ∧ (b.overrunCount true).frame.cleanRun = 0)
    ∧ ((b.overrunCount false).get F.FRAME_OVR_COUNT_COUNT = b.get F.FRAME_OVR_COUNT_COUNT
      ∧ (b.overrunCount false).frame.ovrRun = 0 ∧ (b.overrunCount false).frame.cleanRun = b.frame.cleanRun + 1)
    ∧ (b.get F.FRAME_OVR_STATUS_AUTO_LEVEL < 4 → ((b.frame.ovrRun + 1) % 8 = 0 ↔ (b.overrunCount true).frame.cutDue = 1))
    ∧ (0 < b.get F.FRAME_OVR_STATUS_AUTO_LEVEL → ((b.frame.cleanRun + 1) % 64 = 0 ↔ (b.overrunCount false).frame.cutDue = 2)))
  ∧ (∀ b : Body,
    (b.frame.cutDue = 1 → b.cutChange.get F.FRAME_OVR_STATUS_AUTO_LEVEL = min 4 (b.get F.FRAME_OVR_STATUS_AUTO_LEVEL + 1))
    ∧ (b.frame.cutDue = 2 → b.cutChange.get F.FRAME_OVR_STATUS_AUTO_LEVEL = b.get F.FRAME_OVR_STATUS_AUTO_LEVEL - 1)
    ∧ (b.frame.cutDue = 0 → b.cutChange.get F.FRAME_OVR_STATUS_AUTO_LEVEL = b.get F.FRAME_OVR_STATUS_AUTO_LEVEL)
    ∧ (b.flag F.FRAME_OVR_CTL_FORCE_EN = true →
        b.cutApply.get F.FRAME_OVR_STATUS_LEVEL = min 4 (b.get F.FRAME_OVR_CTL_FORCE_LEVEL))
    ∧ (b.flag F.FRAME_OVR_CTL_FORCE_EN = false → b.flag F.FRAME_OVR_CTL_AUTO_CUT_DIS = true →
        b.cutApply.get F.FRAME_OVR_STATUS_LEVEL = 0)
    ∧ (b.flag F.FRAME_OVR_CTL_FORCE_EN = false → b.flag F.FRAME_OVR_CTL_AUTO_CUT_DIS = false →
        b.cutApply.get F.FRAME_OVR_STATUS_LEVEL = b.get F.FRAME_OVR_STATUS_AUTO_LEVEL)
    ∧ b.cutApply.get F.FRAME_OVR_STATUS_AUTO_LEVEL = b.get F.FRAME_OVR_STATUS_AUTO_LEVEL))
  ∧ ((∀ (s : State) (o : TickObs), s.body.framesRun = true →
    Leads (.frameTick o) s fun b => b = (((s.body.tickTime o).tickGrant s.body.frameNo).tickWork o))
  ∧ (∀ s : State, s.body.framesRun = true → s.body.frame.sealing = false →
    Leads .planFreeze s fun b => b.frame.next.frozen = true ∧ b.th.planLevel = b.get F.TH_STATUS_LEVEL)
  ∧ (∀ s : State, s.body.frame.cutDue ≠ 0 →
    Leads .admissionCutChange s fun b => b = ((s.body.cutChange).cutApply).grantSet.admitAll))

/-! ## Time (R36 to R55, R460) -/

/-- The time unit's commands on its references: the reference clock, PTP, TSYNC_IN.
The model's choices it rests on: log entries 18 and 19. -/
def Obligations.ReferenceCommands : Prop :=
  (∀ s : State, s.body.flag F.TIME_STATUS_TREF_OK = true →
    LeadsAlone .trefLost s fun b => b.flag F.TIME_STATUS_TREF_OK = false ∧ b.flag F.TIME_EVENTS_TREF_LOST = true
      ∧ ⟨U.time, .bit F.TIME_EVENTS_TREF_LOST, 0⟩ ∈ b.evs)
  ∧ (∀ s : State, LeadsAlone .trefReturn s fun b => b.flag F.TIME_STATUS_TREF_OK = true ∧ b.evs = s.body.evs)
  ∧ (∀ (s : State) (port transport domain : Nat) (clock : Word) (time : Option Nat) (off : Option Int),
    port = s.body.get F.PTP_CFG_PORT_SEL → port ≤ 7 ∨ port = 15 → transport = s.body.get F.PTP_CFG_TRANSPORT → transport ≤ 2 →
    domain = min 127 (s.body.get F.PTP_CFG_DOMAIN_NUM) →
    LeadsAlone (.ptpMessage port transport domain clock true time off) s fun b =>
      b.flag F.TIME_STATUS_PTP_OK = true ∧ b.word A.PTP_PARENT = clock)
  ∧ (∀ s : State, s.body.flag F.TIME_STATUS_PTP_OK = true →
    LeadsAlone .ptpLost s fun b => b.flag F.TIME_STATUS_PTP_OK = false ∧ ⟨U.time, .bit F.TIME_EVENTS_PTP_LOST, 0⟩ ∈ b.evs)
  ∧ (∀ (s : State) (late : Int),
    let inWindow := s.body.time.sync ≠ .unset
      ∧ (late - ((s.body.get F.TSYNC_CFG_IN_DELAY * 10 : Nat) : Int)).natAbs ≤ s.body.get F.TSYNC_CFG_IN_WINDOW * 16
    (inWindow → LeadsAlone (.tsyncInEdge late) s fun b => b.flag F.TIME_STATUS_TSYNC_OK = true ∧ b.time.tsyncMiss = 0
      ∧ b.get F.TSYNC_COUNT_GOOD = (s.body.get F.TSYNC_COUNT_GOOD + 1) % 2 ^ 32)
    ∧ (¬ inWindow → LeadsAlone (.tsyncInEdge late) s fun b => b.time.tsyncMiss = s.body.time.tsyncMiss + 1
      ∧ b.get F.TSYNC_COUNT_OUT_OF_WINDOW = (s.body.get F.TSYNC_COUNT_OUT_OF_WINDOW + 1) % 2 ^ 32))
  ∧ (∀ (s : State) (missing : Nat), s.body.flag F.TIME_STATUS_TSYNC_OK = true → 3 ≤ s.body.time.tsyncMiss + missing →
    LeadsAlone (.tsyncFault missing) s fun b => b.flag F.TIME_STATUS_TSYNC_OK = false
      ∧ ⟨U.time, .bit F.TIME_EVENTS_TSYNC_FAULT, 0⟩ ∈ b.evs)

/-- Epoch pulses and discovery beacons: a pulse takes the milliseconds that have passed, a beacon that is accepted makes its sender a peer,
a peer of which three intervals brought no beacon is dropped.
SYNC_STATE: what each command makes of the state of the discipline. -/
def Obligations.BeaconAndSyncCommands : Prop :=
  ((∀ s : State, s.body.time.sync ≠ .unset → s.body.time.numbered = true →
    s.body.time.pulseMs < (s.body.time.tai + s.body.periodNs - 1 - s.body.get F.EPOCH_TIME_E) / 1000000 →
    LeadsAlone .epochPulse s fun b =>
      b.time.pulseMs = (s.body.time.tai + s.body.periodNs - 1 - s.body.get F.EPOCH_TIME_E) / 1000000)
  ∧ (∀ (s : State) (m : BeaconMsg) (src : Nat), s.body.beaconOk m true = true → s.body.flag F.TIME_CTL_SRC_BEACON_EN = false →
    nbit m.flags 0 = false → m.member ≠ s.body.get F.DOMAIN_ID_MEMBER → mget s.body.time.peers m.member = none →
    LeadsAlone (.discoveryBeaconRx m src true) s fun b => mget b.time.lastSeq m.member = some m.seq
      ∧ (mget b.time.peers m.member).map (fun p => (p.addr, p.frame, p.sync, p.role)) = some (src, m.frame, m.sync, m.role))
  ∧ (∀ (s : State) (member : Nat) (p : Peer), mget s.body.time.peers member = some p →
    p.at_ + 3 * s.body.beaconInterval ≤ s.body.time.pulseMs →
    LeadsAlone (.peerLost member) s fun b => mget b.time.peers member = none ∧ ⟨U.time, .named .peerLost, member⟩ ∈ b.evs))
  ∧ ((∀ (s : State) (off : Int), s.body.isOn U.time = true → s.body.get F.TIME_STATUS_SOURCE = 1 ∨ s.body.get F.TIME_STATUS_SOURCE = 2 →
    LeadsAlone (.phaseMeasurement off) s fun b => b.time.lastOff = off
      ∧ (s.body.time.sync = .locked → s.body.flag F.TIME_CTL_FREEZE = false → 320 < off.natAbs → b.time.sync = .acquiring)
      ∧ (s.body.time.sync = .locked → off.natAbs ≤ 320 → b.time.sync = .locked))
  ∧ (∀ s : State, s.body.time.sync = .acquiring → 16 ≤ s.body.time.lockRun → s.body.flag F.TIME_CTL_FREEZE = false →
    LeadsAlone .syncLocked s fun b => b.time.sync = .locked)
  ∧ (∀ s : State, s.body.phaseSource = 0 → s.body.isOn U.time = true →
    (s.body.time.sync = .locked → LeadsAlone .referenceLost s fun b => b.time.sync = .holdover
      ∧ b.time.holdBase = s.body.time.lastOff.natAbs ∧ b.time.holdNs = 0)
    ∧ (s.body.time.sync = .acquiring → LeadsAlone .referenceLost s fun b => b.time.sync = .adrift))
  ∧ (∀ s : State, s.body.time.sync = .holdover → 320 * 1000000000 < s.body.holdEst →
    LeadsAlone .holdoverExceeded s fun b => b.time.sync = .adrift ∧ ⟨U.time, .bit F.TIME_EVENTS_ALIGN_LOST, 0⟩ ∈ b.evs)
  ∧ (∀ (s : State) (off : Int), s.body.phaseSource ≠ 0 → s.body.isOn U.time = true → s.body.flag F.TIME_CTL_FREEZE = false →
    (s.body.time.sync = .holdover → off.natAbs ≤ 240 → LeadsAlone (.referenceRegained off) s fun b => b.time.sync = .locked)
    ∧ (s.body.time.sync = .holdover → 240 < off.natAbs → LeadsAlone (.referenceRegained off) s fun b => b.time.sync = .acquiring)
    ∧ (s.body.time.sync = .adrift → LeadsAlone (.referenceRegained off) s fun b => b.time.sync = .acquiring))
  ∧ (∀ (s : State) (actor : Actor), (wrote s.body actor A.TIME_CTL (bitWord s.body F.TIME_CTL_FREEZE 1)).flag F.TIME_CTL_FREEZE = true →
    s.body.time.sync = .locked →
    LeadsAlone (.timeFreezeSet actor) s fun b => b.time.sync = .holdover ∧ b.flag F.TIME_CTL_FREEZE = true)
  ∧ (∀ (s : State) (actor : Actor), s.body.flag F.TIME_CTL_FREEZE = true →
    (wrote s.body actor A.TIME_CTL (bitWord s.body F.TIME_CTL_FREEZE 0)).flag F.TIME_CTL_FREEZE = false →
    LeadsAlone (.timeFreezeClear actor) s fun b => b.time.regain = true ∧ b.flag F.TIME_CTL_FREEZE = false))

/-! ## The Agmar image and its change (R57 to R78) -/

/-- The slot checks, the SVN fuses and the recovery endpoint.
A structure change in service, command by command. -/
def Obligations.ConfigurationCommands : Prop :=
  ((∀ (s : State) (actor : Actor), acts s.body actor A.SLOT_CHECK 1 →
    LeadsAlone (.slotCheckA actor) s fun b => b.cfg.checks = s.body.cfg.checks ++ [.slotA])
  ∧ (∀ (s : State) (actor : Actor), acts s.body actor A.SLOT_CHECK 2 →
    LeadsAlone (.slotCheckB actor) s fun b => b.cfg.checks = s.body.cfg.checks ++ [.slotB])
  ∧ (∀ (s : State) (v : SlotVerdict) (rest : List CheckFor),
    (s.body.cfg.checks = .slotA :: rest → LeadsAlone (.slotCheckDone v) s fun b => b.cfg.checks = rest)
    ∧ (s.body.cfg.checks = .slotB :: rest → LeadsAlone (.slotCheckDone v) s fun b => b.cfg.checks = rest))
  ∧ (∀ (s : State) (actor : Actor), acts s.body actor A.SVN_COMMIT 1 → s.body.cfg.loaded = true →
    s.body.cfg.svnFuses < s.body.cfg.img.svn →
    LeadsAlone (.svnCommit actor) s fun b => b.cfg.svnFuses = s.body.cfg.img.svn
      ∧ ⟨U.boot, .bit F.CONFIG_EVENTS_SVN_COMMITTED, s.body.cfg.img.svn⟩ ∈ b.evs)
  ∧ (∀ (s : State) (off : Nat) (w : Word), s.body.flag F.CONFIG_STATUS_RECOVERY = true → off % 8 = 0 → off + 8 ≤ 0x400000 →
    LeadsAlone (.recoveryImageWrite off [w]) s fun b => b.flashWord (off / 8) = w
      ∧ ∀ n, n ≠ off / 8 → b.flashWord n = s.body.flashWord n))
  ∧ ((∀ (s : State) (actor : Actor) (slot : Nat), acts s.body actor A.CHANGE_CTL (1 + 4 * (slot % 2)) →
    s.body.changeState = 0 ∨ 3 < s.body.changeState →
    Leads (.changeRequest actor slot false) s fun b => b.changeState = 1 ∧ b.cfg.changeSlot = slot % 2
      ∧ b.cfg.checks = s.body.cfg.checks ++ [.ofChange])
  ∧ (∀ (s : State) (actor : Actor), acts s.body actor A.CHANGE_CTL 2 → s.body.changeState = 1 ∨ s.body.changeState = 2 →
    Leads (.changeCancel actor) s fun b => b.changeState = 6 ∧ b.cfg.refuseIn = [] ∧ b.cfg.announced = none
      ∧ ⟨U.boot, .bit F.CONFIG_EVENTS_CHANGE_CANCELLED, 0⟩ ∈ b.evs)
  ∧ (∀ (s : State) (v : SlotVerdict) (rest : List CheckFor), s.body.cfg.checks = .ofChange :: rest →
    s.body.slotCode s.body.cfg.changeSlot v ≠ 0 →
    Leads (.changeCheckDone v) s fun b => b.changeState = 5 ∧ b.get F.CHANGE_STATUS_CAUSE = 2
      ∧ ⟨U.boot, .bit F.CONFIG_EVENTS_CHANGE_REFUSED, 2⟩ ∈ b.evs)
  ∧ (∀ (s : State) (i : Image), s.body.changeState = 2 → s.body.get F.CHANGE_FRAME_APPLY ≤ s.body.frameNo + 16 →
    s.body.cfg.newImg = some i → i.qui.parts ≠ s.body.cfg.img.qui.parts → s.body.twin.link.session = true →
    s.body.twin.hb.role = 1 ∨ s.body.twin.hb.role = 2 → s.body.cfg.twinSaid ≠ s.body.cfg.announced →
    Leads .changeAgreementCheck s fun b => b.changeState = 6 ∧ b.get F.CHANGE_STATUS_CAUSE = 5)
  ∧ (∀ s : State, s.body.changeState = 2 → s.body.get F.CHANGE_FRAME_APPLY ≤ s.body.frameNo + 2 →
    Leads .changeQuiesce s fun b => b = (s.body.put F.CHANGE_STATUS_STATE 3).grantSet)
  ∧ (∀ (s : State) (i : Image), s.body.changeState = 3 → s.body.get F.CHANGE_FRAME_APPLY ≤ s.body.frameNo →
    s.body.cfg.newImg = some i → Leads .changeApply s fun b => b = s.body.changeApply))

/-! ## Partitions and placement (R79 to R101, R462) -/

/-- The commands of the address model: placement modes, the promotion filter, purges, snapshots of a translation.
The model's choices it rests on: log entries 33 and 36. -/
def Obligations.PlacementCommands : Prop :=
  (∀ s : State, s.body.tier.purge ≠ [] → LeadsAlone .purgeDone s fun b => b.tier.purge = []
    ∧ (∀ w ∈ b.nc.ways, s.body.tier.purge.contains (Body.unitOf w.2.line) = false)
    ∧ (∀ w ∈ b.nc.col, s.body.tier.purge.contains (Body.unitOf w.2.line) = false)
    ∧ ⟨U.mtl, .bit F.PLACE_EVENTS_PURGE_DONE, 0⟩ ∈ b.evs)
  ∧ (∀ (s : State) (actor : Actor) (part mode : Nat),
    LeadsAlone (.placeModeWrite actor part mode) s fun b =>
      b = (wrote s.body actor (F.PART_CTL_PLACE_MODE part).addr (bitWord s.body (F.PART_CTL_PLACE_MODE part) mode)).placeModeSettle part
        (s.body.get (F.PART_CTL_PLACE_MODE part)))
  ∧ (∀ s : State, s.body.frameNo % (1024 * max 1 (s.body.get F.PLACE_CFG_DECAY_KF)) = 0 →
    Memory.wf (fun _ => 0) s.body.tier.filter = true →
    LeadsAlone .promoteFilterDecay s fun b => ∀ k, mgetD b.tier.filter k 0 = mgetD s.body.tier.filter k 0 / 2)
  ∧ (∀ s : State, s.body.frameNo % (1024 * max 1 (s.body.get F.MTL_DISTURB_CFG_DISTURB_DECAY_KF)) = 0 →
    Memory.wf (fun _ => 0) s.body.mtl.sketchA = true → Memory.wf (fun _ => 0) s.body.mtl.sketchB = true →
    LeadsAlone .disturbDecay s fun b => ∀ k, mgetD b.mtl.sketchA k 0 = mgetD s.body.mtl.sketchA k 0 / 2
      ∧ mgetD b.mtl.sketchB k 0 = mgetD s.body.mtl.sketchB k 0 / 2)
  ∧ (∀ (s : State) (gran lg c set : Nat) (p : PartDef), s.body.partOf (gran * 64) = some p → s.body.lgOf (gran * 64) = some lg →
    s.body.spPlace gran = some (c, set) → s.body.placeMode p.id = 1 → s.body.slotOpen (s.body.place lg).ch = true →
    s.body.spFind gran = none → 6 ≤ s.body.pinnedIn c set →
    Leads (.pinFillGranule gran) s fun b => b = s.body.incSat F.SP_DIRTY_STATE_PIN_SET_FULL)
  ∧ (∀ (s : State) (gran lg c set : Nat) (p : PartDef) (b' : Body), s.body.partOf (gran * 64) = some p → s.body.lgOf (gran * 64) = some lg →
    s.body.spPlace gran = some (c, set) → s.body.placeMode p.id = 1 → s.body.slotOpen (s.body.place lg).ch = true →
    s.body.pinnedIn c set < 6 → s.body.promote lg gran p.id = some b' → ∀ k x, b'.spFind gran = some (c, k, x) →
    Leads (.pinFillGranule gran) s fun b => b = (b'.setBlock c k { x with pinned := true }).slotTake (b'.place lg).ch)
  ∧ (∀ (s : State) (actor : Actor) (line : Nat), s.body.mayAct actor A.XLATE_ADDR (BitVec.ofNat 64 (line * 64)) = true → line < 2 ^ 41 →
    Leads (.xlateSnapshot actor line) s fun b => b.get F.XLATE_ECHO_LINE = line ∧ b.get F.XLATE_FRAME_FRAME = b.frameNo)

/-- Requests to the twin that get no answer, reads with no slot and no twin (R97, R98).
The model's choices it rests on: log entries 12, 136 and 139. -/
def Obligations.AssistCommands : Prop :=
  (∀ (s : State) (id : Nat) (r : AssistReq), s.body.tier.assists.find? (·.req == id) = some r →
    Leads (.assistTimeout id) s fun b => b = s.body.askEnd r none none)
  ∧ (∀ (s : State) (mr : Nat), s.body.tier.noSlot.contains mr = true →
    Leads (.noTwinReadBound mr) s fun b =>
      b = (if s.body.keepsMiss mr then s.body else
        { s.body with tier := { s.body.tier with noSlot := s.body.tier.noSlot.erase mr } }).missPoison mr .media)

/-! ## The near cache (R102 to R121) -/

/-- Fills, repairs, Colander writes, maintenance operations and snapshots of the near cache.
The model's choices it rests on: log entries 13 and 36. -/
def Obligations.NearCacheCommands : Prop :=
  (∀ (s : State) (mr : Nat) (m : MissReg) (fill : LineData × Bool) (b' : Body), mget s.body.nc.mrs mr = some m → m.fill = some fill →
    s.body.isOn U.nc = true →
    (let fin := m.accs.foldl (fun l a => Body.accLine l a.kind) fill
     s.body.install m.line fin.1 (m.dirty || m.accs.any fun a => a.kind != .read) fin.2 m.cls = some b') →
    Leads (.ncFill mr) s fun b =>
      b = (((m.accs.foldl (fun (x : Body × (LineData × Bool)) a => (x.1.accApply a x.2 m.at_, Body.accLine x.2 a.kind)) (b', fill)).1.dropMr mr).pumpHeld).ncPump)
  ∧ (∀ (s : State) (line : Nat) (r : Repair), s.body.nc.repairs.find? (·.line == line) = some r → Body.askKind r.ask = .lineRepair →
    (s.body.twin.queue.any fun q => q.line == line && q.pos.lt r.pos) = false →
    Leads (.ncRepairRequest line) s fun b =>
      b = ({ s.body with nc := { s.body.nc with repairs := s.body.nc.repairs.erase r } }).askTwin .lineRepair line r.pos r.ask)
  ∧ (∀ (s : State) (col : Nat) (e : ColEntry) (b' : Body), mget s.body.nc.col col = some e →
    (s.body.nc.col.any fun p => p.2.line == e.line && p.2.writing) = false → s.body.spAccept e.line e.data e.poison = some b' →
    Leads (.colanderAccept col) s fun b => b = ((b'.dropCol col).ncPump).pumpHeld)
  ∧ (∀ (s : State) (actor : Actor) (whole : Bool), s.body.nc.op = none →
    (acts s.body actor A.NC_OP_CTL (1 + 4 * b2n whole) → Leads (.ncFlush actor whole) s fun b =>
      b = (wrote s.body actor A.NC_OP_CTL (1 + 4 * b2n whole)).ncOpStart .flush whole)
    ∧ (acts s.body actor A.NC_OP_CTL (2 + 4 * b2n whole) → Leads (.ncInvalidate actor whole) s fun b =>
      b = (wrote s.body actor A.NC_OP_CTL (2 + 4 * b2n whole)).ncOpStart .invalidate whole)
    ∧ (acts s.body actor A.NC_OP_CTL (3 + 4 * b2n whole) → Leads (.ncFlushInvalidate actor whole) s fun b =>
      b = (wrote s.body actor A.NC_OP_CTL (3 + 4 * b2n whole)).ncOpStart .flushInvalidate whole))
  ∧ (∀ (s : State) (o : NcOp), s.body.nc.op = some o → s.body.ncOpOpen o = false →
    Leads .ncOpDone s fun b => b.nc.op = none ∧ b.get F.NC_OP_STATUS_STATE = 2 ∧ ⟨U.nc, .bit F.NC_EVENTS_OP_DONE, 0⟩ ∈ b.evs)
  ∧ (∀ (s : State) (actor : Actor) (mr : Nat) (m : MissReg), s.body.mayAct actor A.NC_MR_SEL (BitVec.ofNat 64 mr) = true → mr < 4096 →
    mget s.body.nc.mrs mr = some m → m.line < 2 ^ 41 →
    Leads (.ncMrSnapshot actor mr) s fun b => b.flag F.NC_MR_PEEK_0_VALID = true ∧ b.get F.NC_MR_PEEK_1_LINE = m.line)
  ∧ (∀ (s : State) (actor : Actor) (col : Nat) (e : ColEntry), s.body.mayAct actor A.NC_COL_SEL (BitVec.ofNat 64 col) = true → col < 512 →
    mget s.body.nc.col col = some e → e.line < 2 ^ 41 →
    Leads (.ncColSnapshot actor col) s fun b => b.flag F.NC_COL_PEEK_0_VALID = true ∧ b.get F.NC_COL_PEEK_1_LINE = e.line
      ∧ b.word (A.NC_COL_DATA 0) = BitVec.ofNat 64 (Body.word8 e.data 0))

/-! ## The Stockpot (R122 to R149) -/

/-- The channel set, refresh, parity alerts, freezes and thaws, a channel declared lost. The model's choices it rests on: log entries 40 and 139. -/
def Obligations.StockpotCommands : Prop :=
  (∀ s : State, s.body.sp.set = none → s.body.boot.filled = true →
    (s.body.spChans.any fun c => (s.body.spCh c).first && s.body.unit (U.sp c) == .starting) = false →
    Leads .channelSetFix s fun b => b.sp.set = some (s.body.spChans.filter fun c => s.body.isOn (U.sp c) && s.body.spMode c == .caching))
  ∧ (∀ (s : State) (gran : Nat) (w : WriteBack), (s.body.sp.wbs.find? fun w => w.gran == gran && w.ok) = some w →
    Leads (.writeBackDone gran) s fun b => b.sp.wbs = s.body.sp.wbs.erase w
      ∧ b.get F.SP_WB_COUNT_BLOCKS = (s.body.get F.SP_WB_COUNT_BLOCKS + 1) % 2 ^ F.SP_WB_COUNT_BLOCKS.w)
  ∧ (∀ (s : State) (ch : Nat), ch < 12 → s.body.isOn (U.sp ch) = true → s.body.spMode ch ≠ .frozen →
    (Leads (.refreshRound ch (s.body.spCh ch).modeReq) s fun b =>
      b.get (F.SP_CH_REF_REFRESH ch) = (s.body.get (F.SP_CH_REF_REFRESH ch) + 1) % 2 ^ (F.SP_CH_REF_REFRESH ch).w
        ∧ (b.spCh ch).refBank = ((s.body.spCh ch).refBank + 1) % 4)
    ∧ (∀ bank row, Leads (.neighbourRefresh ch bank row) s fun b => (b.spCh ch).nrr = (s.body.spCh ch).nrr ++ [(bank, row)])
    ∧ (∀ since, (s.body.spCh ch).alerted = false ∨ 1024 < since →
      Leads (.caParityAlert ch since) s fun b => (b.spCh ch).alerted = true))
  ∧ (∀ (s : State) (ch mr : Nat), ((s.body.spCh ch).held.any (·.mr == mr)) = true →
    Leads (.freezeHoldExpire ch mr) s fun b =>
      b = (if s.body.keepsMiss mr then s.body else
        s.body.setSpCh ch { s.body.spCh ch with held := (s.body.spCh ch).held.filter (·.mr != mr) }).missPoison mr .unfilled)
  ∧ (∀ (s : State) (actor : Actor) (ch : Nat), ch < 12 → acts s.body actor (A.SP_CH_CTL ch) (bitWord s.body (F.SP_CH_CTL_THAW ch) 1) →
    s.body.spMode ch = .frozen → Leads (.thaw actor ch) s fun b => (b.spCh ch).thawing = true)
  ∧ (∀ (s : State) (ch us : Nat), ch < 12 → (s.body.spCh ch).thawing = true →
    (Leads (.thawDone ch true us) s fun b =>
      b = (((((s.body.setSpCh ch { s.body.spCh ch with thawing := false }).put (F.SP_CH_TRAIN_DURATION_US ch) us).put
        (F.SP_CH_STATUS_MODE ch) 0).raise (U.sp ch) (F.SP_CH_EVENTS_THAW_DONE ch)).heldRefill ch))
    ∧ (Leads (.thawDone ch false us) s fun b => (b.spCh ch).thawing = false ∧ b.spMode ch = s.body.spMode ch
      ∧ ⟨U.sp ch, .bit (F.SP_CH_EVENTS_THAW_FAILED ch), 0⟩ ∈ b.evs))
  ∧ (∀ (s : State) (actor : Actor) (ch : Nat), ch < 12 →
    acts s.body actor (A.SP_CH_CTL ch) (bitWord s.body (F.SP_CH_CTL_DECLARE_LOST ch) 1) →
    Leads (.declareLost actor ch) s fun b =>
      b = (wrote s.body actor (A.SP_CH_CTL ch) (bitWord s.body (F.SP_CH_CTL_DECLARE_LOST ch) 1)).lose ch)

/-- The fill engine and the scrub. -/
def Obligations.FillAndScrubCommands : Prop :=
  (∀ (s : State) (actor : Actor) (mask : Nat), acts s.body actor A.SP_FILL_CTL (1 + 2 * mask) →
    Leads (.fillGo actor mask) s fun b => b = (wrote s.body actor A.SP_FILL_CTL (1 + 2 * mask)).fillGo mask)
  ∧ (∀ (s : State) (f : FillJob), s.body.sp.fill = some f →
    Leads .fillDone s fun b => b.sp.fill = none ∧ b.get F.SP_FILL_STATUS_STATE = 2
      ∧ ∀ c, c < 12 → nbit f.mask c = true → ∀ u, f.first ≤ u → u < f.first + f.units → (b.spCh c).filled.contains u = true)
  ∧ (∀ (s : State) (actor : Actor), acts s.body actor A.SP_SCRUB_CTL 1 → s.body.sp.scrub = none → s.body.get F.SP_SCRUB_CH_CH < 12 →
    s.body.isOn (U.sp (s.body.get F.SP_SCRUB_CH_CH)) = true → s.body.spMode (s.body.get F.SP_SCRUB_CH_CH) ≠ .frozen →
    Leads (.scrubGo actor) s fun b => b.get F.SP_SCRUB_SUM_2_STATE = 1
      ∧ b.sp.scrub = some (s.body.get F.SP_SCRUB_CH_CH, s.body.get F.SP_SCRUB_START_SPA * 64, s.body.get F.SP_SCRUB_LEN_BYTES * 64))
  ∧ (∀ (s : State) (c lo n us : Nat), s.body.sp.scrub = some (c, lo, n) →
    Leads (.scrubDone [] [] us) s fun b => b.sp.scrub = none ∧ b.get F.SP_SCRUB_SUM_2_STATE = 2
      ∧ ⟨U.sp c, .bit F.SP_EVENTS_SCRUB_DONE, c⟩ ∈ b.evs)

/-! ## The media and the translation layer (R150 to R184) -/

/-- Reads, programs and upkeep of the media packages and of the map: a good read fills its miss register with the newest bytes, a program
that passes stands in its cell, an operation whose programs have passed is finished, a map word enters the cache, a dirty one goes to the
map and is clean. The model's choices it rests on: log entries 34 and 39.
Training, formatting and the untrust rules: a package is trained while its channel is held, one that is off is formatted and labelled
with the capacity it reports, a cleared rule is gone. -/
def Obligations.MediaCommands : Prop :=
  ((∀ (s : State) (i bits lg : Nat) (m : MissReg) (r : Option Nat), mget s.body.nc.mrs i = some m → m.src = .media → m.fill = none →
    s.body.tier.noSlot.contains i = false → s.body.lgOf m.line = some lg →
    Leads (.mediaReadData (.miss i) (some bits) r) s fun b =>
      b = (((((s.body.eccCount (s.body.place lg).ch (some bits) none).setMr i
        { m with fill := some ((s.body.eccCount (s.body.place lg).ch (some bits) none).mediaLine lg (Body.granOf m.line) (m.line % 64)),
                 at_ := some .media }).errRecord lg bits).sketchCount lg).promoteRead lg (Body.granOf m.line)
        (((s.body.partAt (Body.unitOf m.line)).map (·.id)).getD 0)))
  ∧ (∀ (s : State) (lg : Nat) (ok0 ok1 : Bool), s.body.mtl.mapReads.contains lg = true → mget s.body.mtl.cache lg = none →
    ok0 = true ∨ ok1 = true →
    Leads (.mapReadData lg ok0 ok1) s fun b => ∃ e, mget b.mtl.cache lg = some e ∧ e.dirty = false ∧ e.ent = mgetD b.mtl.map lg {})
  ∧ (∀ (s : State) (lg : Nat), s.body.mtl.mapReads.contains lg = true →
    Leads (.mapReadData lg false false) s fun b =>
      b = (({ s.body with mtl := { s.body.mtl with mapReads := s.body.mtl.mapReads.erase lg } }).raise U.mtl F.MTL_EVENTS_MAP_UNCORRECTABLE).mapLost lg)
  ∧ (∀ (s : State) (id cw : Nat) (o : MediaOp), s.body.mop id = some o → o.fly = [cw] → o.left = [] → o.failed = false →
    Body.OpKind.moves o.kind = false ∨ o.move = false →
    Leads (.programStatus id cw true) s fun b => ∃ b0 : Body,
      b = b0.opFinish { o with fly := [], susp := merase o.susp cw }
      ∧ mget b0.mtl.cells (Body.cellKey o.ch o.pkg o.slot cw) = some ⟨Body.opLine o (4 * cw), Body.opLine o (4 * cw + 1),
          Body.opLine o (4 * cw + 2), Body.opLine o (4 * cw + 3), ((s.body.mapGet o.lg).gen + b2n o.whole) % 65536, s.body.ciph.cur.gen⟩
      ∧ b0.regs = s.body.regs)
  ∧ (∀ (s : State) (id cw : Nat) (o : MediaOp), s.body.mop id = some o → o.fly = [cw] →
    Leads (.programStatus id cw false) s fun b =>
      b = ((((s.body.setMop { o with fly := [], susp := merase o.susp cw, failed := true }).incSat (F.MD_PROG_PROG_FAIL o.ch)).raise
        (U.md o.ch) (F.MD_EVENTS_PROG_FAIL o.ch) o.pkg).opFailed { o with fly := [], susp := merase o.susp cw, failed := true }).issueAll)
  ∧ (∀ (s : State) (md cause : Nat), cause ≠ 0 →
    Leads (.mediaAlert md cause) s fun b => b = s.body.raise (U.md md) (F.MD_EVENTS_ALERT md) cause)
  ∧ (∀ (s : State) (md : Nat), s.body.isOn (U.md md) = true →
    Leads (.strobeRecentre md true) s fun b => b = s.body.slotTake md)
  ∧ (∀ (s : State) (op : Nat) (o : MediaOp), s.body.mop op = some o → o.done = true →
    Leads (.relocationDone op) s fun b => b = s.body.opFinish o)
  ∧ (∀ (s : State) (lg : Nat) (c : CacheEntry), mget s.body.mtl.cache lg = some c → c.dirty = true → c.first + 65536 ≤ s.body.frameNo →
    s.body.pkgWritable (s.body.place lg).ch (s.body.place lg).pos = true →
    LeadsAlone (.mapEntryWriteback lg) s fun b => mgetD b.mtl.map lg {} = c.ent ∧ mget b.mtl.cache lg = some { c with dirty := false })
  ∧ (∀ (s : State) (actor : Actor), acts s.body actor A.MTL_CTL (s.body.get F.MTL_CTL_ENABLE + 2) →
    LeadsAlone (.mapFlush actor) s fun b => b = (wrote s.body actor A.MTL_CTL (s.body.get F.MTL_CTL_ENABLE + 2)).mapFlushAll)
  ∧ (∀ (s : State) (md : Nat) (bits : List (Option Nat)), s.body.isOn U.scourer = true → s.body.isOn (U.md md) = true →
    (s.body.scourNext md = none → Leads (.scourerVisit md bits) s fun b => b = s.body.lapEnd)
    ∧ (∀ lg, s.body.scourNext md = some lg → Leads (.scourerVisit md bits) s fun b => ∃ b0 : Body,
      b = (((({ b0 with mtl := { b0.mtl with scPos := mset b0.mtl.scPos md (b0.localIx lg + 1) } }).inc F.SCOUR_POS_DONE).scourRegs).lapEnd))))
  ∧ ((∀ (s : State) (actor : Actor) (md result us : Nat), md < 32 → acts s.body actor (A.MD_CTL md) (bitWord s.body (F.MD_CTL_RETRAIN md) 1) →
    s.body.isOn (U.md md) = true → result < 16 →
    Leads (.retrain actor md result us) s fun b => (b.mdCh md).hold = true ∧ b.get (F.MD_TRAIN_RESULT md) = result
      ∧ (result ≠ 0 → ⟨U.md md, .bit (F.MD_EVENTS_TRAIN_FAIL md), result⟩ ∈ b.evs))
  ∧ (∀ (s : State) (actor : Actor) (md mask : Nat), md < 32 →
    acts s.body actor (A.MD_CTL md) ((s.body.word (A.MD_CTL md)).toNat + 4 + 8 * mask) → nbit mask 0 = true ∨ nbit mask 1 = true →
    (s.body.unit (U.md md) = .off → (s.body.mdCh md).formatting = [] →
      Leads (.format actor md mask) s fun b => (b.mdCh md).formatting = (List.range 2).filter (nbit mask) ∧ b.get (F.MD_STATUS_MODE md) = 2)
    ∧ (s.body.unit (U.md md) ≠ .off →
      Leads (.format actor md mask) s fun b => ⟨U.md md, .bit (F.MD_EVENTS_FORMAT_REFUSED md), mask⟩ ∈ b.evs
        ∧ (b.mdCh md).formatting = (s.body.mdCh md).formatting))
  ∧ (∀ (s : State) (md pos gib : Nat), (s.body.mdCh md).formatting.contains pos = true →
    Leads (.formatDone md pos gib) s fun b => (b.mdCh md).formatting = (s.body.mdCh md).formatting.erase pos
      ∧ (mget (b.mdCh md).labels pos).map (fun l => (l.domain, l.member, l.ch, l.pos, l.userGib))
          = some (s.body.cfg.img.fix.domain, s.body.cfg.img.fix.member, md, pos, gib)
      ∧ ⟨U.md md, .bit (F.MD_EVENTS_FORMAT_DONE md), pos⟩ ∈ b.evs)
  ∧ (∀ (s : State) (actor : Actor) (mask : Nat), acts s.body actor A.MTL_UNTRUST_CLR mask →
    LeadsAlone (.untrustRuleClear actor mask) s fun b => ∀ i, i < 12 →
      ((b.mtl.rules[i]?).getD none) = if nbit mask i then none else (s.body.mtl.rules[i]?).getD none))

/-! ## Persistence (R185 to R215) -/

/-- A power fail step by step, the end of a replay, an accepted loss. The model's choices it rests on: log entry 119. -/
def Obligations.PersistCommands : Prop :=
  (∀ s : State, s.body.hob.present = true → nbit s.body.cfg.img.qui.pfailSrc 0 = true → s.body.hobState ≠ .off →
    s.body.flag F.HOB_STATUS_PFAIL = false →
    Leads .pfailNAssert s fun b =>
      b = ((((s.body.put F.HOB_STATUS_PFAIL 1).raise U.hob F.HOB_EVENTS_PFAIL 1).put F.PFAIL_STATUS_SOURCE 1).pfStart 1).hobOffReq .powerFail)
  ∧ (∀ s : State, s.body.per.pf = .detected → s.body.per.pfFrame + 1 ≤ s.body.frameNo →
    Leads .pfailStopAdmission s fun b => b.per.pf = .stopped ∧ .ports ∈ b.todo
      ∧ (∀ o, b.cf.op = some o → o.kind ≠ .erase))
  ∧ (∀ s : State, s.body.per.pf = .stopped → s.body.per.pfFrame + 2 ≤ s.body.frameNo →
    Leads .pfailCommit s fun b => b.per.pf = .committed ∧ .ports ∈ b.todo)
  ∧ (∀ s : State, s.body.per.pf = .committed → s.body.writesHeld = false →
    Leads .vaultWrite s fun b => b.per.pf = .vaulting ∧ b.mtl.hdr.state = 1 ∧ b.mtl.hdr.stop = s.body.per.pfFrame + 1
      ∧ b.mtl.hdr.commit = s.body.get F.COMMIT_FRAME_FRAME ∧ b.mtl.hdr.entries = b.mtl.vault.length + 1
      ∧ ∃ rest, s.body.vaultItems = b.mtl.vault ++ rest)
  ∧ (∀ (s : State) (us : Nat), s.body.per.pf = .vaulting →
    Leads (.vaultSealed us) s fun b => b.per.pf = .sealed ∧ b.mtl.hdr.state = 2 ∧ b.spk.flushing.isSome = true
      ∧ ⟨U.persist, .bit F.PERSIST_EVENTS_PFAIL, 0⟩ ∈ b.evs)
  ∧ (∀ (s : State) (abandoned : Bool) (us : Nat), s.body.spk.flushing = some 0 → s.body.spk.flushReq = false →
    (s.body.spk.pfFlush = false → Leads (.spikeFlushDone abandoned us) s fun b => b.spk.flushing = none
      ∧ ⟨U.spike, .bit F.SPK_EVENTS_FLUSH_DONE, 0⟩ ∈ b.evs)
    ∧ (s.body.spk.pfFlush = true → s.body.per.pf = .sealed → Leads (.spikeFlushDone abandoned us) s fun b => b.spk.flushing = none
      ∧ b.per.pf = .flushed ∧ .hobFlushed ∈ b.todo))
  ∧ (∀ s : State, s.body.per.replaying = true → (s.body.mtl.ops.any (·.kind == .replay)) = false → s.body.per.hold = false →
    Leads .replayDone s fun b => b.per.replaying = false ∧ b.mtl.hdr.state = 3 ∧ b.get F.REPLAY_STATUS_STATE = 2
      ∧ ⟨U.persist, .bit F.PERSIST_EVENTS_REPLAY_DONE, 0⟩ ∈ b.evs)
  ∧ (∀ (s : State) (actor : Actor), acts s.body actor F.PERSIST_CTL_ACCEPT_LOSS.addr (bitWord s.body F.PERSIST_CTL_ACCEPT_LOSS 1) →
    s.body.per.hold = true →
    Leads (.acceptLoss actor) s fun b => b.per.hold = false ∧ b.mtl.hdr.state = 3 ∧ b.get F.PERSIST_STATUS_VAULT_INCOMPLETE = 0
      ∧ .lossAccepted ∈ b.todo ∧ ⟨U.persist, .bit F.PERSIST_EVENTS_LOSS_ACCEPTED, 0⟩ ∈ b.evs)

/-! ## The twin (R211 to R241, R346) -/

/-- The twin link: its lane groups train and fail, a HELLO that fits opens the session, messages are resent on a NAK, relayed Trivet
requests go out unchanged. The model's choices it rests on: log entries 45 and 123. -/
def Obligations.TwinLinkCommands : Prop :=
  (∀ s : State, s.body.isOn U.twin = true → s.body.linkUp = false → s.body.mayTag = true → nbit s.body.cfg.img.fix2.twinFlags 1 = true →
    ∀ fall, Leads (.twinLinkTrain true fall) s fun b => b.twin.link.mainUp = true ∧ b.twin.link.session = false
      ∧ ∃ q, .twin s.body.frameNo q (.hello ⟨s.body.cfg.img.fix.member, s.body.cfg.img.fix2.twinMember, s.body.cfg.img.fix.domain,
          s.body.ciph.cur.gen, s.body.periodNs, s.body.cfg.img.shared.toNat⟩) ∈ b.out)
  ∧ (∀ (s : State) (h : MsgHdr) (m : HelloMsg), s.body.twin.link.mainUp = true ∨ s.body.twin.link.fallUp = true →
    (h.tagOk = true → m.member = s.body.cfg.img.fix2.twinMember → m.twin = s.body.cfg.img.fix.member →
      m.domain = s.body.cfg.img.fix.domain → m.keyGen = s.body.ciph.cur.gen → m.period = s.body.periodNs →
      Leads (.helloRx h m) s fun b => b.twin.link.session = true ∧ b.twin.link.peerOk = true ∧ b.ciph.session = m.keyGen
        ∧ b.twin.link.rxFrame = h.frame ∧ b.twin.link.rxSeq = h.seq + 1)
    ∧ (h.tagOk = true → m.member ≠ s.body.cfg.img.fix2.twinMember →
      Leads (.helloRx h m) s fun b => b.twin.link.session = s.body.twin.link.session
        ∧ ⟨U.twin, .bit F.TWIN_EVENTS_PEER_REFUSED, m.member⟩ ∈ b.evs))
  ∧ (∀ s : State, Leads .twinLinkDown s fun b => b.twin.link.mainUp = false ∧ b.twin.link.fallUp = false ∧ b.twin.link.session = false
      ∧ b.ciph.session = 0)
  ∧ (∀ s : State, s.body.twin.link.onFall = false → s.body.twin.link.mainUp = true →
    Leads (.twinGroupFallback true) s fun b => b.twin.link.mainUp = false ∧ b.twin.link.fallReq = true
      ∧ b.get F.TWIN_STATUS_MAIN_STABLE = 0)
  ∧ (∀ s : State, 10000 ≤ s.body.get F.TWIN_STATUS_MAIN_STABLE → s.body.twin.link.onFall = true → s.body.twin.link.peerStable = true →
    s.body.twin.link.revert = 0 → s.body.cfg.img.fix.member ≤ s.body.cfg.img.fix2.twinMember →
    Leads .mainStable s fun b => b = s.body.linkMod fun l => { l with revert := s.body.frameNo + 16 })
  ∧ (∀ s : State, s.body.twin.link.revert ≠ 0 → s.body.twin.link.revert ≤ s.body.frameNo → s.body.twin.link.onFall = true →
    s.body.twin.link.mainUp = true → s.body.flag F.TWIN_CTL_REVERT_DIS = false → s.body.get F.TWIN_CTL_GROUP_FORCE ≠ 2 →
    Leads .groupRevert s fun b => b.twin.link.onFall = false ∧ b.twin.link.revert = 0
      ∧ ⟨U.twin, .bit F.TWIN_EVENTS_GROUP_REVERT, 0⟩ ∈ b.evs)
  ∧ (∀ (s : State) (h : MsgHdr) (frame seq : Nat), inOrder s.body h →
    Leads (.twinNakRx h frame seq) s fun b => b = (rcvd s.body h).resend ((s.body.twin.link.replayBuf.filter fun m =>
      frame < m.1 || (m.1 == frame && seq % 2 ^ 30 ≤ m.2.1 % 2 ^ 30)).reverse))
  ∧ (∀ (s : State) (h : MsgHdr) (m : TrivetMsg) (key us : Nat), inOrder s.body h →
    (m.typ = 3 ∨ m.typ = 4 → Leads (.relayRx h m key us) s fun b => b = (rcvd s.body h).trivetAnswer m none key us)
    ∧ (m.typ ≠ 3 → m.typ ≠ 4 → Leads (.relayRx h m key us) s fun b =>
      ∀ i, i < s.body.cfg.img.fix2.trivets.length → .trivet m i ∈ b.out))

/-- The mirror: segments and seals sent and taken, acknowledgements, heartbeats, requests for a line of the twin.
The model's choices it rests on: log entries 42, 44, 45, 48, 52 and 138. -/
def Obligations.MirrorCommands : Prop :=
  (∀ s : State, s.body.mirrors = true → s.body.twin.late = [] → s.body.twin.sealed = false →
    (Leads .mirrorSegmentSend s fun b => b.twin.seg = s.body.twin.seg + 1
      ∧ b.twin.recs = s.body.twin.recs + (s.body.inSeg s.body.frameNo s.body.twin.seg).length
      ∧ ∃ q, .twin s.body.frameNo q (.segment ⟨s.body.frameNo, s.body.twin.seg, s.body.epochNow,
          s.body.inSeg s.body.frameNo s.body.twin.seg⟩) ∈ b.out)
    ∧ (s.body.frame.sealing = true → Leads .sealSend s fun b => b.twin.sealed = true ∧ b.twin.recs = 0
      ∧ ∃ q k, .twin s.body.frameNo q (.seal ⟨s.body.frameNo, s.body.twin.seg,
          s.body.twin.recs + (s.body.inSeg s.body.frameNo s.body.twin.seg).length, k, s.body.epochNow⟩) ∈ b.out))
  ∧ (∀ (s : State) (h : MsgHdr) (m : SegMsg), inOrder s.body h →
    (m.epoch < s.body.epochNow → Leads (.segmentRx h m) s fun b => b.twin.rxGap = true
      ∧ ⟨U.twin, .bit F.TWIN_EVENTS_STALE_EPOCH, 0⟩ ∈ b.evs)
    ∧ (s.body.epochNow ≤ m.epoch → s.body.follows = true → Leads (.segmentRx h m) s fun b => ∃ b0 : Body,
      b = b0.forEach m.recs Body.mirrorApply ∧ b0.twin.rxSegs = m.seg ∧ b0.nc = s.body.nc
      ∧ (m.seg = 1 → b0.twin.rxBatch = m.batch ∧ b0.twin.rxGap = false ∧ b0.twin.rxRecs = m.recs.length)
      ∧ (m.seg ≠ 1 → m.batch = s.body.twin.rxBatch → b0.twin.rxBatch = m.batch ∧ b0.twin.rxRecs = s.body.twin.rxRecs + m.recs.length
        ∧ (b0.twin.rxGap = true ↔ s.body.twin.rxGap = true ∨ m.seg ≠ s.body.twin.rxSegs + 1))))
  ∧ (∀ (s : State) (h : MsgHdr) (m : SealMsg), inOrder s.body h → s.body.epochNow ≤ m.epoch → s.body.follows = true →
    s.body.twin.rxGap = false → m.batch = s.body.twin.rxBatch → m.segments = s.body.twin.rxSegs → m.records = s.body.twin.rxRecs →
    s.body.twin.ackOwed = [] → (s.body.nc.held.any (·.req == Requester.mirror)) = false →
    Leads (.sealRx h m) s fun b => b.twin.ackOwed = [] ∧ ∃ q, .twin s.body.frameNo q (.ack m.batch m.records 0) ∈ b.out)
  ∧ (∀ (s : State) (h : MsgHdr) (batch : Nat), inOrder s.body h → s.body.holds = true →
    Leads (.ackRx h batch 0) s fun b => ∃ b0 : Body, b = ((b0.splitRegs).commitRun).switchSet
      ∧ b0.per.batches = (if s.body.get F.SPLIT_INFO_SPLIT_FRAME = 0 then
          s.body.per.batches.map (fun (x : Batch) => if x.frame = batch then { x with acked := true } else x) else s.body.per.batches)
      ∧ b0.twin.resync.copying = s.body.twin.resync.copying.filter fun e => e.2 != batch)
  ∧ (∀ (s : State) (sub : Nat), s.body.linkUp = true → s.body.isOn U.twin = true →
    Leads (.heartbeatSend sub) s fun b => b = s.body.twinSend (.heartbeat (s.body.heartbeatNow sub)))
  ∧ (∀ (s : State) (h : MsgHdr) (m : Heartbeat) (at_ : Nat), inOrder s.body h → s.body.epochNow ≤ m.epoch → m.period = s.body.periodNs →
    Leads (.heartbeatRx h m at_) s fun b => ∃ b0 : Body, b = (b0.heartbeatRole s.body.twin.hb.role).timeRegs
      ∧ b0.twin.hb = m ∧ b0.twin.lease.heard = true ∧ b0.twin.link.lastTx = m.tx)
  ∧ (∀ s : State, 64 ≤ s.body.get F.TWIN_STATUS_MISSED_RUN → s.body.twin.lease.detected = false → s.body.isOn U.twin = true →
    (s.body.role = .none → Leads .heartbeatMiss64 s fun b => b.twin.lease.detected = true
      ∧ ⟨U.twin, .bit F.TWIN_EVENTS_DETECTED, 0⟩ ∈ b.evs)
    ∧ (s.body.role = .standby ∨ s.body.role = .active → Leads .heartbeatMiss64 s fun b => ∃ b0 : Body, b = b0.askSolo
      ∧ b0.twin.lease.detected = true ∧ ⟨U.twin, .bit F.TWIN_EVENTS_DETECTED, 0⟩ ∈ b0.evs))
  ∧ (∀ (s : State) (h : MsgHdr) (req line lg : Nat) (kind : AssistKind) (pos : MPos) (d : LineData), inOrder s.body h →
    s.body.role = .active ∨ s.body.role = .standby → s.body.inWindow pos = true → s.body.lgOf line = some lg →
    s.body.spFrozen (Body.granOf line) = false → kind ≠ .granuleRepair → s.body.asOf line pos = (d, false) →
    Leads (.assistReqRx h req kind line pos) s fun b => ∃ q, .twin s.body.frameNo q (.assistResp req 0 0 [d]) ∈ b.out)
  ∧ (∀ (s : State) (h : MsgHdr) (req : Nat) (a : AssistReq) (d : LineData), inOrder s.body h →
    s.body.tier.assists.find? (·.req == req) = some a → a.kind ≠ .granuleRepair →
    Leads (.assistRespRx h req 0 0 [d]) s fun b => b = (rcvd s.body h).askEnd a (some d) none)

/-- Leases and roles: requests to the Trivet and their answers, the stop before a lease ends and its end, handoff, pairing.
The model's choices it rests on: log entries 12, 52 and 93. -/
def Obligations.LeaseCommands : Prop :=
  (∀ s : State, s.body.holds = true → s.body.twin.lease.renewAt + 50 ≤ s.body.frameNo →
    Leads .leaseRenew s fun b =>
      b = (s.body.leaseMod fun l => { l with renewAt := s.body.frameNo }).trivetSend 1 (Body.roleCode s.body.role) false)
  ∧ (∀ s : State, s.body.holds = true → s.body.get F.TWIN_EXPIRY_FRAME ≠ 0 →
    (s.body.get F.TWIN_EXPIRY_FRAME ≤ s.body.frameNo + 8 → s.body.twin.lease.stopRead = false →
      Leads .leaseStop s fun b => b = ((s.body.leaseMod fun l => { l with stopRead := true }).freezeHoldAll).grantSet)
    ∧ (s.body.get F.TWIN_EXPIRY_FRAME ≤ s.body.frameNo →
      Leads .leaseExpire s fun b => b = ((s.body.raise U.twin F.TWIN_EVENTS_LEASE_LOST).setRole .none).grantSet))
  ∧ (∀ (s : State) (id : Nat) (r : TReq), (s.body.twin.lease.reqs.find? fun r => r.id == id && !r.dead) = some r →
    (r.typ ≠ 2 → Leads (.trivetRequestTimeout id) s fun b => b.twin.lease.unansAny = s.body.twin.lease.unansAny + 1
      ∧ b.twin.lease.unans = (if r.typ = 1 then s.body.twin.lease.unans + 1 else s.body.twin.lease.unans)
      ∧ (b.twin.lease.reqs.any fun x => x.id == id && !x.dead) = false)
    ∧ (r.typ = 2 → Leads (.trivetRequestTimeout id) s fun b => ∃ b0 : Body, b = b0.trivetSend 2 r.kind r.force
      ∧ (b0.twin.lease.reqs.any fun x => x.id == id && !x.dead) = false))
  ∧ (∀ (s : State) (m : TrivetMsg) (src key us : Nat) (r : TReq), s.body.trivetKey key = true → m.domain = s.body.cfg.img.fix.domain →
    m.member = s.body.cfg.img.fix.member → s.body.twin.lease.reqs.find? (·.id == m.reqId) = some r →
    (Leads (.trivetGrantRx m src key us) s fun b => ∃ b0 : Body, b = b0.granted r { m with typ := 3 } ∧ b0.twin.lease.unans = 0
      ∧ b0.twin.lease.reqs = s.body.twin.lease.reqs.filter (·.id != m.reqId))
    ∧ (m.reason ≠ 3 → Leads (.trivetRefuseRx m src key us) s fun b => ∃ b0 : Body, b = b0.refused { m with typ := 4 }
      ∧ b0.twin.lease.unans = 0 ∧ b0.twin.lease.reqs = s.body.twin.lease.reqs.filter (·.id != m.reqId))
    ∧ (m.reason = 3 → Leads (.trivetRefuseRx m src key us) s fun b => b.twin.lease = s.body.twin.lease))
  ∧ (∀ (s : State) (actor : Actor), acts s.body actor F.TWIN_CTL_HANDOFF.addr (bitWord s.body F.TWIN_CTL_HANDOFF 1) →
    Leads (.handoff actor) s fun b => b = (wrote s.body actor F.TWIN_CTL_HANDOFF.addr (bitWord s.body F.TWIN_CTL_HANDOFF 1)).handoffAsk)
  ∧ (∀ s : State, s.body.twin.lease.handoff = true → s.body.role = .active → s.body.twinRole = .standby →
    s.body.twin.lease.stopRead = true → s.body.per.batches = [] →
    Leads .handoffRelease s fun b =>
      b = (((((s.body.leaseMod fun l => { l with handSent := true }).heartbeatOut).trivetSend 5 0 false).setRole .none true).grantSet))
  ∧ (∀ (s : State) (actor : Actor), acts s.body actor F.TWIN_CTL_FORCE_SOLO.addr (bitWord s.body F.TWIN_CTL_FORCE_SOLO 1) →
    Leads (.forceSolo actor) s fun b => b = (wrote s.body actor F.TWIN_CTL_FORCE_SOLO.addr (bitWord s.body F.TWIN_CTL_FORCE_SOLO 1)).forceSolo)
  ∧ (∀ s : State, s.body.role = .none → s.body.isOn U.twin = true → s.body.twin.lease.heard = false → s.body.replayOver = true →
    s.body.twin.lease.onAt + s.body.get F.TWIN_CFG_PAIR_WAIT_MS * 1000000 ≤ s.body.time.tai →
    Leads .pairWaitExpire s fun b => b = s.body.askSolo)

/-- A resync and its switch frame.
Service as a witness: a pair's holder renews in its own epoch, a new holder takes the next one, a request for a live lease is held, a
release and the end of a lease grant what is held; nothing is granted to another in the start hold; a request answered or held already gets
no other answer. The model's choices it rests on: log entries 46, 49, 52 and 55. -/
def Obligations.ResyncAndWitnessCommands : Prop :=
  ((∀ (s : State) (h : MsgHdr) (mode : Nat), inOrder s.body h → s.body.role = .none → s.body.twin.hb.role = 1 ∨ s.body.twin.hb.role = 3 →
    s.body.sameImage = true → s.body.per.pf = .idle → s.body.isOn U.twin = true →
    (s.body.replayOver = false ∨ ((List.range 12).any fun c => s.body.spMode c == .frozen) = true →
      Leads (.resyncStartRx h mode) s fun b => b.twin.resync.heldStart = some mode ∧ b.role = .none)
    ∧ (s.body.replayOver = true → ((List.range 12).any fun c => s.body.spMode c == .frozen) = false → Leads (.resyncStartRx h mode) s fun b => b.role = .resync ∧ b.get F.RESYNC_STATUS_STATE = 2
      ∧ b.twin.resync.log = [] ∧ b.twin.resync.bitmap = []))
  ∧ (∀ (s : State) (h : MsgHdr) (grans : List Nat), inOrder s.body h → s.body.role = .solo ∨ s.body.role = .active →
    s.body.get F.RESYNC_STATUS_STATE = 1 ∨ s.body.get F.RESYNC_STATUS_STATE = 2 → s.body.flag F.RESYNC_STATUS_MODE = false →
    Leads (.resyncLogRx h 0 grans) s fun b => ∃ b0 : Body, b = (b0.splitRegs).switchSet ∧ b0.get F.RESYNC_STATUS_STATE = 2
      ∧ b0.twin.resync.bitmap = grans.foldl insertNat s.body.twin.resync.bitmap)
  ∧ (∀ (s : State) (h : MsgHdr), inOrder s.body h → s.body.role = .resync →
    (Leads (.resyncDoneRx h) s fun b => b.get F.RESYNC_STATUS_STATE = 3)
    ∧ (Leads (.resyncAbortRx h) s fun b => b = ((rcvd s.body h).resyncAbort).setRole .none))
  ∧ (∀ s : State, s.body.twin.resync.switchF ≠ 0 → s.body.twin.resync.switchF ≤ s.body.frameNo →
    (s.body.role = .solo → s.body.twin.resync.grantAct = true → Leads .switchFrame s fun b => b.role = .active
      ∧ b.twin.resync.switchF = 0 ∧ b.twin.resync.bitmap = [] ∧ b.get F.RESYNC_STATUS_STATE = 4)
    ∧ (s.body.role = .resync → Leads .switchFrame s fun b => b.role = .standby ∧ b.per.hold = false
      ∧ b.get F.RESYNC_STATUS_STATE = 4))
  ∧ (∀ s : State, s.body.role = .solo → s.body.twin.resync.switchF ≠ 0 → s.body.twin.resync.switchF ≤ s.body.frameNo + 4 →
    s.body.twin.resync.grantAct = false →
    Leads .switchFrameDefer s fun b => b = (s.body.resyncMod fun r => { r with switchF := s.body.twin.resync.switchF + 16 }).askActive))
  ∧ ((∀ (s : State) (m : TrivetMsg) (key : Nat) (p : WPair), s.body.witnessOn = true → s.body.trivetKey key = true →
    (∀ typ, s.body.pairOf { m with typ := typ } = some p) →
    (s.body.witnessSeen p m = false →
      (p.holder = some m.member → m.epoch = p.epoch →
        Leads (.witnessRenewRx m key) s fun b => b = s.body.witnessGrant p { m with typ := 1 } false)
      ∧ (p.holder ≠ some m.member → s.body.witnessHold = false → m.epoch = p.epoch → p.live = false →
        Leads (.witnessRequestRx m key) s fun b => b = s.body.witnessGrant p { m with typ := 2 } true)
      ∧ (p.holder ≠ some m.member → s.body.witnessHold = false → m.epoch = p.epoch → p.live = true →
        Leads (.witnessRequestRx m key) s fun b =>
          b = s.body.pairPut { p with held := p.held ++ [(s.body.frameNo, { m with typ := 2 })] } false)
      ∧ (p.holder ≠ some m.member → s.body.witnessHold = true → Leads (.witnessRequestRx m key) s fun b =>
          b = s.body.answerTo { m with typ := 2 } 4 0 3 p.epoch (s.body.twin.lease.wStart.getD 0 + s.body.holdFrames - s.body.frameNo))
      ∧ (p.holder = some m.member → s.body.witnessHold = false → m.epoch = p.epoch → p.live = true →
        Leads (.witnessReleaseRx m key) s fun b =>
          b = (s.body.answerTo { m with typ := 5 } 3 0 0 p.epoch 0).witnessEnded { p with live := false }))
    ∧ (s.body.witnessSeen p m = true → Leads (.witnessRequestRx m key) s fun b => b = s.body))
  ∧ (∀ (s : State) (low high : Nat) (p : WPair), (s.body.twin.lease.pairs.find? fun p => p.low == low && p.high == high) = some p →
    p.live = true → p.at_ + s.body.witnessFrames ≤ s.body.frameNo →
    (p.held = [] → Leads (.witnessLeaseEnd low high) s fun b => b = s.body.pairPut { p with live := false } false)
    ∧ (∀ f h, p.held = [(f, h)] → s.body.witnessOn = true →
      Leads (.witnessLeaseEnd low high) s fun b =>
        b = (s.body.pairPut { p with holder := some h.member, kind := h.kind, epoch := p.epoch + 1, live := true, at_ := f, held := [] } true).answerTo h 3 h.kind 0
          (p.epoch + 1) 0))
  ∧ (∀ (s : State) (f : Nat), s.body.twin.lease.wStart = some f → f + s.body.holdFrames ≤ s.body.frameNo →
    Leads .witnessStartHoldEnd s fun b => b.twin.lease.wStart = none ∧ b.get F.WITNESS_STATUS_STARTING = 0))

/-! ## The CXL host ports (R242 to R264) -/

/-- CXL.mem on an open port that grants credits: a read of a line in an ONLINE partition waits for its line, a write enters the port's
queue, a request without data is answered; an address outside is answered with poison, or completes without effect; on a closed port a
request with a credit is held, one without is a protocol error. The model's choices it rests on: log entries 59 and 128. -/
def Obligations.CxlMemCommands : Prop :=
  (∀ (s : State) (p k tag hpa : Nat) (obs : TierObs), s.body.get (F.CXP_STATUS_LINK p) = 3 → s.body.isOn (U.cxl p) = true →
    s.body.flag (F.CXP_STATUS_OPEN p) = true → s.body.cxlGrants p = true → (s.body.cxp p).reads.length < s.body.rdEffective p →
    (∀ off line, s.body.hdmDecode p k hpa = some off → s.body.ldLine p k off = some line →
      (Leads (.memRd p k tag hpa obs) s fun b => b = ((s.body.cxpMod p fun x => { x with
        reads := x.reads ++ [CxlRead.mk k tag line (off / 64 * 64)] }).order (.cxl p k tag) line .read (s.body.ldClass p k) obs).cxpShow p)
      ∧ (Leads (.memRdData p k tag hpa obs) s fun b => b = ((s.body.cxpMod p fun x => { x with
        reads := x.reads ++ [CxlRead.mk k tag line (off / 64 * 64)] }).order (.cxl p k tag) line .read (s.body.ldClass p k) obs).cxpShow p)
      ∧ (s.body.nc.mrs.length < 4096 → Leads (.memSpecRd p k hpa obs) s fun b =>
        b = s.body.order (.cxlSpec p) line .read (s.body.ldClass p k) obs))
    ∧ (s.body.hdmDecode p k hpa = none →
      (Leads (.memRd p k tag hpa obs) s fun b => b.get (F.CXP_CREDIT_RD_OUT p) = (s.body.cxp p).reads.length % 2 ^ (F.CXP_CREDIT_RD_OUT p).w
        ∧ ∃ load, .cxlData p k tag 0 true load ∈ b.out))
    ∧ (Leads (.memInv p k tag) s fun b => .cxlCmp p k tag (s.body.devLoad p) ∈ b.out)
    ∧ (Leads (.memInvNt p k tag) s fun b => .cxlCmp p k tag (s.body.devLoad p) ∈ b.out)
    ∧ (Leads (.memClnEvct p k tag) s fun b => .cxlCmp p k tag (s.body.devLoad p) ∈ b.out))
  ∧ (∀ (s : State) (p k tag hpa line : Nat) (d : LineData), s.body.get (F.CXP_STATUS_LINK p) = 3 → s.body.isOn (U.cxl p) = true →
    s.body.flag (F.CXP_STATUS_OPEN p) = true → s.body.cxlGrants p = true → (s.body.aq p).length < 4096 →
    (s.body.hdmDecode p k hpa).bind (s.body.ldLine p k) = some line →
    (Leads (.memWr p k tag hpa d) s fun b =>
      b = (s.body.presentW p [⟨.cxl p k tag, line, .write d Body.allBytes, s.body.ldClass p k⟩]).cxpShow p)
    ∧ (∀ mask, Leads (.memWrPtl p k tag hpa d mask) s fun b =>
      b = (s.body.presentW p [⟨.cxl p k tag, line, .write d mask, s.body.ldClass p k⟩]).cxpShow p))
  ∧ (∀ (s : State) (p k tag hpa : Nat) (obs : TierObs), s.body.get (F.CXP_STATUS_LINK p) = 3 → s.body.isOn (U.cxl p) = true →
    s.body.flag (F.CXP_STATUS_OPEN p) = false →
    ((s.body.cxp p).credReq ≠ 0 → Leads (.memRd p k tag hpa obs) s fun b => (b.cxp p).held = (s.body.cxp p).held ++ [.read k tag hpa]
      ∧ (b.cxp p).credReq = (s.body.cxp p).credReq - 1)
    ∧ ((s.body.cxp p).credReq = 0 → Leads (.memRd p k tag hpa obs) s fun b => .cxlRas p ∈ b.out ∧ (b.cxp p).held = (s.body.cxp p).held))
  ∧ (∀ (s : State) (p tag : Nat), s.body.cxlUp p = true →
    (Leads (.cxlBadOpcode p) s fun b => .cxlRas p ∈ b.out ∧ ⟨U.cxl p, .bit (F.CXP_EVENTS_PROTOCOL_ERR p), 0⟩ ∈ b.evs)
    ∧ (Leads (.gpfPhase1 p tag) s fun b => b = s.body.send (.gpfDone p 1 tag))
    ∧ (s.body.flag (F.CXP_STATUS_OPEN p) = true → Leads (.gpfPhase2 p tag) s fun b => b = s.body.flushPresent (.gpf p tag))
    ∧ (s.body.flag (F.CXP_STATUS_OPEN p) = false → Leads (.gpfPhase2 p tag) s fun b =>
      (b.cxp p).held = (s.body.cxp p).held ++ [.gpf tag]))

/-- Links, decoders, quotas and IDE of the host ports; vector 6 goes to the logical devices whose window shows another word (R263). The model's choices it rests on: log entries 57 and 60. -/
def Obligations.CxlPortCommands : Prop :=
  (∀ (s : State) (p k dec base size skip iw ig : Nat) (lock : Bool), s.body.ldUp p k = true →
    (if dec = 0 then (s.body.ldOf p k).dec0 else (s.body.ldOf p k).dec1).locked = false →
    (s.body.changeState = 1 → Leads (.hdmDecoderCommit p k dec base size skip iw ig lock) s fun b =>
      (b.ldOf p k).waiting = (s.body.ldOf p k).waiting ++ [⟨dec, base, size, skip, iw, ig, lock⟩])
    ∧ (s.body.changeState ≠ 1 → Leads (.hdmDecoderCommit p k dec base size skip iw ig lock) s fun b =>
      let no := s.body.hdmRefused p k ⟨dec, base, size, skip, iw, ig, lock⟩
      let d := if dec = 0 then (b.ldOf p k).dec0 else (b.ldOf p k).dec1
      d.base = base ∧ d.size = size ∧ d.committed = !no ∧ d.error = no ∧ d.locked = (lock && !no)))
  ∧ (∀ (s : State) (p k : Nat), s.body.ldUp p k = true → Leads (.memEnableSet p k) s fun b => (b.ldOf p k).memEnable = true)
  ∧ (∀ (s : State) (p rate width : Nat) (flit : Bool), p < s.body.cxlPortCount → s.body.isOn (U.cxl p) = true → s.body.cxlUp p = false →
    s.body.flag (F.CXP_CTL_LINK_DISABLE p) = false →
    Leads (.cxlLinkUp p rate width flit) s fun b =>
      b.get (F.CXP_STATUS_LINK p) = (if flit = true ∧ 4 ≤ min width s.body.cxlWidth then 3 else 2)
      ∧ b.get (F.CXP_STATUS_RATE p) = min (max 1 rate) (4 - s.body.get (F.CXP_CTL_MAX_RATE p)) % 2 ^ (F.CXP_STATUS_RATE p).w
      ∧ ⟨U.cxl p, .bit (F.CXP_EVENTS_LINK_UP p), 0⟩ ∈ b.evs ∧ .ports ∈ b.todo)
  ∧ (∀ (s : State) (p : Nat), s.body.cxlUp p = true → Leads (.cxlLinkDown p) s fun b => (b.cxp p).reads = [] ∧ (b.cxp p).held = []
      ∧ b.get (F.CXP_STATUS_LINK p) = 0 ∧ b.flag (F.CXP_STATUS_OPEN p) = false ∧ ⟨U.cxl p, .bit (F.CXP_EVENTS_LINK_DOWN p), 0⟩ ∈ b.evs)
  ∧ (∀ (s : State) (p k : Nat), s.body.ldUp p k = true → Leads (.cxlFlr p k) s fun b => (b.ldOf p k).dec0 = {} ∧ (b.ldOf p k).dec1 = {}
      ∧ (b.ldOf p k).memEnable = false ∧ (b.ldOf p k).info = (s.body.ldOf p k).info ∧ (∀ r ∈ (b.cxp p).reads, r.ld ≠ k))
  ∧ (∀ (s : State) (p : Nat), s.body.cxlUp p = true →
    ((s.body.cxp p).memIde = true ∨ (s.body.cxp p).ioIde = true → Leads (.ideMacFail p) s fun b => (b.cxp p).macFail = true
      ∧ .cxlIdeError p ∈ b.out ∧ .ports ∈ b.todo)
    ∧ (∀ io, Leads (.ideKeyExchange p io) s fun b => (b.cxp p).macFail = false
      ∧ (b.cxp p).memIde = ((s.body.cxp p).memIde || !io) ∧ (b.cxp p).ioIde = ((s.body.cxp p).ioIde || io) ∧ .ports ∈ b.todo))
  ∧ (∀ (s : State) (actor : Actor) (p quota : Nat), Leads (.rdQuotaWrite actor p quota) s fun b =>
      b = (wrote s.body actor (F.CXP_CREDIT_RD_QUOTA p).addr (bitWord s.body (F.CXP_CREDIT_RD_QUOTA p) quota)).quotaSettle p
        (s.body.get (F.CXP_CREDIT_RD_QUOTA p)))
  ∧ (∀ (s : State) (actor : Actor) (p k n : Nat), s.body.mayAct actor (A.CXP_HDM_SEL p) (BitVec.ofNat 64 (k + 16 * n)) = true →
    Leads (.cxpHdmSnapshot actor p k n) s fun b => b = (wrote s.body actor (A.CXP_HDM_SEL p) (k + 16 * n)).hdmSnap p)
  ∧ (∀ (old b : Body) (p k : Nat), (⟨U.cxl p, .named .msix, k * 8 + 6⟩ : PassEvent) ∈ Body.windowEvents old b
    ↔ p < 16 ∧ b.ldUp p k = true ∧ b.windowWords p k ≠ old.windowWords p k)

/-- The mailbox, the fabric manager's device and DOE of a logical device that its host reaches.
The model's choices it rests on: log entries 57, 58 and 61. -/
def Obligations.CxlMailboxCommands : Prop :=
  (∀ (s : State) (p k : Nat), s.body.ldUp p k = true →
    Answers (.identify p k) s p k .identify
    ∧ Answers (.getSupportedLogs p k) s p k .supportedLogs
    ∧ Answers (.getLog p k true) s p k .effectsLog ∧ Answers (.getLog p k false) s p k .invalid
    ∧ ((s.body.ldOf p k).scan = none → Answers (.backgroundOperationStatus p k) s p k
        (.bgStatus false (if (s.body.ldOf p k).bgDone then 100 else 0)))
    ∧ (∀ n, Answers (.getEventRecords p k n) s p k (s.body.eventsAns p k n))
    ∧ Answers (.getEventInterruptPolicy p k) s p k (.policy (s.body.ldOf p k).policy)
    ∧ Answers (.getFwInfo p k) s p k (.fwInfo s.body.cfg.img.sequence)
    ∧ Answers (.getTimestamp p k) s p k (.timestamp (s.body.cxlTime p k))
    ∧ Answers (.identifyMemoryDevice p k) s p k (.memoryDevice (s.body.ldGib p k * 2 ^ 30))
    ∧ Answers (.getPartitionInfo p k) s p k (.partition (s.body.ldGib p k * 2 ^ 30))
    ∧ Answers (.getHealthInfo p k) s p k (s.body.healthAns p)
    ∧ Answers (.getAlertConfiguration p k) s p k (.alerts (s.body.ldOf p k).alerts)
    ∧ Answers (.getShutdownState p k) s p k (.shutdown (s.body.cxl.dirty.contains (16 * p + k)))
    ∧ (∀ op, Answers (.mailboxUnsupported p k op) s p k .unsupported)
    ∧ (∀ i, Leads (.doeDiscovery p k i) s fun b => .cxlAns p k (if i < 4 then .doeProtocol i ((i + 1) % 4) else .invalid) ∈ b.out)
    ∧ (Leads (.cdatTableAccess p k) s fun b => .cxlAns p k (s.body.cdatAns p k) ∈ b.out))
  ∧ (∀ (s : State) (p k : Nat), s.body.ldUp p k = true →
    (∀ n, Leads (.clearEventRecords p k n true []) s fun b => .cxlAns p k .done ∈ b.out
      ∧ (Body.logOf (b.ldOf p k) (n % 4)).recs = [] ∧ (Body.logOf (b.ldOf p k) (n % 4)).overflow = false)
    ∧ (∀ v, Leads (.setEventInterruptPolicy p k v) s fun b => .cxlAns p k .done ∈ b.out ∧ (b.ldOf p k).policy = v)
    ∧ (∀ t, Leads (.setTimestamp p k t) s fun b => .cxlAns p k .done ∈ b.out ∧ b.cxlTime p k = t)
    ∧ (∀ valid enable vals, Leads (.setAlertConfiguration p k valid enable vals) s fun b => .cxlAns p k .done ∈ b.out)
    ∧ (Leads (.setShutdownState p k true) s fun b => .cxlAns p k .done ∈ b.out ∧ b.cxl.dirty = insertNat s.body.cxl.dirty (16 * p + k))
    ∧ (Leads (.setShutdownState p k false) s fun b => .cxlAns p k .done ∈ b.out ∧ b.cxl.dirty = s.body.cxl.dirty.erase (16 * p + k))
    ∧ (∀ first lines, (s.body.ldOf p k).scan = none → lines ≤ 2 ^ 24 → (first + lines) * 64 ≤ s.body.ldGib p k * 2 ^ 30 →
      Leads (.getPoisonList p k first lines) s fun b => .cxlAns p k (.bgStatus true 0) ∈ b.out ∧ (b.ldOf p k).scan = some (first, lines))
    ∧ (∀ first lines d, (s.body.ldOf p k).scan = some (first, lines) → s.body.ldPart p k = some d →
      Leads (.poisonListDone p k) s fun b => (b.ldOf p k).scan = none ∧ (b.ldOf p k).bgDone = true
        ∧ ∃ l more, .cxlAns p k (.poison l more) ∈ b.out ∧ ∀ a ∈ l, ∃ i, first ≤ i ∧ i < first + lines ∧ a = i * 64
          ∧ (s.body.peek (d.base * 2 ^ 24 + i)).2 = true))
  ∧ (∀ (s : State) (p : Nat), s.body.cxlUp p = true →
    (Leads (.getLdInfo p) s fun b => .cxlAns p 0xFFFF (.ldInfo (Body.sum (s.body.ldSizes p)) (s.body.ldCount p)) ∈ b.out)
    ∧ (Leads (.getLdAllocations p) s fun b => .cxlAns p 0xFFFF (.ldAllocations (s.body.ldSizes p)) ∈ b.out)
    ∧ (Leads (.setLdAllocations p) s fun b => b = s.body.send (.cxlAns p 0xFFFF .unsupported))
    ∧ (Leads (.qosStatus p) s fun b => .cxlAns p 0xFFFF (.qos (s.body.devLoad p)) ∈ b.out))

/-! ## The Ethernet ports and RDMA (R265 to R293) -/

/-- Ethernet links and connection messages. The model's choices it rests on: log entries 69, 70 and 124. -/
def Obligations.EthCommands : Prop :=
  (∀ (s : State) (p : Nat), p < s.body.ethPortCount → s.body.isOn (U.eth p) = true → s.body.get (F.ETH_STATUS_LINK p) ≠ 2 →
    Leads (.ethLinkUp p) s fun b => ∃ b0 : Body, b = b0.ethLook p ∧ b0.get (F.ETH_STATUS_LINK p) = 2
      ∧ ⟨U.eth p, .bit (F.ETH_EVENTS_LINK_UP p), 0⟩ ∈ b0.evs)
  ∧ (∀ (s : State) (p cause : Nat), s.body.get (F.ETH_STATUS_LINK p) = 2 →
    Leads (.ethLinkDown p cause) s fun b => ∃ b0 : Body, b = b0.ethLook p
      ∧ b0.get (F.ETH_STATUS_LINK p) = (if s.body.isOn (U.eth p) then 1 else 0)
      ∧ ⟨U.eth p, .bit (F.ETH_EVENTS_LINK_DOWN p), 0⟩ ∈ b0.evs)
  ∧ (∀ (s : State) (p : Nat), p < s.body.ethPortCount → s.body.isOn (U.eth p) = true → s.body.get (F.ETH_STATUS_LINK p) = 2 →
    Leads (.ethFrameDiscard p) s fun b => b = (s.body.inc (F.ETH_COUNT_0_RX_PKTS p)).incSat (F.ETH_COUNT_1_DISCARDED p))
  ∧ (∀ (s : State) (p n : Nat) (m : CmReq), s.body.ethUp p = true →
    (range' 2 65534).find? (fun n => (mget s.body.rdma.qps n).isNone) = some n → m.tcp = (answered s.body p).get F.RDMA_CFG_CM_PORT →
    (answered s.body p).ethOpen p = true → s.body.rdmaShut = false →
    ((answered s.body p).flag F.RDMA_CTL_CM_HOLD = false → s.body.rdma.pdAuto.contains (m.record.getD ⟨0, 0, 0⟩).pd = true →
      Leads (.cmReq p m) s fun b => (b.qp n).st = .rtr ∧ (b.qp n).ePsn = m.psn ∧ (b.qp n).cfg.remote = m.remote
        ∧ ∃ x, .cm p n x ∈ b.out ∧ x ≠ .rej)
    ∧ ((answered s.body p).flag F.RDMA_CTL_CM_HOLD = true →
      Leads (.cmReq p m) s fun b => (b.qp n).st = .held ∧ .cm p n .mra ∈ b.out ∧ ⟨U.rdma, .bit F.RDMA_EVENTS_CM_HELD, n⟩ ∈ b.evs))
  ∧ (∀ (s : State) (n : Nat), s.body.ethUp (s.body.qp n).cfg.port = true →
    ((s.body.qp n).st = .rtr → (s.body.qp n).cfg.active = false → Leads (.cmRtu n) s fun b =>
      b = ((answered s.body (s.body.qp n).cfg.port).setQp n { s.body.qp n with st := .rts }).reqPump n)
    ∧ (∀ remote psn, (s.body.qp n).st = .rtr → (s.body.qp n).cfg.active = true → Leads (.cmRep n remote psn) s fun b => ∃ b0 : Body,
      b = b0.reqPump n ∧ (b0.qp n).st = .rts ∧ (b0.qp n).ePsn = psn ∧ (b0.qp n).cfg.remote = remote
        ∧ .cm (s.body.qp n).cfg.port n .rtu ∈ b0.out)
    ∧ ((s.body.qp n).st = .rtr ∨ (s.body.qp n).st = .rts → Leads (.cmDreq n) s fun b =>
      b = (answered s.body (s.body.qp n).cfg.port).cmGone n .drep))
  ∧ (∀ (s : State) (n : Nat), ((s.body.qp n).st = .held → Leads (.mraTimeout n) s fun b => b.qp n = {}
      ∧ .cm (s.body.qp n).cfg.port n .rej ∈ b.out)
    ∧ ((s.body.qp n).st = .error → (s.body.qp n).drep = true → Leads (.qpErrorTimeout n) s fun b => b.qp n = {}))

/-- Requests at the responder: a packet that comes in its turn, names a right of its region and finds room takes its PSN and stands as a
message of its queue pair; the answers then go in PSN order. In a role that may not serve them they are answered with RNR NAKs.
The model's choices it rests on: log entries 71, 75 and 137. -/
def Obligations.RdmaResponderCommands : Prop :=
  (∀ (s : State) (p n psn region a : Nat) (ce : Bool) (h : Reth) (data : List Byte), serves s.body p n ce →
    let g := arrived s.body p n ce
    (g.qp n).cfg.mode ≠ .spray → psn = (g.qp n).ePsn → ((g.qp n).msgs.find? fun m => m.kind == .write && !m.whole) = none →
    g.keyCheck (g.qp n) h.key h.va h.len 1 = some (region, a) → data.length = h.len →
    (g.rdmaRoom (g.qp n) (g.msgWrites n psn a data).length false = true →
      Leads (.rdmaWrite p n psn ce (some h) true data) s fun b => ∃ b0 : Body, b = b0.qpTurn n ∧ (b0.qp n).ePsn = psnAdd psn 1
        ∧ ∃ m ∈ (b0.qp n).msgs, m.kind = .write ∧ m.first = psn ∧ m.held = g.msgWrites n psn a data ∧ m.whole = true ∧ m.flagged = false)
    ∧ (∀ imm, g.rdmaRoom (g.qp n) (g.msgWrites n psn a data).length (g.msgWrites n psn a data).isEmpty = true →
      Leads (.rdmaWriteImm p n psn ce (some h) imm data) s fun b => ∃ (b0 : Body) (m : RMsg), b = (b0.immDeliver n m).qpTurn n
        ∧ (b0.qp n).ePsn = psnAdd psn 1 ∧ m ∈ (b0.qp n).msgs ∧ m.kind = .write ∧ m.first = psn ∧ m.flagged = true ∧ m.imm = imm))
  ∧ (∀ (s : State) (p n psn region a : Nat) (ce : Bool) (h : Reth), serves s.body p n ce →
    let g := arrived s.body p n ce
    (g.qp n).cfg.mode ≠ .spray → psn = (g.qp n).ePsn → g.keyCheck (g.qp n) h.key h.va h.len 0 = some (region, a) →
    Leads (.rdmaRead p n psn ce h) s fun b => ∃ b0 : Body, b = b0.qpTurn n ∧ (b0.qp n).ePsn = psnAdd psn (g.rdmaPkts h.len)
      ∧ ∃ m ∈ (b0.qp n).msgs, m.kind = .read ∧ m.first = psn ∧ m.dpa = a ∧ m.len = h.len)
  ∧ (∀ (s : State) (p n psn va key region a x y : Nat) (ce : Bool), serves s.body p n ce →
    let g := arrived s.body p n ce
    (g.qp n).cfg.mode ≠ .spray → psn = (g.qp n).ePsn → g.keyCheck (g.qp n) key va 8 2 = some (region, a) →
    g.rdmaRoom (g.qp n) 1 false = true →
    (Leads (.compareSwap p n psn ce va key x y) s fun b => ∃ b0 : Body, b = b0.qpTurn n ∧ (b0.qp n).ePsn = psnAdd psn 1
      ∧ ∃ m ∈ (b0.qp n).msgs, m.kind = .atomic ∧ m.first = psn ∧ m.op = some ⟨a / 64, a % 64, true, x, y⟩)
    ∧ (Leads (.fetchAdd p n psn ce va key x) s fun b => ∃ b0 : Body, b = b0.qpTurn n ∧ (b0.qp n).ePsn = psnAdd psn 1
      ∧ ∃ m ∈ (b0.qp n).msgs, m.kind = .atomic ∧ m.first = psn ∧ m.op = some ⟨a / 64, a % 64, false, x, 0⟩))
  ∧ (∀ (s : State) (p n psn buf : Nat) (r : List Nat) (ce : Bool) (data : List Byte), serves s.body p n ce →
    let g := arrived s.body p n ce
    (g.qp n).cfg.mode ≠ .spray → psn = (g.qp n).ePsn → (g.qp n).recvs = buf :: r → data.length ≤ rkSize (buf % 8) →
    Leads (.rdmaSend p n psn ce true true data) s fun b => ∃ b0 : Body, b = b0.qpTurn n ∧ (b0.qp n).ePsn = psnAdd psn 1
      ∧ (b0.qp n).recvs = r ∧ ∃ m ∈ (b0.qp n).msgs, m.kind = .send ∧ m.first = psn)
  ∧ (∀ (s : State) (p n psn region a : Nat) (ce : Bool) (h : SprayHdr) (data : List Byte), serves s.body p n ce →
    let g := arrived s.body p n ce
    (g.qp n).cfg.mode = .spray → psn = (g.qp n).ePsn → (g.qp n).seen.contains psn = false → h.last = true → h.pkts = 1 → psn < 2 ^ 24 →
    h.msg = psn → ((g.qp n).msgs.find? (·.first == h.msg)) = none →
    g.keyCheck (g.qp n) h.key h.va data.length 1 = some (region, a) →
    (g.rdmaRoom (g.qp n) (g.msgWrites n psn a data).length false = true →
      Leads (.sprayWrite p n psn ce h data) s fun b => ∃ b0 : Body, b = b0.qpTurn n
        ∧ ∃ m ∈ (b0.qp n).msgs, m.kind = .write ∧ m.first = psn ∧ m.whole = true ∧ m.held = g.msgWrites n psn a data)
    ∧ (g.rdmaRoom (g.qp n) (g.msgWrites n psn a data).length ((g.msgWrites n psn a data).isEmpty && h.len == 0) = true →
      Leads (.sprayWriteImm p n psn ce h data) s fun b => ∃ (b0 : Body) (m : RMsg), b = (b0.immDeliver n m).qpTurn n
        ∧ m ∈ (b0.qp n).msgs ∧ m.kind = .write ∧ m.first = psn ∧ m.flagged = true ∧ m.imm = h.imm))
  ∧ (∀ (s : State) (p n psn : Nat) (ce : Bool) (h : Reth), s.body.ethUp p = true → s.body.rdmaShut = false →
    (s.body.qp n).st = .rtr ∨ (s.body.qp n).st = .rts → (s.body.qp n).cfg.port = p → (arrived s.body p n ce).rdmaStopped = true →
    Leads (.rdmaRead p n psn ce h) s fun b => b = (arrived s.body p n ce).rdmaRnr n psn)
  ∧ (∀ (s : State) (n : Nat), (s.body.qp n).timer = true → (s.body.qp n).st = .rtr ∨ (s.body.qp n).st = .rts →
    ((s.body.qp n).seen ≠ [] → Leads (.reorderTimer n) s fun b =>
      .sack (s.body.qp n).cfg.port n (s.body.qp n).lastAck (Body.sackRuns (s.body.qp n)) ∈ b.out)
    ∧ ((s.body.qp n).seen = [] → Leads (.reorderTimer n) s fun b => (b.qp n).timer = false))

/-- Answers at the requester, congestion, timers. The model's choices it rests on: log entries 72, 74 and 130. -/
def Obligations.RdmaRequesterCommands : Prop :=
  (∀ (s : State) (p n psn : Nat), requests s.body p n →
    (Leads (.rdmaAckRx p n psn .ack) s fun b => b = (answered s.body p).reqCover n psn)
    ∧ (∀ ranges, (s.body.qp n).cfg.mode = .spray → Leads (.sackRx p n psn ranges) s fun b =>
      b = ((answered s.body p).reqCover n psn).forEach ranges fun x r => x.ethTx (s.body.qp n).cfg.port r.2
        (.rdmaAgain (s.body.qp n).cfg.port n r.1 r.2))
    ∧ (∀ o delivered start len, (s.body.qp n).outs.find? (fun o => Body.hasData o.wr && !o.acked
        && psnSub psn o.first ≤ psnSub o.last o.first) = some o →
      (Leads (.poisonNakRx p n psn delivered start len) s fun b =>
        b = ((answered s.body p).reqCover n ((o.first + 2 ^ 24 - 1) % 2 ^ 24)).reqFail n o 5 delivered (some (start, len)))
      ∧ (∀ data, nbit o.wr.flags 4 = true → psnSub psn o.first * (answered s.body p).rdmaMtu = o.got →
        Leads (.readResponseRx p n psn data) s fun b => ∃ b0 : Body, b = b0.reqRetire n))
    ∧ (Leads (.cnpRx p n) s fun b => ∃ rate, (b.qp n).rate = max 1 (rate * (131072 - (s.body.qp n).alpha) / 131072)
      ∧ ((s.body.qp n).rate ≠ 0 → rate = (s.body.qp n).rate)
      ∧ (b.qp n).alpha = (s.body.qp n).alpha + (65536 - (s.body.qp n).alpha) / 256))
  ∧ (∀ (s : State) (n : Nat), (s.body.qp n).st ≠ .reset → (s.body.qp n).rate ≠ 0 → Leads (.dcqcnRecovery n) s fun b =>
      (b.qp n).rate = (if s.body.portRate (s.body.qp n).cfg.port ≤ (s.body.qp n).rate + 5000 then 0 else (s.body.qp n).rate + 5000)
      ∧ (b.qp n).alpha = (s.body.qp n).alpha - (s.body.qp n).alpha / 256)
  ∧ (∀ (s : State) (n : Nat) (o : OutReq), s.body.ethUp (s.body.qp n).cfg.port = true → (s.body.qp n).st = .rts →
    Body.reqOldest (s.body.qp n) = some o →
    (o.rnrWait = true → Leads (.retransmitTimeout n) s fun b =>
      b = (s.body.outMod n (·.first == o.first) fun x => { x with rnrWait := false }).reqAgain n o.first)
    ∧ (o.rnrWait = false → (s.body.qp n).cfg.retry ≤ o.tries → Leads (.retransmitTimeout n) s fun b => b = s.body.reqFail n o 6 0 none)
    ∧ (o.rnrWait = false → o.tries < (s.body.qp n).cfg.retry → Leads (.retransmitTimeout n) s fun b =>
      b = (s.body.outMod n (·.first == o.first) fun x => { x with tries := x.tries + 1, rnrWait := false }).reqAgain n o.first))

/-- The commands of RDMA_CMD, the doorbell and the peek. The model's choices it rests on: log entries 68, 75 and 77. -/
def Obligations.RdmaFirmwareCommands : Prop :=
  (∀ (s : State) (actor : Actor) (n : Nat), begins s.body actor 1 n →
    let g := begun s.body actor 1 n
    2 ≤ n → n ≤ 65535 → (g.qp n).st = .reset → g.ethOpen (g.arg 2 48 3) = true → g.arg 3 31 1 = 1 →
    Leads (.rdmaConnect actor n) s fun b => (b.qp n).st = .rtr ∧ (b.qp n).cfg.active = true ∧ (b.qp n).cfg.port = g.arg 2 48 3
      ∧ b.get F.RDMA_CMD_STATUS_STATE = 2)
  ∧ (∀ (s : State) (actor : Actor) (n : Nat), begins s.body actor 2 n →
    let g := begun s.body actor 2 n
    (g.qp n).st = .held → nbit (g.qp n).cfg.ext 1 = false →
    Leads (.rdmaAccept actor n) s fun b => (b.qp n).st = .rtr ∧ (b.qp n).cfg.pd = g.arg 3 2 12 ∧ b.get F.RDMA_CMD_STATUS_STATE = 2)
  ∧ (∀ (s : State) (actor : Actor) (n : Nat), begins s.body actor 3 n → ((begun s.body actor 3 n).qp n).st = .held →
    Leads (.rdmaReject actor n) s fun b => b.qp n = {} ∧ b.get F.RDMA_CMD_STATUS_STATE = 2)
  ∧ (∀ (s : State) (actor : Actor) (n : Nat), begins s.body actor 4 n →
    let g := begun s.body actor 4 n
    ((g.qp n).st = .rtr ∨ (g.qp n).st = .rts → Leads (.rdmaDisconnect actor n) s fun b => b = (g.cmGone n .dreq).cmdEnd 0 0)
    ∧ ((g.qp n).st = .error → Leads (.rdmaDisconnect actor n) s fun b => b.qp n = {} ∧ b.get F.RDMA_CMD_STATUS_STATE = 2)
    ∧ ((g.qp n).st = .reset → Leads (.rdmaDisconnect actor n) s fun b => b.get F.RDMA_CMD_STATUS_STATE = 3
      ∧ b.get F.RDMA_CMD_STATUS_RESULT = 1))
  ∧ (∀ (s : State) (actor : Actor) (i : Nat), begins s.body actor 5 i →
    let g := begun s.body actor 5 i
    i < 1048576 → (mgetD g.rdma.regions i {}).used = false → g.get (F.PART_ATTR_STATE (g.arg 1 47 8)) = 1 →
    g.flag (F.PART_ATTR_RDMA_ALLOWED (g.arg 1 47 8)) = true → g.cfg.refuseIn.contains (g.arg 1 47 8) = false →
    g.arg 1 0 47 + g.arg 2 0 64 ≤ g.get (F.PART_SIZE_SIZE_GIB (g.arg 1 47 8)) * 2 ^ 30 →
    Leads (.regCreate actor i) s fun b => b.get F.RDMA_CMD_STATUS_STATE = 2
      ∧ b.get F.RDMA_CMD_STATUS_KEY = (i * 256 + ((mgetD g.rdma.regions i {}).variant + 1) % 256) % 2 ^ 32
      ∧ (mget b.rdma.regions i).map (fun r => (r.used, r.variant, r.va, r.part, r.off, r.len))
        = some (true, ((mgetD g.rdma.regions i {}).variant + 1) % 256, g.arg 0 0 64, g.arg 1 47 8, g.arg 1 0 47, g.arg 2 0 64))
  ∧ (∀ (s : State) (actor : Actor) (i : Nat) (r : Region), begins s.body actor 6 i → mget s.body.rdma.regions i = some r → r.used = true →
    Leads (.regDereg actor i) s fun b => mget b.rdma.regions i = some { r with deadAt := some ((begun s.body actor 6 i).frameNo + 1) }
      ∧ b.get F.RDMA_CMD_STATUS_STATE = 1)
  ∧ (∀ (s : State) (i f : Nat) (r : Region), mget s.body.rdma.regions i = some r → r.used = true → r.deadAt = some f → f ≤ s.body.frameNo →
    s.body.regionBusy i = false →
    Leads (.regDeregDone i) s fun b => mget b.rdma.regions i = some { variant := r.variant } ∧ b.get F.RDMA_CMD_STATUS_STATE = 2)
  ∧ (∀ (s : State) (actor : Actor) (i : Nat), begins s.body actor 7 i → Leads (.trigSet actor i) s fun b =>
      b = ((begun s.body actor 7 i).trigSet (i % 4096) ((begun s.body actor 7 i).arg 0 0 32)).cmdEnd 0 0)
  ∧ (∀ (s : State) (actor : Actor) (i : Nat), begins s.body actor 8 i → Leads (.pdSet actor i) s fun b =>
      b.rdma.pdAuto = (if (begun s.body actor 8 i).arg 0 0 1 = 1 then insertNat (s.body.rdma.pdAuto.erase (i % 4096)) (i % 4096)
        else s.body.rdma.pdAuto.erase (i % 4096)) ∧ b.get F.RDMA_CMD_STATUS_STATE = 2)
  ∧ (∀ (s : State) (actor : Actor) (n : Nat), s.body.mayAct actor A.RDMA_DOORBELL (BitVec.ofNat 64 n) = true → s.body.isOn U.rdma = true →
    Leads (.rdmaDoorbell actor n) s fun b => b = (wrote s.body actor A.RDMA_DOORBELL n).reqPump n)
  ∧ (∀ (s : State) (actor : Actor) (kind index : Nat), s.body.mayAct actor A.RDMA_PEEK_SEL (BitVec.ofNat 64 (kind + 4 * index)) = true →
    Leads (.rdmaPeek actor kind index) s fun b => b = (wrote s.body actor A.RDMA_PEEK_SEL (kind + 4 * index)).rdmaPeek)

/-! ## The Ramekin pools (R294 to R304, R311, R312) -/

/-- Allocation, free, the cache and the chain of a pool. The model's choices it rests on: log entries 65, 66 and 67.
What an allocation answers, rule by rule: NULL with the status of the first reason that holds, or a buffer of the smallest class that
holds the size, ALLOCATED for its owner, who then holds one more. -/
def Obligations.RamekinCommands : Prop :=
  ((∀ (s : State) (actor : Actor) (n size owner seq : Nat) (bad : Bool),
    s.body.mayAct actor (A.RK_ALLOC n) (BitVec.ofNat 64 (size % 2 ^ 19 + owner % 16 * 2 ^ 20 + seq % 256 * 2 ^ 24)) = true →
    let g := wrote s.body actor (A.RK_ALLOC n) (size % 2 ^ 19 + owner % 16 * 2 ^ 20 + seq % 256 * 2 ^ 24)
    LeadsAlone (.rkAlloc actor n size owner seq bad) s fun b =>
      b.get (F.RK_ALLOC_RES_STATUS n) = (g.rkAlloc (size % 2 ^ 19) (owner % 16) bad).2.2 % 2 ^ (F.RK_ALLOC_RES_STATUS n).w
      ∧ b.rk = (g.rkAlloc (size % 2 ^ 19) (owner % 16) bad).1.rk)
  ∧ (∀ (s : State) (actor : Actor) (n handle owner : Nat) (force bad : Bool),
    s.body.mayAct actor (A.RK_FREE n) (BitVec.ofNat 64 (handle % 2 ^ 36 + owner % 16 * 2 ^ 36 + b2n force * 2 ^ 40)) = true →
    LeadsAlone (.rkFree actor n handle owner force bad) s fun b =>
      b = (wrote s.body actor (A.RK_FREE n) (handle % 2 ^ 36 + owner % 16 * 2 ^ 36 + b2n force * 2 ^ 40)).rkFree (handle % 2 ^ 36)
        (owner % 16) force bad)
  ∧ (∀ (s : State) (pool : Nat) (bad : Bool), pool < 6 → s.body.isOn U.ramekin = true → (s.body.pool pool).cache.length = 15 →
    (s.body.pool pool).hwm < s.body.rkCount pool →
    LeadsAlone (.rkCacheRefill pool bad) s fun b => (b.pool pool).cache = (s.body.pool pool).cache ++ [(s.body.pool pool).hwm]
      ∧ (b.pool pool).hwm = (s.body.pool pool).hwm + 1)
  ∧ (∀ (s : State) (actor : Actor) (pool : Nat), acts s.body actor A.RK_REBUILD (pool % 8 + 8) → pool % 8 ≤ 5 →
    s.body.isOn U.ramekin = true → LeadsAlone (.rkRebuild actor pool) s fun b => (b.pool (pool % 8)).rebuild = true)
  ∧ (∀ (s : State) (pool : Nat), pool < 6 → (s.body.pool pool).rebuild = true →
    LeadsAlone (.rkRebuildDone pool []) s fun b => (b.pool pool).rebuild = false ∧ (b.pool pool).broken = false
      ∧ (b.pool pool).chainLen = ((List.range (s.body.pool pool).hwm).filter fun i => let st := s.body.rkState pool i
          !st.1 && !st.2.1 && !(s.body.pool pool).cache.contains i).length
      ∧ ⟨U.ramekin, .bit F.RK_EVENTS_REBUILD_DONE, pool⟩ ∈ b.evs)
  ∧ (∀ (s : State) (actor : Actor) (pool entry : Nat),
    s.body.mayAct actor A.RK_PEEK_SEL (BitVec.ofNat 64 (pool % 8 + entry % 64 * 8)) = true →
    LeadsAlone (.rkPeek actor pool entry) s fun b => b = (wrote s.body actor A.RK_PEEK_SEL (pool % 8 + entry % 64 * 8)).rkPeek))
  ∧ (∀ (b : Body) (size owner : Nat) (bad : Bool),
    (b.isOn U.ramekin = false → b.rkAlloc size owner bad = (b, rkNull, 5))
    ∧ (b.isOn U.ramekin = true → size = 0 ∨ 262144 < size → b.rkAlloc size owner bad = (b, rkNull, 3))
    ∧ (b.isOn U.ramekin = true → 0 < size → size ≤ 262144 → 14 ≤ owner → b.rkAlloc size owner bad = (b, rkNull, 4))
    ∧ ∀ p, p < 6 → b.isOn U.ramekin = true → 0 < size → size ≤ rkSize p → (∀ q, q < p → rkSize q < size) → owner < 14 →
      ((b.rkAlloc size owner bad).2.1 = rkNull ∨ ∃ i, (b.rkAlloc size owner bad).2.1 = rkHandle p i)
      ∧ (b.flag F.RK_STATUS_AREA_LOST = true → (b.rkAlloc size owner bad).2 = (rkNull, 6) ∧ (b.rkAlloc size owner bad).1.rk = b.rk)
      ∧ (b.flag F.RK_STATUS_AREA_LOST = false → b.rkFreeN p = 0 →
        (b.rkAlloc size owner bad).2 = (rkNull, 1) ∧ (b.rkAlloc size owner bad).1.rk = b.rk)
      ∧ (b.flag F.RK_STATUS_AREA_LOST = false → b.rkFreeN p ≠ 0 → b.rkFreeN p ≤ b.rkUnmet owner p →
        (b.rkAlloc size owner bad).2 = (rkNull, 2) ∧ (b.rkAlloc size owner bad).1.rk = b.rk)
      ∧ (∀ i r, b.flag F.RK_STATUS_AREA_LOST = false → b.rkFreeN p ≠ 0 → b.rkUnmet owner p < b.rkFreeN p → (b.pool p).cache = i :: r →
        b.rkReach (b.rkStateAt p i) = true →
        (b.rkAlloc size owner bad).2 = (rkHandle p i, 0) ∧ ((b.rkAlloc size owner bad).1.pool p).cache = r
          ∧ (b.rkAlloc size owner bad).1.rkHeld owner p = b.rkHeld owner p + 1))

/-! ## The hardware queues (R305 to R311, R313) -/

/-- Items enter whole in order, words leave from the head, a full queue drops and later takes a gap marker, a flush empties.
The model's choices it rests on: log entries 62, 63 and 64. -/
def Obligations.QueueCommands : Prop :=
  (∀ (s : State) (actor : Actor) (v : Word), s.body.mayAct actor A.Q_CFG v = true →
    LeadsAlone (.qCfgWrite actor v) s fun b =>
      b = (wrote s.body actor A.Q_CFG v.toNat).qConfigure ((wrote s.body actor A.Q_CFG v.toNat).get F.Q_CFG_SEL_QUEUE) v)
  ∧ (∀ (s : State) (actor : Actor) (slot : Nat) (v : Word), s.body.mayAct actor (A.Q_PUSH slot) v = true →
    let g := wrote s.body actor (A.Q_PUSH slot) v.toNat
    g.flag (F.Q_BIND_BOUND slot) = true → let k := g.get (F.Q_BIND_QUEUE slot); let q := s.body.queue k
    q.prod = 0 →
    (q.staged.length + 1 < q.item → LeadsAlone (.qPush actor slot v) s fun b =>
      (b.queue k).staged = q.staged ++ [v] ∧ (b.queue k).words = q.words)
    ∧ (q.item ≤ q.staged.length + 1 → q.enabled = true → s.body.unit U.queue ≠ .off → q.dropped = 0 → q.item ≤ Body.qFree q →
      LeadsAlone (.qPush actor slot v) s fun b => (b.queue k).staged = []
        ∧ (b.queue k).words = q.words ++ (q.staged ++ [v]).map fun w => QWord.mk w false false)
    ∧ (q.item ≤ q.staged.length + 1 → q.enabled = true → s.body.unit U.queue ≠ .off → q.dropped = 0 → Body.qFree q < q.item →
      LeadsAlone (.qPush actor slot v) s fun b => (b.queue k).words = q.words ∧ (b.queue k).dropped = 1))
  ∧ (∀ (s : State) (k : Nat), s.body.qWorks k = true → (s.body.queue k).dropped ≠ 0 → (s.body.queue k).item ≤ Body.qFree (s.body.queue k) →
    LeadsAlone (.qGapMarker k) s fun b => (b.queue k).dropped = 0
      ∧ (b.queue k).words.length = (s.body.queue k).words.length + (s.body.queue k).item
      ∧ (∃ l, (b.queue k).words = (s.body.queue k).words ++ l ∧ ∀ w ∈ l, w.gap = true)
      ∧ ⟨U.queue, .bit F.Q_EVENTS_GAP, k⟩ ∈ b.evs)
  ∧ (∀ (s : State) (actor : Actor) (slot : Nat), s.body.flag (F.Q_BIND_BOUND slot) = true →
    let k := s.body.get (F.Q_BIND_QUEUE slot); let q := s.body.queue k
    q.cons = 0 →
    (∀ w r, q.words = w :: r → LeadsAlone (.qPop actor slot false) s fun b =>
      .qWord slot w.data w.bad ∈ b.out ∧ (b.queue k).words = r)
    ∧ (q.words = [] → LeadsAlone (.qPop actor slot false) s fun b => .qWord slot 0 false ∈ b.out
      ∧ ⟨U.queue, .bit F.Q_EVENTS_UNDERFLOW, k⟩ ∈ b.evs))
  ∧ (∀ (s : State) (actor : Actor) (slot : Nat), acts s.body actor (A.Q_FLUSH slot) 1 →
    let g := wrote s.body actor (A.Q_FLUSH slot) 1
    g.flag (F.Q_BIND_BOUND slot) = true →
    LeadsAlone (.qFlush actor slot) s fun b => (b.queue (g.get (F.Q_BIND_QUEUE slot))).words = []
      ∧ (b.queue (g.get (F.Q_BIND_QUEUE slot))).dropped = 0
      ∧ (b.queue (g.get (F.Q_BIND_QUEUE slot))).flushes = ((s.body.queue (g.get (F.Q_BIND_QUEUE slot))).flushes + 1) % 65536)
  ∧ (∀ (s : State) (actor : Actor) (k offset : Nat) (w : QWord),
    s.body.mayAct actor A.Q_WIN_SEL (BitVec.ofNat 64 (k + 4096 * (offset % 2 ^ 22))) = true →
    let g := wrote s.body actor A.Q_WIN_SEL (k + 4096 * (offset % 2 ^ 22))
    (s.body.queue (g.get F.Q_WIN_SEL_QUEUE)).words[g.get F.Q_WIN_SEL_OFFSET]? = some w → w.bad = false →
    LeadsAlone (.qWinSnapshot actor k offset false) s fun b => b.word A.Q_WIN_DATA = w.data ∧ b.flag F.Q_WIN_TAG_VALID = true)

/-! ## The serving-schedule engine (R314 to R336) -/

/-- The tables of the schedule engine: a row is written whole or the command is refused with the lowest code that applies; a snapshot shows
a row; a cancel waits for the next tick. The model's choices it rests on: log entries 79 and 80. -/
def Obligations.ScheduleTableCommands : Prop :=
  (∀ (s : State) (actor : Actor), acts s.body actor A.SCHED_TBL_CMD 1 →
    let g := wrote s.body actor A.SCHED_TBL_CMD 1
    let kind := g.get F.SCHED_TBL_SEL_KIND
    let i := g.get F.SCHED_TBL_SEL_INDEX
    let w := fun n => g.get (F.SCHED_TBL_WDATA_DATA n)
    (g.writeResult kind i w ≠ 0 → Leads (.schedTblWrite actor) s fun b => b = g.tblEnd (g.writeResult kind i w) ∧ b.sched = s.body.sched)
    ∧ (g.writeResult kind i w = 0 → Leads (.schedTblWrite actor) s fun b => b.get F.SCHED_TBL_STATUS_STATE = 2
      ∧ (kind = 0 → (b.run_ i).st = .loaded ∧ ∀ k, k < 8 → mgetD b.sched.rows (8 * i + k) 0 = BitVec.ofNat 64 (w k))
      ∧ (kind = 1 → ∀ k, k < 4 → mgetD b.sched.descs (4 * i + k) 0 = BitVec.ofNat 64 (w k))
      ∧ (kind = 2 → mgetD b.sched.groups i 0 = w 0 % 2 ^ 25)
      ∧ (kind = 3 → mgetD b.sched.poss i 0 = w 0 % 2 ^ 32)))
  ∧ (∀ (s : State) (actor : Actor), acts s.body actor A.SCHED_TBL_CMD 2 →
    let g := wrote s.body actor A.SCHED_TBL_CMD 2
    let i := g.get F.SCHED_TBL_SEL_INDEX
    (g.rowCount (g.get F.SCHED_TBL_SEL_KIND) ≤ i → Leads (.schedTblSnapshot actor) s fun b => b = g.tblEnd 1)
    ∧ (i < g.rowCount 0 → g.get F.SCHED_TBL_SEL_KIND = 0 → Leads (.schedTblSnapshot actor) s fun b => b.get F.SCHED_TBL_STATUS_STATE = 2
      ∧ ∀ n, n < 8 → b.get (F.SCHED_TBL_RDATA_DATA n) = (mgetD s.body.sched.rows (8 * i + n) 0).toNat))
  ∧ (∀ (s : State) (actor : Actor), acts s.body actor A.SCHED_TBL_CMD 3 →
    let g := wrote s.body actor A.SCHED_TBL_CMD 3
    let i := g.get F.SCHED_TBL_SEL_INDEX
    g.get F.SCHED_TBL_SEL_KIND = 0 ∨ g.get F.SCHED_TBL_SEL_KIND = 4 → i < g.rowCount 0 → (g.run_ i).st ≠ .empty →
    ((g.run_ i).st.isFinal = false → Leads (.schedTblCancel actor) s fun b => (b.run_ i).cancel = true
      ∧ (b.run_ i).st = (g.run_ i).st ∧ b.get F.SCHED_TBL_STATUS_STATE = 2)
    ∧ ((g.run_ i).st.isFinal = true → Leads (.schedTblCancel actor) s fun b => b = g.tblEnd 9))

/-- An entry's run, step by step: staging, ready beacons, launch, delivery, records, and the ends that are not DONE.
The model's choices it rests on: log entries 81, 82, 83, 85 and 86. -/
def Obligations.ScheduleRunCommands : Prop :=
  (∀ (s : State) (e : Nat), s.body.stageDue e = true →
    ((s.body.run_ e).st = .loaded → s.body.hasRoom e = true → Leads (.schedStageStart e) s fun b => b = s.body.stageBegin e)
    ∧ ((s.body.run_ e).st = .loaded → s.body.hasRoom e = false → Leads (.schedStageStart e) s fun b =>
      b = s.body.runMod e fun x => { x with st := .waiting, entered := s.body.frameNo })
    ∧ ((s.body.run_ e).st = .waiting → s.body.hasRoom e = true → Leads (.schedRoom e) s fun b => b = s.body.stageBegin e))
  ∧ (∀ (s : State) (e i : Nat) (ans : List LineData) (poison : Mask), (s.body.run_ e).st.running = true → i < (s.body.schedRow e).lines →
    1024 * (s.body.run_ e).freed ≤ i → i < 1024 * (s.body.run_ e).asked →
    (∀ d, s.body.peek (s.body.shareLine (s.body.schedRow e) i) = (d, false) →
      Leads (.schedStagingReadDone e i .good ans poison) s fun b => ∃ b0 : Body, b = (b0.schedShow.readyLook e).schedIssue e
        ∧ mget (b0.run_ e).staged i = some d ∧ (b0.run_ e).poison = (s.body.run_ e).poison)
    ∧ (∀ d, s.body.peek (s.body.shareLine (s.body.schedRow e) i) = (d, true) →
      Leads (.schedStagingReadDone e i .good ans poison) s fun b => ∃ b0 : Body, b = (b0.schedShow.readyLook e).schedIssue e
        ∧ mget (b0.run_ e).staged i = some 0))
  ∧ (∀ (s : State) (e : Nat), s.body.beaconDue e = true → (s.body.run_ e).beaconAt ≤ s.body.frameNo → s.body.isOn U.sched = true →
    Leads (.readyBeaconSend e) s fun b =>
      b = (s.body.readyBeacon e).setRun e { s.body.run_ e with beaconAt := s.body.frameNo + 1 })
  ∧ (∀ (s : State) (m : ReadyMsg) (tagOk : Bool), s.body.readyOk m tagOk = false →
    Leads (.readyBeaconRx m tagOk) s fun b => b = s.body.incSat F.SCHED_BEACON_REJECTED)
  ∧ (∀ (s : State) (m : ReadyMsg) (e : Nat), s.body.readyOk m true = true → s.body.isOn U.sched = true → m.position < 128 →
    m.member ≠ 0xFFFF → m.member = (s.body.posRow m.set m.position).1 → (s.body.run_ e).st ≠ .empty →
    nbit (s.body.schedRow e).flags 0 = true → (s.body.schedRow e).id = m.schedId → (s.body.schedRow e).launch = m.launch →
    (s.body.schedRow e).set = m.set →
    Leads (.readyBeaconRx m true) s fun b => mget b.time.lastSeq m.member = some m.seq
      ∧ ∃ x ∈ mgetD b.sched.heard (128 * e + m.position) [], x.member = m.member ∧ x.ready = m.ready ∧ x.withdrawn = m.withdrawn)
  ∧ (∀ (s : State) (e : Nat), (s.body.run_ e).st = .ready → s.body.isOn U.sched = true →
    ((s.body.run_ e).catchUp = true → Leads (.schedLaunch e) s fun b => b = s.body.schedLaunch e 0)
    ∧ ((s.body.run_ e).catchUp = false → nbit (s.body.schedRow e).flags 0 = false → (s.body.schedRow e).launch ≤ s.body.frameNo →
      Leads (.schedLaunch e) s fun b => b = s.body.schedLaunch e 0)
    ∧ ((s.body.run_ e).catchUp = false → nbit (s.body.schedRow e).flags 0 = false → s.body.frameNo < (s.body.schedRow e).launch →
      Leads (.schedLaunch e) s fun b => b = s.body))
  ∧ (∀ (s : State) (e : Nat), (s.body.schedRow e).deadline ≤ s.body.frameNo → (s.body.run_ e).catchUp = false → s.body.isOn U.sched = true →
    ((s.body.run_ e).st = .waiting ∨ (s.body.run_ e).st = .staging → Leads (.schedAbandon e) s fun b => b = s.body.schedAbandon e)
    ∧ ((s.body.run_ e).st = .loaded → s.body.mayCatchUp e = false → Leads (.schedAbandon e) s fun b => b = s.body.notRun e))
  ∧ (∀ (s : State) (e : Nat), (s.body.run_ e).st = .delivering → (s.body.run_ e).freed < (s.body.schedRow e).chunks →
    ((s.body.run_ e).dests.filter (!·.failed)) ≠ [] → (∀ d ∈ (s.body.run_ e).dests, d.failed = false → (s.body.run_ e).freed < d.acked) →
    Leads (.schedChunkRelease e) s fun b => b = (s.body.runMod e fun x => { x with
      freed := x.freed + 1, staged := x.staged.filter fun p => p.1 ≥ 1024 * (x.freed + 1) }).schedIssue e)
  ∧ (∀ (s : State) (e d : Nat) (y : Dest), (s.body.run_ e).dests[d]? = some y → (s.body.run_ e).st = .delivering → y.failed = false →
    y.rcd = 0 → Body.nextIssue (s.body.schedRow e) (s.body.run_ e) = none → s.body.mapHeld e = true → (s.body.run_ e).recBuf.isSome = true →
    (s.body.destRts y = false → Leads (.schedRecordSend e d) s fun b => b = (s.body.destFail e d).schedSettle e)
    ∧ (s.body.destRts y = true → (s.body.run_ e).poison = [] → 64 ≤ (s.body.run_ e).allow → Leads (.schedRecordSend e d) s fun b =>
      let t := s.body.recordSend e d (Body.runStatus (s.body.run_ e)) (s.body.schedRow e).len (s.body.run_ e).missing
      b = t.setRun e { t.run_ e with allow := (t.run_ e).allow - 64, issued := (t.run_ e).issued + 64 }))
  ∧ (∀ (s : State) (e : Nat), (s.body.run_ e).catchUp = true → (s.body.run_ e).cuFrom + s.body.catchupFrames ≤ s.body.frameNo →
    (s.body.run_ e).st = .loaded ∨ (s.body.run_ e).st = .waiting ∨ (s.body.run_ e).st = .staging →
    Leads (.schedCatchupExpire e) s fun b => b = s.body.notRun e)

/-! ## The cipher engine: jobs, untrusted data, keys, attestation, debug (R337 to R361) -/

/-- Export and import jobs and the untrusted table. The model's choices it rests on: log entries 88, 89, 90 and 91.
How a job starts and ends: the registers show it, a job of the urgent queue suspends the normal one, an import that cannot be trusted
leaves its destination untrusted. -/
def Obligations.JobCommands : Prop :=
  ((∀ (s : State) (actor : Actor) (q : Nat), acts s.body actor (A.JOB_GO (q % 2)) 1 →
    let g := wrote s.body actor (A.JOB_GO (q % 2)) 1
    (g.get (F.JOB_OP_OP (q % 2)) = 1 → LeadsAlone (.jobExport actor q) s fun b => b = g.jobGo (q % 2))
    ∧ (g.get (F.JOB_OP_OP (q % 2)) = 2 → LeadsAlone (.jobImport actor q) s fun b => b = g.jobGo (q % 2)))
  ∧ (∀ (s : State) (actor : Actor) (q : Nat), acts s.body actor (A.JOB_GO (q % 2)) 2 → (s.body.job (q % 2)).active = true →
    Leads (.jobAbort actor q) s fun b => b = (wrote s.body actor (A.JOB_GO (q % 2)) 2).jobEnd (q % 2) 11)
  ∧ (∀ (s : State) (q : Nat) (tagOk : Bool), (s.body.job (q % 2)).active = true → (s.body.job (q % 2)).susp = false →
    (s.body.job (q % 2)).imp = true → (s.body.job (q % 2)).len ≤ 64 * (s.body.job (q % 2)).done →
    Leads (.jobDone q tagOk) s fun b =>
      b = s.body.jobEnd (q % 2) (if tagOk = false then 1 else if (s.body.job (q % 2)).srcPoison then 3 else 0))
  ∧ (∀ (s : State) (p : MarkPass), s.body.ciph.passes.find? (fun p => p.next ≥ p.n) = some p →
    Leads .markDone s fun b => b.ciph.passes = s.body.ciph.passes.erase p
      ∧ ⟨U.cipher, .bit F.CIPHER_EVENTS_MARK_DONE, p.entry.getD 64⟩ ∈ b.evs)
  ∧ (∀ (s : State) (actor : Actor), acts s.body actor A.UNTRUST_CMD 1 →
    let g := wrote s.body actor A.UNTRUST_CMD 1
    let a := g.get F.UNTRUST_ARG_0_DPA
    let n := g.get F.UNTRUST_ARG_1_BYTES
    a % 64 = 0 → n % 64 = 0 → n ≠ 0 → n ≤ 2 ^ 30 →
    Leads (.untrustSet actor) s fun b => b = g.untrust false a n 3)
  ∧ (∀ (s : State) (actor : Actor) (e : Nat), acts s.body actor A.UNTRUST_CMD (2 + e % 64 * 4) →
    LeadsAlone (.untrustClr actor e) s fun b => mget b.ciph.table (e % 64) = none ∧ ∀ p ∈ b.ciph.passes, p.entry ≠ some (e % 64))
  ∧ (∀ (s : State) (actor : Actor) (e : Nat), s.body.mayAct actor A.UNTRUST_SEL (BitVec.ofNat 64 (e % 64)) = true →
    LeadsAlone (.untrustSnapshot actor e) s fun b =>
      b.flag F.UNTRUST_PEEK_0_VALID = (mget s.body.ciph.table (e % 64)).isSome ∧ b.get F.UNTRUST_PEEK_0_ECHO = e % 64))
  ∧ (∀ (b : Body) (j : Job),
    (((b.jobStart 1 j).job 1).active = true ∧ ((b.jobStart 1 j).job 1).susp = false ∧ (b.jobStart 1 j).get (F.JOB_STATUS_STATE 1) = 1
      ∧ (b.ciph.job0.active = true → ((b.jobStart 1 j).job 0).susp = true ∧ (b.jobStart 1 j).get (F.JOB_STATUS_STATE 0) = 2))
    ∧ (((b.jobStart 0 j).job 0).active = true ∧ (((b.jobStart 0 j).job 0).susp = b.ciph.job1.active)
      ∧ (b.jobStart 0 j).get (F.JOB_STATUS_STATE 0) = (if b.ciph.job1.active then 2 else 1))
    ∧ (∀ q result, q < 2 → (b.job q).imp = false → result < 16 → ((b.jobEnd q result).job q).active = false
      ∧ ⟨U.cipher, .bit F.CIPHER_EVENTS_JOB_DONE, q + 2 * result⟩ ∈ (b.jobEnd q result).evs))

/-- Domain keys and fuses: a package that passes its checks becomes NEXT; at its frame NEXT becomes CURRENT and CURRENT PREV; a fuse slot is
programmed once, and revoked only while another root stands. The model's choices it rests on: log entry 30. -/
def Obligations.KeyCommands : Prop :=
  (∀ (s : State) (actor : Actor) (root : Option Nat) (certOk sigOk wrapOk : Bool), acts s.body actor A.KEY_CMD 1 →
    let g := wrote s.body actor A.KEY_CMD 1
    (g.keyCode root certOk sigOk wrapOk = 0 → LeadsAlone (.keyInstall actor root certOk sigOk wrapOk) s fun b =>
      b.ciph.next.gen = nbits (g.word (A.KEY_PKG 1)).toNat 32 32 ∧ b.ciph.next.act = (g.word (A.KEY_PKG 2)).toNat
      ∧ b.ciph.cur = s.body.ciph.cur ∧ b.get F.KEY_CMD_STATUS_STATE = 2
      ∧ ⟨U.cipher, .bit F.CIPHER_EVENTS_KEY_INSTALLED, b.ciph.next.gen⟩ ∈ b.evs)
    ∧ (g.keyCode root certOk sigOk wrapOk ≠ 0 → LeadsAlone (.keyInstall actor root certOk sigOk wrapOk) s fun b =>
      b.ciph = s.body.ciph ∧ b.get F.KEY_CMD_STATUS_STATE = 3
      ∧ ⟨U.cipher, .bit F.CIPHER_EVENTS_KEY_REFUSED, g.keyCode root certOk sigOk wrapOk⟩ ∈ b.evs))
  ∧ (∀ (s : State) (actor : Actor), acts s.body actor A.KEY_CMD 2 → LeadsAlone (.keyDiscardNext actor) s fun b => b.ciph.next = {}
      ∧ b.get F.KEY_CMD_STATUS_STATE = 2)
  ∧ (∀ s : State, s.body.ciph.next.gen ≠ 0 → s.body.ciph.next.act ≤ s.body.frameNo →
    LeadsAlone .keyActivate s fun b => b.ciph.cur = s.body.ciph.next ∧ b.ciph.prev = s.body.ciph.cur ∧ b.ciph.next = {}
      ∧ b.ciph.prevTil = s.body.frameNo + 10000)
  ∧ (∀ (s : State) (actor : Actor) (slot : Nat), acts s.body actor A.FUSE_CMD (1 + slot % 8 * 4) →
    (1 ≤ slot % 8 → slot % 8 ≤ 4 → s.body.ciph.slots.contains (slot % 8) = false → LeadsAlone (.fuseProgram actor slot) s fun b =>
      b.ciph.slots = insertNat s.body.ciph.slots (slot % 8)
      ∧ ∀ i, i < 6 → mget b.ciph.hashes (6 * (slot % 8) + i)
        = some ((wrote s.body actor A.FUSE_CMD (1 + slot % 8 * 4)).word (A.FUSE_HASH i)))
    ∧ (slot % 8 = 0 ∨ s.body.ciph.slots.contains (slot % 8) = true → LeadsAlone (.fuseProgram actor slot) s fun b =>
      b.ciph = s.body.ciph ∧ b.get F.FUSE_STATUS_RESULT = 1))
  ∧ (∀ (s : State) (actor : Actor) (slot : Nat), acts s.body actor A.FUSE_CMD (2 + slot % 8 * 4) → slot % 8 ≤ 4 →
    (s.body.cfg.loaded = false → ((List.range 5).any fun r => r != slot % 8 && s.body.rootIntact r) = true →
      LeadsAlone (.fuseRevoke actor slot) s fun b => b.ciph.revoked = insertNat s.body.ciph.revoked (slot % 8)
        ∧ b.get F.FUSE_STATUS_RESULT = 0)
    ∧ (s.body.cfg.loaded = true → slot % 8 = s.body.get F.CONFIG_STATUS_ROOT_SLOT → LeadsAlone (.fuseRevoke actor slot) s fun b =>
      b.ciph = s.body.ciph ∧ b.get F.FUSE_STATUS_RESULT = 2))
  ∧ (∀ (s : State) (actor : Actor) (slot : Nat), s.body.mayAct actor A.KEY_SLOT_SEL (BitVec.ofNat 64 (slot % 128)) = true →
    LeadsAlone (.keySlotSnapshot actor slot) s fun b => b.get F.KEY_SLOT_PEEK_ECHO = slot % 128
      ∧ (slot % 128 = 65 → (b.flag F.KEY_SLOT_PEEK_PRESENT = true ↔ s.body.ciph.cur.gen ≠ 0)))

/-- Measurements, debug access and SPDM: a debug opening zeroizes every key of the store; a request out of its order is answered with an
error. The model's choices it rests on: log entries 6 and 92. -/
def Obligations.AttestationCommands : Prop :=
  (∀ (s : State) (actor : Actor), acts s.body actor A.FW_MEASURE_CMD 1 →
    let g := wrote s.body actor A.FW_MEASURE_CMD 1
    LeadsAlone (.fwMeasureExtend actor) s fun b => ∀ i, i < 6 → b.word (A.FW_MEASURE_VALUE i)
      = Config.sha384 (((List.range 6).map fun k => g.word (A.FW_MEASURE_VALUE k)) ++ (List.range 6).map fun k => g.word (A.FW_MEASURE_DATA k)) i)
  ∧ (∀ (s : State) (actor : Actor), acts s.body actor A.DBG_CTL 1 → LeadsAlone (.dbgNewChallenge actor) s fun b => b.ciph.dbgUsed = false)
  ∧ (∀ (s : State) (actor : Actor) (level : Nat) (root : Option Nat) (sigOk : Bool), acts s.body actor A.DBG_CTL (2 + level % 4 * 4) →
    let g := wrote s.body actor A.DBG_CTL (2 + level % 4 * 4)
    (g.dbgCode root sigOk = 0 → LeadsAlone (.dbgSubmit actor level root sigOk) s fun b => b.ciph.cur = {} ∧ b.ciph.next = {}
      ∧ b.ciph.prev = {} ∧ b.ciph.session = 0 ∧ b.ciph.derived = false ∧ b.get F.CIPHER_STATUS_STATE = 1 ∧ b.ciph.dbgUsed = true)
    ∧ (g.dbgCode root sigOk ≠ 0 → LeadsAlone (.dbgSubmit actor level root sigOk) s fun b => b.ciph.cur = s.body.ciph.cur
      ∧ b.ciph.dbgUsed = true ∧ ⟨U.cipher, .bit F.CIPHER_EVENTS_DEBUG_REFUSED, g.dbgCode root sigOk⟩ ∈ b.evs))
  ∧ (∀ s : State, (LeadsAlone .spdmGetVersion s fun b => .spdm .version ∈ b.out ∧ b.ciph.version = true ∧ b.ciph.algos = false)
    ∧ (s.body.ciph.version = true → LeadsAlone .spdmGetCapabilities s fun b => .spdm .capabilities ∈ b.out ∧ b.ciph.caps = true)
    ∧ (s.body.ciph.version = true → s.body.ciph.caps = true → LeadsAlone (.spdmNegotiateAlgorithms true) s fun b =>
      .spdm .algorithms ∈ b.out ∧ b.ciph.algos = true))
  ∧ (∀ s : State, s.body.spdmReady = true → s.body.cipherOk = true →
    (LeadsAlone .spdmGetDigests s fun b => .spdm (.digests 1) ∈ b.out)
    ∧ (∀ offset length, LeadsAlone (.spdmGetCertificate 0 offset length) s fun b => .spdm (.certificate offset length) ∈ b.out)
    ∧ (Leads (.spdmChallenge 0 true) s fun b => .spdm .challengeAuth ∈ b.out ∧ b.flag F.CIPHER_STATUS_ATTESTED = true)
    ∧ (∀ i signed mctp, 1 ≤ i → i ≤ 7 → Leads (.spdmGetMeasurements i signed mctp) s fun b =>
      .spdm (.measurements signed [(i, s.body.measurement i)]) ∈ b.out)
    ∧ (∀ id, s.body.ciph.spdm.length < 4 → (s.body.ciph.spdm.any (·.id == id)) = false →
      LeadsAlone (.spdmKeyExchange id) s fun b => b.ciph.spdm = ⟨id, false⟩ :: s.body.ciph.spdm ∧ .spdm (.keyExchangeRsp id) ∈ b.out))
  ∧ (∀ (s : State) (id : Nat) (x : Spdm), s.body.ciph.spdm.find? (·.id == id) = some x →
    (x.up = false → LeadsAlone (.spdmFinish id true) s fun b => .spdm (.finishRsp id) ∈ b.out ∧ b.ciph.spdm.any fun y => y.id == id && y.up)
    ∧ (x.up = true → LeadsAlone (.spdmEndSession id) s fun b => .spdm (.endSessionAck id) ∈ b.out
      ∧ (b.ciph.spdm.any (·.id == id)) = false))
  ∧ (∀ s : State, s.body.spdmReady = false → LeadsAlone .spdmGetDigests s fun b => b = s.body.send (.spdm .error))

/-! ## The service cores and the code flash (R362 to R383) -/

/-- Running, stopping and resetting cores; the keeper cores; the debugger's halt and resume.
The model's choices it rests on: log entries 96 and 99. -/
def Obligations.CoreCommands : Prop :=
  (∀ (s : State) (actor : Actor) (c : Nat), c < 16 →
    let run := wrote s.body actor (A.DX_CORE_CTL c) 1
    let halt := wrote s.body actor (A.DX_CORE_CTL c) 0
    (run.flag (F.DX_CORE_CTL_RUN c) = true → s.body.clusterOn = true → (s.body.core c).st = .stopped →
      LeadsAlone (.coreRunSet actor c) s fun b =>
        ((s.body.core c).nmi = false → (b.core c).st = (if (s.body.core c).wasWfi then .waiting else .running) ∧ (b.core c).pc = (s.body.core c).pc)
        ∧ (∀ k, k ≠ c → b.core k = s.body.core k))
    ∧ (halt.flag (F.DX_CORE_CTL_RUN c) = false → (s.body.core c).st = .running →
      LeadsAlone (.coreRunClear actor c) s fun b => (b.core c).st = .stopped ∧ (b.core c).pc = (s.body.core c).pc
        ∧ (b.core c).tcm = (s.body.core c).tcm ∧ b.flag (F.DX_CORE_CTL_RUN c) = false))
  ∧ (∀ (s : State) (actor : Actor) (c : Nat), c < 16 → acts s.body actor (A.DX_CORE_CTL c) (2 + s.body.get (F.DX_CORE_CTL_RUN c)) →
    LeadsAlone (.coreReset actor c) s fun b => (b.core c).pc = BitVec.ofNat 64 (s.body.get F.DX_RESET_VEC_VECTOR)
      ∧ (b.core c).written = [] ∧ (b.core c).cleared = false ∧ (b.core c).tcm = (s.body.core c).tcm)
  ∧ (∀ (s : State) (actor : Actor) (c : Nat), c < 16 → acts s.body actor (A.DX_CORE_CTL c) (8 + s.body.get (F.DX_CORE_CTL_RUN c)) →
    LeadsAlone (.coreNmi actor c) s fun b =>
      ((s.body.core c).st = .running ∨ (s.body.core c).st = .waiting → (b.core c).st = .running ∧ (b.core c).nmi = false
        ∧ (b.core c).pc = BitVec.ofNat 64 (s.body.get F.DX_RESET_VEC_VECTOR + 0x40))
      ∧ ((s.body.core c).st = .stopped ∨ (s.body.core c).st = .halted → (b.core c).nmi = true ∧ (b.core c).st = (s.body.core c).st
        ∧ (b.core c).pc = (s.body.core c).pc))
  ∧ (∀ (s : State) (c : Nat), c < 16 → s.body.get (F.DX_MTIMECMP_CMP c) ≤ s.body.mtime →
    LeadsAlone (.mtimecmpMatch c) s fun b => (b.core c).mtip = true ∧ ((s.body.core c).st = .waiting → (b.core c).st = .running)
      ∧ ((s.body.core c).st ≠ .waiting → (b.core c).st = (s.body.core c).st))
  ∧ (∀ s : State, (s.body.dx.k0 = true → LeadsAlone (.keeperCoreHalt 0) s fun b => b.dx.k0 = false ∧ b.dx.duty0 = false
        ∧ b.dx.k1 = s.body.dx.k1 ∧ ⟨U.hob, .named .keeperHalted, 0⟩ ∈ b.evs)
    ∧ (s.body.dx.k1 = true → LeadsAlone (.keeperCoreHalt 1) s fun b => b.dx.k1 = false ∧ b.dx.duty1 = false
        ∧ b.dx.k0 = s.body.dx.k0 ∧ ⟨U.hob, .named .keeperHalted, 1⟩ ∈ b.evs)
    ∧ (s.body.dx.k0 = false → s.body.dx.k1 = true → s.body.dx.duty0 = false → LeadsAlone (.keeperTakeover 0) s fun b =>
        b.dx.duty0 = true ∧ ⟨U.hob, .named .keeperTakeover, 0⟩ ∈ b.evs)
    ∧ (s.body.dx.k1 = false → s.body.dx.k0 = true → s.body.dx.duty1 = false → LeadsAlone (.keeperTakeover 1) s fun b =>
        b.dx.duty1 = true ∧ ⟨U.hob, .named .keeperTakeover, 1⟩ ∈ b.evs))
  ∧ (∀ (s : State) (c : Nat), c < 16 → s.body.debugOpen = true →
    ((s.body.core c).st = .running ∨ (s.body.core c).st = .waiting → LeadsAlone (.debugHalt c) s fun b =>
      (b.core c).st = .halted ∧ (b.core c).pc = (s.body.core c).pc)
    ∧ ((s.body.core c).st = .halted → LeadsAlone (.debugResume c) s fun b => (b.core c).st = .running)
    ∧ ((s.body.core c).st = .halted → ∀ r v, 0x1000 < r → r ≤ 0x101F → Leads (.debugAbstractCommand c (.writeReg r v)) s fun b =>
      mgetD (b.core c).regs r 0 = v ∧ ∀ q, q ≠ r → mgetD (b.core c).regs q 0 = mgetD (s.body.core c).regs q 0)
    ∧ ((s.body.core c).st = .halted → Leads (.debugAbstractCommand c (.readReg 0x1000)) s fun b => b = s.body.send (.dbgData c 0))
    ∧ ((s.body.core c).st = .halted → Leads (.debugAbstractCommand c (.readReg 0x7B1)) s fun b =>
      b = s.body.send (.dbgData c (s.body.core c).pc)))

/-- The memories of the cores: a TCM word that nothing wrote faults, a clear makes every word zero and written, stores write their bytes.
The model's choices it rests on: log entries 97 and 98. -/
def Obligations.CoreMemoryCommands : Prop :=
  (∀ (s : State) (actor : Actor) (c : Nat), c < 16 → acts s.body actor (A.DX_CORE_CTL c) (4 + s.body.get (F.DX_CORE_CTL_RUN c)) →
    LeadsAlone (.tcmClear actor c) s fun b => (b.core c).clearing = true ∧ (b.core c).tcm = (s.body.core c).tcm)
  ∧ (∀ (s : State) (c : Nat), c < 16 → (s.body.core c).clearing = true →
    LeadsAlone (.tcmClearDone c) s fun b => (b.core c).clearing = false ∧ (b.core c).tcm = [] ∧ (b.core c).cleared = true)
  ∧ (∀ (s : State) (c off n : Nat) (v : Word), c < 16 → n = 1 ∨ n = 2 ∨ n = 4 ∨ n = 8 → off % n = 0 → off + n ≤ 0x80000 →
    (s.body.core c).st = .running → (s.body.core c).clearing = false →
    (∀ ecc, Leads (.coreMemoryAccess c .store (0x1000000 + off) n v ecc) s fun b =>
      (b.core c).tcm = Body.memStore (s.body.core c).tcm off n v ∧ (∀ k, k ≠ c → b.core k = s.body.core k)
      ∧ ((s.body.core c).cleared = false → ∀ w, w ∈ (b.core c).written ↔ w = off / 8 ∨ w ∈ (s.body.core c).written))
    ∧ (∀ a, ((s.body.core c).cleared = true ∨ off / 8 ∈ (s.body.core c).written) →
      Leads (.coreMemoryAccess c .load (0x1000000 + off) n a .good) s fun b =>
        b = s.body.send (.coreData c (Body.memLoad (s.body.core c).tcm off n)))
    ∧ (∀ a ecc, (s.body.core c).cleared = false → off / 8 ∉ (s.body.core c).written →
      Leads (.coreMemoryAccess c .load (0x1000000 + off) n a ecc) s fun b =>
        b.flag F.DX_EVENTS_TCM_UNINIT = true ∧ .coreData c 0 ∈ b.out ∧ .accessFault c .load (0x1000000 + off) ∈ b.out
        ∧ (b.core c).mtval = BitVec.ofNat 64 (0x1000000 + off) ∧ (b.core c).tcm = (s.body.core c).tcm))

/-- Event FIFOs: a pop takes the head and latches its words, a flush empties the FIFO and the gap record; entries arrive in their order, a
full FIFO counts what it drops. The model's choices it rests on: log entries 5 and 135. -/
def Obligations.EventFifos : Prop :=
  (∀ (s : State) (actor : Actor) (c : Nat) (e : EvqEntry) (r : List EvqEntry), (s.body.core c).fifo = e :: r → (s.body.core c).gapN = 0 →
    LeadsAlone (.evqPop actor c) s fun b => (b.core c).fifo = r ∧ .evqWord c (e.words.headD 0) ∈ b.out
      ∧ (c < 16 → ∀ i, i < 3 → b.word (A.EVQ_LATCH c i) = e.words.getD (i + 1) 0))
  ∧ (∀ (s : State) (actor : Actor) (c : Nat), (s.body.core c).fifo = [] → LeadsAlone (.evqPop actor c) s fun b => b = s.body.send (.evqWord c 0))
  ∧ (∀ (s : State) (actor : Actor) (c : Nat), acts s.body actor (A.EVQ_CTL c) ((s.body.word (A.EVQ_CTL c)).toNat % 4 + 4) →
    LeadsAlone (.evqFlush actor c) s fun b => (b.core c).fifo = [] ∧ (b.core c).gapN = 0 ∧ (b.core c).tcm = (s.body.core c).tcm
      ∧ ∀ k, k ≠ c → b.core k = s.body.core k)
  ∧ (∀ (b : Body) (c : Nat) (e : Stamp), (b.core c).gapN = 0 →
    ((b.core c).fifo.length < (if e.fatal then 256 else 240) → ((b.evqDeliver c e).core c).fifo = (b.core c).fifo ++ [.ev e])
    ∧ ((if e.fatal then 256 else 240) ≤ (b.core c).fifo.length → ((b.evqDeliver c e).core c).fifo = (b.core c).fifo
      ∧ ((b.evqDeliver c e).core c).gapN = 1 ∧ ((b.evqDeliver c e).core c).gapSeq = e.seq
      ∧ ((b.evqDeliver c e).core c).gapFatal = ((b.core c).gapFatal || e.fatal)))

/-- Operations of the code flash: a command is taken or refused, one runs at a time; a program clears bits, an erase sets every bit of its
sector. The model's choices it rests on: log entries 9, 101, 102 and 103. -/
def Obligations.FlashCommands : Prop :=
  (∀ (s : State) (actor : Actor),
    (acts s.body actor A.CF_CMD 1 → (wrote s.body actor A.CF_CMD 1).cfCode .program = 0 → LeadsAlone (.cfProgram actor) s fun b =>
      (∃ o, b.cf.op = some o ∧ o.kind = .program ∧ o.page = s.body.get F.CF_ADDR_PAGE
        ∧ o.data = (List.range 64).map fun i => (wrote s.body actor A.CF_CMD 1).word (A.CF_PAGE_BUF i))
      ∧ b.cf.words = s.body.cf.words ∧ b.get F.CF_OP_STATUS_STATE = 1)
    ∧ (acts s.body actor A.CF_CMD 1 → (wrote s.body actor A.CF_CMD 1).cfCode .program ≠ 0 → LeadsAlone (.cfProgram actor) s fun b =>
      b.cf = s.body.cf ∧ ⟨U.flash, .bit F.CF_EVENTS_OP_REFUSED, (wrote s.body actor A.CF_CMD 1).cfCode .program⟩ ∈ b.evs)
    ∧ (acts s.body actor A.CF_CMD 2 → (wrote s.body actor A.CF_CMD 2).cfCode .erase = 0 → LeadsAlone (.cfErase actor) s fun b =>
      (∃ o, b.cf.op = some o ∧ o.kind = .erase ∧ o.page = s.body.get F.CF_ADDR_PAGE ∧ o.susp = false) ∧ b.cf.words = s.body.cf.words
      ∧ b.get F.CF_OP_STATUS_SUSPENDS = 0)
    ∧ (acts s.body actor A.CF_CMD 3 → (wrote s.body actor A.CF_CMD 3).cfCode .hash = 0 → LeadsAlone (.cfHash actor) s fun b =>
      (∃ o, b.cf.op = some o ∧ o.kind = .hash ∧ o.len = s.body.get F.CF_HASH_LEN_SECTORS) ∧ b.rack = s.body.rack ∧ b.cf.pre0 = s.body.cf.pre0))
  ∧ (∀ (s : State) (o : CfOp) (us active : Nat), s.body.cf.op = some o →
    (o.kind = .program → o.data.length = 64 → LeadsAlone (.cfProgramDone us) s fun b => b.cf.op = none ∧ b.get F.CF_OP_STATUS_STATE = 2
      ∧ ∀ n, b.flashWord n = (if n / 64 = o.page then s.body.flashWord n &&& o.data.getD (n % 64) 0 else s.body.flashWord n))
    ∧ (o.kind = .erase → o.susp = false → LeadsAlone (.cfEraseDone us active) s fun b => b.cf.op = none ∧ b.get F.CF_OP_STATUS_STATE = 2
      ∧ ∀ n, b.flashWord n = (if n / 8192 = Body.sectorOf o.page then BitVec.allOnes 64 else s.body.flashWord n))
    ∧ (o.kind = .hash → LeadsAlone (.cfHashDone us) s fun b => b.cf.op = none ∧ b.cf.words = s.body.cf.words ∧ ∀ i, i < 6 →
      b.word (A.CF_HASH i) = Config.sha384 ((range' (Body.sectorOf o.page * 8192) (o.len * 8192)).map s.body.flashWord) i)
    ∧ (o.kind = .erase → o.susp = true → o.tempHold = false → LeadsAlone .eraseResume s fun b => b.cf.op = some { o with susp := false })
    ∧ (o.kind = .erase → o.starved = false → LeadsAlone .eraseStarved s fun b => b.cf.op = some { o with starved := true }
      ∧ ⟨U.flash, .bit F.CF_EVENTS_ERASE_STARVED, 0⟩ ∈ b.evs))
  ∧ (∀ (s : State) (who : FlashReader) (off : Nat), off < 0x10000000 → s.body.cf.op = none → s.body.icFind who off = none →
    ((∀ k br, who ≠ .fetch k br) → s.body.inXo off = true → LeadsAlone (.flashRead who off) s fun b => .flashData who off 0 ∈ b.out
      ∧ b.get F.CF_XO_VIOL_ADDR = off ∧ b.flag F.CF_EVENTS_XO_VIOLATION = true)
    ∧ (s.body.inXo off = false → s.body.allOnes off = true → LeadsAlone (.flashRead who off) s fun b =>
      .flashData who off (BitVec.allOnes 64) ∈ b.out ∧ b.cf.words = s.body.cf.words ∧ b.cf.pre0 = s.body.cf.pre0 ∧ b.cf.pre1 = s.body.cf.pre1)
    ∧ (s.body.inXo off = false ∨ (∃ k br, who = .fetch k br) → s.body.allOnes off = false → LeadsAlone (.flashRead who off) s fun b =>
      .flashData who off (s.body.flashWord (off / 8)) ∈ b.out ∧ b.cf.words = s.body.cf.words))
  ∧ (∀ (s : State) (who : FlashReader) (off : Nat), off < 0x10000000 →
    (s.body.icFind who off = none → s.body.bankProgramming (off / 0x8000000) = true → LeadsAlone (.flashRead who off) s fun b => b = s.body)
    ∧ (∀ x, s.body.icFind who off = some x → LeadsAlone (.flashRead who off) s fun b =>
      b = s.body.send (.flashData who off (x.data.getD (off / 8 % 8) 0))))

/-! ## The Rack and the Spike (R386 to R406) -/

/-- Rack writes: the lowest order number goes first, no burst starts under a hold, a burst that is done is in the cells.
The model's choices it rests on: log entries 105, 106 and 107.
Counters of the Rack never go down, stop at their highest value, and are written copy A first, one cell a burst. -/
def Obligations.RackCommands : Prop :=
  ((∀ (s : State) (mv : Nat) (x : Burst) (rest : List Burst), s.body.rack.cur = none → Body.pickBurst s.body.rack.queue = some (x, rest) →
    s.body.rackTempHold = false →
    (760 ≤ mv → LeadsAlone (.rackBurstStart mv) s fun b => b.rack.cur = some x ∧ b.rack.queue = rest ∧ b.rack.cells = s.body.rack.cells)
    ∧ (mv < 760 → LeadsAlone (.rackBurstStart mv) s fun b => b.rack.cur = none ∧ b.rack.queue = s.body.rack.queue
      ∧ b.flag F.RACK_EVENTS_SUPPLY_HOLD = true))
  ∧ (∀ (q : List Burst) (x : Burst) (rest : List Burst), Body.pickBurst q = some (x, rest) →
    (∀ y ∈ q, Body.orderNo x.order ≤ Body.orderNo y.order)
    ∧ ∃ l r, q = l ++ x :: r ∧ rest = l ++ r ∧ ∀ y ∈ l, Body.orderNo x.order < Body.orderNo y.order)
  ∧ (∀ (s : State) (o : RackOrder) (g : Nat) (l : List Word), s.body.rack.cur = some ⟨o, .data g l⟩ →
    LeadsAlone .rackBurstDone s fun b => b.rack.cur = none
      ∧ (∀ n, b.group n = (if g ≤ n ∧ n < g + l.length then l.getD (n - g) 0 else s.body.group n))
      ∧ (∀ n ∈ b.rack.bad, n < g ∨ g + l.length ≤ n)
      ∧ (o = .firmware → ⟨U.rack, .bit F.RACK_EVENTS_FW_DONE, 0⟩ ∈ b.evs))
  ∧ (∀ s : State, s.body.boot.powered = true → s.body.counter 0 < 2 ^ 40 - 1 →
    LeadsAlone .operatingSecond s fun b => b.counter 0 = s.body.counter 0 + 1 ∧ ∀ k, k ≠ 0 → b.counter k = s.body.counter k)
  ∧ (∀ (s : State) (actor : Actor) (g : Nat), g < 0xC0000 → s.body.mayAct actor A.RACK_RD_ADDR (BitVec.ofNat 64 (g % 2 ^ 20 * 8)) = true →
    s.body.rack.bad.contains g = false →
    LeadsAlone (.rackSnapshot actor g .good) s fun b => b.word A.RACK_RD_DATA = s.body.group g ∧ b.get F.RACK_RD_TAG_ECHO = g
      ∧ b.flag F.RACK_RD_TAG_UNCORRECTABLE = false ∧ b.rack = s.body.rack)
  ∧ (∀ (s : State) (actor : Actor) (g n : Nat), acts s.body actor A.RACK_FW_CMD (g % 2 ^ 20 * 8 + n % 128 * 2 ^ 23) → 1 ≤ n → n ≤ 64 →
    s.body.get F.RACK_FW_STATUS_STATE ≠ 1 →
    (0x20000 ≤ g → g + n ≤ 0xC0000 → LeadsAlone (.rackFwCmd actor g n) s fun b => b.get F.RACK_FW_STATUS_STATE = 1
      ∧ ∃ l, b.rack.queue = s.body.rack.queue ++ [⟨.firmware, .data g l⟩] ∧ l.length = n)
    ∧ (g < 2 ^ 20 → 0xC0000 < g + n → LeadsAlone (.rackFwCmd actor g n) s fun b => b.get F.RACK_FW_STATUS_STATE = 3 ∧ b.rack = s.body.rack
      ∧ b.flag F.RACK_EVENTS_FW_REFUSED = true)))
  ∧ (∀ (b : Body) (k : Nat),
    ((b.incCounter k).counter k = (if b.counter k < Body.counterMax k then b.counter k + 1 else b.counter k)
      ∧ (∀ j, j ≠ k → (b.incCounter k).counter j = b.counter j))
    ∧ (b.counter k < Body.counterMax k → (b.incCounter k).rack.queue
        = b.rack.queue ++ Body.incrementWrites k (b.counter k) 0 ++ Body.incrementWrites k (b.counter k) 1)
    ∧ (∀ v copy, ∀ x ∈ Body.incrementWrites k v copy, x.order = .record ∧ ∃ i w, i < 4 ∧ x.what = .data (8 * k + 4 * copy + i) [w]))

/-- The Spike's commands: flushes, freezes, reading windows, clears. The model's choices it rests on: log entries 27 and 108.
What the Spike keeps: a record enters the SRAM ring as the newest; a fatal-class record starts a flush; a frozen Spike counts the
records it misses and keeps up to 64 fatal-class ones aside. -/
def Obligations.SpikeCommands : Prop :=
  ((∀ (s : State) (actor : Actor), acts s.body actor A.SPK_CTL (2 + s.body.get F.SPK_CTL_FREEZE) →
    LeadsAlone (.spikeFlushRequest actor) s fun b =>
      (s.body.spk.frozen = true ∨ s.body.spk.flushing ≠ none → b.spk.flushReq = true ∧ b.spk.flushing = s.body.spk.flushing)
      ∧ (s.body.spk.frozen = false → s.body.spk.flushing = none → b.spk.flushing = some s.body.spk.unfl))
  ∧ (∀ (s : State) (actor : Actor), (wrote s.body actor A.SPK_CTL 1).flag F.SPK_CTL_FREEZE = true → s.body.spk.frozen = false →
    LeadsAlone (.spikeFreeze actor) s fun b => (s.body.spk.clearing = none → b.spk = { s.body.spk with frozen := true })
      ∧ (s.body.spk.clearing ≠ none → b.spk = { s.body.spk with frzReq := true }))
  ∧ (∀ (s : State) (actor : Actor), (wrote s.body actor A.SPK_CTL 0).flag F.SPK_CTL_FREEZE = false → s.body.spk.frozen = true →
    LeadsAlone (.spikeUnfreeze actor) s fun b => b.spk.frozen = false ∧ b.spk.side = [] ∧ b.spk.missed = 0
      ∧ ⟨U.spike, .named .freezeEndRecord, s.body.spk.missed + s.body.spk.sideFull * 2 ^ 32⟩ ∈ b.evs)
  ∧ (∀ s : State, s.body.spk.frozen = true → LeadsAlone .spikeFreezeMax s fun b => b.spk.frozen = false ∧ b.spk.side = []
      ∧ b.get F.SPK_CTL_FREEZE = 0
      ∧ ⟨U.spike, .named .freezeEndRecord, s.body.spk.missed + s.body.spk.sideFull * 2 ^ 32⟩ ∈ b.evs)
  ∧ (∀ (s : State) (p l : Nat) (r : SpkRec), s.body.ownWindow (.host p l) = true → s.body.spkShown (2 + 16 * p + l) = some r →
    LeadsAlone (.spikeStep (.host p l)) s fun b => (mgetD b.spk.wins (2 + 16 * p + l) {}).cursor = r.seq + 1 ∧ b.spk.sram = s.body.spk.sram)
  ∧ (∀ (s : State) (w : Nat) (actor : Actor) (r : SpkRec), w = 0 ∧ actor = .firmware ∨ w = 1 ∧ actor = .bmc →
    (acts s.body actor (A.SPK_W_STEP w) 1 → s.body.spkShown w = some r →
      LeadsAlone (.spikeStep actor) s fun b => (mgetD b.spk.wins w {}).cursor = r.seq + 1)
    ∧ (∀ q, q < 2 ^ 64 → s.body.mayAct actor (A.SPK_W_CURSOR w) (BitVec.ofNat 64 q) = true →
      LeadsAlone (.spikeCursorWrite actor q) s fun b => (mgetD b.spk.wins w {}).cursor = q ∧ b.get (F.SPK_W_CURSOR_SEQ w) = q
        ∧ (mgetD b.spk.wins w {}).lost = (q != 0 && q < s.body.spk.overTo)))
  ∧ (∀ (s : State) (actor : Actor), acts s.body actor A.SPK_CLR_CTL 1 → LeadsAlone (.spikeClearChallenge actor) s fun b =>
      b.spk = { s.body.spk with chUsed := false }
      ∧ ∀ i, i < 4 → b.word (A.SPK_CLR_CHALLENGE i) = Config.freeWord (s.body.freeCtr + i))
  ∧ (∀ (s : State) (actor : Actor) (root : Option Nat) (sigOk : Bool), acts s.body actor A.SPK_CLR_CTL 2 →
    let g := wrote s.body actor A.SPK_CLR_CTL 2
    (g.clearCode root sigOk = 0 → LeadsAlone (.spikeClearSubmit actor root sigOk) s fun b => b.spk.chUsed = true
      ∧ b.spk.clearing = some (s.body.get F.SPK_CLR_UPTO_SEQ, root.getD 0) ∧ b.spk.sram = s.body.spk.sram ∧ b.get F.SPK_CLR_STATUS_STATE = 1)
    ∧ (g.clearCode root sigOk ≠ 0 → LeadsAlone (.spikeClearSubmit actor root sigOk) s fun b => b.spk = { s.body.spk with chUsed := true }
      ∧ b.get F.SPK_CLR_STATUS_STATE = 3 ∧ b.flag F.SPK_EVENTS_CLEAR_REFUSED = true))
  ∧ (∀ (s : State) (upTo root : Nat), s.body.spk.clearing = some (upTo, root) → s.body.spk.frzReq = false →
    LeadsAlone .spikeClearDone s fun b => b.spk.clearing = none ∧ (∀ r, r ∈ b.spk.sram ↔ r ∈ s.body.spk.sram ∧ upTo < r.seq)
      ∧ (∀ p, p ∈ b.spk.rack ↔ p ∈ s.body.spk.rack ∧ upTo < p.2.seq)
      ∧ ⟨U.spike, .named .clearedRecord, upTo + root * 2 ^ 64⟩ ∈ b.evs))
  ∧ (∀ (b : Body) (r : SpkRec),
    (b.spk.frozen = false → ∃ l, (b.spkTake r).spk.sram = r :: l ∧ l <+: b.spk.sram ∧ (b.spkTake r).spk.sram.length ≤ 16384)
    ∧ (b.spk.frozen = false → r.fatal = true → ((b.spkTake r).spk.flushing ≠ none))
    ∧ (b.spk.frozen = true → r.fatal = false → b.spkTake r = { b with spk := { b.spk with missed := b.spk.missed + 1 } })
    ∧ (b.spk.frozen = true → r.fatal = true → b.spk.side.length < 64 →
      b.spkTake r = { b with spk := { b.spk with side := b.spk.side ++ [r] } })
    ∧ (b.spk.frozen = true → r.fatal = true → 64 ≤ b.spk.side.length → (b.spkTake r).spk.frozen = false))

/-! ## The Hob and the thermal monitor (R409 to R427) -/

/-- Rails on the way up and down: each rail waits its turn, rises, is debounced, comes up or fails; one in service that loses its
power-good fails; in a power-down one that does not fall in time is waited for unless it is forced or skipped.
The model's choices it rests on: log entries 12 and 118. -/
def Obligations.RailCommands : Prop :=
  (∀ (s : State) (r : Nat), r < 24 → s.body.railState r = .minOff →
    Leads (.railEnable r) s fun b => b.railState r = .rising ∧ nbit (b.get F.HOB_RAILS_ENABLED) r = true ∧ .railEn r true ∈ b.out)
  ∧ (∀ (s : State) (r : Nat), r < 24 → (s.body.railDef r).isSome = true →
    (s.body.railState r = .rising → Leads (.railPgChange r true) s fun b => b.railState r = .debouncing ∧ nbit (b.get F.HOB_RAILS_GOOD) r = true)
    ∧ (s.body.railState r = .debouncing → Leads (.railPgChange r false) s fun b => b.railState r = .rising
      ∧ ⟨U.hob, .bit F.HOB_EVENTS_CHATTER, r⟩ ∈ b.evs))
  ∧ (∀ (s : State) (r us : Nat), r < 24 → s.body.railState r = .debouncing → (s.body.rail r).retry = false →
    s.body.flag F.HOB_STATUS_PENDING_OFF = false →
    (∀ d, s.body.hob.table[s.body.hob.step + 1]? = some d → d.rail < 24 → d.rail ≠ r →
      Leads (.railUp r us) s fun b => b.railState r = .up ∧ b.railState d.rail = .minOff ∧ b.hob.step = s.body.hob.step + 1
        ∧ b.get (F.HOB_RAIL_TIME_UP_US r) = us % 2 ^ 32)
    ∧ (s.body.hob.table[s.body.hob.step + 1]? = none → Leads (.railUp r us) s fun b => b.railState r = .up ∧ b.hobState = .up
      ∧ b.flag F.HOB_EVENTS_UP_DONE = true))
  ∧ (∀ (s : State) (r us : Nat), r < 24 → s.body.railState r = .rising ∨ s.body.railState r = .debouncing →
    s.body.flag F.HOB_STATUS_PENDING_OFF = false → s.body.hob.table[s.body.hob.step + 1]? = none →
    Leads (.railFailUp r us) s fun b => b.railState r = .failed ∧ nbit (b.get F.HOB_RAILS_ENABLED) r = false
      ∧ nbit (b.get F.HOB_RAIL_FAULT_FAILED) r = true
      ∧ ((s.body.rail r).retry = false → b.hobState = .up ∧ ⟨U.hob, .bit F.HOB_EVENTS_FAIL_UP, r⟩ ∈ b.evs)
      ∧ ((s.body.rail r).retry = true → ⟨U.hob, .bit F.HOB_EVENTS_RETRY_FAILED, r⟩ ∈ b.evs))
  ∧ (∀ (s : State) (r us : Nat) (d : RailDef), r < 24 → s.body.railState r = .up → nbit (s.body.get F.HOB_RAILS_GOOD) r = false →
    s.body.railDef r = some d → d.kind ≠ 0 →
    Leads (.railPgLost r us) s fun b => b.railState r = .failed ∧ nbit (b.get F.HOB_RAILS_ENABLED) r = false
      ∧ nbit (b.get F.HOB_RAIL_FAULT_FAILED) r = true ∧ b.hobState = s.body.hobState ∧ ⟨U.hob, .bit F.HOB_EVENTS_PG_LOST, r⟩ ∈ b.evs)
  ∧ (∀ (s : State) (r us : Nat) (d : RailDef), r < 24 → s.body.downAt r = true → (s.body.rail r).below = false → (s.body.rail r).timedOut = false →
    s.body.railDef r = some d → nbit d.flags 0 = false → s.body.hob.force = false → (s.body.rail r).skip = false →
    Leads (.railDownTimeout r us) s fun b => (b.rail r).timedOut = true ∧ b.railState r = s.body.railState r ∧ b.hob.step = s.body.hob.step
      ∧ nbit (b.get F.HOB_RAIL_FAULT_DOWN_TIMEOUT) r = true ∧ ⟨U.hob, .bit F.HOB_EVENTS_DOWN_TIMEOUT, r⟩ ∈ b.evs)
  ∧ (∀ (s : State) (actor : Actor) (r : Nat), r < 24 →
    (acts s.body actor (F.HOB_RAIL_CTL_RETRY r).addr (bitWord s.body (F.HOB_RAIL_CTL_RETRY r) 1) → s.body.hobState = .up →
      s.body.railState r = .failed → (s.body.railDef r).isSome = true →
      Leads (.railRetry actor r) s fun b => b.railState r = .minOff ∧ (b.rail r).retry = true)
    ∧ (acts s.body actor (F.HOB_RAIL_CTL_SKIP_WAIT r).addr (bitWord s.body (F.HOB_RAIL_CTL_SKIP_WAIT r) 1) → s.body.downAt r = true →
      (s.body.rail r).timedOut = false → Leads (.railSkipWait actor r) s fun b => (b.rail r).skip = true ∧ b.hob.step = s.body.hob.step))
  ∧ (∀ (s : State) (r x us : Nat) (d : RailDef), r < 24 → s.body.hob.present = false ∨ r ≠ s.body.cfg.img.qui.sagSense →
    s.body.railDef r = some d → s.body.railState r = .up → d.offMv ≤ s.body.senseMv r x → s.body.senseMv r x < 2 ^ 16 →
    Leads (.adcConversion r x us) s fun b => b.get (F.HOB_RAIL_STATE_SENSE_MV r) = s.body.senseMv r x ∧ b.railState r = .up
      ∧ b.get (F.HOB_RAIL_RANGE_MIN_MV r) = min (s.body.senseMv r x) (s.body.get (F.HOB_RAIL_RANGE_MIN_MV r))
      ∧ b.get (F.HOB_RAIL_RANGE_MAX_MV r) = max (s.body.senseMv r x) (s.body.get (F.HOB_RAIL_RANGE_MAX_MV r))
      ∧ (b.rail r).oob = (s.body.senseMv r x * 20 < d.nominal * 19 || s.body.senseMv r x * 20 > d.nominal * 21))

/-- Requests to the Hob, by its state. The model's choices it rests on: log entry 118. -/
def Obligations.HobRequests : Prop :=
  (∀ (s : State) (actor : Actor), acts s.body actor A.HOB_REQ 1 → s.body.hob.thHold = false →
    (s.body.hobState = .off → Leads (.hobOn actor) s fun b => .systemReset 4 ∈ b.todo)
    ∧ (s.body.hobState = .up → Leads (.hobOn actor) s fun b => b = wrote s.body actor A.HOB_REQ 1)
    ∧ (s.body.hobState = .flushing ∨ s.body.hobState = .poweringDown → s.body.flag F.HOB_STATUS_PENDING_ON = false →
      Leads (.hobOn actor) s fun b => b.flag F.HOB_STATUS_PENDING_ON = true ∧ b.flag F.HOB_EVENTS_REVERSED = true ∧ b.hobState = s.body.hobState))
  ∧ (∀ (s : State) (actor : Actor), acts s.body actor A.HOB_REQ 2 →
    (s.body.hobState = .off → Leads (.hobOff actor) s fun b => b = wrote s.body actor A.HOB_REQ 2)
    ∧ (s.body.hobState = .poweringUp → s.body.flag F.HOB_STATUS_PENDING_OFF = false →
      Leads (.hobOff actor) s fun b => b.flag F.HOB_STATUS_PENDING_OFF = true ∧ b.flag F.HOB_EVENTS_REVERSED = true ∧ b.hobState = .poweringUp)
    ∧ (s.body.hobState = .up → s.body.isOn U.persist = true → Leads (.hobOff actor) s fun b => b.hobState = .flushing
      ∧ b.get F.HOB_STATUS_LAST_DOWN_CAUSE = 1 ∧ b.get F.HOB_RAILS_ENABLED = s.body.get F.HOB_RAILS_ENABLED))
  ∧ (∀ s : State, s.body.hob.pfDown = true → s.body.hob.thHold = false → s.body.hobState = .off →
    Leads .inputReturn s fun b => b.hob.pfDown = false ∧ .systemReset 4 ∈ b.todo)
  ∧ (∀ (s : State) (n : Nat), s.body.rstMay n = true → s.body.hob.outs.contains n = false →
    Leads (.resetRelease n) s fun b => n ∈ b.hob.outs ∧ .resetOut n false ∈ b.out)
  ∧ (∀ (s : State) (actor : Actor) (n : Nat), acts s.body actor (F.HOB_RST_PULSE n).addr (bitWord s.body (F.HOB_RST_PULSE n) 1) →
    s.body.hob.outs.contains n = true → Leads (.resetPulse actor n) s fun b => n ∉ b.hob.outs ∧ .resetOut n true ∈ b.out)

/-- Thermal samples: a sensor's value and validity, the level of its class and the level applied, shutdown and trip.
The model's choices it rests on: log entries 109 and 141. -/
def Obligations.ThermalCommands : Prop :=
  (∀ (s : State) (n us : Nat) (t : Int), n < 24 →
    Leads (.thermalSample .die n (some t) us) s fun b => b.get (F.TH_SENSOR_TEMP n) = unsgn 16 t % 2 ^ 16 ∧ b.flag (F.TH_SENSOR_VALID n) = true
      ∧ ∃ x, mget b.th.die n = some x ∧ x.temp = t ∧ x.valid = true ∧ x.fails = 0)
  ∧ (∀ (s : State) (n us : Nat), n < 24 → (mgetD s.body.th.die n {}).fails = 2 →
    Leads (.thermalSample .die n none us) s fun b => b.flag (F.TH_SENSOR_VALID n) = false ∧ ⟨U.thermal, .bit F.TH_EVENTS_SENSOR_FAIL, 0⟩ ∈ b.evs
      ∧ ∃ x, mget b.th.die n = some x ∧ x.valid = false ∧ x.temp = (mgetD s.body.th.die n {}).temp)
  ∧ (∀ b : Body,
    let lvl := if b.flag F.TH_CTL_FORCE_EN then b.get F.TH_CTL_FORCE_LEVEL
      else max (b.classLevel .die b.th.lvDie) (max (b.classLevel .dimm b.th.lvDimm) (b.classLevel .media b.th.lvMedia))
    b.thLevels.get F.TH_STATUS_LEVEL = lvl % 8
    ∧ b.thLevels.flag F.TH_STATUS_SHUTDOWN = b.anyShutdown
    ∧ (b.anyShutdown = true → b.flag F.TH_STATUS_SHUTDOWN = false → .hobOff .thermal ∈ b.thLevels.todo ∧ b.thLevels.hob.thHold = true))
  ∧ (∀ (b : Body) (k : Nat) (t : Int), 1 ≤ k → k ≤ 7 → ∀ cls, t ∈ b.classTemps cls → b.thresh cls (k - 1) ≤ t →
    ∀ old, k ≤ b.classLevel cls old)
  ∧ (∀ s : State, Leads .thermalTrip s fun b => (∀ r, r < 24 → nbit (b.get F.HOB_RAILS_ENABLED) r = false)
      ∧ b.get F.HOB_STATUS_LAST_DOWN_CAUSE = 5)

/-! ## Boot, reset, the watchdog and readback (R430 to R438) -/

/-- A reset: what it clears and what it keeps. The model's choices it rests on: log entries 112, 113, 132 and 133. -/
def Obligations.ResetCommands : Prop :=
  (∀ (s : State) (bad corrected : List Nat), s.body.boot.powered = false →
    ∃ t, exec (.powerOnReset bad corrected) s = .next t ∧ t = (s.reset_ true 0 bad corrected).finish)
  ∧ (∀ s : State, ∃ t, exec .alwaysOnLoss s = .next t ∧ t.body.boot.powered = false ∧ t.body.cf.words = s.body.cf.words
      ∧ t.body.cf.bad = s.body.cf.bad ∧ t.body.ciph.slots = s.body.ciph.slots ∧ t.body.ciph.revoked = s.body.ciph.revoked
      ∧ t.body.ciph.cur = {} ∧ t.pass.last = s.pass.last ∧ t.pass.log = s.pass.log ∧ t.pass.bufs = [])
  ∧ (∀ (s : State) (power : Bool) (cause : Nat) (bad corrected : List Nat),
    let t := s.reset_ power cause bad corrected
    t.body.boot.powered = true ∧ t.body.boot.stage = 1 ∧ t.body.get F.BOOT_STATUS_LAST_RESET = (if power then 0 else 1)
    ∧ t.body.get F.BOOT_STATUS_SYS_CAUSE = cause % 16 ∧ t.body.get F.BOOT_STATUS_STAGE = 1
    ∧ t.body.ciph.slots = s.body.ciph.slots ∧ t.body.ciph.revoked = s.body.ciph.revoked ∧ t.body.ciph.hashes = s.body.ciph.hashes
    ∧ t.body.ciph.cur = {} ∧ t.body.ciph.next = {} ∧ t.body.cf.words = s.body.cf.words ∧ t.body.cfg.svnFuses = s.body.cfg.svnFuses
    ∧ t.body.mtl.cells = s.body.mtl.cells ∧ t.body.rk = {} ∧ t.body.dx = {} ∧ t.pass.last = s.pass.last ∧ t.pass.seed = t.pass.mark
    ∧ ∀ u, u < 80 → t.body.unit u = .off)
  ∧ (∀ s : State, s.body.hobState = .off → Leads .sysrstN s fun b => b.boot.resetReq = some 1)
  ∧ (∀ (s : State) (actor : Actor), acts s.body actor A.BOOT_CTL 1 →
    (s.body.hobState = .off → Leads (.systemReset actor) s fun b => b.boot.resetReq = some 2)
    ∧ (s.body.hobState = .up → s.body.isOn U.persist = true → Leads (.systemReset actor) s fun b => b.hobState = .flushing
      ∧ b.hob.resetAfter = true ∧ b.boot.cause = 2))
  ∧ (∀ (s : State) (actor : Actor), acts s.body actor A.BOOT_CTL 2 → s.body.dx.warm = false →
    Leads (.warmRestart actor) s fun b => b.dx.warm = true ∧ b.get F.BOOT_STATUS_LAST_RESET = 2
      ∧ b.get F.BOOT_COUNT_WARM = (s.body.get F.BOOT_COUNT_WARM + 1) % 2 ^ 32
      ∧ (s.body.unit U.dexith = .on → b.unit U.dexith = .stopping) ∧ (s.body.unit U.dexith = .off → s.body.boot.held = false → b.unit U.dexith = .starting)
      ∧ ∀ u, u < 80 → u ≠ U.dexith → b.unit u = s.body.unit u)

/-- The stages of the boot: the slot of higher SEQUENCE that passes its checks is loaded, recovery when neither passes; the service cluster
and the enabled units are released last.
The watchdog: a kick restarts its count, an expiry counts and acts. -/
def Obligations.BootAndWatchdog : Prop :=
  ((∀ (s : State) (a b : SlotVerdict) (us1 us2 : Nat), s.body.boot.stage = 1 →
    let v := fun (n : Nat) => if n = 0 then a else b
    let x := s.body.slotFirst
    let y := if s.body.slotCode x (v x) = 0 then x else 1 - x
    Leads (.bootImageLoaded a b us1 us2) s fun b =>
      if s.body.slotCode y (v y) = 0 then
        b.boot.stage = 3 ∧ b.cfg.loaded = true ∧ b.cfg.sram = s.body.slotWords y ∧ (b.hob.table ≠ [] → b.hobState = .poweringUp)
      else b.boot.stage = 7 ∧ b.boot.held = true ∧ b.flag F.CONFIG_STATUS_RECOVERY = true ∧ b.cfg.loaded = s.body.cfg.loaded)
  ∧ (∀ (s : State) (us : Nat), s.body.boot.stage = 3 → s.body.hobState = .up →
    Leads (.bootHobUp us) s fun b => b.boot.stage = 4 ∧ b.cfg.loaded = s.body.cfg.loaded)
  ∧ (∀ (s : State) (us : Nat), s.body.boot.stage = 4 → s.body.flag F.TIME_STATUS_TREF_OK = true →
    Leads (.bootRelease us) s fun b => b.boot.stage = 6 ∧ b.flag F.BOOT_STATUS_TREF_WAIT = false ∧ b.boot.filled = true
      ∧ (s.body.boot.held = false → s.body.unit U.dexith = .off → b.unit U.dexith = .starting))
  ∧ (∀ (s : State) (us : Nat), s.body.boot.stage = 4 → s.body.flag F.TIME_STATUS_TREF_OK = false →
    Leads (.bootRelease us) s fun b => b = s.body))
  ∧ ((∀ (s : State) (actor : Actor), acts s.body actor A.BOOT_WDT_KICK 1 → Leads (.wdtKick actor) s fun b =>
      b.boot.wdtTwice = false ∧ b.boot.wdtOn = (s.body.get F.BOOT_WDT_CFG_TIMEOUT_MS != 0)
      ∧ b.get F.BOOT_WDT_STATUS_REMAINING_MS = s.body.get F.BOOT_WDT_CFG_TIMEOUT_MS)
  ∧ (∀ s : State, s.body.boot.wdtOn = true → s.body.get F.BOOT_WDT_CFG_TIMEOUT_MS ≠ 0 → s.body.dx.warm = false → s.body.boot.wdtTwice = false →
    let act := s.body.get F.BOOT_WDT_CFG_ACTION
    Leads .wdtExpire s fun b => b.get F.BOOT_WDT_STATUS_FIRES = (s.body.get F.BOOT_WDT_STATUS_FIRES + 1) % 2 ^ 32
      ∧ ⟨U.boot, .bit F.BOOT_EVENTS_WDT_FIRED, act⟩ ∈ b.evs
      ∧ (act = 0 → b.boot.wdtOn = false ∧ b.dx = s.body.dx)
      ∧ (act = 1 → b.boot.wdtOn = true ∧ b.boot.wdtTwice = true)
      ∧ (act = 2 → b.dx.warm = true)
      ∧ (act = 3 → s.body.hobState = .off → b.boot.resetReq = some 3)))

/-- The STATE windows: the row of the selection is copied, with its kind and index echoed; a row of a slow structure takes an access.
The model's choices it rests on: log entry 117. -/
def Obligations.StateWindowCommands : Prop :=
  (∀ (s : State) (actor : Actor) (fixed : Bool) (bad : List Nat), acts s.body actor A.STATE_CMD 1 →
    let g := wrote s.body actor A.STATE_CMD 1
    let kind := g.get F.STATE_SEL_KIND
    let i := g.get F.STATE_SEL_INDEX
    (s.body.rb.snap = none → rowSlow kind = false → Leads (.stateSnap actor fixed bad) s fun b => b.get F.STATE_STATUS_STATE = 2
      ∧ b.get F.STATE_STATUS_ECHO_KIND = kind ∧ b.get F.STATE_STATUS_ECHO_INDEX = i ∧ b.get F.STATE_LEN_BYTES = rowBytes kind
      ∧ b.flag F.STATE_STATUS_INVALID_INDEX = (g.rowOf kind i).isNone
      ∧ ∀ n, n < 64 → b.word (A.STATE_DATA n) = (if bad.contains n then 0 else ((g.rowOf kind i).getD []).getD n 0))
    ∧ (s.body.rb.snap = none → rowSlow kind = true → (g.rowOf kind i).isSome = true →
      Leads (.stateSnap actor fixed bad) s fun b => b.rb.snap = some (kind, i) ∧ b.get F.STATE_STATUS_STATE = 1)
    ∧ (s.body.rb.snap ≠ none → Leads (.stateSnap actor fixed bad) s fun b => b.rb.snap = s.body.rb.snap
      ∧ b.flag F.BOOT_EVENTS_STATE_BUSY = true))
  ∧ (∀ (s : State) (fixed : Bool) (bad : List Nat) (kind i : Nat), s.body.rb.snap = some (kind, i) →
    Leads (.stateSnapDone fixed bad) s fun b => b.rb.snap = none ∧ b.get F.STATE_STATUS_STATE = 2
      ∧ b.get F.STATE_STATUS_ECHO_KIND = kind % 2 ^ 8 ∧ b.get F.STATE_STATUS_ECHO_INDEX = i % 2 ^ 40)

/-- The machine at reset: no unit is ON, nothing waits at the Pass or in the queue, no rail is enabled, and the registers whose reset value
the spec gives as other than zero hold it. The model's choices it rests on: log entries 7, 11 and 134. -/
def Obligations.ResetValues : Prop :=
  let b := State.reset.body
  b.get F.GLOBAL_ID_VENDOR = 0x1F4C ∧ b.get F.GLOBAL_ID_PART = 0x6420 ∧ b.get F.GLOBAL_ID_STEPPING = 0xB1
  ∧ b.flag F.TIME_CTL_ENABLE = true ∧ b.flag F.SP_CFG_WB_EN = true ∧ b.get F.MTL_PROG_CFG_PLACES = 600 ∧ b.flag F.ASSIST_CTL_ASSIST_EN = true
  ∧ b.flag F.DX_CTL_ENABLE = true ∧ (∀ k, k < 16 → b.get (F.DX_MTIMECMP_CMP k) = 2 ^ 64 - 1)
  ∧ (∀ k, k < 16 → b.get (F.DX_CORE_CTL_RUN k) = if k = 0 then 1 else 0)
  ∧ (∀ u, u < 80 → b.unit u = .off) ∧ b.get F.HOB_RAILS_ENABLED = 0 ∧ b.get F.PASS_SEQ_LAST_SEQ = 0
  ∧ State.reset.pending = [] ∧ State.reset.pass.bufs = []
  ∧ Memory.wf (fun _ => (0 : Word)) b.regs = true ∧ Memory.wf (fun _ => (0 : Word)) b.cf.words = true
  ∧ Memory.wf (fun _ => (0 : Word)) b.rack.cells = true ∧ Memory.wf (fun _ => (0 : Word)) b.dx.sram = true

/-! ## Frames: what the commands leave unchanged -/

namespace Sys2Proof.Stmt

/-- The command answers a next state, and the units before the others answer are `b`, which agrees with the units before the command as `P`
says. -/
def Frame (c : Instr) (s : State) (P : Body → Body → Prop) : Prop :=
  ∃ b, (exec c s = .next (s.taken b) ∨ exec c s = .next (s.settled b)) ∧ P s.body b

/-- Every register outside a range of CSPACE is unchanged. -/
def regsOutside (lo hi : Nat) (a b : Body) : Prop := ∀ k, k < lo ∨ hi ≤ k → b.word k = a.word k

/-- Commands of the code flash. -/
def ofFlash : Instr → Bool
  | .cfProgram .. | .cfErase .. | .cfHash .. | .cfProgramDone .. | .cfEraseDone .. | .cfHashDone .. | .eraseResume | .eraseStarved
  | .flashRead .. => true
  | _ => false

/-- Commands of the service cores, the keeper cores and the event FIFOs. -/
def ofCores : Instr → Bool
  | .coreRunSet .. | .coreRunClear .. | .coreReset .. | .tcmClear .. | .tcmClearDone .. | .coreNmi .. | .evqPop .. | .evqFlush ..
  | .mtimecmpMatch .. | .keeperCoreHalt .. | .keeperTakeover .. | .debugHalt .. | .debugResume .. => true
  | _ => false

/-- Commands of the Rack and the Spike that concern no other unit. -/
def ofRecorder : Instr → Bool
  | .operatingSecond | .rackSnapshot .. | .rackFwCmd .. | .spikeFreeze .. | .spikeClearChallenge .. | .spikeClearSubmit .. => true
  | _ => false

/-- Commands of the rails and reset outputs that take no step of the Hob. -/
def ofRails : Instr → Bool
  | .railEnable .. | .railPgChange .. | .railRetry .. | .resetRelease .. | .resetPulse .. => true
  | _ => false

/-- SPDM requests that only the cipher engine answers. -/
def ofSpdm : Instr → Bool
  | .spdmGetVersion | .spdmGetCapabilities | .spdmNegotiateAlgorithms .. | .spdmGetDigests | .spdmGetCertificate .. | .spdmKeyExchange ..
  | .spdmFinish .. | .spdmEndSession .. => true
  | _ => false

/-- Commands of keys, fuses, measurements and the untrusted table. -/
def ofKeys : Instr → Bool
  | .keyInstall .. | .keyDiscardNext .. | .keyActivate | .fuseProgram .. | .fuseRevoke .. | .keySlotSnapshot .. | .untrustSnapshot ..
  | .fwMeasureExtend .. | .dbgNewChallenge .. => true
  | _ => false

/-- Mailbox commands that only read what a logical device holds. -/
def ofMailboxReads : Instr → Bool
  | .identify .. | .getSupportedLogs .. | .getLog .. | .getEventRecords .. | .getEventInterruptPolicy .. | .getFwInfo .. | .getTimestamp ..
  | .identifyMemoryDevice .. | .getPartitionInfo .. | .getHealthInfo .. | .getAlertConfiguration .. | .getShutdownState ..
  | .mailboxUnsupported .. => true
  | _ => false

/-- Commands that copy an entry of a table into registers. -/
def ofSnapshots : Instr → Bool
  | .ncMrSnapshot .. | .ncColSnapshot .. | .cxpHdmSnapshot .. | .keySlotSnapshot .. | .untrustSnapshot .. | .rackSnapshot .. => true
  | _ => false

/-- Commands of the item queues. -/
def ofQueues : Instr → Bool
  | .qCfgWrite .. | .qPush .. | .qFlush .. | .qWinSnapshot .. | .qPop .. | .qGapMarker .. => true
  | _ => false

/-- Registrations of memory and protection domains. -/
def ofRegions : Instr → Bool
  | .regCreate .. | .regDereg .. | .pdSet .. => true
  | _ => false

end Sys2Proof.Stmt

/-- A command of the code flash changes the code flash, its registers and what is queued for the Rack; one of the cores changes the cores and
their registers: every other unit, and every other register, stays. -/
def Obligations.FrameCoresAndFlash : Prop :=
  ∀ (c : Instr) (s : State), c.wf = true →
    (ofFlash c = true → Frame c s fun a b =>
      b = { a with regs := b.regs, rb := b.rb, evs := b.evs, out := b.out, cf := b.cf, rack := { a.rack with queue := b.rack.queue } }
      ∧ regsOutside 0x130000 0x140000 a b)
    ∧ (ofCores c = true → Frame c s fun a b =>
      b = { a with regs := b.regs, rb := b.rb, evs := b.evs, out := b.out, dx := b.dx } ∧ regsOutside 0x120000 0x130000 a b)

/-- A command of the Rack, of the Spike or of a rail changes no other unit. -/
def Obligations.FrameRecorderAndRails : Prop :=
  ∀ (c : Instr) (s : State), c.wf = true →
    (ofRecorder c = true → Frame c s fun a b =>
      b = { a with regs := b.regs, rb := b.rb, evs := b.evs, freeCtr := b.freeCtr, spk := b.spk
                   rack := { a.rack with queue := b.rack.queue, cnt := b.rack.cnt } }
      ∧ regsOutside 0x140000 0x160000 a b)
    ∧ (ofRails c = true → Frame c s fun a b =>
      b = { a with regs := b.regs, rb := b.rb, evs := b.evs, out := b.out, hob := b.hob, rack := { a.rack with queue := b.rack.queue } }
      ∧ regsOutside 0x160000 0x170000 a b)

/-- Attestation and keys: an SPDM request that the cipher engine alone answers changes no register and no other unit; a command of keys,
fuses, measurements or the untrusted table changes no register outside the cipher engine's and no other unit but what is queued for the Rack. -/
def Obligations.FrameKeysAndAttestation : Prop :=
  ∀ (c : Instr) (s : State), c.wf = true →
    (ofSpdm c = true → Frame c s fun a b => b = { a with out := b.out, ciph := b.ciph })
    ∧ (ofKeys c = true → Frame c s fun a b =>
      b = { a with regs := b.regs, rb := b.rb, evs := b.evs, freeCtr := b.freeCtr, ciph := b.ciph
                   rack := { a.rack with queue := b.rack.queue, cnt := b.rack.cnt } }
      ∧ regsOutside 0x110000 0x120000 a b)

/-- A mailbox command that reads, and a snapshot of a table, leave every unit as it is: the mailbox command keeps its opcode and return code,
the snapshot fills its registers. -/
def Obligations.FrameReads : Prop :=
  ∀ (c : Instr) (s : State), c.wf = true →
    (ofMailboxReads c = true → Frame c s fun a b => b = { a with out := b.out, evs := b.evs, cxl := b.cxl })
    ∧ (ofSnapshots c = true → Frame c s fun a b => b = { a with regs := b.regs, rb := b.rb, evs := b.evs })

/-- A command of the item queues changes the queues and their registers alone; a registration of memory changes the RDMA tables, the registers
of the ports and the RDMA engine, and the count of regions of its partition alone. -/
def Obligations.FrameQueuesAndRegions : Prop :=
  ∀ (c : Instr) (s : State), c.wf = true →
    (ofQueues c = true → Frame c s fun a b =>
      b = { a with regs := b.regs, rb := b.rb, evs := b.evs, out := b.out, q := b.q } ∧ regsOutside 0xF0000 0x100000 a b)
    ∧ (ofRegions c = true → Frame c s fun a b =>
      b = { a with regs := b.regs, rb := b.rb, evs := b.evs, rdma := b.rdma }
      ∧ ∀ k, k < 0xC0000 ∨ 0xE0000 ≤ k → (∀ p, p < 256 → k ≠ (F.PART_ATTR_REGIONS p).addr) → b.word k = a.word k)
end

