-- ==== Sys2Proof/Laws/Maps.lean ====
section
/-! SUPPORT. The laws of the sparse maps: what a read gives after a write, and that a write keeps the canonical form. -/

namespace Sys2Proof.Machine

variable {α : Type}

theorem mget_mset_same (m : SMap α) (a : Nat) (x : α) : mget (mset m a x) a = some x := by
  induction m with
  | nil => simp [mset, mget]
  | cons p r ih =>
    obtain ⟨k, v⟩ := p
    simp only [mset]
    split
    · simp [mget]
    · split
      · simp [mget]
      · simp [mget, *]

theorem mget_mset_ne (m : SMap α) (a b : Nat) (x : α) (h : b ≠ a) : mget (mset m a x) b = mget m b := by
  induction m with
  | nil => simp [mset, mget, h]
  | cons p r ih =>
    obtain ⟨k, v⟩ := p
    simp only [mset]
    split
    · simp [mget, h]
    · split
      · rename_i h2; subst h2; simp [mget, h]
      · simp [mget, ih]

theorem mget_merase_same (m : SMap α) (a : Nat) : mget (merase m a) a = none := by
  induction m with
  | nil => rfl
  | cons p r ih =>
    obtain ⟨k, v⟩ := p
    simp only [merase]
    split
    · exact ih
    · simp [mget, *]

theorem mget_merase_ne (m : SMap α) (a b : Nat) (h : b ≠ a) : mget (merase m a) b = mget m b := by
  induction m with
  | nil => rfl
  | cons p r ih =>
    obtain ⟨k, v⟩ := p
    simp only [merase]
    split
    · rename_i h2; subst h2; simp [mget, h, ih]
    · simp [mget, ih]

/-- A read after a write to the same key gives what was written. -/
@[simp] theorem mgetD_mput_same [DecidableEq α] (d : α) (m : SMap α) (a : Nat) (x : α) : mgetD (mput d m a x) a d = x := by
  unfold mput mgetD
  split
  · simp [mget_merase_same, *]
  · simp [mget_mset_same]

/-- A write leaves every other key alone. -/
theorem mgetD_mput_ne [DecidableEq α] (d e : α) (m : SMap α) (a b : Nat) (x : α) (h : b ≠ a) : mgetD (mput d m a x) b e = mgetD m b e := by
  unfold mput mgetD
  split
  · simp [mget_merase_ne _ _ _ h]
  · simp [mget_mset_ne _ _ _ _ h]

theorem Memory.wfFrom_weaken [DecidableEq α] (d : Nat → α) {lo lo' : Nat} (h : lo' ≤ lo) (m : SMap α) (w : Memory.wfFrom d lo m = true) :
    Memory.wfFrom d lo' m = true := by
  cases m with
  | nil => rfl
  | cons p r =>
    obtain ⟨k, v⟩ := p
    simp only [Memory.wfFrom, Bool.and_eq_true, decide_eq_true_eq] at w ⊢
    exact ⟨⟨by omega, w.1.2⟩, w.2⟩

theorem Memory.wfFrom_mset [DecidableEq α] (d : Nat → α) (a : Nat) (x : α) (hx : x ≠ d a) (m : SMap α) (lo : Nat) (hl : lo ≤ a)
    (w : Memory.wfFrom d lo m = true) : Memory.wfFrom d lo (mset m a x) = true := by
  induction m generalizing lo with
  | nil => simp [mset, Memory.wfFrom, hl, hx]
  | cons p r ih =>
    obtain ⟨k, v⟩ := p
    simp only [Memory.wfFrom, Bool.and_eq_true, decide_eq_true_eq] at w
    simp only [mset]
    split
    · rename_i h
      simp only [Memory.wfFrom, Bool.and_eq_true, decide_eq_true_eq]
      exact ⟨⟨hl, hx⟩, ⟨by omega, w.1.2⟩, w.2⟩
    · split
      · rename_i h; subst h
        simp only [Memory.wfFrom, Bool.and_eq_true, decide_eq_true_eq]
        exact ⟨⟨hl, hx⟩, w.2⟩
      · simp only [Memory.wfFrom, Bool.and_eq_true, decide_eq_true_eq]
        exact ⟨w.1, ih _ (by omega) w.2⟩

theorem Memory.wfFrom_merase [DecidableEq α] (d : Nat → α) (a : Nat) (m : SMap α) (lo : Nat) (w : Memory.wfFrom d lo m = true) :
    Memory.wfFrom d lo (merase m a) = true := by
  induction m generalizing lo with
  | nil => rfl
  | cons p r ih =>
    obtain ⟨k, v⟩ := p
    simp only [Memory.wfFrom, Bool.and_eq_true, decide_eq_true_eq] at w
    simp only [merase]
    split
    · exact ih _ (Memory.wfFrom_weaken d (by omega) r w.2)
    · simp only [Memory.wfFrom, Bool.and_eq_true, decide_eq_true_eq]
      exact ⟨w.1, ih _ w.2⟩

/-- A write keeps the canonical form. -/
theorem Memory.wf_mput [DecidableEq α] (d : Nat → α) (m : SMap α) (a : Nat) (x : α) (w : Memory.wf d m = true) :
    Memory.wf d (mput (d a) m a x) = true := by
  unfold mput
  split
  · exact Memory.wfFrom_merase d a m 0 w
  · exact Memory.wfFrom_mset d a x ‹_› m 0 (Nat.zero_le _) w

/-- Leaving out entries keeps the canonical form. -/
theorem Memory.wfFrom_filter [DecidableEq α] (d : Nat → α) (p : Nat × α → Bool) (m : SMap α) (lo : Nat) (w : Memory.wfFrom d lo m = true) :
    Memory.wfFrom d lo (m.filter p) = true := by
  induction m generalizing lo with
  | nil => rfl
  | cons q r ih =>
    obtain ⟨k, v⟩ := q
    simp only [Memory.wfFrom, Bool.and_eq_true, decide_eq_true_eq] at w
    simp only [List.filter]
    split
    · simp only [Memory.wfFrom, Bool.and_eq_true, decide_eq_true_eq]
      exact ⟨w.1, ih _ w.2⟩
    · exact ih _ (Memory.wfFrom_weaken d (by omega) r w.2)

end Sys2Proof.Machine
end

