-- ==== Sys2Proof/Laws/State.lean ====
section
/-! SUPPORT. The laws of State: what each field reads as after each update of the named operations. -/

namespace Sys2Proof.Machine

/-! ## Fields of a word -/

theorem Fld.insert_bit (f : Fld) (x : Word) (v i : Nat) (hi : i < 64) :
    (f.insert x v).getLsbD i = if f.lo ≤ i ∧ i < f.lo + f.w then v.testBit (i - f.lo) else x.getLsbD i := by
  have hm : ((2 ^ f.w - 1) * 2 ^ f.lo).testBit i = decide (f.lo ≤ i ∧ i < f.lo + f.w) := by
    rw [Nat.testBit_mul_two_pow, Nat.testBit_two_pow_sub_one]
    by_cases h : f.lo ≤ i <;> by_cases h2 : i < f.lo + f.w <;> simp [h, h2] <;> omega
  have hv : (v % 2 ^ f.w * 2 ^ f.lo).testBit i = (decide (f.lo ≤ i ∧ i < f.lo + f.w) && v.testBit (i - f.lo)) := by
    rw [Nat.testBit_mul_two_pow, Nat.testBit_mod_two_pow]
    by_cases h : f.lo ≤ i <;> by_cases h2 : i < f.lo + f.w
    · have : i - f.lo < f.w := by omega
      simp [h, h2, this]
    · have : ¬ i - f.lo < f.w := by omega
      simp [h, h2, this]
    · simp [h]
    · simp [h]
  simp only [Fld.insert, BitVec.getLsbD_or, BitVec.getLsbD_and, BitVec.getLsbD_not, BitVec.getLsbD_ofNat, hm, hv, hi, decide_true, Bool.true_and]
  by_cases h1 : f.lo ≤ i <;> by_cases h2 : i < f.lo + f.w <;> simp [h1, h2]

theorem Fld.ofWord_bit (f : Fld) (x : Word) (i : Nat) : (f.ofWord x).testBit i = (decide (i < f.w) && x.getLsbD (f.lo + i)) := by
  simp [Fld.ofWord, Nat.testBit_mod_two_pow, Nat.testBit_div_two_pow, BitVec.getLsbD, Nat.add_comm]

/-- A field reads back what was inserted, as far as its bits hold it. -/
@[simp] theorem Fld.ofWord_insert (f : Fld) (x : Word) (v : Nat) (h : f.lo + f.w ≤ 64) : f.ofWord (f.insert x v) = v % 2 ^ f.w := by
  apply Nat.eq_of_testBit_eq
  intro i
  rw [Fld.ofWord_bit, Nat.testBit_mod_two_pow]
  by_cases hi : i < f.w
  · rw [Fld.insert_bit f x v _ (by omega)]
    simp [hi]
  · simp [hi]

/-- A field apart from the one inserted keeps its value. -/
theorem Fld.ofWord_insert_ne (f g : Fld) (x : Word) (v : Nat) (hg : g.lo + g.w ≤ 64) (h : g.lo + g.w ≤ f.lo ∨ f.lo + f.w ≤ g.lo) :
    g.ofWord (f.insert x v) = g.ofWord x := by
  apply Nat.eq_of_testBit_eq
  intro i
  rw [Fld.ofWord_bit, Fld.ofWord_bit]
  by_cases hi : i < g.w
  · rw [Fld.insert_bit f x v _ (by omega), if_neg (by omega)]
  · simp [hi]

namespace Body

/-! ## Registers -/

@[simp] theorem word_setWord (s : Body) (a : Nat) (x : Word) : (s.setWord a x).word a = x := by simp [word, setWord]
theorem word_setWord_ne (s : Body) (a b : Nat) (x : Word) (h : b ≠ a) : (s.setWord a x).word b = s.word b := by
  simp [word, setWord, mgetD_mput_ne _ _ _ _ _ _ h]

theorem get_setWord_ne (s : Body) (a : Nat) (x : Word) (g : Fld) (h : g.addr ≠ a) : (s.setWord a x).get g = s.get g := by
  simp [get, word_setWord_ne _ _ _ _ h]

theorem get_put_same (s : Body) (f : Fld) (v : Nat) (h : f.lo + f.w ≤ 64) : (s.put f v).get f = v % 2 ^ f.w := by
  simp [get, put, h]

theorem get_put_ne (s : Body) (f g : Fld) (v : Nat) (h : f.apart g = true) : (s.put f v).get g = s.get g := by
  simp only [Fld.apart, Bool.or_eq_true, Bool.and_eq_true, decide_eq_true_eq] at h
  by_cases ha : g.addr = f.addr
  · rcases h with h | ⟨h1, h2⟩
    · exact absurd ha h
    · simp only [get, put, ha, word_setWord]
      exact Fld.ofWord_insert_ne f g _ v h1 h2
  · exact get_setWord_ne _ _ _ _ ha

/-! ## The register file alone: a normal form for chains of register writes -/

/-- A field of a register file. -/
def rread (m : SMap Word) (f : Fld) : Nat := f.ofWord (mgetD m f.addr 0)
/-- A register file with a field replaced. -/
def rwrite (m : SMap Word) (f : Fld) (v : Nat) : SMap Word := mput 0 m f.addr (f.insert (mgetD m f.addr 0) v)

theorem get_eq (s : Body) (f : Fld) : s.get f = rread s.regs f := rfl
theorem flag_eq (s : Body) (f : Fld) : s.flag f = (rread s.regs f != 0) := rfl
theorem put_regs (s : Body) (f : Fld) (v : Nat) : (s.put f v).regs = rwrite s.regs f v := rfl
theorem rread_rwrite_same (m : SMap Word) (f : Fld) (v : Nat) (h : f.lo + f.w ≤ 64) : rread (rwrite m f v) f = v % 2 ^ f.w :=
  get_put_same { regs := m } f v h
theorem rread_rwrite_ne (m : SMap Word) (f g : Fld) (v : Nat) (h : f.apart g = true) : rread (rwrite m f v) g = rread m g :=
  get_put_ne { regs := m } f g v h
theorem rread_lt (m : SMap Word) (f : Fld) : rread m f < 2 ^ f.w := Nat.mod_lt _ (Nat.two_pow_pos _)

/-- Events raised and messages sent leave every register as it is. -/
@[simp] theorem get_post (s : Body) (u : Nat) (e : Event) (n : Nat) (g : Fld) : (s.post u e n).get g = s.get g := rfl
@[simp] theorem get_send (s : Body) (o : Out) (g : Fld) : (s.send o).get g = s.get g := rfl
@[simp] theorem get_freshN (s : Body) (n : Nat) (g : Fld) : (s.freshN n).get g = s.get g := rfl
theorem get_raise (s : Body) (u : Nat) (f g : Fld) (n : Nat) : (s.raise u f n).get g = (s.put f 1).get g := rfl
@[simp] theorem post_evs (s : Body) (u : Nat) (e : Event) (n : Nat) : (s.post u e n).evs = s.evs ++ [⟨u, e, n⟩] := rfl
@[simp] theorem raise_evs (s : Body) (u : Nat) (f : Fld) (n : Nat) : (s.raise u f n).evs = s.evs ++ [⟨u, .bit f, n⟩] := rfl
@[simp] theorem send_out (s : Body) (o : Out) : (s.send o).out = o :: s.out := rfl
@[simp] theorem post_regs (s : Body) (u : Nat) (e : Event) (n : Nat) : (s.post u e n).regs = s.regs := rfl
@[simp] theorem send_regs (s : Body) (o : Out) : (s.send o).regs = s.regs := rfl

/-! ## What a register write, an event and a message leave alone -/

@[simp] theorem put_frame (s : Body) (f : Fld) (v : Nat) : (s.put f v).frame = s.frame := rfl
@[simp] theorem put_time (s : Body) (f : Fld) (v : Nat) : (s.put f v).time = s.time := rfl
@[simp] theorem put_cfg (s : Body) (f : Fld) (v : Nat) : (s.put f v).cfg = s.cfg := rfl
@[simp] theorem put_tier (s : Body) (f : Fld) (v : Nat) : (s.put f v).tier = s.tier := rfl
@[simp] theorem put_nc (s : Body) (f : Fld) (v : Nat) : (s.put f v).nc = s.nc := rfl
@[simp] theorem put_sp (s : Body) (f : Fld) (v : Nat) : (s.put f v).sp = s.sp := rfl
@[simp] theorem put_mtl (s : Body) (f : Fld) (v : Nat) : (s.put f v).mtl = s.mtl := rfl
@[simp] theorem put_per (s : Body) (f : Fld) (v : Nat) : (s.put f v).per = s.per := rfl
@[simp] theorem put_twin (s : Body) (f : Fld) (v : Nat) : (s.put f v).twin = s.twin := rfl
@[simp] theorem put_cxl (s : Body) (f : Fld) (v : Nat) : (s.put f v).cxl = s.cxl := rfl
@[simp] theorem put_rdma (s : Body) (f : Fld) (v : Nat) : (s.put f v).rdma = s.rdma := rfl
@[simp] theorem put_rk (s : Body) (f : Fld) (v : Nat) : (s.put f v).rk = s.rk := rfl
@[simp] theorem put_q (s : Body) (f : Fld) (v : Nat) : (s.put f v).q = s.q := rfl
@[simp] theorem put_sched (s : Body) (f : Fld) (v : Nat) : (s.put f v).sched = s.sched := rfl
@[simp] theorem put_ciph (s : Body) (f : Fld) (v : Nat) : (s.put f v).ciph = s.ciph := rfl
@[simp] theorem put_dx (s : Body) (f : Fld) (v : Nat) : (s.put f v).dx = s.dx := rfl
@[simp] theorem put_cf (s : Body) (f : Fld) (v : Nat) : (s.put f v).cf = s.cf := rfl
@[simp] theorem put_rack (s : Body) (f : Fld) (v : Nat) : (s.put f v).rack = s.rack := rfl
@[simp] theorem put_spk (s : Body) (f : Fld) (v : Nat) : (s.put f v).spk = s.spk := rfl
@[simp] theorem put_hob (s : Body) (f : Fld) (v : Nat) : (s.put f v).hob = s.hob := rfl
@[simp] theorem put_th (s : Body) (f : Fld) (v : Nat) : (s.put f v).th = s.th := rfl
@[simp] theorem put_boot (s : Body) (f : Fld) (v : Nat) : (s.put f v).boot = s.boot := rfl
@[simp] theorem put_rb (s : Body) (f : Fld) (v : Nat) : (s.put f v).rb = s.rb := rfl
@[simp] theorem put_out (s : Body) (f : Fld) (v : Nat) : (s.put f v).out = s.out := rfl
@[simp] theorem put_evs (s : Body) (f : Fld) (v : Nat) : (s.put f v).evs = s.evs := rfl
@[simp] theorem put_todo (s : Body) (f : Fld) (v : Nat) : (s.put f v).todo = s.todo := rfl
@[simp] theorem put_freeCtr (s : Body) (f : Fld) (v : Nat) : (s.put f v).freeCtr = s.freeCtr := rfl

@[simp] theorem post_frame (s : Body) (u : Nat) (e : Event) (n : Nat) : (s.post u e n).frame = s.frame := rfl
@[simp] theorem post_time (s : Body) (u : Nat) (e : Event) (n : Nat) : (s.post u e n).time = s.time := rfl
@[simp] theorem post_cfg (s : Body) (u : Nat) (e : Event) (n : Nat) : (s.post u e n).cfg = s.cfg := rfl
@[simp] theorem post_tier (s : Body) (u : Nat) (e : Event) (n : Nat) : (s.post u e n).tier = s.tier := rfl
@[simp] theorem post_nc (s : Body) (u : Nat) (e : Event) (n : Nat) : (s.post u e n).nc = s.nc := rfl
@[simp] theorem post_sp (s : Body) (u : Nat) (e : Event) (n : Nat) : (s.post u e n).sp = s.sp := rfl
@[simp] theorem post_mtl (s : Body) (u : Nat) (e : Event) (n : Nat) : (s.post u e n).mtl = s.mtl := rfl
@[simp] theorem post_per (s : Body) (u : Nat) (e : Event) (n : Nat) : (s.post u e n).per = s.per := rfl
@[simp] theorem post_twin (s : Body) (u : Nat) (e : Event) (n : Nat) : (s.post u e n).twin = s.twin := rfl
@[simp] theorem post_cxl (s : Body) (u : Nat) (e : Event) (n : Nat) : (s.post u e n).cxl = s.cxl := rfl
@[simp] theorem post_rdma (s : Body) (u : Nat) (e : Event) (n : Nat) : (s.post u e n).rdma = s.rdma := rfl
@[simp] theorem post_rk (s : Body) (u : Nat) (e : Event) (n : Nat) : (s.post u e n).rk = s.rk := rfl
@[simp] theorem post_q (s : Body) (u : Nat) (e : Event) (n : Nat) : (s.post u e n).q = s.q := rfl
@[simp] theorem post_sched (s : Body) (u : Nat) (e : Event) (n : Nat) : (s.post u e n).sched = s.sched := rfl
@[simp] theorem post_ciph (s : Body) (u : Nat) (e : Event) (n : Nat) : (s.post u e n).ciph = s.ciph := rfl
@[simp] theorem post_dx (s : Body) (u : Nat) (e : Event) (n : Nat) : (s.post u e n).dx = s.dx := rfl
@[simp] theorem post_cf (s : Body) (u : Nat) (e : Event) (n : Nat) : (s.post u e n).cf = s.cf := rfl
@[simp] theorem post_rack (s : Body) (u : Nat) (e : Event) (n : Nat) : (s.post u e n).rack = s.rack := rfl
@[simp] theorem post_spk (s : Body) (u : Nat) (e : Event) (n : Nat) : (s.post u e n).spk = s.spk := rfl
@[simp] theorem post_hob (s : Body) (u : Nat) (e : Event) (n : Nat) : (s.post u e n).hob = s.hob := rfl
@[simp] theorem post_th (s : Body) (u : Nat) (e : Event) (n : Nat) : (s.post u e n).th = s.th := rfl
@[simp] theorem post_boot (s : Body) (u : Nat) (e : Event) (n : Nat) : (s.post u e n).boot = s.boot := rfl
@[simp] theorem post_rb (s : Body) (u : Nat) (e : Event) (n : Nat) : (s.post u e n).rb = s.rb := rfl
@[simp] theorem post_out (s : Body) (u : Nat) (e : Event) (n : Nat) : (s.post u e n).out = s.out := rfl
@[simp] theorem post_todo (s : Body) (u : Nat) (e : Event) (n : Nat) : (s.post u e n).todo = s.todo := rfl
@[simp] theorem post_freeCtr (s : Body) (u : Nat) (e : Event) (n : Nat) : (s.post u e n).freeCtr = s.freeCtr := rfl

@[simp] theorem raise_frame (s : Body) (u : Nat) (f : Fld) (n : Nat) : (s.raise u f n).frame = s.frame := rfl
@[simp] theorem raise_time (s : Body) (u : Nat) (f : Fld) (n : Nat) : (s.raise u f n).time = s.time := rfl
@[simp] theorem raise_cfg (s : Body) (u : Nat) (f : Fld) (n : Nat) : (s.raise u f n).cfg = s.cfg := rfl
@[simp] theorem raise_tier (s : Body) (u : Nat) (f : Fld) (n : Nat) : (s.raise u f n).tier = s.tier := rfl
@[simp] theorem raise_nc (s : Body) (u : Nat) (f : Fld) (n : Nat) : (s.raise u f n).nc = s.nc := rfl
@[simp] theorem raise_sp (s : Body) (u : Nat) (f : Fld) (n : Nat) : (s.raise u f n).sp = s.sp := rfl
@[simp] theorem raise_mtl (s : Body) (u : Nat) (f : Fld) (n : Nat) : (s.raise u f n).mtl = s.mtl := rfl
@[simp] theorem raise_per (s : Body) (u : Nat) (f : Fld) (n : Nat) : (s.raise u f n).per = s.per := rfl
@[simp] theorem raise_twin (s : Body) (u : Nat) (f : Fld) (n : Nat) : (s.raise u f n).twin = s.twin := rfl
@[simp] theorem raise_cxl (s : Body) (u : Nat) (f : Fld) (n : Nat) : (s.raise u f n).cxl = s.cxl := rfl
@[simp] theorem raise_rdma (s : Body) (u : Nat) (f : Fld) (n : Nat) : (s.raise u f n).rdma = s.rdma := rfl
@[simp] theorem raise_rk (s : Body) (u : Nat) (f : Fld) (n : Nat) : (s.raise u f n).rk = s.rk := rfl
@[simp] theorem raise_q (s : Body) (u : Nat) (f : Fld) (n : Nat) : (s.raise u f n).q = s.q := rfl
@[simp] theorem raise_sched (s : Body) (u : Nat) (f : Fld) (n : Nat) : (s.raise u f n).sched = s.sched := rfl
@[simp] theorem raise_ciph (s : Body) (u : Nat) (f : Fld) (n : Nat) : (s.raise u f n).ciph = s.ciph := rfl
@[simp] theorem raise_dx (s : Body) (u : Nat) (f : Fld) (n : Nat) : (s.raise u f n).dx = s.dx := rfl
@[simp] theorem raise_cf (s : Body) (u : Nat) (f : Fld) (n : Nat) : (s.raise u f n).cf = s.cf := rfl
@[simp] theorem raise_rack (s : Body) (u : Nat) (f : Fld) (n : Nat) : (s.raise u f n).rack = s.rack := rfl
@[simp] theorem raise_spk (s : Body) (u : Nat) (f : Fld) (n : Nat) : (s.raise u f n).spk = s.spk := rfl
@[simp] theorem raise_hob (s : Body) (u : Nat) (f : Fld) (n : Nat) : (s.raise u f n).hob = s.hob := rfl
@[simp] theorem raise_th (s : Body) (u : Nat) (f : Fld) (n : Nat) : (s.raise u f n).th = s.th := rfl
@[simp] theorem raise_boot (s : Body) (u : Nat) (f : Fld) (n : Nat) : (s.raise u f n).boot = s.boot := rfl
@[simp] theorem raise_rb (s : Body) (u : Nat) (f : Fld) (n : Nat) : (s.raise u f n).rb = s.rb := rfl
@[simp] theorem raise_out (s : Body) (u : Nat) (f : Fld) (n : Nat) : (s.raise u f n).out = s.out := rfl
@[simp] theorem raise_todo (s : Body) (u : Nat) (f : Fld) (n : Nat) : (s.raise u f n).todo = s.todo := rfl
@[simp] theorem raise_freeCtr (s : Body) (u : Nat) (f : Fld) (n : Nat) : (s.raise u f n).freeCtr = s.freeCtr := rfl

@[simp] theorem send_frame (s : Body) (o : Out) : (s.send o).frame = s.frame := rfl
@[simp] theorem send_time (s : Body) (o : Out) : (s.send o).time = s.time := rfl
@[simp] theorem send_cfg (s : Body) (o : Out) : (s.send o).cfg = s.cfg := rfl
@[simp] theorem send_tier (s : Body) (o : Out) : (s.send o).tier = s.tier := rfl
@[simp] theorem send_nc (s : Body) (o : Out) : (s.send o).nc = s.nc := rfl
@[simp] theorem send_sp (s : Body) (o : Out) : (s.send o).sp = s.sp := rfl
@[simp] theorem send_mtl (s : Body) (o : Out) : (s.send o).mtl = s.mtl := rfl
@[simp] theorem send_per (s : Body) (o : Out) : (s.send o).per = s.per := rfl
@[simp] theorem send_twin (s : Body) (o : Out) : (s.send o).twin = s.twin := rfl
@[simp] theorem send_cxl (s : Body) (o : Out) : (s.send o).cxl = s.cxl := rfl
@[simp] theorem send_rdma (s : Body) (o : Out) : (s.send o).rdma = s.rdma := rfl
@[simp] theorem send_rk (s : Body) (o : Out) : (s.send o).rk = s.rk := rfl
@[simp] theorem send_q (s : Body) (o : Out) : (s.send o).q = s.q := rfl
@[simp] theorem send_sched (s : Body) (o : Out) : (s.send o).sched = s.sched := rfl
@[simp] theorem send_ciph (s : Body) (o : Out) : (s.send o).ciph = s.ciph := rfl
@[simp] theorem send_dx (s : Body) (o : Out) : (s.send o).dx = s.dx := rfl
@[simp] theorem send_cf (s : Body) (o : Out) : (s.send o).cf = s.cf := rfl
@[simp] theorem send_rack (s : Body) (o : Out) : (s.send o).rack = s.rack := rfl
@[simp] theorem send_spk (s : Body) (o : Out) : (s.send o).spk = s.spk := rfl
@[simp] theorem send_hob (s : Body) (o : Out) : (s.send o).hob = s.hob := rfl
@[simp] theorem send_th (s : Body) (o : Out) : (s.send o).th = s.th := rfl
@[simp] theorem send_boot (s : Body) (o : Out) : (s.send o).boot = s.boot := rfl
@[simp] theorem send_rb (s : Body) (o : Out) : (s.send o).rb = s.rb := rfl
@[simp] theorem send_evs (s : Body) (o : Out) : (s.send o).evs = s.evs := rfl
@[simp] theorem send_todo (s : Body) (o : Out) : (s.send o).todo = s.todo := rfl
@[simp] theorem send_freeCtr (s : Body) (o : Out) : (s.send o).freeCtr = s.freeCtr := rfl

end Body
end Sys2Proof.Machine
end

