-- ==== Sys2Proof/Laws/Access.lean ====
section
/-! SUPPORT. What judging a register write can do (R11): it changes that register, the readback shadow and the events raised, nothing else. -/

namespace Sys2Proof.Machine
namespace Body

/-- What a judged write can leave. -/
theorem judgeDone_eq (s : Body) (actor : Actor) (a : Nat) (j : Judged) :
    s.judgeDone actor a j = { s with
      regs := mput 0 s.regs a j.word
      rb := { s.rb with shadows :=
        if j.taken then mset s.rb.shadows a ⟨j.wo, (s.setWord a j.word).get F.PASS_SEQ_LAST_SEQ, actorNo actor⟩ else s.rb.shadows }
      evs := if j.viol then s.evs ++ [⟨U.checker, .named .accessViolation, a % 2 ^ 25 + actorNo actor * 2 ^ 25⟩] else s.evs } := by
  obtain ⟨w, wo, t, v⟩ := j
  cases t <;> cases v <;> rfl

/-- Everything a judged write can do to the units. -/
theorem judge_cases (s : Body) (actor : Actor) (a : Nat) (value : Word) :
    (∃ j, (s.judge actor a value).1 = s.judgeDone actor a j) ∨ (s.judge actor a value).1 = s.violation actor a := by
  unfold judge
  split
  · exact .inr rfl
  · exact .inl ⟨_, rfl⟩

theorem judge_get_ne (s : Body) (actor : Actor) (a : Nat) (value : Word) (g : Fld) (h : g.addr ≠ a) :
    (s.judge actor a value).1.get g = s.get g := by
  obtain ⟨j, e⟩ | e := judge_cases s actor a value
  · rw [e, judgeDone_eq]; exact get_setWord_ne s a j.word g h
  · rw [e]; rfl

theorem judge_flag_ne (s : Body) (actor : Actor) (a : Nat) (value : Word) (g : Fld) (h : g.addr ≠ a) :
    (s.judge actor a value).1.flag g = s.flag g := by
  simp [flag, judge_get_ne _ _ _ _ _ h]
@[simp] theorem judge_frame (s : Body) (actor : Actor) (a : Nat) (value : Word) : (s.judge actor a value).1.frame = s.frame := by
  obtain ⟨j, e⟩ | e := judge_cases s actor a value <;> rw [e] <;> simp [judgeDone_eq, violation, postN]
@[simp] theorem judge_time (s : Body) (actor : Actor) (a : Nat) (value : Word) : (s.judge actor a value).1.time = s.time := by
  obtain ⟨j, e⟩ | e := judge_cases s actor a value <;> rw [e] <;> simp [judgeDone_eq, violation, postN]
@[simp] theorem judge_cfg (s : Body) (actor : Actor) (a : Nat) (value : Word) : (s.judge actor a value).1.cfg = s.cfg := by
  obtain ⟨j, e⟩ | e := judge_cases s actor a value <;> rw [e] <;> simp [judgeDone_eq, violation, postN]
@[simp] theorem judge_tier (s : Body) (actor : Actor) (a : Nat) (value : Word) : (s.judge actor a value).1.tier = s.tier := by
  obtain ⟨j, e⟩ | e := judge_cases s actor a value <;> rw [e] <;> simp [judgeDone_eq, violation, postN]
@[simp] theorem judge_nc (s : Body) (actor : Actor) (a : Nat) (value : Word) : (s.judge actor a value).1.nc = s.nc := by
  obtain ⟨j, e⟩ | e := judge_cases s actor a value <;> rw [e] <;> simp [judgeDone_eq, violation, postN]
@[simp] theorem judge_sp (s : Body) (actor : Actor) (a : Nat) (value : Word) : (s.judge actor a value).1.sp = s.sp := by
  obtain ⟨j, e⟩ | e := judge_cases s actor a value <;> rw [e] <;> simp [judgeDone_eq, violation, postN]
@[simp] theorem judge_mtl (s : Body) (actor : Actor) (a : Nat) (value : Word) : (s.judge actor a value).1.mtl = s.mtl := by
  obtain ⟨j, e⟩ | e := judge_cases s actor a value <;> rw [e] <;> simp [judgeDone_eq, violation, postN]
@[simp] theorem judge_per (s : Body) (actor : Actor) (a : Nat) (value : Word) : (s.judge actor a value).1.per = s.per := by
  obtain ⟨j, e⟩ | e := judge_cases s actor a value <;> rw [e] <;> simp [judgeDone_eq, violation, postN]
@[simp] theorem judge_twin (s : Body) (actor : Actor) (a : Nat) (value : Word) : (s.judge actor a value).1.twin = s.twin := by
  obtain ⟨j, e⟩ | e := judge_cases s actor a value <;> rw [e] <;> simp [judgeDone_eq, violation, postN]
@[simp] theorem judge_cxl (s : Body) (actor : Actor) (a : Nat) (value : Word) : (s.judge actor a value).1.cxl = s.cxl := by
  obtain ⟨j, e⟩ | e := judge_cases s actor a value <;> rw [e] <;> simp [judgeDone_eq, violation, postN]
@[simp] theorem judge_rdma (s : Body) (actor : Actor) (a : Nat) (value : Word) : (s.judge actor a value).1.rdma = s.rdma := by
  obtain ⟨j, e⟩ | e := judge_cases s actor a value <;> rw [e] <;> simp [judgeDone_eq, violation, postN]
@[simp] theorem judge_rk (s : Body) (actor : Actor) (a : Nat) (value : Word) : (s.judge actor a value).1.rk = s.rk := by
  obtain ⟨j, e⟩ | e := judge_cases s actor a value <;> rw [e] <;> simp [judgeDone_eq, violation, postN]
@[simp] theorem judge_q (s : Body) (actor : Actor) (a : Nat) (value : Word) : (s.judge actor a value).1.q = s.q := by
  obtain ⟨j, e⟩ | e := judge_cases s actor a value <;> rw [e] <;> simp [judgeDone_eq, violation, postN]
@[simp] theorem judge_sched (s : Body) (actor : Actor) (a : Nat) (value : Word) : (s.judge actor a value).1.sched = s.sched := by
  obtain ⟨j, e⟩ | e := judge_cases s actor a value <;> rw [e] <;> simp [judgeDone_eq, violation, postN]
@[simp] theorem judge_ciph (s : Body) (actor : Actor) (a : Nat) (value : Word) : (s.judge actor a value).1.ciph = s.ciph := by
  obtain ⟨j, e⟩ | e := judge_cases s actor a value <;> rw [e] <;> simp [judgeDone_eq, violation, postN]
@[simp] theorem judge_dx (s : Body) (actor : Actor) (a : Nat) (value : Word) : (s.judge actor a value).1.dx = s.dx := by
  obtain ⟨j, e⟩ | e := judge_cases s actor a value <;> rw [e] <;> simp [judgeDone_eq, violation, postN]
@[simp] theorem judge_cf (s : Body) (actor : Actor) (a : Nat) (value : Word) : (s.judge actor a value).1.cf = s.cf := by
  obtain ⟨j, e⟩ | e := judge_cases s actor a value <;> rw [e] <;> simp [judgeDone_eq, violation, postN]
@[simp] theorem judge_rack (s : Body) (actor : Actor) (a : Nat) (value : Word) : (s.judge actor a value).1.rack = s.rack := by
  obtain ⟨j, e⟩ | e := judge_cases s actor a value <;> rw [e] <;> simp [judgeDone_eq, violation, postN]
@[simp] theorem judge_spk (s : Body) (actor : Actor) (a : Nat) (value : Word) : (s.judge actor a value).1.spk = s.spk := by
  obtain ⟨j, e⟩ | e := judge_cases s actor a value <;> rw [e] <;> simp [judgeDone_eq, violation, postN]
@[simp] theorem judge_hob (s : Body) (actor : Actor) (a : Nat) (value : Word) : (s.judge actor a value).1.hob = s.hob := by
  obtain ⟨j, e⟩ | e := judge_cases s actor a value <;> rw [e] <;> simp [judgeDone_eq, violation, postN]
@[simp] theorem judge_th (s : Body) (actor : Actor) (a : Nat) (value : Word) : (s.judge actor a value).1.th = s.th := by
  obtain ⟨j, e⟩ | e := judge_cases s actor a value <;> rw [e] <;> simp [judgeDone_eq, violation, postN]
@[simp] theorem judge_boot (s : Body) (actor : Actor) (a : Nat) (value : Word) : (s.judge actor a value).1.boot = s.boot := by
  obtain ⟨j, e⟩ | e := judge_cases s actor a value <;> rw [e] <;> simp [judgeDone_eq, violation, postN]
@[simp] theorem judge_out (s : Body) (actor : Actor) (a : Nat) (value : Word) : (s.judge actor a value).1.out = s.out := by
  obtain ⟨j, e⟩ | e := judge_cases s actor a value <;> rw [e] <;> simp [judgeDone_eq, violation, postN]
@[simp] theorem judge_todo (s : Body) (actor : Actor) (a : Nat) (value : Word) : (s.judge actor a value).1.todo = s.todo := by
  obtain ⟨j, e⟩ | e := judge_cases s actor a value <;> rw [e] <;> simp [judgeDone_eq, violation, postN]
@[simp] theorem judge_freeCtr (s : Body) (actor : Actor) (a : Nat) (value : Word) : (s.judge actor a value).1.freeCtr = s.freeCtr := by
  obtain ⟨j, e⟩ | e := judge_cases s actor a value <;> rw [e] <;> simp [judgeDone_eq, violation, postN]

end Body
end Sys2Proof.Machine
end

