-- ==== Sys2Proof/Laws/Frames.lean ====
section
/-! SUPPORT. Frames of the operations every command is written over: which registers stay, and that a judged write leaves every unit's own
state alone. Chain them with `trans`; a command of a block stays inside the block's registers. -/

namespace Sys2Proof.Machine.Body

/-- A command that the write carries acts on the judged units. -/
theorem command_of_acts (s : Body) (actor : Actor) (a v : Nat) (act : Body → Body) (h : (s.judge actor a (BitVec.ofNat 64 v)).2 ≠ 0) :
    s.command actor a v act = act (s.judge actor a (BitVec.ofNat 64 v)).1 := by
  unfold command; exact if_neg h

/-- A write that carries no command is a judged write and nothing else. -/
theorem command_of_not_acts (s : Body) (actor : Actor) (a v : Nat) (act : Body → Body) (h : (s.judge actor a (BitVec.ofNat 64 v)).2 = 0) :
    s.command actor a v act = (s.judge actor a (BitVec.ofNat 64 v)).1 := by
  unfold command; exact if_pos h

/-- What a property of units may rely on: it is transitive and a judged write of the register keeps it. -/
theorem command_keeps (s : Body) (actor : Actor) (a v : Nat) (act : Body → Body) (P : Body → Body → Prop)
    (tr : ∀ {x y z}, P x y → P y z → P x z) (hj : P s (s.judge actor a (BitVec.ofNat 64 v)).1) (ha : ∀ g, P g (act g)) :
    P s (s.command actor a v act) := by
  unfold command; dsimp only; split
  · exact hj
  · exact tr hj (ha _)

/-- Every register outside a range of CSPACE reads as before. -/
def RegsOutside (lo hi : Nat) (a b : Body) : Prop := ∀ k, k < lo ∨ hi ≤ k → b.word k = a.word k

theorem RegsOutside.trans {lo hi : Nat} {a b c : Body} (h : RegsOutside lo hi a b) (k : RegsOutside lo hi b c) : RegsOutside lo hi a c :=
  fun x hx => (k x hx).trans (h x hx)

theorem RegsOutside.of_eq {lo hi : Nat} {a b : Body} (h : b.regs = a.regs) : RegsOutside lo hi a b := by
  intro k _; simp [word, h]

theorem RegsOutside.setWord {lo hi : Nat} (a : Body) (x : Nat) (v : Word) (h : lo ≤ x ∧ x < hi) : RegsOutside lo hi a (a.setWord x v) := by
  intro k hk; exact mgetD_mput_ne _ _ _ _ _ _ (by omega)

theorem RegsOutside.put {lo hi : Nat} (a : Body) (f : Fld) (v : Nat) (h : lo ≤ f.addr ∧ f.addr < hi) : RegsOutside lo hi a (a.put f v) :=
  RegsOutside.setWord _ _ _ h

theorem RegsOutside.judge {lo hi : Nat} (a : Body) (actor : Actor) (x : Nat) (v : Word) (h : lo ≤ x ∧ x < hi) :
    RegsOutside lo hi a (a.judge actor x v).1 := by
  intro k hk
  obtain ⟨j, e⟩ | e := judge_cases a actor x v <;> rw [e]
  · rw [judgeDone_eq]; simp only [word]; exact mgetD_mput_ne _ _ _ _ _ _ (by omega)
  · rfl

theorem RegsOutside.when {lo hi : Nat} {a : Body} {t : Bool} {f : Body → Body} (h : RegsOutside lo hi a (f a)) :
    RegsOutside lo hi a (a.when t f) := by
  cases t
  · exact .of_eq rfl
  · exact h

theorem RegsOutside.command {lo hi : Nat} (a : Body) (actor : Actor) (x v : Nat) (act : Body → Body) (h : lo ≤ x ∧ x < hi)
    (k : ∀ g, RegsOutside lo hi g (act g)) : RegsOutside lo hi a (a.command actor x v act) :=
  command_keeps a actor x v act _ .trans (.judge _ _ _ _ h) k

/-- A judged write changes only the registers, the readback shadows and the events raised. -/
theorem judge_units (a : Body) (actor : Actor) (x : Nat) (v : Word) :
    (a.judge actor x v).1 = { a with regs := (a.judge actor x v).1.regs, rb := (a.judge actor x v).1.rb, evs := (a.judge actor x v).1.evs } := by
  obtain ⟨j, e⟩ | e := judge_cases a actor x v <;> rw [e]
  · rw [judgeDone_eq]
  · rfl

end Sys2Proof.Machine.Body
end

