-- ==== Sys2Proof/Laws/Memory.lean ====
section
/-! SUPPORT. Every operation on a memory held as words keeps its canonical form: the registers, the memories of the service cores, the code
flash, the Rack and the Ramekin region. -/

namespace Sys2Proof.Machine.Body

/-- A store into the register file. -/
theorem setWord_wf (s : Body) (a : Nat) (x : Word) (w : Memory.wf (fun _ => (0 : Word)) s.regs = true) :
    Memory.wf (fun _ => (0 : Word)) (s.setWord a x).regs = true :=
  Memory.wf_mput (fun _ => 0) s.regs a x w

/-- A byte stored into a core's memory. -/
theorem memSet_wf (m : SMap Word) (a v : Nat) (w : Memory.wf (fun _ => (0 : Word)) m = true) :
    Memory.wf (fun _ => (0 : Word)) (memSet m a v) = true :=
  Memory.wf_mput (fun _ => 0) m _ _ w

/-- A store of several bytes. -/
theorem memStore_wf (m : SMap Word) (a n : Nat) (v : Word) (w : Memory.wf (fun _ => (0 : Word)) m = true) :
    Memory.wf (fun _ => (0 : Word)) (memStore m a n v) = true := by
  unfold memStore
  generalize List.range n = l
  induction l generalizing m with
  | nil => exact w
  | cons i r ih => exact ih _ (memSet_wf m _ _ w)

/-- Programming a word of the code flash. -/
theorem flashAnd_wf (s : Body) (n : Nat) (x : Word) (w : Memory.wf (fun _ => (0 : Word)) s.cf.words = true) :
    Memory.wf (fun _ => (0 : Word)) (s.flashAnd n x).cf.words = true :=
  Memory.wf_mput (fun _ => 0) s.cf.words n _ w

/-- Erasing words of the code flash. -/
theorem flashErase_wf (s : Body) (n len : Nat) (w : Memory.wf (fun _ => (0 : Word)) s.cf.words = true) :
    Memory.wf (fun _ => (0 : Word)) (s.flashErase n len).cf.words = true :=
  Memory.wfFrom_filter _ _ _ _ w

/-- Groups written into the Rack. -/
theorem writeGroups_wf (s : Body) (g : Nat) (l : List Word) (w : Memory.wf (fun _ => (0 : Word)) s.rack.cells = true) :
    Memory.wf (fun _ => (0 : Word)) (s.writeGroups g l).rack.cells = true := by
  show Memory.wf _ ((l.zip (range' g l.length)).foldl (fun m p => mput 0 m p.2 p.1) s.rack.cells) = true
  generalize s.rack.cells = m at w ⊢
  generalize l.zip (range' g l.length) = z
  induction z generalizing m with
  | nil => exact w
  | cons p r ih => exact ih _ (Memory.wf_mput (fun _ => 0) m _ _ w)

/-- A word of the Ramekin region. -/
theorem setRkWord_wf (s : Body) (n : Nat) (x : Word) (w : Memory.wf (fun k => s.rkPattern (8 * k)) s.rk.words = true) :
    Memory.wf (fun k => s.rkPattern (8 * k)) (s.setRkWord n x).rk.words = true :=
  Memory.wf_mput (fun k => s.rkPattern (8 * k)) s.rk.words n x w

/-- A byte of the Ramekin region. -/
theorem setRkByte_wf (s : Body) (r v : Nat) (w : Memory.wf (fun k => s.rkPattern (8 * k)) s.rk.words = true) :
    Memory.wf (fun k => s.rkPattern (8 * k)) (s.setRkByte r v).rk.words = true :=
  setRkWord_wf s _ _ w

/-- The memories after reset have the form. -/
theorem reset_memories_wf :
    Memory.wf (fun _ => (0 : Word)) State.reset.body.regs = true ∧ Memory.wf (fun _ => (0 : Word)) State.reset.body.cf.words = true
    ∧ Memory.wf (fun _ => (0 : Word)) State.reset.body.rack.cells = true
    ∧ Memory.wf (fun k => State.reset.body.rkPattern (8 * k)) State.reset.body.rk.words = true := by
  refine ⟨by decide, rfl, rfl, rfl⟩

end Sys2Proof.Machine.Body
end

