-- ==== Sys2Proof/Laws/Pass.lean ====
section
/-! SUPPORT. Everything the Pass can do to the state around a command: it leaves the queue of commands and the mark store alone, and adds
stamped events, each above the last, to the history. -/

namespace Sys2Proof.Machine
namespace State

/-- The history of stamped events is in order: PASS_SEQ falls from the newest to the oldest, none above the last one issued. -/
def Ordered (s : State) : Prop := s.pass.log.Pairwise (fun a b => b.seq < a.seq) ∧ ∀ e ∈ s.pass.log, e.seq ≤ s.pass.last

/-- `t` follows `s` by stamping alone, as far as the queue and the history go. -/
structure Follows (s t : State) : Prop where
  pending : t.pending = s.pending
  last : s.pass.last ≤ t.pass.last
  log : ∃ new, t.pass.log = new ++ s.pass.log
  ordered : s.Ordered → t.Ordered

/-- The mark store is as it was. -/
structure SameMark (s t : State) : Prop where
  mark : t.pass.mark = s.pass.mark
  storing : t.pass.storing = s.pass.storing
  ready : t.pass.ready = s.pass.ready
  stall : t.pass.stall = s.pass.stall

theorem Follows.of_same {s t : State} (h1 : t.pending = s.pending) (h2 : t.pass.last = s.pass.last) (h3 : t.pass.log = s.pass.log) :
    Follows s t := by
  refine ⟨h1, by omega, ⟨[], by simp [h3]⟩, ?_⟩
  unfold Ordered
  rw [h2, h3]
  exact id

theorem Follows.trans {s t u : State} (a : Follows s t) (b : Follows t u) : Follows s u := by
  obtain ⟨l1, h1⟩ := a.log
  obtain ⟨l2, h2⟩ := b.log
  exact ⟨b.pending.trans a.pending, Nat.le_trans a.last b.last, ⟨l2 ++ l1, by rw [h2, h1, List.append_assoc]⟩, fun h => b.ordered (a.ordered h)⟩

theorem SameMark.trans {s t u : State} (a : SameMark s t) (b : SameMark t u) : SameMark s u :=
  ⟨b.mark.trans a.mark, b.storing.trans a.storing, b.ready.trans a.ready, b.stall.trans a.stall⟩

/-- The number a stamp gets lies above every earlier one. -/
theorem nextSeq_gt (p : PassSt) : p.last < nextSeq p := by unfold nextSeq; split <;> omega

theorem stamp_follows (s : State) (e : PassEvent) : Follows s (s.stamp e) := by
  have h := nextSeq_gt s.pass
  refine ⟨rfl, Nat.le_of_lt h, ⟨[_], rfl⟩, ?_⟩
  intro ⟨p, q⟩
  refine ⟨List.pairwise_cons.2 ⟨fun x hx => Nat.lt_of_le_of_lt (q x hx) h, p⟩, fun x hx => ?_⟩
  rcases List.mem_cons.1 hx with rfl | hx
  · exact Nat.le_refl _
  · exact Nat.le_trans (q x hx) (Nat.le_of_lt h)

theorem stamp_sameMark (s : State) (e : PassEvent) : SameMark s (s.stamp e) := ⟨rfl, rfl, rfl, rfl⟩

theorem present_follows (s : State) (e : PassEvent) : Follows s (s.present e) ∧ SameMark s (s.present e) := by
  unfold present
  split
  · exact ⟨stamp_follows s e, stamp_sameMark s e⟩
  · dsimp only
    split <;> exact ⟨.of_same rfl rfl rfl, rfl, rfl, rfl, rfl⟩

theorem drainBufs_follows (n : Nat) (s : State) : Follows s (drainBufs n s) ∧ SameMark s (drainBufs n s) := by
  induction n generalizing s with
  | zero => exact ⟨.of_same rfl rfl rfl, rfl, rfl, rfl, rfl⟩
  | succ n ih =>
    unfold drainBufs
    split
    · exact ⟨.of_same rfl rfl rfl, rfl, rfl, rfl, rfl⟩
    · split
      · exact ⟨.of_same rfl rfl rfl, rfl, rfl, rfl, rfl⟩
      · rename_i e _
        have k := ih (({ s with pass := unbuffer s.pass e } : State).stamp e)
        have a : Follows s { s with pass := unbuffer s.pass e } := .of_same rfl rfl rfl
        have m : SameMark s { s with pass := unbuffer s.pass e } := ⟨rfl, rfl, rfl, rfl⟩
        exact ⟨(a.trans (stamp_follows _ e)).trans k.1, (m.trans (stamp_sameMark _ e)).trans k.2⟩

theorem settle_follows (n : Nat) (s : State) : Follows s (settle n s) ∧ SameMark s (settle n s) := by
  induction n generalizing s with
  | zero => exact ⟨.of_same rfl rfl rfl, rfl, rfl, rfl, rfl⟩
  | succ n ih =>
    unfold settle
    split
    · exact ⟨.of_same rfl rfl rfl, rfl, rfl, rfl, rfl⟩
    · rename_i e r _
      have k := ih (({ s with body := { s.body with evs := r } } : State).present e)
      have p := present_follows { s with body := { s.body with evs := r } } e
      have a : Follows s { s with body := { s.body with evs := r } } := .of_same rfl rfl rfl
      have m : SameMark s { s with body := { s.body with evs := r } } := ⟨rfl, rfl, rfl, rfl⟩
      exact ⟨(a.trans p.1).trans k.1, (m.trans p.2).trans k.2⟩

theorem finish_follows (s : State) : Follows s (finish s) :=
  (drainBufs_follows _ s).1.trans (settle_follows _ _).1
theorem finish_sameMark (s : State) : SameMark s (finish s) :=
  (drainBufs_follows _ s).2.trans (settle_follows _ _).2

theorem windowTold_follows (s : State) (old : Body) : Follows s (s.windowTold old) := by
  unfold windowTold
  split
  · exact .of_same rfl rfl rfl
  · have m : Follows s { s with body := { s.body with evs := s.body.evs ++ Body.windowEvents old s.body } } := .of_same rfl rfl rfl
    exact m.trans (finish_follows _)

/-- What the Pass makes of a command's effect on the units. -/
theorem taken_follows (s : State) (b : Body) : Follows s (s.taken b) := by
  have m : Follows s { s with body := b } := .of_same rfl rfl rfl
  exact (m.trans (finish_follows _)).trans (windowTold_follows _ s.body)

/-- A reset keeps the queue and the history. -/
theorem reset__follows (s : State) (power : Bool) (cause : Nat) (bad corrected : List Nat) :
    Follows s (s.reset_ power cause bad corrected) := .of_same rfl rfl rfl

theorem powerLost_follows (s : State) : Follows s s.powerLost := .of_same rfl rfl rfl

/-- What the other units and the Pass make of a command's effect. -/
theorem settled_follows (s : State) (b : Body) : Follows s (s.settled b) := by
  unfold settled
  have k := taken_follows s b.unitsRun
  dsimp only
  split
  · exact k
  · rename_i cause _
    exact (k.trans (reset__follows _ false cause [] [])).trans (finish_follows _)

end State
end Sys2Proof.Machine
end

