-- ==== Sys2Proof/Tests/Slice0.lean ====
section
/-! SUPPORT. The model's own tests: well-formedness, small tests of one step, and for every statement with hypotheses a theorem that shows
states and operands meeting them. -/

namespace Sys2Proof.Tests

open Sys2Proof.Machine Sys2Proof.Stmt

set_option maxRecDepth 8000
set_option linter.unusedVariables false

/-! ## Well-formed commands -/

/-- Every command has well-formed operands (1). -/
theorem test_wf_takes_1 : (([
    .registerWrite .firmware 0 0 0, .frameTick ⟨false, 0, 0, 0⟩, .planFreeze, .admissionCutChange, .passOverflow 0, .passMarkStore,
    .passMarkStall, .passMarkStoreDone, .unitEnable .firmware 0, .unitDisable .firmware 0, .unitStartDone 0 0 .plain, .unitStartFail 0 0,
    .unitStopDone 0, .unitFaultStop 0, .trefLost, .ptpMessage 0 0 0 0 false none none, .tsyncInEdge 0, .tsyncFault 0, .epochPulse,
    .discoveryBeaconRx ⟨0x5342, 1, 0, 1, 0, 0, 0, 0, 0, 0, 0, 0, 0, 0⟩ 0 false, .peerLost 0, .phaseMeasurement 0, .syncLocked,
    .referenceLost, .holdoverExceeded, .referenceRegained 0, .timeFreezeSet .firmware, .timeFreezeClear .firmware, .slotCheckA .firmware,
    .slotCheckB .firmware, .slotCheckDone ⟨none, false⟩, .changeRequest .firmware 0 false, .changeCancel .firmware,
    .changeCheckDone ⟨none, false⟩, .changeAgreementCheck, .changeQuiesce, .changeApply, .svnCommit .firmware, .recoveryImageWrite 0 [],
    .purgeDone, .placeModeWrite .firmware 0 0, .promoteFilterDecay, .pinFillGranule 0, .xlateSnapshot .firmware 0, .assistTimeout 0,
    .noTwinReadBound 0, .ncFill 0, .ncRepairRequest 0, .colanderAccept 0, .ncFlush .firmware false, .ncInvalidate .firmware false,
    .ncFlushInvalidate .firmware false, .ncOpDone, .ncMrSnapshot .firmware 0, .ncColSnapshot .firmware 0, .channelSetFix, .writeBackDone 0,
    .refreshRound 0 false, .neighbourRefresh 0 0 0, .caParityAlert 0 0, .freezeHoldExpire 0 0, .thaw .firmware 0, .thawDone 0 false 0,
    .declareLost .firmware 0, .fillGo .firmware 0, .fillDone, .scrubGo .firmware, .scrubDone [] [] 0, .mediaReadData (.miss 0) none none,
    .mapReadData 0 false false, .programStatus 0 0 false, .mediaAlert 0 0, .strobeRecentre 0 false, .retrain .firmware 0 0 0,
    .format .firmware 0 0, .formatDone 0 0 0, .mapEntryWriteback 0, .mapFlush .firmware, .relocationDone 0, .disturbDecay,
    .scourerVisit 0 [], .untrustRuleClear .firmware 0, .pfailNAssert, .pfailStopAdmission] : List Instr).all (·.wf)) = true := by decide

/-- Every command has well-formed operands (2). -/
theorem test_wf_takes_2 : (([
    .pfailCommit, .vaultWrite, .vaultSealed 0, .replayDone, .acceptLoss .firmware, .leaseStop, .mirrorSegmentSend, .sealSend,
    .segmentRx ⟨0, 0, true⟩ ⟨0, 0, 0, []⟩, .sealRx ⟨0, 0, true⟩ ⟨0, 0, 0, 0, 0⟩, .ackRx ⟨0, 0, true⟩ 0 0, .heartbeatSend 0,
    .heartbeatRx ⟨0, 0, true⟩ {} 0, .heartbeatMiss64, .assistReqRx ⟨0, 0, true⟩ 0 .planned 0 {}, .assistRespRx ⟨0, 0, true⟩ 0 0 0 [],
    .resyncStartRx ⟨0, 0, true⟩ 0, .resyncLogRx ⟨0, 0, true⟩ 0 [], .resyncDoneRx ⟨0, 0, true⟩, .resyncAbortRx ⟨0, 0, true⟩,
    .twinNakRx ⟨0, 0, true⟩ 0 0, .helloRx ⟨0, 0, true⟩ ⟨0, 0, 0, 0, 0, 0⟩, .relayRx ⟨0, 0, true⟩ ⟨3, 0, 0, 0, 0, 0, 0, 0, 0, 0, 0, 0⟩ 0 0,
    .twinLinkTrain false false, .twinLinkDown, .twinGroupFallback false, .mainStable, .groupRevert, .leaseRenew, .trivetRequestTimeout 0,
    .trivetGrantRx ⟨3, 0, 0, 0, 0, 0, 0, 0, 0, 0, 0, 0⟩ 0 0 0, .trivetRefuseRx ⟨3, 0, 0, 0, 0, 0, 0, 0, 0, 0, 0, 0⟩ 0 0 0, .leaseExpire,
    .handoff .firmware, .handoffRelease, .forceSolo .firmware, .pairWaitExpire, .switchFrame, .switchFrameDefer,
    .witnessRenewRx ⟨3, 0, 0, 0, 0, 0, 0, 0, 0, 0, 0, 0⟩ 0, .witnessRequestRx ⟨3, 0, 0, 0, 0, 0, 0, 0, 0, 0, 0, 0⟩ 0,
    .witnessReleaseRx ⟨3, 0, 0, 0, 0, 0, 0, 0, 0, 0, 0, 0⟩ 0, .witnessLeaseEnd 0 0, .witnessStartHoldEnd,
    .memRd 0 0 0 0 ⟨false, .good, false, false, false⟩, .memRdData 0 0 0 0 ⟨false, .good, false, false, false⟩,
    .memSpecRd 0 0 0 ⟨false, .good, false, false, false⟩, .memInv 0 0 0, .memInvNt 0 0 0, .memClnEvct 0 0 0, .memWr 0 0 0 0 0,
    .memWrPtl 0 0 0 0 0 0, .cxlBadOpcode 0, .gpfPhase1 0 0, .gpfPhase2 0 0, .hdmDecoderCommit 0 0 0 0 0 0 0 0 false, .memEnableSet 0 0,
    .cxlLinkUp 0 0 0 false, .cxlLinkDown 0, .cxlFlr 0 0, .ideMacFail 0, .ideKeyExchange 0 false, .rdQuotaWrite .firmware 0 0,
    .cxpHdmSnapshot .firmware 0 0 0, .identify 0 0, .backgroundOperationStatus 0 0, .getSupportedLogs 0 0, .getLog 0 0 false,
    .getEventRecords 0 0 0, .clearEventRecords 0 0 0 false [], .getEventInterruptPolicy 0 0, .setEventInterruptPolicy 0 0 0,
    .getFwInfo 0 0, .getTimestamp 0 0, .setTimestamp 0 0 0, .identifyMemoryDevice 0 0, .getPartitionInfo 0 0, .getHealthInfo 0 0,
    .getAlertConfiguration 0 0, .setAlertConfiguration 0 0 0 0 [], .getShutdownState 0 0, .setShutdownState 0 0 false,
    .getPoisonList 0 0 0 0, .poisonListDone 0 0] : List Instr).all (·.wf)) = true := by decide

/-- Every command has well-formed operands (3). -/
theorem test_wf_takes_3 : (([
    .mailboxUnsupported 0 0 0, .getLdInfo 0, .getLdAllocations 0, .setLdAllocations 0, .qosStatus 0, .doeDiscovery 0 0 0,
    .cdatTableAccess 0 0, .ethLinkUp 0, .ethLinkDown 0 0, .cmReq 0 ⟨0, 0, 0, 0, some ⟨0, 0, 0⟩⟩, .cmRtu 0, .cmRep 0 0 0, .cmDreq 0,
    .mraTimeout 0, .qpErrorTimeout 0, .rdmaWrite 0 0 0 false none false [], .rdmaWriteImm 0 0 0 false none 0 [],
    .rdmaRead 0 0 0 false ⟨0, 0, 0⟩, .compareSwap 0 0 0 false 0 0 0 0, .fetchAdd 0 0 0 false 0 0 0, .rdmaSend 0 0 0 false false false [],
    .sprayWrite 0 0 0 false ⟨0, 0, 0, true, 0, 0, 1⟩ [], .sprayWriteImm 0 0 0 false ⟨0, 0, 0, true, 0, 0, 1⟩ [], .reorderTimer 0,
    .rdmaAckRx 0 0 0 .ack, .readResponseRx 0 0 0 [], .sackRx 0 0 0 [], .poisonNakRx 0 0 0 0 0 0, .cnpRx 0 0, .dcqcnRecovery 0,
    .retransmitTimeout 0, .rdmaConnect .firmware 0, .rdmaAccept .firmware 0, .rdmaReject .firmware 0, .rdmaDisconnect .firmware 0,
    .regCreate .firmware 0, .regDereg .firmware 0, .regDeregDone 0, .trigSet .firmware 0, .pdSet .firmware 0, .rdmaDoorbell .firmware 0,
    .rdmaPeek .firmware 0 0, .rkAlloc .firmware 0 0 0 0 false, .rkFree .firmware 0 0 0 false false, .rkCacheRefill 0 false,
    .rkRebuild .firmware 0, .rkRebuildDone 0 [], .rkPeek .firmware 0 0, .qCfgWrite .firmware 0, .qPush .firmware 0 0, .qGapMarker 0,
    .qPop .firmware 0 false, .qFlush .firmware 0, .qWinSnapshot .firmware 0 0 false, .schedTblWrite .firmware, .schedTblSnapshot .firmware,
    .schedTblCancel .firmware, .schedStageStart 0, .schedRoom 0, .schedStagingReadDone 0 0 .good [] 0, .readyBeaconSend 0,
    .readyBeaconRx ⟨0x5342, 1, 0, 0, 1, 0, 0, 0, 0, 0, 0, false, false, 0, 0, 0⟩ false, .schedLaunch 0, .schedAbandon 0,
    .schedChunkRelease 0, .schedRecordSend 0 0, .schedCatchupExpire 0, .keyInstall .firmware none false false false,
    .keyDiscardNext .firmware, .keyActivate, .fuseProgram .firmware 0, .fuseRevoke .firmware 0, .jobExport .firmware 0,
    .jobImport .firmware 0, .jobAbort .firmware 0, .jobDone 0 false, .markDone, .untrustSet .firmware, .untrustClr .firmware 0,
    .untrustSnapshot .firmware 0, .keySlotSnapshot .firmware 0, .fwMeasureExtend .firmware, .dbgNewChallenge .firmware,
    .dbgSubmit .firmware 0 none false] : List Instr).all (·.wf)) = true := by decide

/-- Every command has well-formed operands (4). -/
theorem test_wf_takes_4 : (([
    .spdmGetVersion, .spdmGetCapabilities, .spdmNegotiateAlgorithms false, .spdmGetDigests, .spdmGetCertificate 0 0 0,
    .spdmChallenge 0 false, .spdmGetMeasurements 0 false false, .spdmKeyExchange 0, .spdmFinish 0 false, .spdmEndSession 0,
    .coreRunSet .firmware 0, .coreRunClear .firmware 0, .coreReset .firmware 0, .tcmClear .firmware 0, .tcmClearDone 0,
    .coreNmi .firmware 0, .evqPop .firmware 0, .evqFlush .firmware 0, .mtimecmpMatch 0, .keeperCoreHalt 0, .keeperTakeover 0, .debugHalt 0,
    .debugResume 0, .debugAbstractCommand 0 (.readReg 0), .cfProgram .firmware, .cfProgramDone 0, .cfErase .firmware, .cfEraseDone 0 0,
    .cfHash .firmware, .cfHashDone 0, .flashRead .debug 0, .eraseResume, .eraseStarved, .rackBurstStart 0, .rackBurstDone,
    .operatingSecond, .rackSnapshot .firmware 0 .good, .rackFwCmd .firmware 0 0, .spikeFlushRequest .firmware, .spikeFlushDone false 0,
    .spikeFreeze .firmware, .spikeUnfreeze .firmware, .spikeFreezeMax, .spikeStep .firmware, .spikeCursorWrite .firmware 0,
    .spikeClearChallenge .firmware, .spikeClearSubmit .firmware none false, .spikeClearDone, .adcConversion 0 0 0, .railEnable 0,
    .railPgChange 0 false, .railUp 0 0, .railFailUp 0 0, .railDownTimeout 0 0, .railPgLost 0 0, .railRetry .firmware 0,
    .railSkipWait .firmware 0, .hobOn .firmware, .hobOff .firmware, .inputReturn, .resetRelease 0, .resetPulse .firmware 0,
    .thermalSample .die 0 none 0, .thermalTrip, .powerOnReset [] [], .alwaysOnLoss, .bootImageLoaded ⟨none, false⟩ ⟨none, false⟩ 0 0,
    .bootHobUp 0, .bootRelease 0, .sysrstN, .systemReset .firmware, .warmRestart .firmware, .wdtKick .firmware, .wdtExpire,
    .stateSnap .firmware false [], .stateSnapDone false [], .coreMemoryAccess 0 .load 0 8 0 .good, .ethFrameDiscard 0, .ptpLost,
    .trefReturn] : List Instr).all (·.wf)) = true := by decide

/-- Every check of an operand refuses one that fails it alone (1). -/
theorem test_wf_refuses_1 : (([
    .registerWrite (.host 16 0) 0 0 0, .registerWrite .firmware 0 9 0, .passOverflow 88, .unitEnable (.host 16 0) 0,
    .unitEnable .firmware 80, .unitDisable (.host 16 0) 0, .unitDisable .firmware 80, .unitStartDone 80 0 .plain,
    .unitStartDone 0 (2 ^ 32) .plain, .unitStartFail 80 0, .unitStopDone 80, .unitFaultStop 80, .ptpMessage 16 0 0 0 false none none,
    .discoveryBeaconRx ⟨0x5342, 1, 0, 1, 0, 0, 0, 0, 0, 0, 0, 0, 0, 0⟩ 88 false, .timeFreezeSet (.host 16 0),
    .timeFreezeClear (.host 16 0), .slotCheckA (.host 16 0), .slotCheckB (.host 16 0), .changeRequest (.host 16 0) 0 false,
    .changeCancel (.host 16 0), .svnCommit (.host 16 0), .placeModeWrite (.host 16 0) 0 0, .placeModeWrite .firmware 256 0,
    .xlateSnapshot (.host 16 0) 0, .xlateSnapshot .firmware (2 ^ 41), .noTwinReadBound 4096, .ncFill 4096, .ncRepairRequest (2 ^ 41),
    .colanderAccept 512, .ncFlush (.host 16 0) false, .ncInvalidate (.host 16 0) false, .ncFlushInvalidate (.host 16 0) false,
    .ncMrSnapshot (.host 16 0) 0, .ncMrSnapshot .firmware 4096, .ncColSnapshot (.host 16 0) 0, .ncColSnapshot .firmware 512,
    .refreshRound 12 false, .neighbourRefresh 12 0 0, .neighbourRefresh 0 32 0, .caParityAlert 12 0, .freezeHoldExpire 12 0,
    .freezeHoldExpire 0 4096, .thaw (.host 16 0) 0, .thaw .firmware 12, .thawDone 12 false 0, .thawDone 0 false (2 ^ 32),
    .declareLost (.host 16 0) 0, .declareLost .firmware 12, .fillGo (.host 16 0) 0, .fillGo .firmware 4096, .scrubGo (.host 16 0),
    .mediaAlert 32 0, .mediaAlert 0 3, .strobeRecentre 32 false, .retrain (.host 16 0) 0 0 0, .retrain .firmware 32 0 0,
    .retrain .firmware 0 16 0, .format (.host 16 0) 0 0, .format .firmware 32 0, .format .firmware 0 4, .formatDone 32 0 0,
    .formatDone 0 2 0, .mapFlush (.host 16 0), .scourerVisit 32 [], .untrustRuleClear (.host 16 0) 0, .vaultSealed (2 ^ 32),
    .acceptLoss (.host 16 0), .assistReqRx ⟨0, 0, true⟩ 0 .planned (2 ^ 41) {}, .trivetGrantRx ⟨3, 0, 0, 0, 0, 0, 0, 0, 0, 0, 0, 0⟩ 8 0 0,
    .trivetRefuseRx ⟨3, 0, 0, 0, 0, 0, 0, 0, 0, 0, 0, 0⟩ 8 0 0, .handoff (.host 16 0), .forceSolo (.host 16 0), .witnessLeaseEnd 4096 0,
    .witnessLeaseEnd 0 4096, .memRd 16 0 0 0 ⟨false, .good, false, false, false⟩, .memRd 0 16 0 0 ⟨false, .good, false, false, false⟩,
    .memRd 0 0 (2 ^ 16) 0 ⟨false, .good, false, false, false⟩, .memRd 0 0 0 (2 ^ 52) ⟨false, .good, false, false, false⟩,
    .memRdData 16 0 0 0 ⟨false, .good, false, false, false⟩, .memRdData 0 16 0 0 ⟨false, .good, false, false, false⟩,
    .memRdData 0 0 (2 ^ 16) 0 ⟨false, .good, false, false, false⟩, .memRdData 0 0 0 (2 ^ 52) ⟨false, .good, false, false, false⟩,
    .memSpecRd 16 0 0 ⟨false, .good, false, false, false⟩, .memSpecRd 0 16 0 ⟨false, .good, false, false, false⟩] : List Instr).any (·.wf)) = false := by decide

/-- Every check of an operand refuses one that fails it alone (2). -/
theorem test_wf_refuses_2 : (([
    .memSpecRd 0 0 (2 ^ 52) ⟨false, .good, false, false, false⟩, .memInv 16 0 0, .memInv 0 16 0, .memInv 0 0 (2 ^ 16), .memInvNt 16 0 0,
    .memInvNt 0 16 0, .memInvNt 0 0 (2 ^ 16), .memClnEvct 16 0 0, .memClnEvct 0 16 0, .memClnEvct 0 0 (2 ^ 16), .memWr 16 0 0 0 0,
    .memWr 0 16 0 0 0, .memWr 0 0 (2 ^ 16) 0 0, .memWr 0 0 0 (2 ^ 52) 0, .memWrPtl 16 0 0 0 0 0, .memWrPtl 0 16 0 0 0 0,
    .memWrPtl 0 0 (2 ^ 16) 0 0 0, .memWrPtl 0 0 0 (2 ^ 52) 0 0, .cxlBadOpcode 16, .gpfPhase1 16 0, .gpfPhase1 0 (2 ^ 16), .gpfPhase2 16 0,
    .gpfPhase2 0 (2 ^ 16), .hdmDecoderCommit 16 0 0 0 0 0 0 0 false, .hdmDecoderCommit 0 16 0 0 0 0 0 0 false,
    .hdmDecoderCommit 0 0 2 0 0 0 0 0 false, .hdmDecoderCommit 0 0 0 (2 ^ 36) 0 0 0 0 false,
    .hdmDecoderCommit 0 0 0 0 (2 ^ 36) 0 0 0 false, .hdmDecoderCommit 0 0 0 0 0 (2 ^ 36) 0 0 false,
    .hdmDecoderCommit 0 0 0 0 0 0 16 0 false, .hdmDecoderCommit 0 0 0 0 0 0 0 16 false, .memEnableSet 16 0, .memEnableSet 0 16,
    .cxlLinkUp 16 0 0 false, .cxlLinkUp 0 5 0 false, .cxlLinkUp 0 0 65 false, .cxlLinkDown 16, .cxlFlr 16 0, .cxlFlr 0 16, .ideMacFail 16,
    .ideKeyExchange 16 false, .rdQuotaWrite (.host 16 0) 0 0, .rdQuotaWrite .firmware 16 0, .rdQuotaWrite .firmware 0 8192,
    .cxpHdmSnapshot (.host 16 0) 0 0 0, .cxpHdmSnapshot .firmware 16 0 0, .cxpHdmSnapshot .firmware 0 16 0,
    .cxpHdmSnapshot .firmware 0 0 2, .identify 16 0, .identify 0 16, .backgroundOperationStatus 16 0, .backgroundOperationStatus 0 16,
    .getSupportedLogs 16 0, .getSupportedLogs 0 16, .getLog 16 0 false, .getLog 0 16 false, .getEventRecords 16 0 0,
    .getEventRecords 0 16 0, .getEventRecords 0 0 4, .clearEventRecords 16 0 0 false [], .clearEventRecords 0 16 0 false [],
    .clearEventRecords 0 0 4 false [], .getEventInterruptPolicy 16 0, .getEventInterruptPolicy 0 16, .setEventInterruptPolicy 16 0 0,
    .setEventInterruptPolicy 0 16 0, .setEventInterruptPolicy 0 0 (2 ^ 32), .getFwInfo 16 0, .getFwInfo 0 16, .getTimestamp 16 0,
    .getTimestamp 0 16, .setTimestamp 16 0 0, .setTimestamp 0 16 0, .setTimestamp 0 0 (2 ^ 64), .identifyMemoryDevice 16 0,
    .identifyMemoryDevice 0 16, .getPartitionInfo 16 0, .getPartitionInfo 0 16, .getHealthInfo 16 0, .getHealthInfo 0 16,
    .getAlertConfiguration 16 0, .getAlertConfiguration 0 16, .setAlertConfiguration 16 0 0 0 [], .setAlertConfiguration 0 16 0 0 []] : List Instr).any (·.wf)) = false := by decide

/-- Every check of an operand refuses one that fails it alone (3). -/
theorem test_wf_refuses_3 : (([
    .getShutdownState 16 0, .getShutdownState 0 16, .setShutdownState 16 0 false, .setShutdownState 0 16 false, .getPoisonList 16 0 0 0,
    .getPoisonList 0 16 0 0, .poisonListDone 16 0, .poisonListDone 0 16, .mailboxUnsupported 16 0 0, .mailboxUnsupported 0 16 0,
    .getLdInfo 16, .getLdAllocations 16, .setLdAllocations 16, .qosStatus 16, .doeDiscovery 16 0 0, .doeDiscovery 0 16 0,
    .cdatTableAccess 16 0, .cdatTableAccess 0 16, .ethLinkUp 8, .ethLinkDown 8 0, .cmReq 8 ⟨0, 0, 0, 0, some ⟨0, 0, 0⟩⟩, .cmRtu 16777216,
    .cmRep 16777216 0 0, .cmRep 0 (2 ^ 24) 0, .cmRep 0 0 (2 ^ 24), .cmDreq 16777216, .mraTimeout 16777216, .qpErrorTimeout 16777216,
    .rdmaWrite 8 0 0 false none false [], .rdmaWrite 0 (2 ^ 24) 0 false none false [], .rdmaWrite 0 0 (2 ^ 24) false none false [],
    .rdmaWriteImm 8 0 0 false none 0 [], .rdmaWriteImm 0 (2 ^ 24) 0 false none 0 [], .rdmaWriteImm 0 0 (2 ^ 24) false none 0 [],
    .rdmaWriteImm 0 0 0 false none (2 ^ 32) [], .rdmaRead 8 0 0 false ⟨0, 0, 0⟩, .rdmaRead 0 (2 ^ 24) 0 false ⟨0, 0, 0⟩,
    .rdmaRead 0 0 (2 ^ 24) false ⟨0, 0, 0⟩, .compareSwap 8 0 0 false 0 0 0 0, .compareSwap 0 (2 ^ 24) 0 false 0 0 0 0,
    .compareSwap 0 0 (2 ^ 24) false 0 0 0 0, .compareSwap 0 0 0 false (2 ^ 64) 0 0 0, .compareSwap 0 0 0 false 0 (2 ^ 32) 0 0,
    .compareSwap 0 0 0 false 0 0 (2 ^ 64) 0, .compareSwap 0 0 0 false 0 0 0 (2 ^ 64), .fetchAdd 8 0 0 false 0 0 0,
    .fetchAdd 0 (2 ^ 24) 0 false 0 0 0, .fetchAdd 0 0 (2 ^ 24) false 0 0 0, .fetchAdd 0 0 0 false (2 ^ 64) 0 0,
    .fetchAdd 0 0 0 false 0 (2 ^ 32) 0, .fetchAdd 0 0 0 false 0 0 (2 ^ 64), .rdmaSend 8 0 0 false false false [],
    .rdmaSend 0 (2 ^ 24) 0 false false false [], .rdmaSend 0 0 (2 ^ 24) false false false [],
    .sprayWrite 8 0 0 false ⟨0, 0, 0, true, 0, 0, 1⟩ [], .sprayWrite 0 (2 ^ 24) 0 false ⟨0, 0, 0, true, 0, 0, 1⟩ [],
    .sprayWrite 0 0 (2 ^ 24) false ⟨0, 0, 0, true, 0, 0, 1⟩ [], .sprayWriteImm 8 0 0 false ⟨0, 0, 0, true, 0, 0, 1⟩ [],
    .sprayWriteImm 0 (2 ^ 24) 0 false ⟨0, 0, 0, true, 0, 0, 1⟩ [], .sprayWriteImm 0 0 (2 ^ 24) false ⟨0, 0, 0, true, 0, 0, 1⟩ [],
    .reorderTimer 16777216, .rdmaAckRx 8 0 0 .ack, .rdmaAckRx 0 (2 ^ 24) 0 .ack, .rdmaAckRx 0 0 (2 ^ 24) .ack, .readResponseRx 8 0 0 [],
    .readResponseRx 0 (2 ^ 24) 0 [], .readResponseRx 0 0 (2 ^ 24) [], .sackRx 8 0 0 [], .sackRx 0 (2 ^ 24) 0 [], .sackRx 0 0 (2 ^ 24) [],
    .poisonNakRx 8 0 0 0 0 0, .poisonNakRx 0 (2 ^ 24) 0 0 0 0, .poisonNakRx 0 0 (2 ^ 24) 0 0 0, .poisonNakRx 0 0 0 (2 ^ 32) 0 0,
    .poisonNakRx 0 0 0 0 (2 ^ 32) 0, .poisonNakRx 0 0 0 0 0 (2 ^ 32), .cnpRx 8 0, .cnpRx 0 (2 ^ 24), .dcqcnRecovery 16777216,
    .retransmitTimeout 16777216, .rdmaConnect (.host 16 0) 0, .rdmaConnect .firmware 16777216, .rdmaAccept (.host 16 0) 0,
    .rdmaAccept .firmware 16777216] : List Instr).any (·.wf)) = false := by decide

/-- Every check of an operand refuses one that fails it alone (4). -/
theorem test_wf_refuses_4 : (([
    .rdmaReject (.host 16 0) 0, .rdmaReject .firmware 16777216, .rdmaDisconnect (.host 16 0) 0, .rdmaDisconnect .firmware 16777216,
    .regCreate (.host 16 0) 0, .regCreate .firmware (2 ^ 24), .regDereg (.host 16 0) 0, .regDereg .firmware (2 ^ 24),
    .regDeregDone 1048576, .trigSet (.host 16 0) 0, .trigSet .firmware 4096, .pdSet (.host 16 0) 0, .pdSet .firmware 4096,
    .rdmaDoorbell (.host 16 0) 0, .rdmaDoorbell .firmware 16777216, .rdmaPeek (.host 16 0) 0 0, .rdmaPeek .firmware 4 0,
    .rdmaPeek .firmware 0 (2 ^ 24), .rkAlloc (.host 16 0) 0 0 0 0 false, .rkAlloc .firmware 16 0 0 0 false,
    .rkAlloc .firmware 0 (2 ^ 19) 0 0 false, .rkAlloc .firmware 0 0 16 0 false, .rkAlloc .firmware 0 0 0 256 false,
    .rkFree (.host 16 0) 0 0 0 false false, .rkFree .firmware 16 0 0 false false, .rkFree .firmware 0 (2 ^ 36) 0 false false,
    .rkFree .firmware 0 0 16 false false, .rkCacheRefill 6 false, .rkRebuild (.host 16 0) 0, .rkRebuild .firmware 8, .rkRebuildDone 6 [],
    .rkPeek (.host 16 0) 0 0, .rkPeek .firmware 8 0, .rkPeek .firmware 0 64, .qCfgWrite (.host 16 0) 0, .qPush (.host 16 0) 0 0,
    .qPush .firmware 256 0, .qGapMarker 4096, .qPop (.host 16 0) 0 false, .qPop .firmware 256 false, .qFlush (.host 16 0) 0,
    .qFlush .firmware 256, .qWinSnapshot (.host 16 0) 0 0 false, .qWinSnapshot .firmware 4096 0 false, .schedTblWrite (.host 16 0),
    .schedTblSnapshot (.host 16 0), .schedTblCancel (.host 16 0), .schedStageStart 4096, .schedRoom 4096,
    .schedStagingReadDone 4096 0 .good [] 0, .readyBeaconSend 4096, .schedLaunch 4096, .schedAbandon 4096, .schedChunkRelease 4096,
    .schedRecordSend 4096 0, .schedCatchupExpire 4096, .keyInstall (.host 16 0) none false false false, .keyDiscardNext (.host 16 0),
    .fuseProgram (.host 16 0) 0, .fuseProgram .firmware 8, .fuseRevoke (.host 16 0) 0, .fuseRevoke .firmware 8, .jobExport (.host 16 0) 0,
    .jobExport .firmware 2, .jobImport (.host 16 0) 0, .jobImport .firmware 2, .jobAbort (.host 16 0) 0, .jobAbort .firmware 2,
    .jobDone 2 false, .untrustSet (.host 16 0), .untrustClr (.host 16 0) 0, .untrustClr .firmware 64, .untrustSnapshot (.host 16 0) 0,
    .untrustSnapshot .firmware 64, .keySlotSnapshot (.host 16 0) 0, .keySlotSnapshot .firmware 128, .fwMeasureExtend (.host 16 0),
    .dbgNewChallenge (.host 16 0), .dbgSubmit (.host 16 0) 0 none false, .dbgSubmit .firmware 4 none false, .coreRunSet (.host 16 0) 0,
    .coreRunSet .firmware 16, .coreRunClear (.host 16 0) 0, .coreRunClear .firmware 16] : List Instr).any (·.wf)) = false := by decide

/-- Every check of an operand refuses one that fails it alone (5). -/
theorem test_wf_refuses_5 : (([
    .coreReset (.host 16 0) 0, .coreReset .firmware 16, .tcmClear (.host 16 0) 0, .tcmClear .firmware 16, .tcmClearDone 16,
    .coreNmi (.host 16 0) 0, .coreNmi .firmware 16, .evqPop (.host 16 0) 0, .evqPop .firmware 16, .evqFlush (.host 16 0) 0,
    .evqFlush .firmware 16, .mtimecmpMatch 16, .keeperCoreHalt 2, .keeperTakeover 2, .debugHalt 16, .debugResume 16,
    .debugAbstractCommand 16 (.readReg 0), .cfProgram (.host 16 0), .cfErase (.host 16 0), .cfHash (.host 16 0),
    .rackSnapshot (.host 16 0) 0 .good, .rackSnapshot .firmware 1048576 .good, .rackFwCmd (.host 16 0) 0 0, .rackFwCmd .firmware 1048576 0,
    .rackFwCmd .firmware 0 128, .spikeFlushRequest (.host 16 0), .spikeFlushDone false (2 ^ 32), .spikeFreeze (.host 16 0),
    .spikeUnfreeze (.host 16 0), .spikeStep (.host 16 0), .spikeCursorWrite (.host 16 0) 0, .spikeClearChallenge (.host 16 0),
    .spikeClearSubmit (.host 16 0) none false, .adcConversion 24 0 0, .adcConversion 0 4096 0, .adcConversion 0 0 (2 ^ 32), .railEnable 24,
    .railPgChange 24 false, .railUp 24 0, .railUp 0 (2 ^ 32), .railFailUp 24 0, .railFailUp 0 (2 ^ 32), .railDownTimeout 24 0,
    .railDownTimeout 0 (2 ^ 32), .railPgLost 24 0, .railPgLost 0 (2 ^ 32), .railRetry (.host 16 0) 0, .railRetry .firmware 24,
    .railSkipWait (.host 16 0) 0, .railSkipWait .firmware 24, .hobOn (.host 16 0), .hobOff (.host 16 0), .resetRelease 8,
    .resetPulse (.host 16 0) 0, .resetPulse .firmware 8, .thermalSample .die 64 none 0,
    .bootImageLoaded ⟨none, false⟩ ⟨none, false⟩ (2 ^ 32) 0, .bootImageLoaded ⟨none, false⟩ ⟨none, false⟩ 0 (2 ^ 32), .bootHobUp (2 ^ 32),
    .bootRelease (2 ^ 32), .systemReset (.host 16 0), .warmRestart (.host 16 0), .wdtKick (.host 16 0), .stateSnap (.host 16 0) false [],
    .coreMemoryAccess 16 .load 0 8 0 .good, .coreMemoryAccess 0 .load 0 3 0 .good, .ethFrameDiscard 8] : List Instr).any (·.wf)) = false := by decide

/-! ## Helpers -/

/-- The state after reset with other units. -/
def st (f : Body → Body) : State := { State.reset with body := f State.reset.body }
/-- The units after reset, altered. -/
def bd (f : Body → Body) : Body := f State.reset.body

/-- The state a command leads to, or the state itself where it stops. -/
def next (c : Instr) (s : State) : State :=
  match exec c s with
  | .next t => t
  | _ => s

/-! ## Small tests of one step; the expected values are the spec's worked examples, its tables, or worked out by hand from the rules cited -/

/-- An empty queue idles. -/
theorem test_step_idles : step State.reset = .next State.reset := rfl

/-- R303, the table of buffers: B for 1,024 MiB of 256 B, 2,048 MiB of 1 KiB, 5,120 MiB of 256 KiB. -/
theorem test_ramekin_counts :
    (bd fun b => b.put (F.RK_POOL_CFG_MIB 0) 1024).rkCount 0 = 4177983
    ∧ (bd fun b => b.put (F.RK_POOL_CFG_MIB 1) 2048).rkCount 1 = 2095105
    ∧ (bd fun b => b.put (F.RK_POOL_CFG_MIB 5) 5120).rkCount 5 = 20479 := by decide

/-- Pool 5 of R303: minima 1,024, 4,096 and 8,192 of owners 0, 12 and 13, which hold 9,000, 1,000 and 9,000; FREE is 1,479. -/
def pool5 : Body := bd fun b =>
  { b.put (F.UNIT_STATE_STATE U.ramekin) 2 |>.put (F.RK_POOL_CFG_MIB 5) 5120 |>.put (F.RK_MIN_MIN 0 5) 1024 |>.put (F.RK_MIN_MIN 12 5) 4096
      |>.put (F.RK_MIN_MIN 13 5) 8192 |>.put (F.UNIT_STATE_STATE (U.sp 0)) 2 with
    rk := { pools := [(5, { hwm := 19000 })], held := [(5, 9000), (77, 1000), (83, 9000)] }
    sp := { set := some [0] } }

/-- R303, the table of requesters: owner 12 succeeds from pool 5, owner 13 and owner 0 get RESERVE. -/
theorem test_ramekin_reserve :
    (pool5.rkAlloc (200 * 1024) 12).2 = (5 + 19000 * 2 ^ 8, 0) ∧ (pool5.rkAlloc (256 * 1024) 13).2.2 = 2
    ∧ (pool5.rkAlloc (130 * 1024) 0).2.2 = 2 := by decide

/-- R22: at the end of the 8th consecutive overrun frame a raise is due, at the end of the 64th clean frame a lowering; the change makes it. -/
theorem test_overrun_cut :
    (next (.frameTick ⟨true, 0, 0, 0⟩) (st fun b => { b.put (F.UNIT_STATE_STATE U.time) 2 with frame.ovrRun := 7 })).body.frame.cutDue = 1
    ∧ (next (.frameTick ⟨false, 0, 0, 0⟩) (st fun b => { b.put (F.UNIT_STATE_STATE U.time) 2 |>.put F.FRAME_OVR_STATUS_AUTO_LEVEL 1 with
        frame.cleanRun := 63 })).body.frame.cutDue = 2
    ∧ (next .admissionCutChange (st fun b => { b.put (F.UNIT_STATE_STATE U.time) 2 with frame.cutDue := 1 })).body.get
        F.FRAME_OVR_STATUS_AUTO_LEVEL = 1 := by decide

/-- R27: at the first boot M is 0, so the first PASS_SEQ is 2^32, and the Pass waits for the store of that mark. -/
theorem test_power_on : (next (.powerOnReset [] []) State.reset).pass.seed = 2 ^ 32
    ∧ (next (.powerOnReset [] []) State.reset).pass.ready = false
    ∧ (next (.powerOnReset [] []) State.reset).body.boot.stage = 1 := by decide

/-- R29: a disable of a STARTING unit waits; when the start steps complete the unit goes on to STOPPING. -/
theorem test_start_with_disable_pending :
    (next (.unitDisable .firmware U.queue) (st fun b => b.put (F.UNIT_STATE_STATE U.queue) 1 |>.put F.Q_CTL_ENABLE 1)).body.unitPending U.queue
      false = true
    ∧ (next (.unitStartDone U.queue 0 .plain) (st fun b => b.put (F.UNIT_STATE_STATE U.queue) 1 |>.put (F.UNIT_STATE_PENDING U.queue) 1)).body.unit
      U.queue ≠ .on := by decide

/-- R7, R11: a W1C bit clears where firmware writes 1 and stays where a host does. -/
theorem test_w1c_and_writers :
    (next (.registerWrite .firmware 0x28 8 2) (st fun b => b.put F.PASS_STATUS_MARK_STALLED 1)).body.flag F.PASS_STATUS_MARK_STALLED = false
    ∧ (next (.registerWrite (.host 0 0) 0x28 8 2) (st fun b => b.put F.PASS_STATUS_MARK_STALLED 1)).body.flag F.PASS_STATUS_MARK_STALLED
      = true := by decide

/-- R5: an access that is not 8 aligned bytes changes no register. -/
theorem test_bad_access : (next (.registerWrite .firmware 0x100 4 0) State.reset).body.regs
    = ({ State.reset.body with regs := State.reset.body.regs } : Body).regs := by decide

/-- R26: 14 non-fatal events fill a source's buffer for non-fatal events; the next is discarded and counted. -/
theorem test_pass_overflow :
    (State.present { State.reset with pass := { bufs := [(3, List.replicate 14 ⟨3, .named .unitEntry, 0⟩)] } } ⟨3, .named .unitEntry, 0⟩).pass.lost
    = [(3, 1)] := by decide

/-- R44, R277: PSN arithmetic is modulo 2^24. -/
theorem test_psn_wraps : psnAdd (2 ^ 24 - 1) 1 = 0 ∧ psnSub 0 (2 ^ 24 - 1) = 1 := by decide

/-- R91: a fetch-add works on the little-endian integer at its offset and leaves the other bytes alone. -/
theorem test_atomic_little_endian : (Body.accLine (0xFF, false) (.atomic 0 false 1 0)).1 = 0x100
    ∧ (Body.accLine (0xFF, false) (.atomic 8 false 1 0)).1 = 0x100000000000000FF
    ∧ (Body.accLine (5, false) (.atomic 0 true 5 9)).1 = 9 ∧ (Body.accLine (4, false) (.atomic 0 true 5 9)).1 = 4 := by decide

/-- R89, R91: a partial write changes its enabled bytes; a full write clears poison, a partial one keeps it. -/
theorem test_partial_write : Body.accLine (0xABCD, true) (.write 0x1122 1) = (0xAB22, true)
    ∧ Body.accLine (0xABCD, true) (.write 0x1122 (2 ^ 64 - 1)) = (0x1122, false) := by decide

/-- R60, R395: the IEEE 802.3 CRC-32 and the Castagnoli CRC-32 of "123456789" (the published check values). -/
theorem test_crc : crc32 [0x31, 0x32, 0x33, 0x34, 0x35, 0x36, 0x37, 0x38, 0x39] = 0xCBF43926
    ∧ crc32C [0x31, 0x32, 0x33, 0x34, 0x35, 0x36, 0x37, 0x38, 0x39] = 0xE3069283 := by decide

/-- R377: programming clears bits and sets none. -/
theorem test_flash_program : ((bd id).flashAnd 7 0xF0).flashWord 7 = 0xF0 ∧ (((bd id).flashAnd 7 0xF0).flashAnd 7 0x3C).flashWord 7 = 0x30 := by
  decide

/-- R392: operating seconds go up by one, and the other counters stay. -/
theorem test_operating_second :
    (next .operatingSecond (st fun b => { b with boot.powered := true, rack.cnt := [(0, 65535), (1, 4)] })).body.rack.cnt = [(0, 65536), (1, 4)] := by
  decide

/-- R306: a queue gives back the words of a committed item in order. -/
theorem test_queue_pop :
    .qWord 2 7 false ∈ (next (.qPop .firmware 2 false) (st fun b =>
      { b.put (F.Q_BIND_BOUND 2) 1 |>.put (F.UNIT_STATE_STATE U.queue) 2 with
        q := { qs := [(0, { size := 8, item := 2, enabled := true, words := [⟨7, false, false⟩, ⟨8, false, false⟩] })] } })).body.out := by decide

/-- R248: MemInv has no data effect and is answered with a completion. -/
theorem test_mem_inv : (next (.memInv 0 0 5) (st fun b =>
      { ((b.put (F.CXP_STATUS_LINK 0) 3).put (F.CXP_STATUS_OPEN 0) 1 |>.put (F.UNIT_STATE_STATE (U.cxl 0)) 2).put (F.CXP_CREDIT_RD_QUOTA 0) 4
          |>.put F.BOOT_STATUS_PORT_OPENED 1 with
        cxl.ports := [(0, { lds := [(0, { memEnable := true, dec0 := { size := 1, committed := true } })] })] })).body.out = [.cxlCmp 0 0 5 0] := by
  decide +kernel

/-- R263: a change of a register that the window maps is told to the logical device by vector 6. -/
theorem test_vector_6 :
    let b := (st fun b =>
      { b.put (F.CXP_STATUS_LINK 0) 3 |>.put (F.UNIT_STATE_STATE (U.cxl 0)) 2 with
        cfg.img.qui.parts := [{ id := 1, flags := 1, port := 0, ld := 2, base := 0, size := 1 }] }).body
    Body.windowEvents b (b.put F.COMMIT_FRAME_FRAME 9) = [0, 1, 2].map fun k => ⟨U.cxl 0, .named .msix, k * 8 + 6⟩ := by decide +kernel

/-- R369: a pop takes the oldest event of the FIFO. -/
theorem test_evq_pop : (((bd fun b =>
      { b with dx.cores := [(1, { fifo := [.ev ⟨9, 0, 0, false, .named .unitEntry, 0⟩, .ev ⟨10, 0, 0, false, .named .unitEntry, 0⟩] })] }).evqPop 1).core
        1).fifo = [.ev ⟨10, 0, 0, false, .named .unitEntry, 0⟩] := by decide

/-- R338: a fuse slot is programmed once. -/
theorem test_fuse_program :
    (next (.fuseProgram .firmware 2) (st fun b => b)).body.ciph.slots = [0, 2]
    ∧ (next (.fuseProgram .firmware 0) (st fun b => b)).body.ciph.slots = [0] := by decide +kernel

/-- R423: a class rises to a level at its start temperature and leaves it only HYST below. -/
theorem test_simmer_hysteresis :
    let hot : State → State := next (.thermalSample .die 0 (some 610) 0)
    let s := st fun b => { b with cfg.loaded := true, cfg.img.qui.thresh := [[600, 610, 620, 630, 640, 650, 660, 900]], cfg.img.qui.hyst := 16 }
    (hot s).body.th.lvDie = 2 ∧ (next (.thermalSample .die 0 (some 600) 0) (hot s)).body.th.lvDie = 2
    ∧ (next (.thermalSample .die 0 (some 590) 0) (hot s)).body.th.lvDie = 1 := by decide

/-- R359, R433: with the cluster powered, a core that is set to run leaves STOPPED. -/
theorem test_core_run : ((next (.coreRunSet .firmware 15) (st fun b => b.put (F.UNIT_STATE_STATE U.dexith) 2)).body.core 15).st = .running := by
  decide

/-- R417: an OFF while the Hob is OFF changes nothing. -/
theorem test_hob_off_when_off : (next (.hobOff .firmware) State.reset).body.hobState = .off := by decide


/-! ## The statements' hypotheses can be met -/

theorem firstFree (n : Nat) : (range' 2 (n + 1)).find? (fun k => (mget ([] : SMap Qp) k).isNone) = some 2 := by
  unfold range'
  rw [List.range_succ_eq_map]
  rfl

theorem wit_pass_history_kept :
    ∃ s t : State, PassHistory s ∧ step s = .next t :=
  ⟨State.reset, State.reset, ⟨List.Pairwise.nil, by intro e h; cases h⟩, rfl⟩

theorem wit_pass_stamps :
    (∃ s : State, ∃ e : PassEvent, State.mayStamp s.pass = true ∧ s.pass.bufs = [])
    ∧ (∃ s : State, ∃ e : PassEvent, State.mayStamp s.pass = false ∧ s.body.fatalClass e = true)
    ∧ (∃ s : State, ∃ e : PassEvent, State.mayStamp s.pass = false ∧ s.body.fatalClass e = false ∧ 14 ≤ ((mgetD s.pass.bufs e.src
      []).filter (!s.body.fatalClass ·)).length)
    ∧ (∃ p : PassSt, p.seed ≤ p.last)
    ∧ (∃ p : PassSt, State.mayStamp p = true) :=
  ⟨⟨{ (st id) with pass.ready := true, pass.bufs := [] }, ⟨0, .named .unitEntry, 0⟩, by decide⟩,
   ⟨(st id), ⟨0, .bit F.TWIN_EVENTS_TAKEOVER, 0⟩, by decide⟩,
   ⟨{ (st id) with pass.bufs := [(0, List.replicate 14 ⟨0, .named .unitEntry, 0⟩)] }, ⟨0, .named .unitEntry, 0⟩, by decide⟩,
   ⟨{}, by decide⟩,
   ⟨{ ready := true }, by decide⟩⟩

theorem wit_pass_commands :
    (∃ s : State, ∃ src : Nat, mgetD s.pass.lost src 0 ≠ 0 ∧ ((mgetD s.pass.bufs src []).filter (!s.body.fatalClass ·)).length < 14)
    ∧ (∃ s : State, s.pass.storing = none ∧ s.pass.ready = true ∧ s.pass.mark + 2 ^ 31 ≤ s.pass.last)
    ∧ (∃ s : State, s.pass.stall = false ∧ s.pass.ready = true ∧ s.pass.mark + 2 ^ 32 - 1 ≤ s.pass.last)
    ∧ (∃ s : State, ∃ v : Nat, s.pass.storing = some v ∧ s.body.ringBusy 0 = false) :=
  ⟨⟨{ (st id) with pass.lost := [(0, 1)] }, 0, by decide⟩,
   ⟨{ (st id) with pass.last := 2 ^ 31, pass.storing := none, pass.ready := true }, by decide⟩,
   ⟨{ (st id) with pass.last := 2 ^ 32 - 1, pass.stall := false, pass.ready := true }, by decide⟩,
   ⟨{ (st id) with pass.storing := some 0 }, 0, by decide⟩⟩

theorem wit_memory_operations :
    (∃ b : Body, ∃ f g : Fld, ∃ v : Nat, f.lo + f.w ≤ 64)
    ∧ (∃ b : Body, ∃ f g : Fld, ∃ v : Nat, f.apart g = true)
    ∧ (∃ b : Body, ∃ a : Nat, ∃ x : Word, ∃ k, k ≠ a)
    ∧ (∃ b : Body, ∃ a : Nat, ∃ x : Word, Memory.wf (fun _ => (0 : Word)) b.regs = true)
    ∧ (∃ m : SMap Word, ∃ a n : Nat, ∃ v : Word, ∃ x : Nat, Memory.wf (fun _ => (0 : Word)) m = true)
    ∧ (∃ b : Body, ∃ n len k : Nat, ∃ x : Word, Memory.wf (fun _ => (0 : Word)) b.cf.words = true)
    ∧ (∃ b : Body, ∃ g k : Nat, ∃ l : List Word, Memory.wf (fun _ => (0 : Word)) b.rack.cells = true)
    ∧ (∃ b : Body, ∃ r v k : Nat, b.rkFilled (8 * (r / 8)) = true)
    ∧ (∃ b : Body, ∃ r v k : Nat, k ≠ r)
    ∧ (∃ b : Body, ∃ r v k : Nat, Memory.wf (fun n => b.rkPattern (8 * n)) b.rk.words = true) :=
  ⟨⟨(bd id), ⟨0, 0, 1⟩, ⟨0, 0, 1⟩, 0, by decide⟩,
   ⟨(bd id), ⟨0, 0, 1⟩, ⟨8, 0, 1⟩, 0, by decide⟩,
   ⟨(bd id), 0, 0, 1, by decide⟩,
   ⟨(bd id), 0, 0, by decide⟩,
   ⟨[], 0, 0, 0, 0, by decide⟩,
   ⟨(bd id), 0, 0, 0, 0, by decide⟩,
   ⟨(bd id), 0, 0, [], by decide⟩,
   ⟨(bd fun b => { b with sp.set := some [0], sp.ch := [(0, { filled := [0] })] }), 0, 0, 0, by decide⟩,
   ⟨(bd fun b => { b with sp.set := some [0], sp.ch := [(0, { filled := [0] })] }), 0, 0, 1, by decide⟩,
   ⟨(bd id), 0, 0, 0, by decide⟩⟩

theorem wit_bad_accesses :
    (∃ s : State, ∃ actor : Actor, ∃ a n : Nat, ∃ v : Word, (n ≠ 8 ∨ a % 8 ≠ 0))
    ∧ (∃ b : Body, ∃ actor : Actor, ∃ a n : Nat, ∃ v : Word, (n ≠ 8 ∨ a % 8 ≠ 0))
    ∧ (∃ b : Body, ∃ actor : Actor, ∃ a n : Nat, ∃ v : Word, (∀ p k, actor ≠ .host p k) ∧ a % 8 = 0 ∧ findReg a = none)
    ∧ (∃ b : Body, ∃ actor : Actor, ∃ a n : Nat, (n ≠ 8 ∨ a % 8 ≠ 0))
    ∧ (∃ b : Body, ∃ actor : Actor, ∃ a n : Nat, n = 8 ∧ a % 8 = 0 ∧ (findReg a).isSome = true) :=
  ⟨⟨(st id), .firmware, 0, 0, 0, by decide⟩,
   ⟨(bd id), .firmware, 0, 0, 0, by decide⟩,
   ⟨(bd id), .firmware, 0xff8, 8, 0, by refine ⟨(by intro p k h; cases h), ?_⟩; decide⟩,
   ⟨(bd id), .firmware, 0, 0, by decide⟩,
   ⟨(bd id), .firmware, A.TIME_CTL, 8, by decide⟩⟩

theorem wit_field_types :
    (∃ b : Body, ∃ r : RegDef, ∃ a : Nat, ∃ actor : Actor, ∃ value : Word, ∃ j : Body.Judged, ∃ d : FieldDef, d.lo + d.w ≤ 64 ∧
      b.namesActor r a d actor value = true ∧ b.portAbsent ⟨a, d.lo, d.w⟩ = false ∧ d.typ = .ro)
    ∧ (∃ b : Body, ∃ r : RegDef, ∃ a : Nat, ∃ actor : Actor, ∃ value : Word, ∃ j : Body.Judged, ∃ d : FieldDef, d.lo + d.w ≤ 64 ∧
      b.namesActor r a d actor value = true ∧ b.portAbsent ⟨a, d.lo, d.w⟩ = false ∧ d.typ = .rw)
    ∧ (∃ b : Body, ∃ r : RegDef, ∃ a : Nat, ∃ actor : Actor, ∃ value : Word, ∃ j : Body.Judged, ∃ d : FieldDef, d.lo + d.w ≤ 64 ∧
      b.namesActor r a d actor value = true ∧ b.portAbsent ⟨a, d.lo, d.w⟩ = false ∧ d.typ = .w1c)
    ∧ (∃ b : Body, ∃ r : RegDef, ∃ a : Nat, ∃ actor : Actor, ∃ value : Word, ∃ j : Body.Judged, ∃ d : FieldDef, d.lo + d.w ≤ 64 ∧
      b.namesActor r a d actor value = true ∧ b.portAbsent ⟨a, d.lo, d.w⟩ = false ∧ d.typ = .w1s)
    ∧ (∃ b : Body, ∃ r : RegDef, ∃ a : Nat, ∃ actor : Actor, ∃ value : Word, ∃ j : Body.Judged, ∃ d : FieldDef, d.lo + d.w ≤ 64 ∧
      b.namesActor r a d actor value = true ∧ b.portAbsent ⟨a, d.lo, d.w⟩ = false ∧ d.typ = .wo)
    ∧ (∃ b : Body, ∃ r : RegDef, ∃ a : Nat, ∃ actor : Actor, ∃ value : Word, ∃ j : Body.Judged, ∃ d : FieldDef, ∃ la lb, d.lo + d.w ≤ 64
      ∧ b.namesActor r a d actor value = true ∧ b.portAbsent ⟨a, d.lo, d.w⟩ = false ∧ d.typ = .rwl ∧ r.lock = some (la, lb) ∧ (b.word
      la).getLsbD lb = false)
    ∧ (∃ b : Body, ∃ r : RegDef, ∃ a : Nat, ∃ actor : Actor, ∃ value : Word, ∃ j : Body.Judged, ∃ d : FieldDef, ∃ la lb, d.lo + d.w ≤ 64
      ∧ b.namesActor r a d actor value = true ∧ b.portAbsent ⟨a, d.lo, d.w⟩ = false ∧ d.typ = .rwl ∧ r.lock = some (la, lb) ∧ (b.word
      la).getLsbD lb = true) :=
  ⟨⟨(bd id), ⟨"", 8, [], some (16, 0), []⟩, 8, .firmware, 0, ⟨0, 0, false, false⟩, ⟨0, 1, .ro, .fw, false⟩, by decide⟩,
   ⟨(bd id), ⟨"", 8, [], some (16, 0), []⟩, 8, .firmware, 0, ⟨0, 0, false, false⟩, ⟨0, 1, .rw, .fw, false⟩, by decide⟩,
   ⟨(bd id), ⟨"", 8, [], some (16, 0), []⟩, 8, .firmware, 0, ⟨0, 0, false, false⟩, ⟨0, 1, .w1c, .fw, false⟩, by decide⟩,
   ⟨(bd id), ⟨"", 8, [], some (16, 0), []⟩, 8, .firmware, 0, ⟨0, 0, false, false⟩, ⟨0, 1, .w1s, .fw, false⟩, by decide⟩,
   ⟨(bd id), ⟨"", 8, [], some (16, 0), []⟩, 8, .firmware, 0, ⟨0, 0, false, false⟩, ⟨0, 1, .wo, .fw, false⟩, by decide⟩,
   ⟨(bd id), ⟨"", 8, [], some (16, 0), []⟩, 8, .firmware, 0, ⟨0, 0, false, false⟩, ⟨0, 1, .rwl, .fw, false⟩, 16, 0, by decide⟩,
   ⟨(bd fun b => { b with regs := [(16, 1)] }), ⟨"", 8, [], some (16, 0), []⟩, 8, .firmware, 0, ⟨0, 0, false, false⟩, ⟨0, 1, .rwl, .fw,
     false⟩, 16, 0, by decide⟩⟩

theorem wit_unnamed_actor_changes_nothing :
    (∃ b : Body, ∃ r : RegDef, ∃ a : Nat, ∃ actor : Actor, ∃ value : Word, ∃ blk : Bool, ∃ j : Body.Judged, ∃ d : FieldDef, (b.namesActor
      r a d actor value = false ∨ blk = true) ∧ d.typ = .ro)
    ∧ (∃ b : Body, ∃ r : RegDef, ∃ a : Nat, ∃ actor : Actor, ∃ value : Word, ∃ blk : Bool, ∃ j : Body.Judged, ∃ d : FieldDef,
      (b.namesActor r a d actor value = false ∨ blk = true) ∧ (d.typ = .rw ∨ d.typ = .rwl))
    ∧ (∃ b : Body, ∃ r : RegDef, ∃ a : Nat, ∃ actor : Actor, ∃ value : Word, ∃ blk : Bool, ∃ j : Body.Judged, ∃ d : FieldDef,
      (b.namesActor r a d actor value = false ∨ blk = true) ∧ d.typ = .w1c)
    ∧ (∃ b : Body, ∃ r : RegDef, ∃ a : Nat, ∃ actor : Actor, ∃ value : Word, ∃ blk : Bool, ∃ j : Body.Judged, ∃ d : FieldDef,
      (b.namesActor r a d actor value = false ∨ blk = true) ∧ d.typ = .w1s)
    ∧ (∃ b : Body, ∃ r : RegDef, ∃ a : Nat, ∃ actor : Actor, ∃ value : Word, ∃ blk : Bool, ∃ j : Body.Judged, ∃ d : FieldDef,
      (b.namesActor r a d actor value = false ∨ blk = true) ∧ d.typ = .wo) :=
  ⟨⟨(bd id), ⟨"", 8, [], none, []⟩, 8, .firmware, 0, false, ⟨0, 0, false, false⟩, ⟨0, 1, .ro, .nobody, false⟩, by decide⟩,
   ⟨(bd id), ⟨"", 8, [], none, []⟩, 8, .firmware, 0, false, ⟨0, 0, false, false⟩, ⟨0, 1, .rw, .nobody, false⟩, by decide⟩,
   ⟨(bd id), ⟨"", 8, [], none, []⟩, 8, .firmware, 0, false, ⟨0, 0, false, false⟩, ⟨0, 1, .w1c, .nobody, false⟩, by decide⟩,
   ⟨(bd id), ⟨"", 8, [], none, []⟩, 8, .firmware, 0, false, ⟨0, 0, false, false⟩, ⟨0, 1, .w1s, .nobody, false⟩, by decide⟩,
   ⟨(bd id), ⟨"", 8, [], none, []⟩, 8, .firmware, 0, false, ⟨0, 0, false, false⟩, ⟨0, 1, .wo, .nobody, false⟩, by decide⟩⟩

theorem wit_register_writes :
    (∃ b : Body, ∃ actor : Actor, ∃ a : Nat, ∃ v : Word, ∃ g : Fld, g.addr ≠ a)
    ∧ (∃ s : State, ∃ actor : Actor, ∃ a : Nat, ∃ v : Word, ∃ r : RegDef, (∀ p k, actor ≠ .host p k) ∧ a % 8 = 0 ∧ findReg a = some r) :=
  ⟨⟨(bd id), .firmware, 8, 0, ⟨0, 0, 1⟩, by decide⟩,
   ⟨(st id), .firmware, A.TIME_CTL, 0, (findReg A.TIME_CTL).getD ⟨"", 0, [], none, []⟩,
     by refine ⟨(by intro p k h; cases h), ?_⟩; decide⟩⟩

theorem wit_lifecycle_table :
    (∃ b : Body, ∃ u : Nat, u < 88 ∧ b.unit u = .off ∧ b.boot.held = false)
    ∧ (∃ b : Body, ∃ u : Nat, u < 88 ∧ b.unit u = .off ∧ b.boot.held = true)
    ∧ (∃ b : Body, ∃ u : Nat, u < 88 ∧ b.unit u = .starting ∧ b.unitPending u false = false)
    ∧ (∃ b : Body, ∃ u : Nat, u < 88 ∧ b.unit u = .starting ∧ b.unitPending u false = true)
    ∧ (∃ b : Body, ∃ u : Nat, u < 88 ∧ b.unit u = .on)
    ∧ (∃ b : Body, ∃ u : Nat, u < 88 ∧ b.unit u = .stopping ∧ b.unitPending u true = false)
    ∧ (∃ b : Body, ∃ u : Nat, u < 88 ∧ b.unit u = .stopping ∧ b.unitPending u true = true) :=
  ⟨⟨(bd fun b => { b.put (F.UNIT_STATE_STATE 0) 0 with boot.held := false }), 0, by decide⟩,
   ⟨(bd fun b => { b.put (F.UNIT_STATE_STATE 0) 0 with boot.held := true }), 0, by decide⟩,
   ⟨(bd fun b => b.put (F.UNIT_STATE_STATE 0) 1), 0, by decide⟩,
   ⟨(bd fun b => b.put (F.UNIT_STATE_STATE 0) 1 |>.put (F.UNIT_STATE_PENDING 0) 1 |>.put (F.UNIT_STATE_PENDING_ENABLE 0) 0), 0,
     by decide⟩,
   ⟨(bd fun b => b.put (F.UNIT_STATE_STATE 0) 2), 0, by decide⟩,
   ⟨(bd fun b => b.put (F.UNIT_STATE_STATE 0) 3), 0, by decide⟩,
   ⟨(bd fun b => b.put (F.UNIT_STATE_STATE 0) 3 |>.put (F.UNIT_STATE_PENDING 0) 1 |>.put (F.UNIT_STATE_PENDING_ENABLE 0) 1), 0,
     by decide⟩⟩

theorem wit_lifecycle_commands :
    (∃ s : State, ∃ actor : Actor, ∃ u : Nat, ∃ f : Fld, Body.enableFld u = some f ∧ (wrote s.body actor f.addr (bitWord s.body f
      1)).flag f = true ∧ s.body.unit u = .off ∧ s.body.boot.held = false)
    ∧ (∃ s : State, ∃ actor : Actor, ∃ u : Nat, ∃ f : Fld, Body.enableFld u = some f ∧ (wrote s.body actor f.addr (bitWord s.body f
      0)).flag f = false ∧ s.body.unit u = .on)
    ∧ (∃ s : State, ∃ u us : Nat, ∃ obs : StartObs, (u = U.time ∨ u = U.nc ∨ u = U.scourer ∨ u = U.rdma ∨ u = U.ramekin ∨ u = U.queue) ∧
      s.body.unit u = .starting ∧ s.body.unitPending u false = false)
    ∧ (∃ s : State, ∃ u code : Nat, (u = U.nc ∨ u = U.mtl ∨ u = U.twin ∨ u = U.rdma ∨ u = U.sched) ∧ s.body.unit u = .starting)
    ∧ (∃ s : State, ∃ u : Nat, (u = U.scourer ∨ u = U.time) ∧ s.body.unit u = .stopping ∧ s.body.unitPending u true = false)
    ∧ (∃ s : State, ∃ u : Nat, u < 80 ∧ s.body.unit u = .on) :=
  ⟨⟨(st fun b => { b.put (F.UNIT_STATE_STATE 0) 0 with boot.held := false }), .firmware, 0, F.TIME_CTL_ENABLE, by decide⟩,
   ⟨(st fun b => b.put (F.UNIT_STATE_STATE 0) 2), .firmware, 0, F.TIME_CTL_ENABLE, by decide⟩,
   ⟨(st fun b => b.put (F.UNIT_STATE_STATE 0) 1), 0, 0, .plain, by decide⟩,
   ⟨(st fun b => b.put (F.UNIT_STATE_STATE 1) 1), 1, 0, by decide⟩,
   ⟨(st fun b => b.put (F.UNIT_STATE_STATE 0) 3), 0, by decide⟩,
   ⟨(st fun b => b.put (F.UNIT_STATE_STATE 0) 2), 0, by decide⟩⟩

theorem wit_frame_commands :
    (∃ b : Body, b.get F.FRAME_OVR_STATUS_AUTO_LEVEL < 4)
    ∧ (∃ b : Body, 0 < b.get F.FRAME_OVR_STATUS_AUTO_LEVEL)
    ∧ (∃ b : Body, b.frame.cutDue = 1)
    ∧ (∃ b : Body, b.frame.cutDue = 2)
    ∧ (∃ b : Body, b.frame.cutDue = 0)
    ∧ (∃ b : Body, b.flag F.FRAME_OVR_CTL_FORCE_EN = true)
    ∧ (∃ b : Body, b.flag F.FRAME_OVR_CTL_FORCE_EN = false ∧ b.flag F.FRAME_OVR_CTL_AUTO_CUT_DIS = true)
    ∧ (∃ b : Body, b.flag F.FRAME_OVR_CTL_FORCE_EN = false ∧ b.flag F.FRAME_OVR_CTL_AUTO_CUT_DIS = false)
    ∧ (∃ s : State, ∃ o : TickObs, s.body.framesRun = true)
    ∧ (∃ s : State, s.body.framesRun = true ∧ s.body.frame.sealing = false)
    ∧ (∃ s : State, s.body.frame.cutDue ≠ 0) :=
  ⟨⟨(bd id), by decide⟩,
   ⟨(bd fun b => b.put F.FRAME_OVR_STATUS_AUTO_LEVEL 1), by decide⟩,
   ⟨(bd fun b => { b with frame.cutDue := 1 }), by decide⟩,
   ⟨(bd fun b => { b with frame.cutDue := 2 }), by decide⟩,
   ⟨(bd fun b => { b with frame.cutDue := 0 }), by decide⟩,
   ⟨(bd fun b => b.put F.FRAME_OVR_CTL_FORCE_EN 1), by decide⟩,
   ⟨(bd fun b => b.put F.FRAME_OVR_CTL_AUTO_CUT_DIS 1), by decide⟩,
   ⟨(bd id), by decide⟩,
   ⟨(st fun b => { b.put (F.UNIT_STATE_STATE U.time) 2 with frame.ticks := 1 }), ⟨false, 0, 0, 0⟩, by decide⟩,
   ⟨(st fun b => { b.put (F.UNIT_STATE_STATE U.time) 2 with frame.sealing := false, frame.ticks := 1 }), by decide⟩,
   ⟨(st fun b => { b with frame.cutDue := 1 }), by decide⟩⟩

theorem wit_reference_commands :
    (∃ s : State, s.body.flag F.TIME_STATUS_TREF_OK = true)
    ∧ (∃ s : State, ∃ port transport domain : Nat, ∃ clock : Word, ∃ time : Option Nat, ∃ off : Option Int, port = s.body.get
      F.PTP_CFG_PORT_SEL ∧ (port ≤ 7 ∨ port = 15) ∧ transport = s.body.get F.PTP_CFG_TRANSPORT ∧ transport ≤ 2 ∧ domain = min 127
      (s.body.get F.PTP_CFG_DOMAIN_NUM))
    ∧ (∃ s : State, s.body.flag F.TIME_STATUS_PTP_OK = true)
    ∧ (∃ s : State, ∃ late : Int, ¬ (s.body.time.sync ≠ .unset))
    ∧ (∃ s : State, ∃ missing : Nat, s.body.flag F.TIME_STATUS_TSYNC_OK = true ∧ 3 ≤ s.body.time.tsyncMiss + missing) :=
  ⟨⟨(st fun b => b.put F.TIME_STATUS_TREF_OK 1), by decide⟩,
   ⟨(st id), 0, 0, 0, 0, none, none, by decide⟩,
   ⟨(st fun b => b.put F.TIME_STATUS_PTP_OK 1), by decide⟩,
   ⟨(st id), 0, by decide⟩,
   ⟨(st fun b => b.put F.TIME_STATUS_TSYNC_OK 1), 3, by decide⟩⟩

theorem wit_beacon_and_sync_commands :
    (∃ s : State, s.body.time.sync ≠ .unset ∧ s.body.time.numbered = true ∧ s.body.time.pulseMs < (s.body.time.tai + s.body.periodNs - 1
      - s.body.get F.EPOCH_TIME_E) / 1000000)
    ∧ (∃ s : State, ∃ m : BeaconMsg, ∃ src : Nat, s.body.beaconOk m true = true ∧ s.body.flag F.TIME_CTL_SRC_BEACON_EN = false ∧ nbit
      m.flags 0 = false ∧ m.member ≠ s.body.get F.DOMAIN_ID_MEMBER ∧ mget s.body.time.peers m.member = none)
    ∧ (∃ s : State, ∃ member : Nat, ∃ p : Peer, mget s.body.time.peers member = some p ∧ p.at_ + 3 * s.body.beaconInterval ≤
      s.body.time.pulseMs)
    ∧ (∃ s : State, ∃ off : Int, s.body.isOn U.time = true ∧ (s.body.get F.TIME_STATUS_SOURCE = 1 ∨ s.body.get F.TIME_STATUS_SOURCE = 2))
    ∧ (∃ s : State, s.body.time.sync = .acquiring ∧ 16 ≤ s.body.time.lockRun ∧ s.body.flag F.TIME_CTL_FREEZE = false)
    ∧ (∃ s : State, s.body.phaseSource = 0 ∧ s.body.isOn U.time = true ∧ s.body.time.sync = .locked)
    ∧ (∃ s : State, s.body.phaseSource = 0 ∧ s.body.isOn U.time = true ∧ s.body.time.sync = .acquiring)
    ∧ (∃ s : State, s.body.time.sync = .holdover ∧ 320 * 1000000000 < s.body.holdEst)
    ∧ (∃ s : State, ∃ off : Int, s.body.phaseSource ≠ 0 ∧ s.body.isOn U.time = true ∧ s.body.flag F.TIME_CTL_FREEZE = false ∧
      s.body.time.sync = .holdover ∧ off.natAbs ≤ 240)
    ∧ (∃ s : State, ∃ off : Int, s.body.phaseSource ≠ 0 ∧ s.body.isOn U.time = true ∧ s.body.flag F.TIME_CTL_FREEZE = false ∧
      s.body.time.sync = .holdover ∧ 240 < off.natAbs)
    ∧ (∃ s : State, ∃ off : Int, s.body.phaseSource ≠ 0 ∧ s.body.isOn U.time = true ∧ s.body.flag F.TIME_CTL_FREEZE = false ∧
      s.body.time.sync = .adrift)
    ∧ (∃ s : State, ∃ actor : Actor, (wrote s.body actor A.TIME_CTL (bitWord s.body F.TIME_CTL_FREEZE 1)).flag F.TIME_CTL_FREEZE = true ∧
      s.body.time.sync = .locked)
    ∧ (∃ s : State, ∃ actor : Actor, s.body.flag F.TIME_CTL_FREEZE = true ∧ (wrote s.body actor A.TIME_CTL (bitWord s.body
      F.TIME_CTL_FREEZE 0)).flag F.TIME_CTL_FREEZE = false) :=
  ⟨⟨(st fun b => { b.put F.FRAME_PERIOD_PERIOD_NS 1000 with time.numbered := true, time.sync := .locked, time.tai := 2000000 }),
     by decide⟩,
   ⟨(st fun b => { b with ciph.cur.gen := 1 }), ⟨0x5342, 1, 0, 1, 0, 0, 0, 0, 0, 0, 0, 1, 0, 0⟩, 0, by decide⟩,
   ⟨(st fun b => { b with time.peers := [(0, (⟨0, 0, 0, 0, 0, 0, 0, 0, 0, 0, 0, 0⟩))], time.pulseMs := 1000000 }), 0, ⟨0, 0, 0, 0, 0, 0,
     0, 0, 0, 0, 0, 0⟩, by decide⟩,
   ⟨(st fun b => b.put (F.UNIT_STATE_STATE U.time) 2 |>.put F.TIME_STATUS_SOURCE 1), 0, by decide⟩,
   ⟨(st fun b => { b with time.sync := .acquiring, time.lockRun := 16 }), by decide⟩,
   ⟨(st fun b => { b.put (F.UNIT_STATE_STATE U.time) 2 with time.sync := .locked }), by decide⟩,
   ⟨(st fun b => { b.put (F.UNIT_STATE_STATE U.time) 2 with time.sync := .acquiring }), by decide⟩,
   ⟨(st fun b => { b with time.sync := .holdover, time.holdBase := 321 }), by decide⟩,
   ⟨(st fun b =>
     { b.put (F.UNIT_STATE_STATE U.time) 2 |>.put F.TIME_CTL_SRC_TSYNC_EN 1 |>.put F.TIME_STATUS_TSYNC_OK 1 with time.sync := .holdover }),
     -240, by decide⟩,
   ⟨(st fun b =>
     { b.put (F.UNIT_STATE_STATE U.time) 2 |>.put F.TIME_CTL_SRC_TSYNC_EN 1 |>.put F.TIME_STATUS_TSYNC_OK 1 with time.sync := .holdover }),
     -241, by decide⟩,
   ⟨(st fun b =>
     { b.put (F.UNIT_STATE_STATE U.time) 2 |>.put F.TIME_CTL_SRC_TSYNC_EN 1 |>.put F.TIME_STATUS_TSYNC_OK 1 with time.sync := .adrift }),
     0, by decide⟩,
   ⟨(st fun b => { b with time.sync := .locked }), .firmware, by decide⟩,
   ⟨(st fun b => b.put F.TIME_CTL_FREEZE 1), .firmware, by decide⟩⟩

theorem wit_configuration_commands :
    (∃ s : State, ∃ actor : Actor, acts s.body actor A.SLOT_CHECK 1)
    ∧ (∃ s : State, ∃ actor : Actor, acts s.body actor A.SLOT_CHECK 2)
    ∧ (∃ s : State, ∃ v : SlotVerdict, ∃ rest : List CheckFor, s.body.cfg.checks = .slotA :: rest)
    ∧ (∃ s : State, ∃ v : SlotVerdict, ∃ rest : List CheckFor, s.body.cfg.checks = .slotB :: rest)
    ∧ (∃ s : State, ∃ actor : Actor, acts s.body actor A.SVN_COMMIT 1 ∧ s.body.cfg.loaded = true ∧ s.body.cfg.svnFuses <
      s.body.cfg.img.svn)
    ∧ (∃ s : State, ∃ off : Nat, ∃ w : Word, s.body.flag F.CONFIG_STATUS_RECOVERY = true ∧ off % 8 = 0 ∧ off + 8 ≤ 0x400000)
    ∧ (∃ s : State, ∃ actor : Actor, ∃ slot : Nat, acts s.body actor A.CHANGE_CTL (1 + 4 * (slot % 2)) ∧ (s.body.changeState = 0 ∨ 3 <
      s.body.changeState))
    ∧ (∃ s : State, ∃ actor : Actor, acts s.body actor A.CHANGE_CTL 2 ∧ (s.body.changeState = 1 ∨ s.body.changeState = 2))
    ∧ (∃ s : State, ∃ v : SlotVerdict, ∃ rest : List CheckFor, s.body.cfg.checks = .ofChange :: rest ∧ s.body.slotCode
      s.body.cfg.changeSlot v ≠ 0)
    ∧ (∃ s : State, ∃ i : Image, s.body.changeState = 2 ∧ s.body.get F.CHANGE_FRAME_APPLY ≤ s.body.frameNo + 16 ∧ s.body.cfg.newImg =
      some i ∧ i.qui.parts ≠ s.body.cfg.img.qui.parts ∧ s.body.twin.link.session = true ∧ (s.body.twin.hb.role = 1 ∨ s.body.twin.hb.role
      = 2) ∧ s.body.cfg.twinSaid ≠ s.body.cfg.announced)
    ∧ (∃ s : State, s.body.changeState = 2 ∧ s.body.get F.CHANGE_FRAME_APPLY ≤ s.body.frameNo + 2)
    ∧ (∃ s : State, ∃ i : Image, s.body.changeState = 3 ∧ s.body.get F.CHANGE_FRAME_APPLY ≤ s.body.frameNo ∧ s.body.cfg.newImg = some i) :=
  ⟨⟨(st id), .firmware, by decide⟩,
   ⟨(st id), .firmware, by decide⟩,
   ⟨(st fun b => { b with cfg.checks := .slotA :: [] }), ⟨none, false⟩, [], by decide⟩,
   ⟨(st fun b => { b with cfg.checks := .slotB :: [] }), ⟨none, false⟩, [], by decide⟩,
   ⟨(st fun b => { b with cfg.loaded := true, cfg.img.svn := 1 }), .firmware, by decide⟩,
   ⟨(st fun b => b.put F.CONFIG_STATUS_RECOVERY 1), 0, 0, by decide⟩,
   ⟨(st fun b => b.put F.CHANGE_STATUS_STATE 0), .firmware, 0, by decide⟩,
   ⟨(st fun b => b.put F.CHANGE_STATUS_STATE 1), .firmware, by decide⟩,
   ⟨(st fun b => { b with cfg.checks := .ofChange :: [] }), ⟨none, false⟩, [], by decide⟩,
   ⟨(st fun b =>
     { b.put F.CHANGE_STATUS_STATE 2 with cfg.newImg := some ({ qui := { parts := [⟨0, 7, 0, 0, 0, 1⟩] } }), twin.link.session := true, twin.hb.role := 1, cfg.twinSaid := some (0, 0) }),
     { qui := { parts := [⟨0, 7, 0, 0, 0, 1⟩] } }, by decide⟩,
   ⟨(st fun b => b.put F.CHANGE_STATUS_STATE 2), by decide⟩,
   ⟨(st fun b => { b.put F.CHANGE_STATUS_STATE 3 with cfg.newImg := some {} }), {}, by decide⟩⟩

theorem wit_placement_commands :
    (∃ s : State, s.body.tier.purge ≠ [])
    ∧ (∃ s : State, s.body.frameNo % (1024 * max 1 (s.body.get F.PLACE_CFG_DECAY_KF)) = 0 ∧ Memory.wf (fun _ => 0) s.body.tier.filter =
      true)
    ∧ (∃ s : State, s.body.frameNo % (1024 * max 1 (s.body.get F.MTL_DISTURB_CFG_DISTURB_DECAY_KF)) = 0 ∧ Memory.wf (fun _ => 0)
      s.body.mtl.sketchA = true ∧ Memory.wf (fun _ => 0) s.body.mtl.sketchB = true)
    ∧ (∃ s : State, ∃ gran lg c set : Nat, ∃ p : PartDef, s.body.partOf (gran * 64) = some p ∧ s.body.lgOf (gran * 64) = some lg ∧
      s.body.spPlace gran = some (c, set) ∧ s.body.placeMode p.id = 1 ∧ s.body.slotOpen (s.body.place lg).ch = true ∧ s.body.spFind gran
      = none ∧ 6 ≤ s.body.pinnedIn c set)
    ∧ (∃ s : State, ∃ gran lg c set : Nat, ∃ p : PartDef, ∃ b' : Body, ∃ k x, s.body.partOf (gran * 64) = some p ∧ s.body.lgOf (gran *
      64) = some lg ∧ s.body.spPlace gran = some (c, set) ∧ s.body.placeMode p.id = 1 ∧ s.body.slotOpen (s.body.place lg).ch = true ∧
      s.body.pinnedIn c set < 6 ∧ s.body.promote lg gran p.id = some b' ∧ b'.spFind gran = some (c, k, x))
    ∧ (∃ s : State, ∃ actor : Actor, ∃ line : Nat, s.body.mayAct actor A.XLATE_ADDR (BitVec.ofNat 64 (line * 64)) = true ∧ line < 2 ^ 41) :=
  ⟨⟨(st fun b => { b with tier.purge := [0] }), by decide⟩,
   ⟨(st id), by decide⟩,
   ⟨(st id), by decide⟩,
   ⟨(st fun b =>
     { b.put (F.PART_ATTR_STATE 0) 1 |>.put (F.SP_CH_LAYOUT_GROUPS 0) 1 |>.put (F.PART_CTL_PLACE_MODE 0) 1 |>.put (F.UNIT_STATE_STATE (U.md 0)) 2 |>.put (F.UNIT_STATE_STATE (U.sp 0)) 2 |>.put F.FRAME_PERIOD_PERIOD_NS 1000 with cfg.img.qui.parts := [(⟨0, 7, 0, 0, 0, 1⟩)], tier.chunkMap := [(0, ⟨0, 0, 0⟩)], sp.set := some [0], sp.ch := [(0, { blocks := (List.range 6).map fun k => (k, ⟨9, 0, 0, 0, 0, [], true, 0, 0, 0⟩) })] }),
     0, 0, 0, 0, ⟨0, 7, 0, 0, 0, 1⟩, by decide⟩,
   ⟨(st fun b =>
     { b.put (F.PART_ATTR_STATE 0) 1 |>.put (F.SP_CH_LAYOUT_GROUPS 0) 1 |>.put (F.PART_CTL_PLACE_MODE 0) 1 |>.put (F.UNIT_STATE_STATE (U.md 0)) 2 |>.put (F.UNIT_STATE_STATE (U.sp 0)) 2 |>.put F.FRAME_PERIOD_PERIOD_NS 1000 with cfg.img.qui.parts := [(⟨0, 7, 0, 0, 0, 1⟩)], tier.chunkMap := [(0, ⟨0, 0, 0⟩)], sp.set := some [0] }),
     0, 0, 0, 0, ⟨0, 7, 0, 0, 0, 1⟩, ((st fun b =>
     { b.put (F.PART_ATTR_STATE 0) 1 |>.put (F.SP_CH_LAYOUT_GROUPS 0) 1 |>.put (F.PART_CTL_PLACE_MODE 0) 1 |>.put (F.UNIT_STATE_STATE (U.md 0)) 2 |>.put (F.UNIT_STATE_STATE (U.sp 0)) 2 |>.put F.FRAME_PERIOD_PERIOD_NS 1000 with cfg.img.qui.parts := [(⟨0, 7, 0, 0, 0, 1⟩)], tier.chunkMap := [(0, ⟨0, 0, 0⟩)], sp.set := some [0] }).body.promote
     0 0 0).getD (bd id), 0, (((((st fun b =>
     { b.put (F.PART_ATTR_STATE 0) 1 |>.put (F.SP_CH_LAYOUT_GROUPS 0) 1 |>.put (F.PART_CTL_PLACE_MODE 0) 1 |>.put (F.UNIT_STATE_STATE (U.md 0)) 2 |>.put (F.UNIT_STATE_STATE (U.sp 0)) 2 |>.put F.FRAME_PERIOD_PERIOD_NS 1000 with cfg.img.qui.parts := [(⟨0, 7, 0, 0, 0, 1⟩)], tier.chunkMap := [(0, ⟨0, 0, 0⟩)], sp.set := some [0] }).body.promote
     0 0 0).getD (bd id)).spFind 0).map (·.2.2)).getD ⟨0, 0, 0, 0, 0, [], false, 0, 0, 0⟩,
     by refine ⟨?_, ?_, ?_, ?_, ?_, ?_, ?_, ?_⟩ <;> first | rfl | decide⟩,
   ⟨(st id), .firmware, 0, by decide⟩⟩

theorem wit_assist_commands :
    (∃ s : State, ∃ id : Nat, ∃ r : AssistReq, s.body.tier.assists.find? (·.req == id) = some r)
    ∧ (∃ s : State, ∃ mr : Nat, s.body.tier.noSlot.contains mr = true) :=
  ⟨⟨(st fun b => { b with tier.assists := [(⟨0, .planned, 0, {}, .cache⟩)] }), 0, ⟨0, .planned, 0, {}, .cache⟩, by decide⟩,
   ⟨(st fun b => { b with tier.noSlot := [0] }), 0, by decide⟩⟩

theorem wit_near_cache_commands :
    (∃ s : State, ∃ mr : Nat, ∃ m : MissReg, ∃ fill : LineData × Bool, ∃ b' : Body, mget s.body.nc.mrs mr = some m ∧ m.fill = some fill ∧
      s.body.isOn U.nc = true ∧ (let fin := m.accs.foldl (fun l a => Body.accLine l a.kind) fill; s.body.install m.line fin.1 (m.dirty ||
      m.accs.any fun a => a.kind != .read) fin.2 m.cls = some b'))
    ∧ (∃ s : State, ∃ line : Nat, ∃ r : Repair, s.body.nc.repairs.find? (·.line == line) = some r ∧ Body.askKind r.ask = .lineRepair ∧
      (s.body.twin.queue.any fun q => q.line == line && q.pos.lt r.pos) = false)
    ∧ (∃ s : State, ∃ col : Nat, ∃ e : ColEntry, ∃ b' : Body, mget s.body.nc.col col = some e ∧ (s.body.nc.col.any fun p => p.2.line ==
      e.line && p.2.writing) = false ∧ s.body.spAccept e.line e.data e.poison = some b')
    ∧ (∃ s : State, ∃ actor : Actor, ∃ whole : Bool, s.body.nc.op = none ∧ acts s.body actor A.NC_OP_CTL (1 + 4 * b2n whole))
    ∧ (∃ s : State, ∃ actor : Actor, ∃ whole : Bool, s.body.nc.op = none ∧ acts s.body actor A.NC_OP_CTL (2 + 4 * b2n whole))
    ∧ (∃ s : State, ∃ actor : Actor, ∃ whole : Bool, s.body.nc.op = none ∧ acts s.body actor A.NC_OP_CTL (3 + 4 * b2n whole))
    ∧ (∃ s : State, ∃ o : NcOp, s.body.nc.op = some o ∧ s.body.ncOpOpen o = false)
    ∧ (∃ s : State, ∃ actor : Actor, ∃ mr : Nat, ∃ m : MissReg, s.body.mayAct actor A.NC_MR_SEL (BitVec.ofNat 64 mr) = true ∧ mr < 4096 ∧
      mget s.body.nc.mrs mr = some m ∧ m.line < 2 ^ 41)
    ∧ (∃ s : State, ∃ actor : Actor, ∃ col : Nat, ∃ e : ColEntry, s.body.mayAct actor A.NC_COL_SEL (BitVec.ofNat 64 col) = true ∧ col <
      512 ∧ mget s.body.nc.col col = some e ∧ e.line < 2 ^ 41) :=
  ⟨⟨(st fun b =>
     { b.put (F.UNIT_STATE_STATE U.nc) 2 with nc.mrs := [(0, (⟨0, .media, [], false, 0, 0, false, false, none, some (0, false)⟩))] }), 0,
     ⟨0, .media, [], false, 0, 0, false, false, none, some (0, false)⟩, (0, false), ((st fun b =>
     { b.put (F.UNIT_STATE_STATE U.nc) 2 with nc.mrs := [(0, (⟨0, .media, [], false, 0, 0, false, false, none, some (0, false)⟩))] }).body.install
     0 0 false false 0).getD (bd id), ⟨rfl, rfl, by decide, rfl⟩⟩,
   ⟨(st fun b => { b with nc.repairs := [(⟨0, {}, .cache⟩)] }), 0, ⟨0, {}, .cache⟩, by decide⟩,
   ⟨(st fun b => { b with nc.col := [(0, (⟨0, 0, false, false⟩))] }), 0, ⟨0, 0, false, false⟩, (st fun b =>
     { b with nc.col := [(0, (⟨0, 0, false, false⟩))] }).body, ⟨rfl, rfl, rfl⟩⟩,
   ⟨(st fun b => { b with nc.op := none }), .firmware, false, by decide⟩,
   ⟨(st fun b => { b with nc.op := none }), .firmware, false, by decide⟩,
   ⟨(st fun b => { b with nc.op := none }), .firmware, false, by decide⟩,
   ⟨(st fun b => { b with nc.op := some (⟨.flush, [], []⟩) }), ⟨.flush, [], []⟩, by decide⟩,
   ⟨(st fun b => { b with nc.mrs := [(0, (⟨0, .media, [], false, 0, 0, false, false, none, none⟩))] }), .firmware, 0, ⟨0, .media, [],
     false, 0, 0, false, false, none, none⟩, by decide⟩,
   ⟨(st fun b => { b with nc.col := [(0, (⟨0, 0, false, false⟩))] }), .firmware, 0, ⟨0, 0, false, false⟩, by decide⟩⟩

theorem wit_stockpot_commands :
    (∃ s : State, s.body.sp.set = none ∧ s.body.boot.filled = true ∧ (s.body.spChans.any fun c => (s.body.spCh c).first && s.body.unit
      (U.sp c) == .starting) = false)
    ∧ (∃ s : State, ∃ gran : Nat, ∃ w : WriteBack, (s.body.sp.wbs.find? fun w => w.gran == gran && w.ok) = some w)
    ∧ (∃ s : State, ∃ ch : Nat, ∃ since, ch < 12 ∧ s.body.isOn (U.sp ch) = true ∧ s.body.spMode ch ≠ .frozen ∧ (s.body.spCh ch).alerted =
      false ∨ 1024 < since)
    ∧ (∃ s : State, ∃ ch mr : Nat, ((s.body.spCh ch).held.any (·.mr == mr)) = true)
    ∧ (∃ s : State, ∃ actor : Actor, ∃ ch : Nat, ch < 12 ∧ acts s.body actor (A.SP_CH_CTL ch) (bitWord s.body (F.SP_CH_CTL_THAW ch) 1) ∧
      s.body.spMode ch = .frozen)
    ∧ (∃ s : State, ∃ ch us : Nat, ch < 12 ∧ (s.body.spCh ch).thawing = true)
    ∧ (∃ s : State, ∃ actor : Actor, ∃ ch : Nat, ch < 12 ∧ acts s.body actor (A.SP_CH_CTL ch) (bitWord s.body (F.SP_CH_CTL_DECLARE_LOST
      ch) 1)) :=
  ⟨⟨(st fun b => { b with sp.set := none, boot.filled := true }), by decide⟩,
   ⟨(st fun b => { b with sp.wbs := [(⟨0, 0, 0, 0, true⟩)] }), 0, ⟨0, 0, 0, 0, true⟩, by decide⟩,
   ⟨(st fun b => { b.put (F.UNIT_STATE_STATE (U.sp 0)) 2 with sp.ch := [(0, { alerted := false })] }), 0, 0, by decide⟩,
   ⟨(st fun b => { b with sp.ch := [(0, { held := [⟨0, 0⟩] })] }), 0, 0, by decide⟩,
   ⟨(st fun b => b.put (F.SP_CH_STATUS_MODE 0) 1), .firmware, 0, by decide⟩,
   ⟨(st fun b => { b with sp.ch := [(0, { thawing := true })] }), 0, 0, by decide⟩,
   ⟨(st id), .firmware, 0, by decide⟩⟩

theorem wit_fill_and_scrub_commands :
    (∃ s : State, ∃ actor : Actor, ∃ mask : Nat, acts s.body actor A.SP_FILL_CTL (1 + 2 * mask))
    ∧ (∃ s : State, ∃ f : FillJob, s.body.sp.fill = some f)
    ∧ (∃ s : State, ∃ actor : Actor, acts s.body actor A.SP_SCRUB_CTL 1 ∧ s.body.sp.scrub = none ∧ s.body.get F.SP_SCRUB_CH_CH < 12 ∧
      s.body.isOn (U.sp (s.body.get F.SP_SCRUB_CH_CH)) = true ∧ s.body.spMode (s.body.get F.SP_SCRUB_CH_CH) ≠ .frozen)
    ∧ (∃ s : State, ∃ c lo n us : Nat, s.body.sp.scrub = some (c, lo, n)) :=
  ⟨⟨(st id), .firmware, 0, by decide⟩,
   ⟨(st fun b => { b with sp.fill := some (⟨0, 1, 0, 0⟩) }), ⟨0, 1, 0, 0⟩, by decide⟩,
   ⟨(st fun b => { b.put (F.UNIT_STATE_STATE (U.sp 0)) 2 with sp.scrub := none }), .firmware, by decide⟩,
   ⟨(st fun b => { b with sp.scrub := some (0, 0, 0) }), 0, 0, 0, 0, by decide⟩⟩

theorem wit_media_commands :
    (∃ s : State, ∃ i bits lg : Nat, ∃ m : MissReg, ∃ r : Option Nat, mget s.body.nc.mrs i = some m ∧ m.src = .media ∧ m.fill = none ∧
      s.body.tier.noSlot.contains i = false ∧ s.body.lgOf m.line = some lg)
    ∧ (∃ s : State, ∃ lg : Nat, ∃ ok0 ok1 : Bool, s.body.mtl.mapReads.contains lg = true ∧ mget s.body.mtl.cache lg = none ∧ (ok0 = true
      ∨ ok1 = true))
    ∧ (∃ s : State, ∃ lg : Nat, s.body.mtl.mapReads.contains lg = true)
    ∧ (∃ s : State, ∃ id cw : Nat, ∃ o : MediaOp, s.body.mop id = some o ∧ o.fly = [cw] ∧ o.left = [] ∧ o.failed = false ∧
      (Body.OpKind.moves o.kind = false ∨ o.move = false))
    ∧ (∃ s : State, ∃ md cause : Nat, cause ≠ 0)
    ∧ (∃ s : State, ∃ md : Nat, s.body.isOn (U.md md) = true)
    ∧ (∃ s : State, ∃ op : Nat, ∃ o : MediaOp, s.body.mop op = some o ∧ o.done = true)
    ∧ (∃ s : State, ∃ lg : Nat, ∃ c : CacheEntry, mget s.body.mtl.cache lg = some c ∧ c.dirty = true ∧ c.first + 65536 ≤ s.body.frameNo ∧
      s.body.pkgWritable (s.body.place lg).ch (s.body.place lg).pos = true)
    ∧ (∃ s : State, ∃ actor : Actor, acts s.body actor A.MTL_CTL (s.body.get F.MTL_CTL_ENABLE + 2))
    ∧ (∃ s : State, ∃ md : Nat, ∃ bits : List (Option Nat), s.body.isOn U.scourer = true ∧ s.body.isOn (U.md md) = true ∧
      s.body.scourNext md = none)
    ∧ (∃ s : State, ∃ md : Nat, ∃ bits : List (Option Nat), ∃ lg, s.body.isOn U.scourer = true ∧ s.body.isOn (U.md md) = true ∧
      s.body.scourNext md = some lg)
    ∧ (∃ s : State, ∃ actor : Actor, ∃ md result us : Nat, md < 32 ∧ acts s.body actor (A.MD_CTL md) (bitWord s.body (F.MD_CTL_RETRAIN
      md) 1) ∧ s.body.isOn (U.md md) = true ∧ result < 16)
    ∧ (∃ s : State, ∃ actor : Actor, ∃ md mask : Nat, md < 32 ∧ acts s.body actor (A.MD_CTL md) ((s.body.word (A.MD_CTL md)).toNat + 4 +
      8 * mask) ∧ (nbit mask 0 = true ∨ nbit mask 1 = true) ∧ s.body.unit (U.md md) = .off ∧ (s.body.mdCh md).formatting = [])
    ∧ (∃ s : State, ∃ actor : Actor, ∃ md mask : Nat, md < 32 ∧ acts s.body actor (A.MD_CTL md) ((s.body.word (A.MD_CTL md)).toNat + 4 +
      8 * mask) ∧ (nbit mask 0 = true ∨ nbit mask 1 = true) ∧ s.body.unit (U.md md) ≠ .off)
    ∧ (∃ s : State, ∃ md pos gib : Nat, (s.body.mdCh md).formatting.contains pos = true)
    ∧ (∃ s : State, ∃ actor : Actor, ∃ mask : Nat, acts s.body actor A.MTL_UNTRUST_CLR mask) :=
  ⟨⟨(st fun b =>
     { b with nc.mrs := [(0, (⟨0, .media, [], false, 0, 0, false, false, none, none⟩))], tier.chunkMap := [(0, ⟨0, 0, 0⟩)] }), 0, 0, 0,
     ⟨0, .media, [], false, 0, 0, false, false, none, none⟩, none, by decide⟩,
   ⟨(st fun b => { b with mtl.mapReads := [0] }), 0, true, false, by decide⟩,
   ⟨(st fun b => { b with mtl.mapReads := [0] }), 0, by decide⟩,
   ⟨(st fun b =>
     { b with mtl.ops := [({ id := 0, kind := .lineWrite, lg := 0, gran := 0, ch := 0, carried := 0, carPoison := 0, data := [], fly := [0] })] }),
     0, 0, { id := 0, kind := .lineWrite, lg := 0, gran := 0, ch := 0, carried := 0, carPoison := 0, data := [], fly := [0] }, by decide⟩,
   ⟨(st id), 0, 1, by decide⟩,
   ⟨(st fun b => b.put (F.UNIT_STATE_STATE (U.md 0)) 2), 0, by decide⟩,
   ⟨(st fun b =>
     { b with mtl.ops := [({ id := 0, kind := .lineWrite, lg := 0, gran := 0, ch := 0, carried := 0, carPoison := 0, data := [], done := true })] }),
     0, { id := 0, kind := .lineWrite, lg := 0, gran := 0, ch := 0, carried := 0, carPoison := 0, data := [], done := true }, by decide⟩,
   ⟨(st fun b =>
     { b.put (F.UNIT_STATE_STATE (U.md 0)) 2 |>.put F.FRAME_NOW_FRAME 65536 with mtl.cache := [(0, (⟨{}, true, 0, false⟩))], mtl.ch := [(0, { pkgs := [(0, ⟨1, 1, 1, 1, 1, 0, 0, 0, [], 0, true, true⟩)] })] }),
     0, ⟨{}, true, 0, false⟩, by decide⟩,
   ⟨(st id), .firmware, by decide⟩,
   ⟨(st fun b => b.put (F.UNIT_STATE_STATE U.scourer) 2 |>.put (F.UNIT_STATE_STATE (U.md 0)) 2), 0, [], by decide⟩,
   ⟨(st fun b =>
     { b.put (F.UNIT_STATE_STATE U.scourer) 2 |>.put (F.UNIT_STATE_STATE (U.md 0)) 2 with mtl.ch := [(0, { pkgs := [(0, ⟨1, 1, 1, 1, 1, 0, 0, 0, [], 0, true, true⟩)] })], mtl.map := [(0, { mapped := true })] }),
     0, [], 0, by decide⟩,
   ⟨(st fun b => b.put (F.UNIT_STATE_STATE (U.md 0)) 2), .firmware, 0, 0, 0, by decide⟩,
   ⟨(st fun b => { b.put (F.UNIT_STATE_STATE (U.md 0)) 0 with mtl.ch := [(0, { formatting := [] })] }), .firmware, 0, 1, by decide⟩,
   ⟨(st fun b => b.put (F.UNIT_STATE_STATE (U.md 0)) 2), .firmware, 0, 1, by decide⟩,
   ⟨(st fun b => { b with mtl.ch := [(0, { formatting := [0] })] }), 0, 0, 0, by decide⟩,
   ⟨(st id), .firmware, 1, by decide⟩⟩

theorem wit_persist_commands :
    (∃ s : State, s.body.hob.present = true ∧ nbit s.body.cfg.img.qui.pfailSrc 0 = true ∧ s.body.hobState ≠ .off ∧ s.body.flag
      F.HOB_STATUS_PFAIL = false)
    ∧ (∃ s : State, s.body.per.pf = .detected ∧ s.body.per.pfFrame + 1 ≤ s.body.frameNo)
    ∧ (∃ s : State, s.body.per.pf = .stopped ∧ s.body.per.pfFrame + 2 ≤ s.body.frameNo)
    ∧ (∃ s : State, s.body.per.pf = .committed ∧ s.body.writesHeld = false)
    ∧ (∃ s : State, ∃ us : Nat, s.body.per.pf = .vaulting)
    ∧ (∃ s : State, ∃ abandoned : Bool, ∃ us : Nat, s.body.spk.flushing = some 0 ∧ s.body.spk.flushReq = false ∧ s.body.spk.pfFlush =
      false)
    ∧ (∃ s : State, ∃ abandoned : Bool, ∃ us : Nat, s.body.spk.flushing = some 0 ∧ s.body.spk.flushReq = false ∧ s.body.spk.pfFlush =
      true ∧ s.body.per.pf = .sealed)
    ∧ (∃ s : State, s.body.per.replaying = true ∧ (s.body.mtl.ops.any (·.kind == .replay)) = false ∧ s.body.per.hold = false)
    ∧ (∃ s : State, ∃ actor : Actor, acts s.body actor F.PERSIST_CTL_ACCEPT_LOSS.addr (bitWord s.body F.PERSIST_CTL_ACCEPT_LOSS 1) ∧
      s.body.per.hold = true) :=
  ⟨⟨(st fun b => { b.put F.HOB_STATUS_STATE 2 with hob.present := true, cfg.img.qui.pfailSrc := 1 }), by decide⟩,
   ⟨(st fun b => { b.put F.FRAME_NOW_FRAME 1 with per.pf := .detected }), by decide⟩,
   ⟨(st fun b => { b.put F.FRAME_NOW_FRAME 2 with per.pf := .stopped }), by decide⟩,
   ⟨(st fun b => { b with per.pf := .committed }), by decide⟩,
   ⟨(st fun b => { b with per.pf := .vaulting }), 0, by decide⟩,
   ⟨(st fun b => { b with spk.flushing := some 0, spk.flushReq := false, spk.pfFlush := false }), false, 0, by decide⟩,
   ⟨(st fun b => { b with spk.flushing := some 0, spk.flushReq := false, spk.pfFlush := true, per.pf := .sealed }), false, 0, by decide⟩,
   ⟨(st fun b => { b with per.replaying := true, per.hold := false }), by decide⟩,
   ⟨(st fun b => { b with per.hold := true }), .firmware, by decide⟩⟩

theorem wit_twin_link_commands :
    (∃ s : State, s.body.isOn U.twin = true ∧ s.body.linkUp = false ∧ s.body.mayTag = true ∧ nbit s.body.cfg.img.fix2.twinFlags 1 = true)
    ∧ (∃ s : State, ∃ h : MsgHdr, ∃ m : HelloMsg, (s.body.twin.link.mainUp = true ∨ s.body.twin.link.fallUp = true) ∧ h.tagOk = true ∧
      m.member = s.body.cfg.img.fix2.twinMember ∧ m.twin = s.body.cfg.img.fix.member ∧ m.domain = s.body.cfg.img.fix.domain ∧ m.keyGen =
      s.body.ciph.cur.gen ∧ m.period = s.body.periodNs)
    ∧ (∃ s : State, ∃ h : MsgHdr, ∃ m : HelloMsg, (s.body.twin.link.mainUp = true ∨ s.body.twin.link.fallUp = true) ∧ h.tagOk = true ∧
      m.member ≠ s.body.cfg.img.fix2.twinMember)
    ∧ (∃ s : State, s.body.twin.link.onFall = false ∧ s.body.twin.link.mainUp = true)
    ∧ (∃ s : State, 10000 ≤ s.body.get F.TWIN_STATUS_MAIN_STABLE ∧ s.body.twin.link.onFall = true ∧ s.body.twin.link.peerStable = true ∧
      s.body.twin.link.revert = 0 ∧ s.body.cfg.img.fix.member ≤ s.body.cfg.img.fix2.twinMember)
    ∧ (∃ s : State, s.body.twin.link.revert ≠ 0 ∧ s.body.twin.link.revert ≤ s.body.frameNo ∧ s.body.twin.link.onFall = true ∧
      s.body.twin.link.mainUp = true ∧ s.body.flag F.TWIN_CTL_REVERT_DIS = false ∧ s.body.get F.TWIN_CTL_GROUP_FORCE ≠ 2)
    ∧ (∃ s : State, ∃ h : MsgHdr, ∃ frame seq : Nat, inOrder s.body h)
    ∧ (∃ s : State, ∃ h : MsgHdr, ∃ m : TrivetMsg, ∃ key us : Nat, inOrder s.body h ∧ (m.typ = 3 ∨ m.typ = 4))
    ∧ (∃ s : State, ∃ h : MsgHdr, ∃ m : TrivetMsg, ∃ key us : Nat, inOrder s.body h ∧ m.typ ≠ 3 ∧ m.typ ≠ 4) :=
  ⟨⟨(st fun b => { b.put (F.UNIT_STATE_STATE U.twin) 2 with cfg.img.fix2.twinFlags := 2, ciph.derived := true, ciph.cur.gen := 1 }),
     by decide⟩,
   ⟨(st fun b => { b with twin.link.mainUp := true }), ⟨0, 0, true⟩, ⟨0, 0, 0, 0, 0, 0⟩, by decide⟩,
   ⟨(st fun b => { b with twin.link.mainUp := true }), ⟨0, 0, true⟩, ⟨1, 0, 0, 0, 0, 0⟩, by decide⟩,
   ⟨(st fun b => { b with twin.link.onFall := false, twin.link.mainUp := true }), by decide⟩,
   ⟨(st fun b =>
     { b.put F.TWIN_STATUS_MAIN_STABLE 10000 with twin.link.onFall := true, twin.link.peerStable := true, twin.link.revert := 0 }),
     by decide⟩,
   ⟨(st fun b => { b.put F.FRAME_NOW_FRAME 1 with twin.link.onFall := true, twin.link.mainUp := true, twin.link.revert := 1 }),
     by decide⟩,
   ⟨(st fun b => { b with twin.link.session := true }), ⟨0, 0, true⟩, 0, 0, by decide⟩,
   ⟨(st fun b => { b with twin.link.session := true }), ⟨0, 0, true⟩, ⟨3, 0, 0, 0, 0, 0, 0, 0, 0, 0, 0, 0⟩, 0, 0, by decide⟩,
   ⟨(st fun b => { b with twin.link.session := true }), ⟨0, 0, true⟩, ⟨5, 0, 0, 0, 0, 0, 0, 0, 0, 0, 0, 0⟩, 0, 0, by decide⟩⟩

theorem wit_mirror_commands :
    (∃ s : State, s.body.mirrors = true ∧ s.body.twin.late = [] ∧ s.body.twin.sealed = false ∧ s.body.frame.sealing = true)
    ∧ (∃ s : State, ∃ h : MsgHdr, ∃ m : SegMsg, inOrder s.body h ∧ m.epoch < s.body.epochNow)
    ∧ (∃ s : State, ∃ h : MsgHdr, ∃ m : SegMsg, inOrder s.body h ∧ s.body.epochNow ≤ m.epoch ∧ s.body.follows = true)
    ∧ (∃ s : State, ∃ h : MsgHdr, ∃ m : SealMsg, inOrder s.body h ∧ s.body.epochNow ≤ m.epoch ∧ s.body.follows = true ∧ s.body.twin.rxGap
      = false ∧ m.batch = s.body.twin.rxBatch ∧ m.segments = s.body.twin.rxSegs ∧ m.records = s.body.twin.rxRecs ∧ s.body.twin.ackOwed =
      [] ∧ (s.body.nc.held.any (·.req == Requester.mirror)) = false)
    ∧ (∃ s : State, ∃ h : MsgHdr, ∃ batch : Nat, inOrder s.body h ∧ s.body.holds = true)
    ∧ (∃ s : State, ∃ sub : Nat, s.body.linkUp = true ∧ s.body.isOn U.twin = true)
    ∧ (∃ s : State, ∃ h : MsgHdr, ∃ m : Heartbeat, ∃ at_ : Nat, inOrder s.body h ∧ s.body.epochNow ≤ m.epoch ∧ m.period =
      s.body.periodNs)
    ∧ (∃ s : State, 64 ≤ s.body.get F.TWIN_STATUS_MISSED_RUN ∧ s.body.twin.lease.detected = false ∧ s.body.isOn U.twin = true ∧
      s.body.role = .none)
    ∧ (∃ s : State, 64 ≤ s.body.get F.TWIN_STATUS_MISSED_RUN ∧ s.body.twin.lease.detected = false ∧ s.body.isOn U.twin = true ∧
      (s.body.role = .standby ∨ s.body.role = .active))
    ∧ (∃ s : State, ∃ h : MsgHdr, ∃ req line lg : Nat, ∃ kind : AssistKind, ∃ pos : MPos, ∃ d : LineData, inOrder s.body h ∧ (s.body.role
      = .active ∨ s.body.role = .standby) ∧ s.body.inWindow pos = true ∧ s.body.lgOf line = some lg ∧ s.body.spFrozen (Body.granOf line)
      = false ∧ kind ≠ .granuleRepair ∧ s.body.asOf line pos = (d, false))
    ∧ (∃ s : State, ∃ h : MsgHdr, ∃ req : Nat, ∃ a : AssistReq, ∃ d : LineData, inOrder s.body h ∧ s.body.tier.assists.find? (·.req ==
      req) = some a ∧ a.kind ≠ .granuleRepair) :=
  ⟨⟨(st fun b =>
     { b.put F.TWIN_STATUS_ROLE 1 |>.put (F.UNIT_STATE_STATE U.twin) 2 with twin.late := [], twin.sealed := false, frame.sealing := true, twin.link.session := true, twin.link.peerOk := true, twin.link.mainUp := true }),
     by decide⟩,
   ⟨(st fun b => { b.put F.TWIN_LEASE_EPOCH 1 with twin.link.session := true }), ⟨0, 0, true⟩, ⟨0, 0, 0, []⟩, by decide⟩,
   ⟨(st fun b => { b.put F.TWIN_STATUS_ROLE 2 with twin.link.session := true }), ⟨0, 0, true⟩, ⟨0, 0, 0, []⟩, by decide⟩,
   ⟨(st fun b => { b.put F.TWIN_STATUS_ROLE 2 with twin.link.session := true, twin.rxGap := false, twin.ackOwed := [] }), ⟨0, 0, true⟩,
     ⟨0, 0, 0, 0, 0⟩, by decide⟩,
   ⟨(st fun b => { b.put F.TWIN_STATUS_ROLE 1 with twin.link.session := true }), ⟨0, 0, true⟩, 0, by decide⟩,
   ⟨(st fun b =>
     { b.put (F.UNIT_STATE_STATE U.twin) 2 with twin.link.session := true, twin.link.peerOk := true, twin.link.mainUp := true }), 0,
     by decide⟩,
   ⟨(st fun b => { b with twin.link.session := true }), ⟨0, 0, true⟩, {}, 0, by decide⟩,
   ⟨(st fun b =>
     { b.put F.TWIN_STATUS_MISSED_RUN 64 |>.put (F.UNIT_STATE_STATE U.twin) 2 |>.put F.TWIN_STATUS_ROLE 0 with twin.lease.detected := false }),
     by decide⟩,
   ⟨(st fun b =>
     { b.put F.TWIN_STATUS_MISSED_RUN 64 |>.put (F.UNIT_STATE_STATE U.twin) 2 |>.put F.TWIN_STATUS_ROLE 2 with twin.lease.detected := false }),
     by decide⟩,
   ⟨(st fun b => { b.put F.TWIN_STATUS_ROLE 1 with twin.link.session := true, tier.chunkMap := [(0, ⟨0, 0, 0⟩)] }), ⟨0, 0, true⟩, 0, 0,
     0, .planned, {}, ((st fun b =>
     { b.put F.TWIN_STATUS_ROLE 1 with twin.link.session := true, tier.chunkMap := [(0, ⟨0, 0, 0⟩)] }).body.asOf 0 {}).1, by decide⟩,
   ⟨(st fun b => { b with twin.link.session := true, tier.assists := [(⟨0, .planned, 0, {}, .cache⟩)] }), ⟨0, 0, true⟩, 0, ⟨0, .planned,
     0, {}, .cache⟩, 0, by decide⟩⟩

theorem wit_lease_commands :
    (∃ s : State, s.body.holds = true ∧ s.body.twin.lease.renewAt + 50 ≤ s.body.frameNo)
    ∧ (∃ s : State, s.body.holds = true ∧ s.body.get F.TWIN_EXPIRY_FRAME ≠ 0 ∧ s.body.get F.TWIN_EXPIRY_FRAME ≤ s.body.frameNo + 8 ∧
      s.body.twin.lease.stopRead = false)
    ∧ (∃ s : State, s.body.holds = true ∧ s.body.get F.TWIN_EXPIRY_FRAME ≠ 0 ∧ s.body.get F.TWIN_EXPIRY_FRAME ≤ s.body.frameNo)
    ∧ (∃ s : State, ∃ id : Nat, ∃ r : TReq, (s.body.twin.lease.reqs.find? fun r => r.id == id && !r.dead) = some r ∧ r.typ ≠ 2)
    ∧ (∃ s : State, ∃ id : Nat, ∃ r : TReq, (s.body.twin.lease.reqs.find? fun r => r.id == id && !r.dead) = some r ∧ r.typ = 2)
    ∧ (∃ s : State, ∃ m : TrivetMsg, ∃ src key us : Nat, ∃ r : TReq, s.body.trivetKey key = true ∧ m.domain = s.body.cfg.img.fix.domain ∧
      m.member = s.body.cfg.img.fix.member ∧ s.body.twin.lease.reqs.find? (·.id == m.reqId) = some r ∧ m.reason ≠ 3)
    ∧ (∃ s : State, ∃ m : TrivetMsg, ∃ src key us : Nat, ∃ r : TReq, s.body.trivetKey key = true ∧ m.domain = s.body.cfg.img.fix.domain ∧
      m.member = s.body.cfg.img.fix.member ∧ s.body.twin.lease.reqs.find? (·.id == m.reqId) = some r ∧ m.reason = 3)
    ∧ (∃ s : State, ∃ actor : Actor, acts s.body actor F.TWIN_CTL_HANDOFF.addr (bitWord s.body F.TWIN_CTL_HANDOFF 1))
    ∧ (∃ s : State, s.body.twin.lease.handoff = true ∧ s.body.role = .active ∧ s.body.twinRole = .standby ∧ s.body.twin.lease.stopRead =
      true ∧ s.body.per.batches = [])
    ∧ (∃ s : State, ∃ actor : Actor, acts s.body actor F.TWIN_CTL_FORCE_SOLO.addr (bitWord s.body F.TWIN_CTL_FORCE_SOLO 1))
    ∧ (∃ s : State, s.body.role = .none ∧ s.body.isOn U.twin = true ∧ s.body.twin.lease.heard = false ∧ s.body.replayOver = true ∧
      s.body.twin.lease.onAt + s.body.get F.TWIN_CFG_PAIR_WAIT_MS * 1000000 ≤ s.body.time.tai) :=
  ⟨⟨(st fun b => b.put F.TWIN_STATUS_ROLE 1 |>.put F.FRAME_NOW_FRAME 50), by decide⟩,
   ⟨(st fun b => { b.put F.TWIN_STATUS_ROLE 1 |>.put F.TWIN_EXPIRY_FRAME 1 with twin.lease.stopRead := false }), by decide⟩,
   ⟨(st fun b => b.put F.TWIN_STATUS_ROLE 1 |>.put F.TWIN_EXPIRY_FRAME 1 |>.put F.FRAME_NOW_FRAME 1), by decide⟩,
   ⟨(st fun b => { b with twin.lease.reqs := [(⟨0, 0, 0, 0, false, false, false⟩)] }), 0, ⟨0, 0, 0, 0, false, false, false⟩, by decide⟩,
   ⟨(st fun b => { b with twin.lease.reqs := [(⟨0, 2, 0, 0, false, false, false⟩)] }), 0, ⟨0, 2, 0, 0, false, false, false⟩, by decide⟩,
   ⟨(st fun b => { b with twin.lease.reqs := [(⟨0, 0, 0, 0, false, false, false⟩)], ciph.derived := true, ciph.cur.gen := 1 }), ⟨3, 0, 0,
     0, 0, 0, 0, 0, 0, 0, 0, 0⟩, 0, 1, 0, ⟨0, 0, 0, 0, false, false, false⟩, by decide⟩,
   ⟨(st fun b => { b with twin.lease.reqs := [(⟨0, 0, 0, 0, false, false, false⟩)], ciph.derived := true, ciph.cur.gen := 1 }), ⟨3, 0, 0,
     0, 0, 0, 3, 0, 0, 0, 0, 0⟩, 0, 1, 0, ⟨0, 0, 0, 0, false, false, false⟩, by decide⟩,
   ⟨(st id), .firmware, by decide⟩,
   ⟨(st fun b =>
     { b.put F.TWIN_STATUS_ROLE 1 with twin.lease.handoff := true, twin.lease.stopRead := true, per.batches := [], twin.hb.role := 2 }),
     by decide⟩,
   ⟨(st id), .firmware, by decide⟩,
   ⟨(st fun b =>
     { b.put F.TWIN_STATUS_ROLE 0 |>.put (F.UNIT_STATE_STATE U.twin) 2 with twin.lease.heard := false, per.hdrRead := true, time.tai := 10 ^ 12 }),
     by decide⟩⟩

theorem wit_resync_and_witness_commands :
    (∃ s : State, ∃ h : MsgHdr, ∃ mode : Nat, inOrder s.body h ∧ s.body.role = .none ∧ (s.body.twin.hb.role = 1 ∨ s.body.twin.hb.role =
      3) ∧ s.body.sameImage = true ∧ s.body.per.pf = .idle ∧ s.body.isOn U.twin = true ∧ (s.body.replayOver = false ∨ ((List.range
      12).any fun c => s.body.spMode c == .frozen) = true))
    ∧ (∃ s : State, ∃ h : MsgHdr, ∃ mode : Nat, inOrder s.body h ∧ s.body.role = .none ∧ (s.body.twin.hb.role = 1 ∨ s.body.twin.hb.role =
      3) ∧ s.body.sameImage = true ∧ s.body.per.pf = .idle ∧ s.body.isOn U.twin = true ∧ s.body.replayOver = true ∧ ((List.range 12).any
      fun c => s.body.spMode c == .frozen) = false)
    ∧ (∃ s : State, ∃ h : MsgHdr, ∃ grans : List Nat, inOrder s.body h ∧ (s.body.role = .solo ∨ s.body.role = .active) ∧ (s.body.get
      F.RESYNC_STATUS_STATE = 1 ∨ s.body.get F.RESYNC_STATUS_STATE = 2) ∧ s.body.flag F.RESYNC_STATUS_MODE = false)
    ∧ (∃ s : State, ∃ h : MsgHdr, inOrder s.body h ∧ s.body.role = .resync)
    ∧ (∃ s : State, s.body.twin.resync.switchF ≠ 0 ∧ s.body.twin.resync.switchF ≤ s.body.frameNo ∧ s.body.role = .solo ∧
      s.body.twin.resync.grantAct = true)
    ∧ (∃ s : State, s.body.twin.resync.switchF ≠ 0 ∧ s.body.twin.resync.switchF ≤ s.body.frameNo ∧ s.body.role = .resync)
    ∧ (∃ s : State, s.body.role = .solo ∧ s.body.twin.resync.switchF ≠ 0 ∧ s.body.twin.resync.switchF ≤ s.body.frameNo + 4 ∧
      s.body.twin.resync.grantAct = false)
    ∧ (∃ s : State, ∃ m : TrivetMsg, ∃ key : Nat, ∃ p : WPair, s.body.witnessOn = true ∧ s.body.trivetKey key = true ∧ (∀ typ,
      s.body.pairOf { m with typ := typ } = some p) ∧ s.body.witnessSeen p m = false ∧ p.holder = some m.member ∧ m.epoch = p.epoch)
    ∧ (∃ s : State, ∃ m : TrivetMsg, ∃ key : Nat, ∃ p : WPair, s.body.witnessOn = true ∧ s.body.trivetKey key = true ∧ (∀ typ,
      s.body.pairOf { m with typ := typ } = some p) ∧ s.body.witnessSeen p m = false ∧ p.holder ≠ some m.member ∧ s.body.witnessHold =
      false ∧ m.epoch = p.epoch ∧ p.live = false)
    ∧ (∃ s : State, ∃ m : TrivetMsg, ∃ key : Nat, ∃ p : WPair, s.body.witnessOn = true ∧ s.body.trivetKey key = true ∧ (∀ typ,
      s.body.pairOf { m with typ := typ } = some p) ∧ s.body.witnessSeen p m = false ∧ p.holder ≠ some m.member ∧ s.body.witnessHold =
      false ∧ m.epoch = p.epoch ∧ p.live = true)
    ∧ (∃ s : State, ∃ m : TrivetMsg, ∃ key : Nat, ∃ p : WPair, s.body.witnessOn = true ∧ s.body.trivetKey key = true ∧ (∀ typ,
      s.body.pairOf { m with typ := typ } = some p) ∧ s.body.witnessSeen p m = false ∧ p.holder ≠ some m.member ∧ s.body.witnessHold =
      true)
    ∧ (∃ s : State, ∃ m : TrivetMsg, ∃ key : Nat, ∃ p : WPair, s.body.witnessOn = true ∧ s.body.trivetKey key = true ∧ (∀ typ,
      s.body.pairOf { m with typ := typ } = some p) ∧ s.body.witnessSeen p m = false ∧ p.holder = some m.member ∧ s.body.witnessHold =
      false ∧ m.epoch = p.epoch ∧ p.live = true)
    ∧ (∃ s : State, ∃ m : TrivetMsg, ∃ key : Nat, ∃ p : WPair, s.body.witnessOn = true ∧ s.body.trivetKey key = true ∧ (∀ typ,
      s.body.pairOf { m with typ := typ } = some p) ∧ s.body.witnessSeen p m = true)
    ∧ (∃ s : State, ∃ low high : Nat, ∃ p : WPair, (s.body.twin.lease.pairs.find? fun p => p.low == low && p.high == high) = some p ∧
      p.live = true ∧ p.at_ + s.body.witnessFrames ≤ s.body.frameNo ∧ p.held = [])
    ∧ (∃ s : State, ∃ low high : Nat, ∃ p : WPair, ∃ f h, (s.body.twin.lease.pairs.find? fun p => p.low == low && p.high == high) = some
      p ∧ p.live = true ∧ p.at_ + s.body.witnessFrames ≤ s.body.frameNo ∧ p.held = [(f, h)] ∧ s.body.witnessOn = true)
    ∧ (∃ s : State, ∃ f : Nat, s.body.twin.lease.wStart = some f ∧ f + s.body.holdFrames ≤ s.body.frameNo) :=
  ⟨⟨(st fun b =>
     { b.put F.TWIN_STATUS_ROLE 0 |>.put (F.UNIT_STATE_STATE U.twin) 2 with twin.link.session := true, twin.hb.role := 1, per.pf := .idle }),
     ⟨0, 0, true⟩, 0, by decide⟩,
   ⟨(st fun b =>
     { b.put F.TWIN_STATUS_ROLE 0 |>.put (F.UNIT_STATE_STATE U.twin) 2 with twin.link.session := true, twin.hb.role := 1, per.pf := .idle, per.hdrRead := true }),
     ⟨0, 0, true⟩, 0, by decide⟩,
   ⟨(st fun b => { b.put F.TWIN_STATUS_ROLE 3 |>.put F.RESYNC_STATUS_STATE 1 with twin.link.session := true }), ⟨0, 0, true⟩, [],
     by decide⟩,
   ⟨(st fun b => { b.put F.TWIN_STATUS_ROLE 4 with twin.link.session := true }), ⟨0, 0, true⟩, by decide⟩,
   ⟨(st fun b => { b.put F.TWIN_STATUS_ROLE 3 |>.put F.FRAME_NOW_FRAME 1 with twin.resync.grantAct := true, twin.resync.switchF := 1 }),
     by decide⟩,
   ⟨(st fun b => { b.put F.TWIN_STATUS_ROLE 4 |>.put F.FRAME_NOW_FRAME 1 with twin.resync.switchF := 1 }), by decide⟩,
   ⟨(st fun b => { b.put F.TWIN_STATUS_ROLE 3 |>.put F.FRAME_NOW_FRAME 1 with twin.resync.grantAct := false, twin.resync.switchF := 1 }),
     by decide⟩,
   ⟨(st fun b =>
     { b.put F.TWIN_CTL_WITNESS_EN 1 |>.put (F.UNIT_STATE_STATE U.twin) 2 with ciph.derived := true, ciph.cur.gen := 1, twin.lease.pairs := [(⟨1, 2, some 1, 0, 0, false, 0, []⟩)], cfg.img.fix2.twinFlags := 1 }),
     ⟨3, 0, 1, 2, 0, 0, 0, 0, 0, 0, 0, 0⟩, 1, ⟨1, 2, some 1, 0, 0, false, 0, []⟩, ⟨by decide, by decide, fun _ => rfl, by decide⟩⟩,
   ⟨(st fun b =>
     { b.put F.TWIN_CTL_WITNESS_EN 1 |>.put (F.UNIT_STATE_STATE U.twin) 2 with ciph.derived := true, ciph.cur.gen := 1, twin.lease.pairs := [(⟨1, 2, none, 0, 0, false, 0, []⟩)], cfg.img.fix2.twinFlags := 1 }),
     ⟨3, 0, 1, 2, 0, 0, 0, 0, 0, 0, 0, 0⟩, 1, ⟨1, 2, none, 0, 0, false, 0, []⟩, ⟨by decide, by decide, fun _ => rfl, by decide⟩⟩,
   ⟨(st fun b =>
     { b.put F.TWIN_CTL_WITNESS_EN 1 |>.put (F.UNIT_STATE_STATE U.twin) 2 with ciph.derived := true, ciph.cur.gen := 1, twin.lease.pairs := [(⟨1, 2, none, 0, 0, true, 0, []⟩)], cfg.img.fix2.twinFlags := 1 }),
     ⟨3, 0, 1, 2, 0, 0, 0, 0, 0, 0, 0, 0⟩, 1, ⟨1, 2, none, 0, 0, true, 0, []⟩, ⟨by decide, by decide, fun _ => rfl, by decide⟩⟩,
   ⟨(st fun b =>
     { b.put F.TWIN_CTL_WITNESS_EN 1 |>.put (F.UNIT_STATE_STATE U.twin) 2 with ciph.derived := true, ciph.cur.gen := 1, twin.lease.pairs := [(⟨1, 2, none, 0, 0, false, 0, []⟩)], cfg.img.fix2.twinFlags := 1, twin.lease.wStart := some 0 }),
     ⟨3, 0, 1, 2, 0, 0, 0, 0, 0, 0, 0, 0⟩, 1, ⟨1, 2, none, 0, 0, false, 0, []⟩, ⟨by decide, by decide, fun _ => rfl, by decide⟩⟩,
   ⟨(st fun b =>
     { b.put F.TWIN_CTL_WITNESS_EN 1 |>.put (F.UNIT_STATE_STATE U.twin) 2 with ciph.derived := true, ciph.cur.gen := 1, twin.lease.pairs := [(⟨1, 2, some 1, 0, 0, true, 0, []⟩)], cfg.img.fix2.twinFlags := 1 }),
     ⟨3, 0, 1, 2, 0, 0, 0, 0, 0, 0, 0, 0⟩, 1, ⟨1, 2, some 1, 0, 0, true, 0, []⟩, ⟨by decide, by decide, fun _ => rfl, by decide⟩⟩,
   ⟨(st fun b =>
     { b.put F.TWIN_CTL_WITNESS_EN 1 |>.put (F.UNIT_STATE_STATE U.twin) 2 with ciph.derived := true, ciph.cur.gen := 1, twin.lease.pairs := [(⟨1, 2, none, 0, 0, true, 0, []⟩)], cfg.img.fix2.twinFlags := 1, twin.lease.answered := [(1, 0)] }),
     ⟨3, 0, 1, 2, 0, 0, 0, 0, 0, 0, 0, 0⟩, 1, ⟨1, 2, none, 0, 0, true, 0, []⟩, ⟨by decide, by decide, fun _ => rfl, by decide⟩⟩,
   ⟨(st fun b => { b.put F.FRAME_NOW_FRAME 1000000 with twin.lease.pairs := [(⟨1, 2, none, 0, 0, true, 0, []⟩)] }), 1, 2, ⟨1, 2, none, 0,
     0, true, 0, []⟩, by decide⟩,
   ⟨(st fun b =>
     { b.put F.TWIN_CTL_WITNESS_EN 1 |>.put (F.UNIT_STATE_STATE U.twin) 2 |>.put F.FRAME_NOW_FRAME 1000000 with twin.lease.pairs := [(⟨1, 2, none, 0, 0, true, 0, [(0, ⟨3, 0, 1, 2, 0, 0, 0, 0, 0, 0, 0, 0⟩)]⟩)], ciph.derived := true, ciph.cur.gen := 1, cfg.img.fix2.twinFlags := 1 }),
     1, 2, ⟨1, 2, none, 0, 0, true, 0, [(0, ⟨3, 0, 1, 2, 0, 0, 0, 0, 0, 0, 0, 0⟩)]⟩, 0, ⟨3, 0, 1, 2, 0, 0, 0, 0, 0, 0, 0, 0⟩, by decide⟩,
   ⟨(st fun b => { b.put F.FRAME_NOW_FRAME 1000000 with twin.lease.wStart := some 0 }), 0, by decide⟩⟩

theorem wit_cxl_mem_commands :
    (∃ s : State, ∃ p k tag hpa : Nat, ∃ obs : TierObs, ∃ off line, s.body.get (F.CXP_STATUS_LINK p) = 3 ∧ s.body.isOn (U.cxl p) = true ∧
      s.body.flag (F.CXP_STATUS_OPEN p) = true ∧ s.body.cxlGrants p = true ∧ (s.body.cxp p).reads.length < s.body.rdEffective p ∧
      s.body.hdmDecode p k hpa = some off ∧ s.body.ldLine p k off = some line ∧ s.body.nc.mrs.length < 4096)
    ∧ (∃ s : State, ∃ p k tag hpa : Nat, ∃ obs : TierObs, s.body.get (F.CXP_STATUS_LINK p) = 3 ∧ s.body.isOn (U.cxl p) = true ∧
      s.body.flag (F.CXP_STATUS_OPEN p) = true ∧ s.body.cxlGrants p = true ∧ (s.body.cxp p).reads.length < s.body.rdEffective p ∧
      s.body.hdmDecode p k hpa = none)
    ∧ (∃ s : State, ∃ p k tag hpa line : Nat, ∃ d : LineData, s.body.get (F.CXP_STATUS_LINK p) = 3 ∧ s.body.isOn (U.cxl p) = true ∧
      s.body.flag (F.CXP_STATUS_OPEN p) = true ∧ s.body.cxlGrants p = true ∧ (s.body.aq p).length < 4096 ∧ (s.body.hdmDecode p k
      hpa).bind (s.body.ldLine p k) = some line)
    ∧ (∃ s : State, ∃ p k tag hpa : Nat, ∃ obs : TierObs, s.body.get (F.CXP_STATUS_LINK p) = 3 ∧ s.body.isOn (U.cxl p) = true ∧
      s.body.flag (F.CXP_STATUS_OPEN p) = false ∧ (s.body.cxp p).credReq ≠ 0)
    ∧ (∃ s : State, ∃ p k tag hpa : Nat, ∃ obs : TierObs, s.body.get (F.CXP_STATUS_LINK p) = 3 ∧ s.body.isOn (U.cxl p) = true ∧
      s.body.flag (F.CXP_STATUS_OPEN p) = false ∧ (s.body.cxp p).credReq = 0)
    ∧ (∃ s : State, ∃ p tag : Nat, s.body.cxlUp p = true ∧ s.body.flag (F.CXP_STATUS_OPEN p) = true)
    ∧ (∃ s : State, ∃ p tag : Nat, s.body.cxlUp p = true ∧ s.body.flag (F.CXP_STATUS_OPEN p) = false) :=
  ⟨⟨(st fun b =>
     { b.put (F.CXP_STATUS_LINK 0) 3 |>.put (F.UNIT_STATE_STATE (U.cxl 0)) 2 |>.put (F.CXP_STATUS_OPEN 0) 1 |>.put (F.CXP_CREDIT_RD_QUOTA 0) 1 |>.put (F.PART_ATTR_STATE 0) 1 with cxl.ports := [(0, { lds := [(0, { memEnable := true, dec0 := { size := 1, committed := true } })], credReq := 1 })], cfg.img.qui.parts := [⟨0, 7, 0, 0, 0, 1⟩] }),
     0, 0, 0, 0, ⟨false, .good, false, false, false⟩, 0, 0, by decide⟩,
   ⟨(st fun b =>
     { b.put (F.CXP_STATUS_LINK 0) 3 |>.put (F.UNIT_STATE_STATE (U.cxl 0)) 2 |>.put (F.CXP_STATUS_OPEN 0) 1 |>.put (F.CXP_CREDIT_RD_QUOTA 0) 1 |>.put (F.PART_ATTR_STATE 0) 1 with cxl.ports := [(0, { lds := [(0, { memEnable := true, dec0 := { size := 1, committed := true } })], credReq := 1 })], cfg.img.qui.parts := [⟨0, 7, 0, 0, 0, 1⟩] }),
     0, 0, 0, 2 ^ 40, ⟨false, .good, false, false, false⟩, by decide⟩,
   ⟨(st fun b =>
     { b.put (F.CXP_STATUS_LINK 0) 3 |>.put (F.UNIT_STATE_STATE (U.cxl 0)) 2 |>.put (F.CXP_STATUS_OPEN 0) 1 |>.put (F.CXP_CREDIT_RD_QUOTA 0) 1 |>.put (F.PART_ATTR_STATE 0) 1 with cxl.ports := [(0, { lds := [(0, { memEnable := true, dec0 := { size := 1, committed := true } })], credReq := 1 })], cfg.img.qui.parts := [⟨0, 7, 0, 0, 0, 1⟩] }),
     0, 0, 0, 0, 0, 0, by decide⟩,
   ⟨(st fun b =>
     { b.put (F.CXP_STATUS_LINK 0) 3 |>.put (F.UNIT_STATE_STATE (U.cxl 0)) 2 |>.put (F.CXP_CREDIT_RD_QUOTA 0) 1 |>.put (F.PART_ATTR_STATE 0) 1 with cxl.ports := [(0, { lds := [(0, { memEnable := true, dec0 := { size := 1, committed := true } })], credReq := 1 })], cfg.img.qui.parts := [⟨0, 7, 0, 0, 0, 1⟩] }),
     0, 0, 0, 0, ⟨false, .good, false, false, false⟩, by decide⟩,
   ⟨(st fun b => { b.put (F.CXP_STATUS_LINK 0) 3 |>.put (F.UNIT_STATE_STATE (U.cxl 0)) 2 with cxl.ports := [(0, { credReq := 0 })] }), 0,
     0, 0, 0, ⟨false, .good, false, false, false⟩, by decide⟩,
   ⟨(st fun b => b.put (F.UNIT_STATE_STATE (U.cxl 0)) 2 |>.put (F.CXP_STATUS_LINK 0) 2 |>.put (F.CXP_STATUS_OPEN 0) 1), 0, 0, by decide⟩,
   ⟨(st fun b => b.put (F.UNIT_STATE_STATE (U.cxl 0)) 2 |>.put (F.CXP_STATUS_LINK 0) 2), 0, 0, by decide⟩⟩

theorem wit_cxl_port_commands :
    (∃ s : State, ∃ p k dec base size skip iw ig : Nat, ∃ lock : Bool, s.body.ldUp p k = true ∧ (if dec = 0 then (s.body.ldOf p k).dec0
      else (s.body.ldOf p k).dec1).locked = false ∧ s.body.changeState = 1)
    ∧ (∃ s : State, ∃ p k dec base size skip iw ig : Nat, ∃ lock : Bool, s.body.ldUp p k = true ∧ (if dec = 0 then (s.body.ldOf p k).dec0
      else (s.body.ldOf p k).dec1).locked = false ∧ s.body.changeState ≠ 1)
    ∧ (∃ s : State, ∃ p k : Nat, s.body.ldUp p k = true)
    ∧ (∃ s : State, ∃ p rate width : Nat, ∃ flit : Bool, p < s.body.cxlPortCount ∧ s.body.isOn (U.cxl p) = true ∧ s.body.cxlUp p = false
      ∧ s.body.flag (F.CXP_CTL_LINK_DISABLE p) = false)
    ∧ (∃ s : State, ∃ p : Nat, s.body.cxlUp p = true ∧ (s.body.cxp p).memIde = true ∨ (s.body.cxp p).ioIde = true)
    ∧ (∃ s : State, ∃ actor : Actor, ∃ p k n : Nat, s.body.mayAct actor (A.CXP_HDM_SEL p) (BitVec.ofNat 64 (k + 16 * n)) = true) :=
  ⟨⟨(st fun b =>
     { b.put (F.UNIT_STATE_STATE (U.cxl 0)) 2 |>.put (F.CXP_STATUS_LINK 0) 2 |>.put F.CHANGE_STATUS_STATE 1 with cfg.img.qui.parts := [⟨0, 1, 0, 0, 0, 1⟩] }),
     0, 0, 0, 0, 0, 0, 0, 0, false, by decide⟩,
   ⟨(st fun b =>
     { b.put (F.UNIT_STATE_STATE (U.cxl 0)) 2 |>.put (F.CXP_STATUS_LINK 0) 2 with cfg.img.qui.parts := [⟨0, 1, 0, 0, 0, 1⟩] }), 0, 0, 0,
     0, 0, 0, 0, 0, false, by decide⟩,
   ⟨(st fun b =>
     { b.put (F.UNIT_STATE_STATE (U.cxl 0)) 2 |>.put (F.CXP_STATUS_LINK 0) 2 with cfg.img.qui.parts := [⟨0, 1, 0, 0, 0, 1⟩] }), 0, 0,
     by decide⟩,
   ⟨(st fun b => b.put (F.UNIT_STATE_STATE (U.cxl 0)) 2), 0, 0, 0, false, by decide⟩,
   ⟨(st fun b => { b.put (F.UNIT_STATE_STATE (U.cxl 0)) 2 |>.put (F.CXP_STATUS_LINK 0) 2 with cxl.ports := [(0, { memIde := true })] }),
     0, by decide⟩,
   ⟨(st id), .firmware, 0, 0, 0, by decide⟩⟩

theorem wit_cxl_mailbox_commands :
    (∃ s : State, ∃ p k : Nat, ∃ first lines, s.body.ldUp p k = true ∧ (s.body.ldOf p k).scan = none ∧ lines ≤ 2 ^ 24 ∧ (first + lines) *
      64 ≤ s.body.ldGib p k * 2 ^ 30)
    ∧ (∃ s : State, ∃ p k : Nat, ∃ first lines d, s.body.ldUp p k = true ∧ (s.body.ldOf p k).scan = some (first, lines) ∧ s.body.ldPart p
      k = some d)
    ∧ (∃ s : State, ∃ p : Nat, s.body.cxlUp p = true) :=
  ⟨⟨(st fun b =>
     { b.put (F.UNIT_STATE_STATE (U.cxl 0)) 2 |>.put (F.CXP_STATUS_LINK 0) 2 with cfg.img.qui.parts := [⟨0, 1, 0, 0, 0, 1⟩] }), 0, 0, 0,
     0, by decide⟩,
   ⟨(st fun b =>
     { b.put (F.UNIT_STATE_STATE (U.cxl 0)) 2 |>.put (F.CXP_STATUS_LINK 0) 2 with cfg.img.qui.parts := [⟨0, 7, 0, 0, 0, 1⟩], cxl.ports := [(0, { lds := [(0, { scan := some (0, 0) })] })] }),
     0, 0, 0, 0, ⟨0, 7, 0, 0, 0, 1⟩, by decide⟩,
   ⟨(st fun b => b.put (F.UNIT_STATE_STATE (U.cxl 0)) 2 |>.put (F.CXP_STATUS_LINK 0) 2), 0, by decide⟩⟩

theorem wit_eth_commands :
    (∃ s : State, ∃ p : Nat, p < s.body.ethPortCount ∧ s.body.isOn (U.eth p) = true ∧ s.body.get (F.ETH_STATUS_LINK p) ≠ 2)
    ∧ (∃ s : State, ∃ p cause : Nat, s.body.get (F.ETH_STATUS_LINK p) = 2)
    ∧ (∃ s : State, ∃ p : Nat, p < s.body.ethPortCount ∧ s.body.isOn (U.eth p) = true ∧ s.body.get (F.ETH_STATUS_LINK p) = 2)
    ∧ (∃ s : State, ∃ p n : Nat, ∃ m : CmReq, s.body.ethUp p = true ∧ (range' 2 65534).find? (fun n => (mget s.body.rdma.qps n).isNone) =
      some n ∧ m.tcp = (answered s.body p).get F.RDMA_CFG_CM_PORT ∧ (answered s.body p).ethOpen p = true ∧ s.body.rdmaShut = false ∧
      (answered s.body p).flag F.RDMA_CTL_CM_HOLD = false ∧ s.body.rdma.pdAuto.contains (m.record.getD ⟨0, 0, 0⟩).pd = true)
    ∧ (∃ s : State, ∃ p n : Nat, ∃ m : CmReq, s.body.ethUp p = true ∧ (range' 2 65534).find? (fun n => (mget s.body.rdma.qps n).isNone) =
      some n ∧ m.tcp = (answered s.body p).get F.RDMA_CFG_CM_PORT ∧ (answered s.body p).ethOpen p = true ∧ s.body.rdmaShut = false ∧
      (answered s.body p).flag F.RDMA_CTL_CM_HOLD = true)
    ∧ (∃ s : State, ∃ n : Nat, s.body.ethUp (s.body.qp n).cfg.port = true ∧ (s.body.qp n).st = .rtr ∧ (s.body.qp n).cfg.active = false)
    ∧ (∃ s : State, ∃ n : Nat, s.body.ethUp (s.body.qp n).cfg.port = true ∧ (s.body.qp n).st = .rtr ∧ (s.body.qp n).cfg.active = true)
    ∧ (∃ s : State, ∃ n : Nat, s.body.ethUp (s.body.qp n).cfg.port = true ∧ (s.body.qp n).st = .rtr ∨ (s.body.qp n).st = .rts)
    ∧ (∃ s : State, ∃ n : Nat, (s.body.qp n).st = .held)
    ∧ (∃ s : State, ∃ n : Nat, (s.body.qp n).st = .error ∧ (s.body.qp n).drep = true) :=
  ⟨⟨(st fun b => b.put (F.UNIT_STATE_STATE (U.eth 0)) 2), 0, by decide⟩,
   ⟨(st fun b => b.put (F.ETH_STATUS_LINK 0) 2), 0, 0, by decide⟩,
   ⟨(st fun b => b.put (F.UNIT_STATE_STATE (U.eth 0)) 2 |>.put (F.ETH_STATUS_LINK 0) 2), 0, by decide⟩,
   ⟨(st fun b =>
     { b.put (F.UNIT_STATE_STATE (U.eth 0)) 2 |>.put (F.ETH_STATUS_LINK 0) 2 |>.put (F.UNIT_STATE_STATE U.rdma) 2 |>.put F.RDMA_CFG_CM_PORT 0 |>.put F.TWIN_STATUS_ROLE 1 with rdma.pdAuto := [0] }),
     0, 2, ⟨0, 0, 0, 0, some ⟨0, 0, 0⟩⟩, ⟨by decide, firstFree 65533, by decide⟩⟩,
   ⟨(st fun b =>
     { b.put (F.UNIT_STATE_STATE (U.eth 0)) 2 |>.put (F.ETH_STATUS_LINK 0) 2 |>.put (F.UNIT_STATE_STATE U.rdma) 2 |>.put F.RDMA_CFG_CM_PORT 0 |>.put F.TWIN_STATUS_ROLE 1 |>.put F.RDMA_CTL_CM_HOLD 1 with rdma.pdAuto := [0] }),
     0, 2, ⟨0, 0, 0, 0, some ⟨0, 0, 0⟩⟩, ⟨by decide, firstFree 65533, by decide⟩⟩,
   ⟨(st fun b =>
     { b.put (F.UNIT_STATE_STATE (U.eth 0)) 2 |>.put (F.ETH_STATUS_LINK 0) 2 |>.put (F.UNIT_STATE_STATE U.rdma) 2 with rdma.qps := [(0, { st := .rtr, cfg.active := false })] }),
     0, by decide⟩,
   ⟨(st fun b =>
     { b.put (F.UNIT_STATE_STATE (U.eth 0)) 2 |>.put (F.ETH_STATUS_LINK 0) 2 |>.put (F.UNIT_STATE_STATE U.rdma) 2 with rdma.qps := [(0, { st := .rtr, cfg.active := true })] }),
     0, by decide⟩,
   ⟨(st fun b =>
     { b.put (F.UNIT_STATE_STATE (U.eth 0)) 2 |>.put (F.ETH_STATUS_LINK 0) 2 |>.put (F.UNIT_STATE_STATE U.rdma) 2 with rdma.qps := [(0, { st := .rtr })] }),
     0, by decide⟩,
   ⟨(st fun b => { b with rdma.qps := [(0, { st := .held })] }), 0, by decide⟩,
   ⟨(st fun b => { b with rdma.qps := [(0, { st := .error, drep := true })] }), 0, by decide⟩⟩

theorem wit_rdma_responder_commands :
    (∃ s : State, ∃ p n psn region a : Nat, ∃ ce : Bool, ∃ h : Reth, ∃ data : List Byte, serves s.body p n ce ∧ ((arrived s.body p n
      ce).qp n).cfg.mode ≠ .spray ∧ psn = ((arrived s.body p n ce).qp n).ePsn ∧ (((arrived s.body p n ce).qp n).msgs.find? fun m =>
      m.kind == .write && !m.whole) = none ∧ (arrived s.body p n ce).keyCheck ((arrived s.body p n ce).qp n) h.key h.va h.len 1 = some
      (region, a) ∧ data.length = h.len ∧ (arrived s.body p n ce).rdmaRoom ((arrived s.body p n ce).qp n) ((arrived s.body p n
      ce).msgWrites n psn a data).length false = true)
    ∧ (∃ s : State, ∃ p n psn region a : Nat, ∃ ce : Bool, ∃ h : Reth, ∃ data : List Byte, serves s.body p n ce ∧ ((arrived s.body p n
      ce).qp n).cfg.mode ≠ .spray ∧ psn = ((arrived s.body p n ce).qp n).ePsn ∧ (((arrived s.body p n ce).qp n).msgs.find? fun m =>
      m.kind == .write && !m.whole) = none ∧ (arrived s.body p n ce).keyCheck ((arrived s.body p n ce).qp n) h.key h.va h.len 1 = some
      (region, a) ∧ data.length = h.len ∧ (arrived s.body p n ce).rdmaRoom ((arrived s.body p n ce).qp n) ((arrived s.body p n
      ce).msgWrites n psn a data).length ((arrived s.body p n ce).msgWrites n psn a data).isEmpty = true)
    ∧ (∃ s : State, ∃ p n psn region a : Nat, ∃ ce : Bool, ∃ h : Reth, serves s.body p n ce ∧ ((arrived s.body p n ce).qp n).cfg.mode ≠
      .spray ∧ psn = ((arrived s.body p n ce).qp n).ePsn ∧ (arrived s.body p n ce).keyCheck ((arrived s.body p n ce).qp n) h.key h.va
      h.len 0 = some (region, a))
    ∧ (∃ s : State, ∃ p n psn va key region a x y : Nat, ∃ ce : Bool, serves s.body p n ce ∧ ((arrived s.body p n ce).qp n).cfg.mode ≠
      .spray ∧ psn = ((arrived s.body p n ce).qp n).ePsn ∧ (arrived s.body p n ce).keyCheck ((arrived s.body p n ce).qp n) key va 8 2 =
      some (region, a) ∧ (arrived s.body p n ce).rdmaRoom ((arrived s.body p n ce).qp n) 1 false = true)
    ∧ (∃ s : State, ∃ p n psn buf : Nat, ∃ r : List Nat, ∃ ce : Bool, ∃ data : List Byte, serves s.body p n ce ∧ ((arrived s.body p n
      ce).qp n).cfg.mode ≠ .spray ∧ psn = ((arrived s.body p n ce).qp n).ePsn ∧ ((arrived s.body p n ce).qp n).recvs = buf :: r ∧
      data.length ≤ rkSize (buf % 8))
    ∧ (∃ s : State, ∃ p n psn region a : Nat, ∃ ce : Bool, ∃ h : SprayHdr, ∃ data : List Byte, serves s.body p n ce ∧ ((arrived s.body p
      n ce).qp n).cfg.mode = .spray ∧ psn = ((arrived s.body p n ce).qp n).ePsn ∧ ((arrived s.body p n ce).qp n).seen.contains psn =
      false ∧ h.last = true ∧ h.pkts = 1 ∧ psn < 2 ^ 24 ∧ h.msg = psn ∧ (((arrived s.body p n ce).qp n).msgs.find? (·.first == h.msg)) =
      none ∧ (arrived s.body p n ce).keyCheck ((arrived s.body p n ce).qp n) h.key h.va data.length 1 = some (region, a) ∧ (arrived
      s.body p n ce).rdmaRoom ((arrived s.body p n ce).qp n) ((arrived s.body p n ce).msgWrites n psn a data).length false = true)
    ∧ (∃ s : State, ∃ p n psn region a : Nat, ∃ ce : Bool, ∃ h : SprayHdr, ∃ data : List Byte, serves s.body p n ce ∧ ((arrived s.body p
      n ce).qp n).cfg.mode = .spray ∧ psn = ((arrived s.body p n ce).qp n).ePsn ∧ ((arrived s.body p n ce).qp n).seen.contains psn =
      false ∧ h.last = true ∧ h.pkts = 1 ∧ psn < 2 ^ 24 ∧ h.msg = psn ∧ (((arrived s.body p n ce).qp n).msgs.find? (·.first == h.msg)) =
      none ∧ (arrived s.body p n ce).keyCheck ((arrived s.body p n ce).qp n) h.key h.va data.length 1 = some (region, a) ∧ (arrived
      s.body p n ce).rdmaRoom ((arrived s.body p n ce).qp n) ((arrived s.body p n ce).msgWrites n psn a data).length (((arrived s.body p
      n ce).msgWrites n psn a data).isEmpty && h.len == 0) = true)
    ∧ (∃ s : State, ∃ p n psn : Nat, ∃ ce : Bool, ∃ h : Reth, s.body.ethUp p = true ∧ s.body.rdmaShut = false ∧ (s.body.qp n).st = .rtr ∨
      (s.body.qp n).st = .rts ∧ (s.body.qp n).cfg.port = p ∧ (arrived s.body p n ce).rdmaStopped = true)
    ∧ (∃ s : State, ∃ n : Nat, (s.body.qp n).timer = true ∧ (s.body.qp n).st = .rtr ∨ (s.body.qp n).st = .rts ∧ (s.body.qp n).seen ≠ [])
    ∧ (∃ s : State, ∃ n : Nat, (s.body.qp n).timer = true ∧ (s.body.qp n).st = .rtr ∨ (s.body.qp n).st = .rts ∧ (s.body.qp n).seen = []) :=
  ⟨⟨(st fun b =>
     { b.put (F.UNIT_STATE_STATE (U.eth 0)) 2 |>.put (F.ETH_STATUS_LINK 0) 2 |>.put (F.UNIT_STATE_STATE U.rdma) 2 |>.put F.TWIN_STATUS_ROLE 1 |>.put (F.UNIT_STATE_STATE U.persist) 2 |>.put (F.PART_ATTR_STATE 0) 1 with rdma.qps := [(0, { st := .rts })], rdma.regions := [(0, { used := true, rights := 15, len := 64 })], cfg.img.qui.parts := [⟨0, 7, 0, 0, 0, 1⟩] }),
     0, 0, 0, 0, 0, false, ⟨0, 0, 1⟩, [0], by decide⟩,
   ⟨(st fun b =>
     { b.put (F.UNIT_STATE_STATE (U.eth 0)) 2 |>.put (F.ETH_STATUS_LINK 0) 2 |>.put (F.UNIT_STATE_STATE U.rdma) 2 |>.put F.TWIN_STATUS_ROLE 1 |>.put (F.UNIT_STATE_STATE U.persist) 2 |>.put (F.PART_ATTR_STATE 0) 1 with rdma.qps := [(0, { st := .rts })], rdma.regions := [(0, { used := true, rights := 15, len := 64 })], cfg.img.qui.parts := [⟨0, 7, 0, 0, 0, 1⟩] }),
     0, 0, 0, 0, 0, false, ⟨0, 0, 0⟩, [], by decide⟩,
   ⟨(st fun b =>
     { b.put (F.UNIT_STATE_STATE (U.eth 0)) 2 |>.put (F.ETH_STATUS_LINK 0) 2 |>.put (F.UNIT_STATE_STATE U.rdma) 2 |>.put F.TWIN_STATUS_ROLE 1 |>.put (F.UNIT_STATE_STATE U.persist) 2 |>.put (F.PART_ATTR_STATE 0) 1 with rdma.qps := [(0, { st := .rts })], rdma.regions := [(0, { used := true, rights := 15, len := 64 })], cfg.img.qui.parts := [⟨0, 7, 0, 0, 0, 1⟩] }),
     0, 0, 0, 0, 0, false, ⟨0, 0, 0⟩, by decide⟩,
   ⟨(st fun b =>
     { b.put (F.UNIT_STATE_STATE (U.eth 0)) 2 |>.put (F.ETH_STATUS_LINK 0) 2 |>.put (F.UNIT_STATE_STATE U.rdma) 2 |>.put F.TWIN_STATUS_ROLE 1 |>.put (F.UNIT_STATE_STATE U.persist) 2 |>.put (F.PART_ATTR_STATE 0) 1 with rdma.qps := [(0, { st := .rts })], rdma.regions := [(0, { used := true, rights := 15, len := 64 })], cfg.img.qui.parts := [⟨0, 7, 0, 0, 0, 1⟩] }),
     0, 0, 0, 0, 0, 0, 0, 0, 0, false, by decide⟩,
   ⟨(st fun b =>
     { b.put (F.UNIT_STATE_STATE (U.eth 0)) 2 |>.put (F.ETH_STATUS_LINK 0) 2 |>.put (F.UNIT_STATE_STATE U.rdma) 2 |>.put F.TWIN_STATUS_ROLE 1 |>.put (F.UNIT_STATE_STATE U.persist) 2 |>.put (F.PART_ATTR_STATE 0) 1 with rdma.qps := [(0, { st := .rts, recvs := 0 :: [] })] }),
     0, 0, 0, 0, [], false, [], by decide⟩,
   ⟨(st fun b =>
     { b.put (F.UNIT_STATE_STATE (U.eth 0)) 2 |>.put (F.ETH_STATUS_LINK 0) 2 |>.put (F.UNIT_STATE_STATE U.rdma) 2 |>.put F.TWIN_STATUS_ROLE 1 |>.put (F.UNIT_STATE_STATE U.persist) 2 |>.put (F.PART_ATTR_STATE 0) 1 with rdma.qps := [(0, { st := .rts, cfg.mode := .spray })], rdma.regions := [(0, { used := true, rights := 15, len := 64 })], cfg.img.qui.parts := [⟨0, 7, 0, 0, 0, 1⟩] }),
     0, 0, 0, 0, 0, false, ⟨0, 0, 0, true, 0, 0, 1⟩, [0], by decide⟩,
   ⟨(st fun b =>
     { b.put (F.UNIT_STATE_STATE (U.eth 0)) 2 |>.put (F.ETH_STATUS_LINK 0) 2 |>.put (F.UNIT_STATE_STATE U.rdma) 2 |>.put F.TWIN_STATUS_ROLE 1 |>.put (F.UNIT_STATE_STATE U.persist) 2 |>.put (F.PART_ATTR_STATE 0) 1 with rdma.qps := [(0, { st := .rts, cfg.mode := .spray })], rdma.regions := [(0, { used := true, rights := 15, len := 64 })], cfg.img.qui.parts := [⟨0, 7, 0, 0, 0, 1⟩] }),
     0, 0, 0, 0, 0, false, ⟨0, 0, 0, true, 0, 0, 1⟩, [], by decide⟩,
   ⟨(st fun b =>
     { b.put (F.UNIT_STATE_STATE (U.eth 0)) 2 |>.put (F.ETH_STATUS_LINK 0) 2 |>.put (F.UNIT_STATE_STATE U.rdma) 2 with rdma.qps := [(0, { st := .rtr, cfg.port := 0 })] }),
     0, 0, 0, false, ⟨0, 0, 0⟩, by decide⟩,
   ⟨(st fun b => { b with rdma.qps := [(0, { timer := true, st := .rtr })] }), 0, by decide⟩,
   ⟨(st fun b => { b with rdma.qps := [(0, { timer := true, st := .rtr, seen := [] })] }), 0, by decide⟩⟩

theorem wit_rdma_requester_commands :
    (∃ s : State, ∃ p n psn : Nat, requests s.body p n ∧ (s.body.qp n).cfg.mode = .spray)
    ∧ (∃ s : State, ∃ p n psn : Nat, ∃ o, requests s.body p n ∧ (s.body.qp n).outs.find? (fun o => Body.hasData o.wr && !o.acked &&
      psnSub psn o.first ≤ psnSub o.last o.first) = some o ∧ nbit o.wr.flags 4 = true ∧ psnSub psn o.first * (answered s.body p).rdmaMtu
      = o.got)
    ∧ (∃ s : State, ∃ n : Nat, (s.body.qp n).st ≠ .reset ∧ (s.body.qp n).rate ≠ 0)
    ∧ (∃ s : State, ∃ n : Nat, ∃ o : OutReq, s.body.ethUp (s.body.qp n).cfg.port = true ∧ (s.body.qp n).st = .rts ∧ Body.reqOldest
      (s.body.qp n) = some o ∧ o.rnrWait = true)
    ∧ (∃ s : State, ∃ n : Nat, ∃ o : OutReq, s.body.ethUp (s.body.qp n).cfg.port = true ∧ (s.body.qp n).st = .rts ∧ Body.reqOldest
      (s.body.qp n) = some o ∧ o.rnrWait = false ∧ (s.body.qp n).cfg.retry ≤ o.tries)
    ∧ (∃ s : State, ∃ n : Nat, ∃ o : OutReq, s.body.ethUp (s.body.qp n).cfg.port = true ∧ (s.body.qp n).st = .rts ∧ Body.reqOldest
      (s.body.qp n) = some o ∧ o.rnrWait = false ∧ o.tries < (s.body.qp n).cfg.retry) :=
  ⟨⟨(st fun b =>
     { b.put (F.UNIT_STATE_STATE (U.eth 0)) 2 |>.put (F.ETH_STATUS_LINK 0) 2 |>.put (F.UNIT_STATE_STATE U.rdma) 2 |>.put F.TWIN_STATUS_ROLE 1 with rdma.qps := [(0, { st := .rts, cfg.mode := .spray })] }),
     0, 0, 0, by decide⟩,
   ⟨(st fun b =>
     { b.put (F.UNIT_STATE_STATE (U.eth 0)) 2 |>.put (F.ETH_STATUS_LINK 0) 2 |>.put (F.UNIT_STATE_STATE U.rdma) 2 |>.put F.TWIN_STATUS_ROLE 1 with rdma.qps := [(0, { st := .rts, outs := [{ wr := ⟨2, 16, 0, 0, 0, 0, 0, 0, 0, 0, 0, 0, false⟩, first := 0, last := 0, data := none, tag := none, poison := none }] })] }),
     0, 0, 0, { wr := ⟨2, 16, 0, 0, 0, 0, 0, 0, 0, 0, 0, 0, false⟩, first := 0, last := 0, data := none, tag := none, poison := none },
     by decide⟩,
   ⟨(st fun b => { b with rdma.qps := [(0, { st := .rts, rate := 1 })] }), 0, by decide⟩,
   ⟨(st fun b =>
     { b.put (F.UNIT_STATE_STATE (U.eth 0)) 2 |>.put (F.ETH_STATUS_LINK 0) 2 |>.put (F.UNIT_STATE_STATE U.rdma) 2 with rdma.qps := [(0, { st := .rts, outs := [({ wr := ⟨2, 16, 0, 0, 0, 0, 0, 0, 0, 0, 0, 0, false⟩, first := 0, last := 0, data := none, tag := none, poison := none, rnrWait := true })] })] }),
     0,
     { wr := ⟨2, 16, 0, 0, 0, 0, 0, 0, 0, 0, 0, 0, false⟩, first := 0, last := 0, data := none, tag := none, poison := none, rnrWait := true },
     by decide⟩,
   ⟨(st fun b =>
     { b.put (F.UNIT_STATE_STATE (U.eth 0)) 2 |>.put (F.ETH_STATUS_LINK 0) 2 |>.put (F.UNIT_STATE_STATE U.rdma) 2 with rdma.qps := [(0, { st := .rts, outs := [({ wr := ⟨2, 16, 0, 0, 0, 0, 0, 0, 0, 0, 0, 0, false⟩, first := 0, last := 0, data := none, tag := none, poison := none })] })] }),
     0, { wr := ⟨2, 16, 0, 0, 0, 0, 0, 0, 0, 0, 0, 0, false⟩, first := 0, last := 0, data := none, tag := none, poison := none },
     by decide⟩,
   ⟨(st fun b =>
     { b.put (F.UNIT_STATE_STATE (U.eth 0)) 2 |>.put (F.ETH_STATUS_LINK 0) 2 |>.put (F.UNIT_STATE_STATE U.rdma) 2 with rdma.qps := [(0, { st := .rts, outs := [({ wr := ⟨2, 16, 0, 0, 0, 0, 0, 0, 0, 0, 0, 0, false⟩, first := 0, last := 0, data := none, tag := none, poison := none })], cfg.retry := 1 })] }),
     0, { wr := ⟨2, 16, 0, 0, 0, 0, 0, 0, 0, 0, 0, 0, false⟩, first := 0, last := 0, data := none, tag := none, poison := none },
     by decide⟩⟩

theorem wit_rdma_firmware_commands :
    (∃ s : State, ∃ actor : Actor, ∃ n : Nat, begins s.body actor 1 n ∧ 2 ≤ n ∧ n ≤ 65535 ∧ ((begun s.body actor 1 n).qp n).st = .reset ∧
      (begun s.body actor 1 n).ethOpen ((begun s.body actor 1 n).arg 2 48 3) = true ∧ (begun s.body actor 1 n).arg 3 31 1 = 1)
    ∧ (∃ s : State, ∃ actor : Actor, ∃ n : Nat, begins s.body actor 2 n ∧ ((begun s.body actor 2 n).qp n).st = .held ∧ nbit ((begun
      s.body actor 2 n).qp n).cfg.ext 1 = false)
    ∧ (∃ s : State, ∃ actor : Actor, ∃ n : Nat, begins s.body actor 3 n ∧ ((begun s.body actor 3 n).qp n).st = .held)
    ∧ (∃ s : State, ∃ actor : Actor, ∃ n : Nat, begins s.body actor 4 n ∧ ((begun s.body actor 4 n).qp n).st = .rtr ∨ ((begun s.body
      actor 4 n).qp n).st = .rts)
    ∧ (∃ s : State, ∃ actor : Actor, ∃ n : Nat, begins s.body actor 4 n ∧ ((begun s.body actor 4 n).qp n).st = .error)
    ∧ (∃ s : State, ∃ actor : Actor, ∃ n : Nat, begins s.body actor 4 n ∧ ((begun s.body actor 4 n).qp n).st = .reset)
    ∧ (∃ s : State, ∃ actor : Actor, ∃ i : Nat, begins s.body actor 5 i ∧ i < 1048576 ∧ (mgetD (begun s.body actor 5 i).rdma.regions i
      {}).used = false ∧ (begun s.body actor 5 i).get (F.PART_ATTR_STATE ((begun s.body actor 5 i).arg 1 47 8)) = 1 ∧ (begun s.body actor
      5 i).flag (F.PART_ATTR_RDMA_ALLOWED ((begun s.body actor 5 i).arg 1 47 8)) = true ∧ (begun s.body actor 5 i).cfg.refuseIn.contains
      ((begun s.body actor 5 i).arg 1 47 8) = false ∧ (begun s.body actor 5 i).arg 1 0 47 + (begun s.body actor 5 i).arg 2 0 64 ≤ (begun
      s.body actor 5 i).get (F.PART_SIZE_SIZE_GIB ((begun s.body actor 5 i).arg 1 47 8)) * 2 ^ 30)
    ∧ (∃ s : State, ∃ actor : Actor, ∃ i : Nat, ∃ r : Region, begins s.body actor 6 i ∧ mget s.body.rdma.regions i = some r ∧ r.used =
      true)
    ∧ (∃ s : State, ∃ i f : Nat, ∃ r : Region, mget s.body.rdma.regions i = some r ∧ r.used = true ∧ r.deadAt = some f ∧ f ≤
      s.body.frameNo ∧ s.body.regionBusy i = false)
    ∧ (∃ s : State, ∃ actor : Actor, ∃ i : Nat, begins s.body actor 7 i)
    ∧ (∃ s : State, ∃ actor : Actor, ∃ i : Nat, begins s.body actor 8 i)
    ∧ (∃ s : State, ∃ actor : Actor, ∃ n : Nat, s.body.mayAct actor A.RDMA_DOORBELL (BitVec.ofNat 64 n) = true ∧ s.body.isOn U.rdma =
      true)
    ∧ (∃ s : State, ∃ actor : Actor, ∃ kind index : Nat, s.body.mayAct actor A.RDMA_PEEK_SEL (BitVec.ofNat 64 (kind + 4 * index)) = true) :=
  ⟨⟨(st fun b =>
     { b.put (F.UNIT_STATE_STATE U.rdma) 2 |>.put (F.UNIT_STATE_STATE (U.eth 0)) 2 |>.put (F.ETH_STATUS_LINK 0) 2 |>.put F.TWIN_STATUS_ROLE 1 |>.put (⟨A.RDMA_ARG 3, 31, 1⟩) 1 with rdma.qps := [(2, { st := .reset })] }),
     .firmware, 2, by decide⟩,
   ⟨(st fun b => { b.put (F.UNIT_STATE_STATE U.rdma) 2 with rdma.qps := [(0, { st := .held })] }), .firmware, 0, by decide⟩,
   ⟨(st fun b => { b.put (F.UNIT_STATE_STATE U.rdma) 2 with rdma.qps := [(0, { st := .held })] }), .firmware, 0, by decide⟩,
   ⟨(st fun b => { b.put (F.UNIT_STATE_STATE U.rdma) 2 with rdma.qps := [(0, { st := .rtr })] }), .firmware, 0, by decide⟩,
   ⟨(st fun b => { b.put (F.UNIT_STATE_STATE U.rdma) 2 with rdma.qps := [(0, { st := .error })] }), .firmware, 0, by decide⟩,
   ⟨(st fun b => { b.put (F.UNIT_STATE_STATE U.rdma) 2 with rdma.qps := [(0, { st := .reset })] }), .firmware, 0, by decide⟩,
   ⟨(st fun b => b.put (F.UNIT_STATE_STATE U.rdma) 2 |>.put (F.PART_ATTR_STATE 0) 1 |>.put (F.PART_ATTR_RDMA_ALLOWED 0) 1), .firmware, 0,
     by decide⟩,
   ⟨(st fun b => { b.put (F.UNIT_STATE_STATE U.rdma) 2 with rdma.regions := [(0, ({ used := true }))] }), .firmware, 0, { used := true },
     by decide⟩,
   ⟨(st fun b => { b with rdma.regions := [(0, ({ used := true, deadAt := some 0 }))] }), 0, 0, { used := true, deadAt := some 0 },
     by decide⟩,
   ⟨(st fun b => b.put (F.UNIT_STATE_STATE U.rdma) 2), .firmware, 0, by decide⟩,
   ⟨(st fun b => b.put (F.UNIT_STATE_STATE U.rdma) 2), .firmware, 0, by decide⟩,
   ⟨(st fun b => b.put (F.UNIT_STATE_STATE U.rdma) 2), .firmware, 0, by decide⟩,
   ⟨(st id), .firmware, 0, 0, by decide⟩⟩

theorem wit_ramekin_commands :
    (∃ s : State, ∃ actor : Actor, ∃ n size owner seq : Nat, ∃ bad : Bool, s.body.mayAct actor (A.RK_ALLOC n) (BitVec.ofNat 64 (size % 2
      ^ 19 + owner % 16 * 2 ^ 20 + seq % 256 * 2 ^ 24)) = true)
    ∧ (∃ s : State, ∃ actor : Actor, ∃ n handle owner : Nat, ∃ force bad : Bool, s.body.mayAct actor (A.RK_FREE n) (BitVec.ofNat 64
      (handle % 2 ^ 36 + owner % 16 * 2 ^ 36 + b2n force * 2 ^ 40)) = true)
    ∧ (∃ s : State, ∃ pool : Nat, ∃ bad : Bool, pool < 6 ∧ s.body.isOn U.ramekin = true ∧ (s.body.pool pool).cache.length = 15 ∧
      (s.body.pool pool).hwm < s.body.rkCount pool)
    ∧ (∃ s : State, ∃ actor : Actor, ∃ pool : Nat, acts s.body actor A.RK_REBUILD (pool % 8 + 8) ∧ pool % 8 ≤ 5 ∧ s.body.isOn U.ramekin =
      true)
    ∧ (∃ s : State, ∃ pool : Nat, pool < 6 ∧ (s.body.pool pool).rebuild = true)
    ∧ (∃ s : State, ∃ actor : Actor, ∃ pool entry : Nat, s.body.mayAct actor A.RK_PEEK_SEL (BitVec.ofNat 64 (pool % 8 + entry % 64 * 8))
      = true)
    ∧ (∃ b : Body, ∃ size : Nat, ∃ owner : Nat, ∃ p : Nat, p < 6 ∧ b.isOn U.ramekin = true ∧ 0 < size ∧ size ≤ rkSize p ∧ (∀ q, q < p →
      rkSize q < size) ∧ owner < 14 ∧ b.flag F.RK_STATUS_AREA_LOST = true)
    ∧ (∃ b : Body, ∃ size : Nat, ∃ owner : Nat, ∃ p : Nat, p < 6 ∧ b.isOn U.ramekin = true ∧ 0 < size ∧ size ≤ rkSize p ∧ (∀ q, q < p →
      rkSize q < size) ∧ owner < 14 ∧ b.flag F.RK_STATUS_AREA_LOST = false ∧ b.rkFreeN p = 0)
    ∧ (∃ b : Body, ∃ size : Nat, ∃ owner : Nat, ∃ p : Nat, p < 6 ∧ b.isOn U.ramekin = true ∧ 0 < size ∧ size ≤ rkSize p ∧ (∀ q, q < p →
      rkSize q < size) ∧ owner < 14 ∧ b.flag F.RK_STATUS_AREA_LOST = false ∧ b.rkFreeN p ≠ 0 ∧ b.rkFreeN p ≤ b.rkUnmet owner p)
    ∧ (∃ b : Body, ∃ size : Nat, ∃ owner : Nat, ∃ p : Nat, ∃ i : Nat, ∃ r : List Nat, p < 6 ∧ b.isOn U.ramekin = true ∧ 0 < size ∧ size ≤
      rkSize p ∧ (∀ q, q < p → rkSize q < size) ∧ owner < 14 ∧ b.flag F.RK_STATUS_AREA_LOST = false ∧ b.rkFreeN p ≠ 0 ∧ b.rkUnmet owner p
      < b.rkFreeN p ∧ (b.pool p).cache = i :: r ∧ b.rkReach (b.rkStateAt p i) = true) :=
  ⟨⟨(st id), .firmware, 0, 0, 0, 0, false, by decide⟩,
   ⟨(st id), .firmware, 0, 0, 0, false, false, by decide⟩,
   ⟨(st fun b =>
     { b.put (F.UNIT_STATE_STATE U.ramekin) 2 |>.put (F.RK_POOL_CFG_MIB 0) 1 with rk.pools := [(0, { cache := List.replicate 15 0 })] }),
     0, false, by decide⟩,
   ⟨(st fun b => b.put (F.UNIT_STATE_STATE U.ramekin) 2), .firmware, 0, by decide⟩,
   ⟨(st fun b => { b with rk.pools := [(0, { rebuild := true })] }), 0, by decide⟩,
   ⟨(st id), .firmware, 0, 0, by decide⟩,
   ⟨(bd fun b => b.put (F.UNIT_STATE_STATE U.ramekin) 2 |>.put F.RK_STATUS_AREA_LOST 1), 262144, 13, 5, by decide⟩,
   ⟨(bd fun b => b.put (F.UNIT_STATE_STATE U.ramekin) 2), 262144, 13, 5, by decide⟩,
   ⟨(bd fun b => { b.put (F.UNIT_STATE_STATE U.ramekin) 2 |>.put (F.RK_MIN_MIN 1 5) 1 with rk.pools := [(5, { cache := [0] })] }),
     262144, 0, 5, by decide⟩,
   ⟨(bd fun b =>
     { b.put (F.UNIT_STATE_STATE U.ramekin) 2 |>.put (F.UNIT_STATE_STATE (U.sp 0)) 2 with rk.pools := [(5, { cache := [0] })], sp.set := some [0] }),
     262144, 13, 5, 0, [], by decide⟩⟩

theorem wit_queue_commands :
    (∃ s : State, ∃ actor : Actor, ∃ v : Word, s.body.mayAct actor A.Q_CFG v = true)
    ∧ (∃ s : State, ∃ actor : Actor, ∃ slot : Nat, ∃ v : Word, s.body.mayAct actor (A.Q_PUSH slot) v = true ∧ (wrote s.body actor
      (A.Q_PUSH slot) v.toNat).flag (F.Q_BIND_BOUND slot) = true ∧ (s.body.queue ((wrote s.body actor (A.Q_PUSH slot) v.toNat).get
      (F.Q_BIND_QUEUE slot))).prod = 0 ∧ (s.body.queue ((wrote s.body actor (A.Q_PUSH slot) v.toNat).get (F.Q_BIND_QUEUE
      slot))).staged.length + 1 < (s.body.queue ((wrote s.body actor (A.Q_PUSH slot) v.toNat).get (F.Q_BIND_QUEUE slot))).item)
    ∧ (∃ s : State, ∃ actor : Actor, ∃ slot : Nat, ∃ v : Word, s.body.mayAct actor (A.Q_PUSH slot) v = true ∧ (wrote s.body actor
      (A.Q_PUSH slot) v.toNat).flag (F.Q_BIND_BOUND slot) = true ∧ (s.body.queue ((wrote s.body actor (A.Q_PUSH slot) v.toNat).get
      (F.Q_BIND_QUEUE slot))).prod = 0 ∧ (s.body.queue ((wrote s.body actor (A.Q_PUSH slot) v.toNat).get (F.Q_BIND_QUEUE slot))).item ≤
      (s.body.queue ((wrote s.body actor (A.Q_PUSH slot) v.toNat).get (F.Q_BIND_QUEUE slot))).staged.length + 1 ∧ (s.body.queue ((wrote
      s.body actor (A.Q_PUSH slot) v.toNat).get (F.Q_BIND_QUEUE slot))).enabled = true ∧ s.body.unit U.queue ≠ .off ∧ (s.body.queue
      ((wrote s.body actor (A.Q_PUSH slot) v.toNat).get (F.Q_BIND_QUEUE slot))).dropped = 0 ∧ (s.body.queue ((wrote s.body actor
      (A.Q_PUSH slot) v.toNat).get (F.Q_BIND_QUEUE slot))).item ≤ Body.qFree (s.body.queue ((wrote s.body actor (A.Q_PUSH slot)
      v.toNat).get (F.Q_BIND_QUEUE slot))))
    ∧ (∃ s : State, ∃ actor : Actor, ∃ slot : Nat, ∃ v : Word, s.body.mayAct actor (A.Q_PUSH slot) v = true ∧ (wrote s.body actor
      (A.Q_PUSH slot) v.toNat).flag (F.Q_BIND_BOUND slot) = true ∧ (s.body.queue ((wrote s.body actor (A.Q_PUSH slot) v.toNat).get
      (F.Q_BIND_QUEUE slot))).prod = 0 ∧ (s.body.queue ((wrote s.body actor (A.Q_PUSH slot) v.toNat).get (F.Q_BIND_QUEUE slot))).item ≤
      (s.body.queue ((wrote s.body actor (A.Q_PUSH slot) v.toNat).get (F.Q_BIND_QUEUE slot))).staged.length + 1 ∧ (s.body.queue ((wrote
      s.body actor (A.Q_PUSH slot) v.toNat).get (F.Q_BIND_QUEUE slot))).enabled = true ∧ s.body.unit U.queue ≠ .off ∧ (s.body.queue
      ((wrote s.body actor (A.Q_PUSH slot) v.toNat).get (F.Q_BIND_QUEUE slot))).dropped = 0 ∧ Body.qFree (s.body.queue ((wrote s.body
      actor (A.Q_PUSH slot) v.toNat).get (F.Q_BIND_QUEUE slot))) < (s.body.queue ((wrote s.body actor (A.Q_PUSH slot) v.toNat).get
      (F.Q_BIND_QUEUE slot))).item)
    ∧ (∃ s : State, ∃ k : Nat, s.body.qWorks k = true ∧ (s.body.queue k).dropped ≠ 0 ∧ (s.body.queue k).item ≤ Body.qFree (s.body.queue
      k))
    ∧ (∃ s : State, ∃ actor : Actor, ∃ slot : Nat, ∃ w r, s.body.flag (F.Q_BIND_BOUND slot) = true ∧ (s.body.queue (s.body.get
      (F.Q_BIND_QUEUE slot))).cons = 0 ∧ (s.body.queue (s.body.get (F.Q_BIND_QUEUE slot))).words = w :: r)
    ∧ (∃ s : State, ∃ actor : Actor, ∃ slot : Nat, s.body.flag (F.Q_BIND_BOUND slot) = true ∧ (s.body.queue (s.body.get (F.Q_BIND_QUEUE
      slot))).cons = 0 ∧ (s.body.queue (s.body.get (F.Q_BIND_QUEUE slot))).words = [])
    ∧ (∃ s : State, ∃ actor : Actor, ∃ slot : Nat, acts s.body actor (A.Q_FLUSH slot) 1 ∧ (wrote s.body actor (A.Q_FLUSH slot) 1).flag
      (F.Q_BIND_BOUND slot) = true)
    ∧ (∃ s : State, ∃ actor : Actor, ∃ k offset : Nat, ∃ w : QWord, s.body.mayAct actor A.Q_WIN_SEL (BitVec.ofNat 64 (k + 4096 * (offset
      % 2 ^ 22))) = true ∧ (s.body.queue ((wrote s.body actor A.Q_WIN_SEL (k + 4096 * (offset % 2 ^ 22))).get
      F.Q_WIN_SEL_QUEUE)).words[(wrote s.body actor A.Q_WIN_SEL (k + 4096 * (offset % 2 ^ 22))).get F.Q_WIN_SEL_OFFSET]? = some w ∧ w.bad
      = false) :=
  ⟨⟨(st id), .firmware, 0, by decide⟩,
   ⟨(st fun b => { b.put (F.Q_BIND_BOUND 0) 1 with q.qs := [(0, { item := 2 })] }), .firmware, 0, 0, by decide⟩,
   ⟨(st fun b =>
     { b.put (F.Q_BIND_BOUND 0) 1 |>.put (F.UNIT_STATE_STATE U.queue) 2 with q.qs := [(0, { item := 1, enabled := true, size := 1 })] }),
     .firmware, 0, 0, by decide⟩,
   ⟨(st fun b =>
     { b.put (F.Q_BIND_BOUND 0) 1 |>.put (F.UNIT_STATE_STATE U.queue) 2 with q.qs := [(0, { item := 1, enabled := true })] }), .firmware,
     0, 0, by decide⟩,
   ⟨(st fun b => { b.put (F.UNIT_STATE_STATE U.queue) 2 with q.qs := [(0, { item := 1, enabled := true, size := 1, dropped := 1 })] }),
     0, by decide⟩,
   ⟨(st fun b => { b.put (F.Q_BIND_BOUND 0) 1 with q.qs := [(0, { words := [{}] })] }), .firmware, 0, {}, [], by decide⟩,
   ⟨(st fun b => b.put (F.Q_BIND_BOUND 0) 1), .firmware, 0, by decide⟩,
   ⟨(st fun b => b.put (F.Q_BIND_BOUND 0) 1), .firmware, 0, by decide⟩,
   ⟨(st fun b => { b with q.qs := [(0, { words := [{}] })] }), .firmware, 0, 0, {}, by decide⟩⟩

theorem wit_schedule_table_commands :
    (∃ s : State, ∃ actor : Actor, acts s.body actor A.SCHED_TBL_CMD 1 ∧ (wrote s.body actor A.SCHED_TBL_CMD 1).writeResult ((wrote
      s.body actor A.SCHED_TBL_CMD 1).get F.SCHED_TBL_SEL_KIND) ((wrote s.body actor A.SCHED_TBL_CMD 1).get F.SCHED_TBL_SEL_INDEX) (fun n
      => (wrote s.body actor A.SCHED_TBL_CMD 1).get (F.SCHED_TBL_WDATA_DATA n)) ≠ 0)
    ∧ (∃ s : State, ∃ actor : Actor, acts s.body actor A.SCHED_TBL_CMD 1 ∧ (wrote s.body actor A.SCHED_TBL_CMD 1).writeResult ((wrote
      s.body actor A.SCHED_TBL_CMD 1).get F.SCHED_TBL_SEL_KIND) ((wrote s.body actor A.SCHED_TBL_CMD 1).get F.SCHED_TBL_SEL_INDEX) (fun n
      => (wrote s.body actor A.SCHED_TBL_CMD 1).get (F.SCHED_TBL_WDATA_DATA n)) = 0)
    ∧ (∃ s : State, ∃ actor : Actor, acts s.body actor A.SCHED_TBL_CMD 2 ∧ (wrote s.body actor A.SCHED_TBL_CMD 2).rowCount ((wrote s.body
      actor A.SCHED_TBL_CMD 2).get F.SCHED_TBL_SEL_KIND) ≤ ((wrote s.body actor A.SCHED_TBL_CMD 2).get F.SCHED_TBL_SEL_INDEX))
    ∧ (∃ s : State, ∃ actor : Actor, acts s.body actor A.SCHED_TBL_CMD 2 ∧ ((wrote s.body actor A.SCHED_TBL_CMD 2).get
      F.SCHED_TBL_SEL_INDEX) < (wrote s.body actor A.SCHED_TBL_CMD 2).rowCount 0 ∧ (wrote s.body actor A.SCHED_TBL_CMD 2).get
      F.SCHED_TBL_SEL_KIND = 0)
    ∧ (∃ s : State, ∃ actor : Actor, acts s.body actor A.SCHED_TBL_CMD 3 ∧ (wrote s.body actor A.SCHED_TBL_CMD 3).get
      F.SCHED_TBL_SEL_KIND = 0 ∨ (wrote s.body actor A.SCHED_TBL_CMD 3).get F.SCHED_TBL_SEL_KIND = 4 ∧ ((wrote s.body actor
      A.SCHED_TBL_CMD 3).get F.SCHED_TBL_SEL_INDEX) < (wrote s.body actor A.SCHED_TBL_CMD 3).rowCount 0 ∧ ((wrote s.body actor
      A.SCHED_TBL_CMD 3).run_ ((wrote s.body actor A.SCHED_TBL_CMD 3).get F.SCHED_TBL_SEL_INDEX)).st ≠ .empty ∧ ((wrote s.body actor
      A.SCHED_TBL_CMD 3).run_ ((wrote s.body actor A.SCHED_TBL_CMD 3).get F.SCHED_TBL_SEL_INDEX)).st.isFinal = false)
    ∧ (∃ s : State, ∃ actor : Actor, acts s.body actor A.SCHED_TBL_CMD 3 ∧ (wrote s.body actor A.SCHED_TBL_CMD 3).get
      F.SCHED_TBL_SEL_KIND = 0 ∨ (wrote s.body actor A.SCHED_TBL_CMD 3).get F.SCHED_TBL_SEL_KIND = 4 ∧ ((wrote s.body actor
      A.SCHED_TBL_CMD 3).get F.SCHED_TBL_SEL_INDEX) < (wrote s.body actor A.SCHED_TBL_CMD 3).rowCount 0 ∧ ((wrote s.body actor
      A.SCHED_TBL_CMD 3).run_ ((wrote s.body actor A.SCHED_TBL_CMD 3).get F.SCHED_TBL_SEL_INDEX)).st ≠ .empty ∧ ((wrote s.body actor
      A.SCHED_TBL_CMD 3).run_ ((wrote s.body actor A.SCHED_TBL_CMD 3).get F.SCHED_TBL_SEL_INDEX)).st.isFinal = true) :=
  ⟨⟨(st id), .firmware, by decide⟩,
   ⟨(st fun b => b.put F.SCHED_TBL_SEL_KIND 3), .firmware, by decide⟩,
   ⟨(st id), .firmware, by decide⟩,
   ⟨(st fun b => { b.put F.SCHED_TBL_SEL_KIND 0 with cfg.img.fix.schedBlocks := 1 }), .firmware, by decide⟩,
   ⟨(st fun b => { b.put F.SCHED_TBL_SEL_KIND 0 with sched.runs := [(0, { st := .loaded })], cfg.img.fix.schedBlocks := 1 }), .firmware,
     by decide⟩,
   ⟨(st fun b => { b.put F.SCHED_TBL_SEL_KIND 0 with sched.runs := [(0, { st := .done })], cfg.img.fix.schedBlocks := 1 }), .firmware,
     by decide⟩⟩

theorem wit_schedule_run_commands :
    (∃ s : State, ∃ e : Nat, s.body.stageDue e = true ∧ (s.body.run_ e).st = .loaded ∧ s.body.hasRoom e = true)
    ∧ (∃ s : State, ∃ e : Nat, s.body.stageDue e = true ∧ (s.body.run_ e).st = .loaded ∧ s.body.hasRoom e = false)
    ∧ (∃ s : State, ∃ e : Nat, s.body.stageDue e = true ∧ (s.body.run_ e).st = .waiting ∧ s.body.hasRoom e = true)
    ∧ (∃ s : State, ∃ e i : Nat, ∃ ans : List LineData, ∃ poison : Mask, ∃ d, (s.body.run_ e).st.running = true ∧ i < (s.body.schedRow
      e).lines ∧ 1024 * (s.body.run_ e).freed ≤ i ∧ i < 1024 * (s.body.run_ e).asked ∧ s.body.peek (s.body.shareLine (s.body.schedRow e)
      i) = (d, false))
    ∧ (∃ s : State, ∃ e i : Nat, ∃ ans : List LineData, ∃ poison : Mask, ∃ d, (s.body.run_ e).st.running = true ∧ i < (s.body.schedRow
      e).lines ∧ 1024 * (s.body.run_ e).freed ≤ i ∧ i < 1024 * (s.body.run_ e).asked ∧ s.body.peek (s.body.shareLine (s.body.schedRow e)
      i) = (d, true))
    ∧ (∃ s : State, ∃ e : Nat, s.body.beaconDue e = true ∧ (s.body.run_ e).beaconAt ≤ s.body.frameNo ∧ s.body.isOn U.sched = true)
    ∧ (∃ s : State, ∃ m : ReadyMsg, ∃ tagOk : Bool, s.body.readyOk m tagOk = false)
    ∧ (∃ s : State, ∃ m : ReadyMsg, ∃ e : Nat, s.body.readyOk m true = true ∧ s.body.isOn U.sched = true ∧ m.position < 128 ∧ m.member ≠
      0xFFFF ∧ m.member = (s.body.posRow m.set m.position).1 ∧ (s.body.run_ e).st ≠ .empty ∧ nbit (s.body.schedRow e).flags 0 = true ∧
      (s.body.schedRow e).id = m.schedId ∧ (s.body.schedRow e).launch = m.launch ∧ (s.body.schedRow e).set = m.set)
    ∧ (∃ s : State, ∃ e : Nat, (s.body.run_ e).st = .ready ∧ s.body.isOn U.sched = true ∧ (s.body.run_ e).catchUp = true)
    ∧ (∃ s : State, ∃ e : Nat, (s.body.run_ e).st = .ready ∧ s.body.isOn U.sched = true ∧ (s.body.run_ e).catchUp = false ∧ nbit
      (s.body.schedRow e).flags 0 = false ∧ (s.body.schedRow e).launch ≤ s.body.frameNo)
    ∧ (∃ s : State, ∃ e : Nat, (s.body.run_ e).st = .ready ∧ s.body.isOn U.sched = true ∧ (s.body.run_ e).catchUp = false ∧ nbit
      (s.body.schedRow e).flags 0 = false ∧ s.body.frameNo < (s.body.schedRow e).launch)
    ∧ (∃ s : State, ∃ e : Nat, (s.body.schedRow e).deadline ≤ s.body.frameNo ∧ (s.body.run_ e).catchUp = false ∧ s.body.isOn U.sched =
      true ∧ (s.body.run_ e).st = .waiting ∨ (s.body.run_ e).st = .staging)
    ∧ (∃ s : State, ∃ e : Nat, (s.body.schedRow e).deadline ≤ s.body.frameNo ∧ (s.body.run_ e).catchUp = false ∧ s.body.isOn U.sched =
      true ∧ (s.body.run_ e).st = .loaded ∧ s.body.mayCatchUp e = false)
    ∧ (∃ s : State, ∃ e : Nat, (s.body.run_ e).st = .delivering ∧ (s.body.run_ e).freed < (s.body.schedRow e).chunks ∧ ((s.body.run_
      e).dests.filter (!·.failed)) ≠ [] ∧ (∀ d ∈ (s.body.run_ e).dests, d.failed = false → (s.body.run_ e).freed < d.acked))
    ∧ (∃ s : State, ∃ e d : Nat, ∃ y : Dest, (s.body.run_ e).dests[d]? = some y ∧ (s.body.run_ e).st = .delivering ∧ y.failed = false ∧
      y.rcd = 0 ∧ Body.nextIssue (s.body.schedRow e) (s.body.run_ e) = none ∧ s.body.mapHeld e = true ∧ (s.body.run_ e).recBuf.isSome =
      true ∧ s.body.destRts y = false)
    ∧ (∃ s : State, ∃ e d : Nat, ∃ y : Dest, (s.body.run_ e).dests[d]? = some y ∧ (s.body.run_ e).st = .delivering ∧ y.failed = false ∧
      y.rcd = 0 ∧ Body.nextIssue (s.body.schedRow e) (s.body.run_ e) = none ∧ s.body.mapHeld e = true ∧ (s.body.run_ e).recBuf.isSome =
      true ∧ s.body.destRts y = true ∧ (s.body.run_ e).poison = [] ∧ 64 ≤ (s.body.run_ e).allow)
    ∧ (∃ s : State, ∃ e : Nat, (s.body.run_ e).catchUp = true ∧ (s.body.run_ e).cuFrom + s.body.catchupFrames ≤ s.body.frameNo ∧
      (s.body.run_ e).st = .loaded ∨ (s.body.run_ e).st = .waiting ∨ (s.body.run_ e).st = .staging) :=
  ⟨⟨(st fun b => { b.put (F.UNIT_STATE_STATE U.sched) 2 |>.put F.TWIN_STATUS_ROLE 1 with sched.runs := [(0, { st := .loaded })] }), 0,
     by decide⟩,
   ⟨(st fun b =>
     { b.put (F.UNIT_STATE_STATE U.sched) 2 |>.put F.TWIN_STATUS_ROLE 1 with sched.runs := [(0, { st := .loaded })], sched.rows := [(6, 1)] }),
     0, by decide⟩,
   ⟨(st fun b => { b.put (F.UNIT_STATE_STATE U.sched) 2 |>.put F.TWIN_STATUS_ROLE 1 with sched.runs := [(0, { st := .waiting })] }), 0,
     by decide⟩,
   ⟨(st fun b => { b with sched.runs := [(0, { st := .staging, asked := 1 })], sched.rows := [(3, 64)] }), 0, 0, [], 0, ((st fun b =>
     { b with sched.runs := [(0, { st := .staging, asked := 1 })], sched.rows := [(3, 64)] }).body.peek 0).1, by decide⟩,
   ⟨(st fun b =>
     { b with sched.runs := [(0, { st := .staging, asked := 1 })], sched.rows := [(3, 64)], nc.col := [(0, ⟨0, 0, true, false⟩)] }), 0,
     0, [], 0, ((st fun b =>
     { b with sched.runs := [(0, { st := .staging, asked := 1 })], sched.rows := [(3, 64)], nc.col := [(0, ⟨0, 0, true, false⟩)] }).body.peek
     0).1, by decide⟩,
   ⟨(st fun b => { b.put (F.UNIT_STATE_STATE U.sched) 2 with sched.runs := [(0, { st := .waiting })] }), 0, by decide⟩,
   ⟨(st id), ⟨0x5342, 1, 0, 0, 1, 0, 0, 0, 0, 0, 0, false, false, 0, 0, 0⟩, false, by decide⟩,
   ⟨(st fun b =>
     { b.put (F.UNIT_STATE_STATE U.sched) 2 with ciph.cur.gen := 1, time.peers := [(0, ⟨0, 0, 0, 0, 0, 0, 0, 0, 0, 0, 0, 0⟩)], sched.rows := [(0, 0x100000000)], sched.runs := [(0, { st := .loaded })] }),
     ⟨0x5342, 1, 0, 0, 1, 0, 0, 0, 0, 0, 0, false, false, 0, 0, 0⟩, 0, by decide⟩,
   ⟨(st fun b => { b.put (F.UNIT_STATE_STATE U.sched) 2 with sched.runs := [(0, { st := .ready, catchUp := true })] }), 0, by decide⟩,
   ⟨(st fun b => { b.put (F.UNIT_STATE_STATE U.sched) 2 with sched.runs := [(0, { st := .ready, catchUp := false })] }), 0, by decide⟩,
   ⟨(st fun b =>
     { b.put (F.UNIT_STATE_STATE U.sched) 2 with sched.runs := [(0, { st := .ready, catchUp := false })], sched.rows := [(1, 1)] }), 0,
     by decide⟩,
   ⟨(st fun b => { b.put (F.UNIT_STATE_STATE U.sched) 2 with sched.runs := [(0, { catchUp := false, st := .waiting })] }), 0, by decide⟩,
   ⟨(st fun b => { b.put (F.UNIT_STATE_STATE U.sched) 2 with sched.runs := [(0, { catchUp := false, st := .loaded })] }), 0, by decide⟩,
   ⟨(st fun b => { b with sched.runs := [(0, { st := .delivering, dests := [{ desc := 0, acked := 1 }] })], sched.rows := [(3, 64)] }),
     0, by decide⟩,
   ⟨(st fun b => { b with sched.runs := [(0, { st := .delivering, dests := [{ desc := 0 }], recBuf := some 0 })] }), 0, 0, { desc := 0 },
     by decide⟩,
   ⟨(st fun b =>
     { b with sched.runs := [(0, { st := .delivering, dests := [{ desc := 0 }], recBuf := some 0, allow := 64 })], rdma.qps := [(0, { st := .rts })] }),
     0, 0, { desc := 0 }, by decide⟩,
   ⟨(st fun b => { b.put F.FRAME_NOW_FRAME 1000000000 with sched.runs := [(0, { catchUp := true, st := .loaded })] }), 0, by decide⟩⟩

theorem wit_job_commands :
    (∃ s : State, ∃ actor : Actor, ∃ q : Nat, acts s.body actor (A.JOB_GO (q % 2)) 1 ∧ (wrote s.body actor (A.JOB_GO (q % 2)) 1).get
      (F.JOB_OP_OP (q % 2)) = 1)
    ∧ (∃ s : State, ∃ actor : Actor, ∃ q : Nat, acts s.body actor (A.JOB_GO (q % 2)) 1 ∧ (wrote s.body actor (A.JOB_GO (q % 2)) 1).get
      (F.JOB_OP_OP (q % 2)) = 2)
    ∧ (∃ s : State, ∃ actor : Actor, ∃ q : Nat, acts s.body actor (A.JOB_GO (q % 2)) 2 ∧ (s.body.job (q % 2)).active = true)
    ∧ (∃ s : State, ∃ q : Nat, ∃ tagOk : Bool, (s.body.job (q % 2)).active = true ∧ (s.body.job (q % 2)).susp = false ∧ (s.body.job (q %
      2)).imp = true ∧ (s.body.job (q % 2)).len ≤ 64 * (s.body.job (q % 2)).done)
    ∧ (∃ s : State, ∃ p : MarkPass, s.body.ciph.passes.find? (fun p => p.next ≥ p.n) = some p)
    ∧ (∃ s : State, ∃ actor : Actor, acts s.body actor A.UNTRUST_CMD 1 ∧ ((wrote s.body actor A.UNTRUST_CMD 1).get F.UNTRUST_ARG_0_DPA) %
      64 = 0 ∧ ((wrote s.body actor A.UNTRUST_CMD 1).get F.UNTRUST_ARG_1_BYTES) % 64 = 0 ∧ ((wrote s.body actor A.UNTRUST_CMD 1).get
      F.UNTRUST_ARG_1_BYTES) ≠ 0 ∧ ((wrote s.body actor A.UNTRUST_CMD 1).get F.UNTRUST_ARG_1_BYTES) ≤ 2 ^ 30)
    ∧ (∃ s : State, ∃ actor : Actor, ∃ e : Nat, acts s.body actor A.UNTRUST_CMD (2 + e % 64 * 4))
    ∧ (∃ s : State, ∃ actor : Actor, ∃ e : Nat, s.body.mayAct actor A.UNTRUST_SEL (BitVec.ofNat 64 (e % 64)) = true)
    ∧ (∃ b : Body, ∃ j : Job, b.ciph.job0.active = true)
    ∧ (∃ b : Body, ∃ j : Job, ∃ q result, q < 2 ∧ (b.job q).imp = false ∧ result < 16) :=
  ⟨⟨(st fun b => b.put (F.JOB_OP_OP (0 % 2)) 1), .firmware, 0, by decide⟩,
   ⟨(st fun b => b.put (F.JOB_OP_OP (0 % 2)) 2), .firmware, 0, by decide⟩,
   ⟨(st fun b => { b with ciph.job0.active := true }), .firmware, 0, by decide⟩,
   ⟨(st fun b => { b with ciph.job0.active := true, ciph.job0.susp := false, ciph.job0.imp := true }), 0, false, by decide⟩,
   ⟨(st fun b => { b with ciph.passes := [(⟨0, 0, 0, [], none⟩)] }), ⟨0, 0, 0, [], none⟩, by decide⟩,
   ⟨(st fun b => b.put F.UNTRUST_ARG_1_BYTES 64), .firmware, by decide⟩,
   ⟨(st id), .firmware, 0, by decide⟩,
   ⟨(st id), .firmware, 0, by decide⟩,
   ⟨(bd fun b => { b with ciph.job0.active := true }), {}, by decide⟩,
   ⟨(bd fun b => { b with ciph.job0.imp := false }), {}, 0, 0, by decide⟩⟩

theorem wit_key_commands :
    (∃ s : State, ∃ actor : Actor, ∃ root : Option Nat, ∃ certOk sigOk wrapOk : Bool, acts s.body actor A.KEY_CMD 1 ∧ (wrote s.body actor
      A.KEY_CMD 1).keyCode root certOk sigOk wrapOk = 0)
    ∧ (∃ s : State, ∃ actor : Actor, ∃ root : Option Nat, ∃ certOk sigOk wrapOk : Bool, acts s.body actor A.KEY_CMD 1 ∧ (wrote s.body
      actor A.KEY_CMD 1).keyCode root certOk sigOk wrapOk ≠ 0)
    ∧ (∃ s : State, ∃ actor : Actor, acts s.body actor A.KEY_CMD 2)
    ∧ (∃ s : State, s.body.ciph.next.gen ≠ 0 ∧ s.body.ciph.next.act ≤ s.body.frameNo)
    ∧ (∃ s : State, ∃ actor : Actor, ∃ slot : Nat, acts s.body actor A.FUSE_CMD (1 + slot % 8 * 4) ∧ 1 ≤ slot % 8 ∧ slot % 8 ≤ 4 ∧
      s.body.ciph.slots.contains (slot % 8) = false)
    ∧ (∃ s : State, ∃ actor : Actor, ∃ slot : Nat, acts s.body actor A.FUSE_CMD (1 + slot % 8 * 4) ∧ (slot % 8 = 0 ∨
      s.body.ciph.slots.contains (slot % 8) = true))
    ∧ (∃ s : State, ∃ actor : Actor, ∃ slot : Nat, acts s.body actor A.FUSE_CMD (2 + slot % 8 * 4) ∧ slot % 8 ≤ 4 ∧ s.body.cfg.loaded =
      false ∧ ((List.range 5).any fun r => r != slot % 8 && s.body.rootIntact r) = true)
    ∧ (∃ s : State, ∃ actor : Actor, ∃ slot : Nat, acts s.body actor A.FUSE_CMD (2 + slot % 8 * 4) ∧ slot % 8 ≤ 4 ∧ s.body.cfg.loaded =
      true ∧ slot % 8 = s.body.get F.CONFIG_STATUS_ROOT_SLOT)
    ∧ (∃ s : State, ∃ actor : Actor, ∃ slot : Nat, s.body.mayAct actor A.KEY_SLOT_SEL (BitVec.ofNat 64 (slot % 128)) = true) :=
  ⟨⟨(st fun b => { b.put (⟨A.KEY_PKG 1, 32, 1⟩) 1 with ciph.derived := true, ciph.slots := [1] }), .firmware, some 1, true, true, true,
     by decide⟩,
   ⟨(st id), .firmware, none, false, false, false, by decide⟩,
   ⟨(st id), .firmware, by decide⟩,
   ⟨(st fun b => { b with ciph.next.gen := 1 }), by decide⟩,
   ⟨(st id), .firmware, 1, by decide⟩,
   ⟨(st id), .firmware, 0, by decide⟩,
   ⟨(st fun b => { b with cfg.loaded := false, ciph.slots := [0, 1] }), .firmware, 0, by decide⟩,
   ⟨(st fun b => { b with cfg.loaded := true }), .firmware, 0, by decide⟩,
   ⟨(st id), .firmware, 0, by decide⟩⟩

theorem wit_attestation_commands :
    (∃ s : State, ∃ actor : Actor, acts s.body actor A.FW_MEASURE_CMD 1)
    ∧ (∃ s : State, ∃ actor : Actor, acts s.body actor A.DBG_CTL 1)
    ∧ (∃ s : State, ∃ actor : Actor, ∃ level : Nat, ∃ root : Option Nat, ∃ sigOk : Bool, acts s.body actor A.DBG_CTL (2 + level % 4 * 4)
      ∧ (wrote s.body actor A.DBG_CTL (2 + level % 4 * 4)).dbgCode root sigOk = 0)
    ∧ (∃ s : State, ∃ actor : Actor, ∃ level : Nat, ∃ root : Option Nat, ∃ sigOk : Bool, acts s.body actor A.DBG_CTL (2 + level % 4 * 4)
      ∧ (wrote s.body actor A.DBG_CTL (2 + level % 4 * 4)).dbgCode root sigOk ≠ 0)
    ∧ (∃ s : State, s.body.ciph.version = true ∧ s.body.ciph.caps = true)
    ∧ (∃ s : State, ∃ i, s.body.spdmReady = true ∧ s.body.cipherOk = true ∧ 1 ≤ i ∧ i ≤ 7)
    ∧ (∃ s : State, ∃ id, s.body.spdmReady = true ∧ s.body.cipherOk = true ∧ s.body.ciph.spdm.length < 4 ∧ (s.body.ciph.spdm.any (·.id ==
      id)) = false)
    ∧ (∃ s : State, ∃ id : Nat, ∃ x : Spdm, s.body.ciph.spdm.find? (·.id == id) = some x ∧ x.up = false)
    ∧ (∃ s : State, ∃ id : Nat, ∃ x : Spdm, s.body.ciph.spdm.find? (·.id == id) = some x ∧ x.up = true)
    ∧ (∃ s : State, s.body.spdmReady = false) :=
  ⟨⟨(st id), .firmware, by decide⟩,
   ⟨(st id), .firmware, by decide⟩,
   ⟨(st fun b => { b with cfg.img.fix2.secFlags := 1, ciph.dbgUsed := false }), .firmware, 0, some 0, true, by decide⟩,
   ⟨(st id), .firmware, 0, none, false, by decide⟩,
   ⟨(st fun b => { b with ciph.version := true, ciph.caps := true }), by decide⟩,
   ⟨(st fun b => { b with ciph.version := true, ciph.caps := true, ciph.algos := true, ciph.derived := true }), 1, by decide⟩,
   ⟨(st fun b => { b with ciph.version := true, ciph.caps := true, ciph.algos := true, ciph.derived := true }), 0, by decide⟩,
   ⟨(st fun b => { b with ciph.spdm := [(⟨0, false⟩)] }), 0, ⟨0, false⟩, by decide⟩,
   ⟨(st fun b => { b with ciph.spdm := [(⟨0, true⟩)] }), 0, ⟨0, true⟩, by decide⟩,
   ⟨(st id), by decide⟩⟩

theorem wit_core_commands :
    (∃ s : State, ∃ actor : Actor, ∃ c : Nat, c < 16 ∧ (wrote s.body actor (A.DX_CORE_CTL c) 1).flag (F.DX_CORE_CTL_RUN c) = true ∧
      s.body.clusterOn = true ∧ (s.body.core c).st = .stopped)
    ∧ (∃ s : State, ∃ actor : Actor, ∃ c : Nat, c < 16 ∧ (wrote s.body actor (A.DX_CORE_CTL c) 0).flag (F.DX_CORE_CTL_RUN c) = false ∧
      (s.body.core c).st = .running)
    ∧ (∃ s : State, ∃ actor : Actor, ∃ c : Nat, c < 16 ∧ acts s.body actor (A.DX_CORE_CTL c) (2 + s.body.get (F.DX_CORE_CTL_RUN c)))
    ∧ (∃ s : State, ∃ actor : Actor, ∃ c : Nat, c < 16 ∧ acts s.body actor (A.DX_CORE_CTL c) (8 + s.body.get (F.DX_CORE_CTL_RUN c)))
    ∧ (∃ s : State, ∃ c : Nat, c < 16 ∧ s.body.get (F.DX_MTIMECMP_CMP c) ≤ s.body.mtime)
    ∧ (∃ s : State, s.body.dx.k0 = true)
    ∧ (∃ s : State, s.body.dx.k1 = true)
    ∧ (∃ s : State, s.body.dx.k0 = false ∧ s.body.dx.k1 = true ∧ s.body.dx.duty0 = false)
    ∧ (∃ s : State, s.body.dx.k1 = false ∧ s.body.dx.k0 = true ∧ s.body.dx.duty1 = false)
    ∧ (∃ s : State, ∃ c : Nat, c < 16 ∧ s.body.debugOpen = true ∧ (s.body.core c).st = .running ∨ (s.body.core c).st = .waiting)
    ∧ (∃ s : State, ∃ c : Nat, ∃ r, c < 16 ∧ s.body.debugOpen = true ∧ (s.body.core c).st = .halted ∧ 0x1000 < r ∧ r ≤ 0x101F) :=
  ⟨⟨(st fun b => { b.put (F.UNIT_STATE_STATE U.dexith) 2 with dx.cores := [(0, { st := .stopped })] }), .firmware, 0, by decide⟩,
   ⟨(st fun b => { b with dx.cores := [(0, { st := .running })] }), .firmware, 0, by decide⟩,
   ⟨(st id), .firmware, 0, by decide⟩,
   ⟨(st id), .firmware, 0, by decide⟩,
   ⟨(st fun b => b.put (F.DX_MTIMECMP_CMP 0) 0), 0, by decide⟩,
   ⟨(st fun b => { b with dx.k0 := true }), by decide⟩,
   ⟨(st fun b => { b with dx.k1 := true }), by decide⟩,
   ⟨(st fun b => { b with dx.k0 := false, dx.k1 := true, dx.duty0 := false }), by decide⟩,
   ⟨(st fun b => { b with dx.k1 := false, dx.k0 := true, dx.duty1 := false }), by decide⟩,
   ⟨(st fun b => { b.put F.DBG_STATUS_LEVEL 1 with dx.cores := [(0, { st := .running })] }), 0, by decide⟩,
   ⟨(st fun b => { b.put F.DBG_STATUS_LEVEL 1 with dx.cores := [(0, { st := .halted })] }), 0, 0x1001, by decide⟩⟩

theorem wit_core_memory_commands :
    (∃ s : State, ∃ actor : Actor, ∃ c : Nat, c < 16 ∧ acts s.body actor (A.DX_CORE_CTL c) (4 + s.body.get (F.DX_CORE_CTL_RUN c)))
    ∧ (∃ s : State, ∃ c : Nat, c < 16 ∧ (s.body.core c).clearing = true)
    ∧ (∃ s : State, ∃ c off n : Nat, ∃ v : Word, c < 16 ∧ (n = 1 ∨ n = 2 ∨ n = 4 ∨ n = 8) ∧ off % n = 0 ∧ off + n ≤ 0x80000 ∧
      (s.body.core c).st = .running ∧ (s.body.core c).clearing = false ∧ ((s.body.core c).cleared = true ∨ off / 8 ∈ (s.body.core
      c).written))
    ∧ (∃ s : State, ∃ c off n : Nat, ∃ v : Word, c < 16 ∧ (n = 1 ∨ n = 2 ∨ n = 4 ∨ n = 8) ∧ off % n = 0 ∧ off + n ≤ 0x80000 ∧
      (s.body.core c).st = .running ∧ (s.body.core c).clearing = false ∧ (s.body.core c).cleared = false ∧ off / 8 ∉ (s.body.core
      c).written) :=
  ⟨⟨(st id), .firmware, 0, by decide⟩,
   ⟨(st fun b => { b with dx.cores := [(0, { clearing := true })] }), 0, by decide⟩,
   ⟨(st fun b => { b with dx.cores := [(0, { st := .running, cleared := true })] }), 0, 0, 8, 0, by decide⟩,
   ⟨(st fun b => { b with dx.cores := [(0, { st := .running, clearing := false, cleared := false })] }), 0, 0, 8, 0, by decide⟩⟩

theorem wit_event_fifos :
    (∃ s : State, ∃ actor : Actor, ∃ c : Nat, ∃ e : EvqEntry, ∃ r : List EvqEntry, (s.body.core c).fifo = e :: r ∧ (s.body.core c).gapN =
      0)
    ∧ (∃ s : State, ∃ actor : Actor, ∃ c : Nat, (s.body.core c).fifo = [])
    ∧ (∃ s : State, ∃ actor : Actor, ∃ c : Nat, acts s.body actor (A.EVQ_CTL c) ((s.body.word (A.EVQ_CTL c)).toNat % 4 + 4))
    ∧ (∃ b : Body, ∃ c : Nat, ∃ e : Stamp, (b.core c).gapN = 0 ∧ (b.core c).fifo.length < (if e.fatal then 256 else 240))
    ∧ (∃ b : Body, ∃ c : Nat, ∃ e : Stamp, (b.core c).gapN = 0 ∧ (if e.fatal then 256 else 240) ≤ (b.core c).fifo.length) :=
  ⟨⟨(st fun b => { b with dx.cores := [(0, { fifo := (.gap 0 0 1 false) :: [], gapN := 0 })] }), .firmware, 0, .gap 0 0 1 false, [],
     by decide⟩,
   ⟨(st fun b => { b with dx.cores := [(0, { fifo := [] })] }), .firmware, 0, by decide⟩,
   ⟨(st id), .firmware, 0, by decide⟩,
   ⟨(bd fun b => { b with dx.cores := [(0, { gapN := 0 })] }), 0, ⟨1, 0, 0, false, .named .unitEntry, 0⟩, by decide⟩,
   ⟨(bd fun b => { b with dx.cores := [(0, { fifo := List.replicate 240 (.gap 0 0 1 false) })] }), 0, ⟨1, 0, 0, false, .named .unitEntry,
     0⟩, by decide⟩⟩

theorem wit_flash_commands :
    (∃ s : State, ∃ actor : Actor, acts s.body actor A.CF_CMD 1 ∧ (wrote s.body actor A.CF_CMD 1).cfCode .program = 0)
    ∧ (∃ s : State, ∃ actor : Actor, acts s.body actor A.CF_CMD 1 ∧ (wrote s.body actor A.CF_CMD 1).cfCode .program ≠ 0)
    ∧ (∃ s : State, ∃ actor : Actor, acts s.body actor A.CF_CMD 2 ∧ (wrote s.body actor A.CF_CMD 2).cfCode .erase = 0)
    ∧ (∃ s : State, ∃ actor : Actor, acts s.body actor A.CF_CMD 3 ∧ (wrote s.body actor A.CF_CMD 3).cfCode .hash = 0)
    ∧ (∃ s : State, ∃ o : CfOp, ∃ us active : Nat, s.body.cf.op = some o ∧ o.kind = .program ∧ o.data.length = 64)
    ∧ (∃ s : State, ∃ o : CfOp, ∃ us active : Nat, s.body.cf.op = some o ∧ o.kind = .erase ∧ o.susp = false)
    ∧ (∃ s : State, ∃ o : CfOp, ∃ us active : Nat, s.body.cf.op = some o ∧ o.kind = .hash)
    ∧ (∃ s : State, ∃ o : CfOp, ∃ us active : Nat, s.body.cf.op = some o ∧ o.kind = .erase ∧ o.susp = true ∧ o.tempHold = false)
    ∧ (∃ s : State, ∃ o : CfOp, ∃ us active : Nat, s.body.cf.op = some o ∧ o.kind = .erase ∧ o.starved = false)
    ∧ (∃ s : State, ∃ who : FlashReader, ∃ off : Nat, off < 0x10000000 ∧ s.body.cf.op = none ∧ s.body.icFind who off = none ∧ (∀ k br,
      who ≠ .fetch k br) ∧ s.body.inXo off = true)
    ∧ (∃ s : State, ∃ who : FlashReader, ∃ off : Nat, off < 0x10000000 ∧ s.body.cf.op = none ∧ s.body.icFind who off = none ∧ s.body.inXo
      off = false ∧ s.body.allOnes off = true)
    ∧ (∃ s : State, ∃ who : FlashReader, ∃ off : Nat, off < 0x10000000 ∧ s.body.cf.op = none ∧ s.body.icFind who off = none ∧
      (s.body.inXo off = false ∨ (∃ k br, who = .fetch k br)) ∧ s.body.allOnes off = false)
    ∧ (∃ s : State, ∃ who : FlashReader, ∃ off : Nat, off < 0x10000000 ∧ s.body.icFind who off = none ∧ s.body.bankProgramming (off /
      0x8000000) = true)
    ∧ (∃ s : State, ∃ who : FlashReader, ∃ off : Nat, ∃ x, off < 0x10000000 ∧ s.body.icFind who off = some x) :=
  ⟨⟨(st id), .firmware, by decide⟩,
   ⟨(st fun b => { b with cf.op := some ⟨.program, 0, 0, false, false, false, []⟩ }), .firmware, by decide⟩,
   ⟨(st id), .firmware, by decide⟩,
   ⟨(st fun b => b.put F.CF_HASH_LEN_SECTORS 1), .firmware, by decide⟩,
   ⟨(st fun b => { b with cf.op := some (⟨.program, 0, 0, false, false, false, List.replicate 64 0⟩) }), ⟨.program, 0, 0, false, false,
     false, List.replicate 64 0⟩, 0, 0, by decide⟩,
   ⟨(st fun b => { b with cf.op := some (⟨.erase, 0, 0, false, false, false, []⟩) }), ⟨.erase, 0, 0, false, false, false, []⟩, 0, 0,
     by decide⟩,
   ⟨(st fun b => { b with cf.op := some (⟨.hash, 0, 1, false, false, false, []⟩) }), ⟨.hash, 0, 1, false, false, false, []⟩, 0, 0,
     by decide⟩,
   ⟨(st fun b => { b with cf.op := some (⟨.erase, 0, 0, true, false, false, []⟩) }), ⟨.erase, 0, 0, true, false, false, []⟩, 0, 0,
     by decide⟩,
   ⟨(st fun b => { b with cf.op := some (⟨.erase, 0, 0, true, false, false, []⟩) }), ⟨.erase, 0, 0, true, false, false, []⟩, 0, 0,
     by decide⟩,
   ⟨(st fun b => { b.put (F.CF_XO_COUNT 0) 1 with cf.op := none }), .debug, 0, ⟨by decide, by decide, by decide,
     (by intro k br h; cases h), by decide⟩⟩,
   ⟨(st fun b => { b with cf.op := none, cf.bad := [(true, 0)] }), .debug, 0, by decide⟩,
   ⟨(st fun b => { b with cf.op := none }), .debug, 0, ⟨by decide, by decide, by decide, .inl (by decide), by decide⟩⟩,
   ⟨(st fun b => { b with cf.op := some ⟨.program, 0, 0, false, false, false, []⟩ }), .debug, 0, by decide⟩,
   ⟨(st fun b => { b with cf.icache := [(⟨0, 0, []⟩)] }), .fetch 0 false, 0, ⟨0, 0, []⟩, by decide⟩⟩

theorem wit_rack_commands :
    (∃ s : State, ∃ mv : Nat, ∃ x : Burst, ∃ rest : List Burst, s.body.rack.cur = none ∧ Body.pickBurst s.body.rack.queue = some (x,
      rest) ∧ s.body.rackTempHold = false ∧ 760 ≤ mv)
    ∧ (∃ s : State, ∃ mv : Nat, ∃ x : Burst, ∃ rest : List Burst, s.body.rack.cur = none ∧ Body.pickBurst s.body.rack.queue = some (x,
      rest) ∧ s.body.rackTempHold = false ∧ mv < 760)
    ∧ (∃ q : List Burst, ∃ x : Burst, ∃ rest : List Burst, Body.pickBurst q = some (x, rest))
    ∧ (∃ s : State, ∃ o : RackOrder, ∃ g : Nat, ∃ l : List Word, s.body.rack.cur = some ⟨o, .data g l⟩)
    ∧ (∃ s : State, s.body.boot.powered = true ∧ s.body.counter 0 < 2 ^ 40 - 1)
    ∧ (∃ s : State, ∃ actor : Actor, ∃ g : Nat, g < 0xC0000 ∧ s.body.mayAct actor A.RACK_RD_ADDR (BitVec.ofNat 64 (g % 2 ^ 20 * 8)) =
      true ∧ s.body.rack.bad.contains g = false)
    ∧ (∃ s : State, ∃ actor : Actor, ∃ g n : Nat, acts s.body actor A.RACK_FW_CMD (g % 2 ^ 20 * 8 + n % 128 * 2 ^ 23) ∧ 1 ≤ n ∧ n ≤ 64 ∧
      s.body.get F.RACK_FW_STATUS_STATE ≠ 1 ∧ 0x20000 ≤ g ∧ g + n ≤ 0xC0000)
    ∧ (∃ s : State, ∃ actor : Actor, ∃ g n : Nat, acts s.body actor A.RACK_FW_CMD (g % 2 ^ 20 * 8 + n % 128 * 2 ^ 23) ∧ 1 ≤ n ∧ n ≤ 64 ∧
      s.body.get F.RACK_FW_STATUS_STATE ≠ 1 ∧ g < 2 ^ 20 ∧ 0xC0000 < g + n)
    ∧ (∃ b : Body, ∃ k : Nat, ∃ j, j ≠ k)
    ∧ (∃ b : Body, ∃ k : Nat, b.counter k < Body.counterMax k) :=
  ⟨⟨(st fun b => { b with rack.cur := none, rack.queue := [(⟨.ring, .spike⟩)] }), 760, ⟨.ring, .spike⟩, [], by decide⟩,
   ⟨(st fun b => { b with rack.cur := none, rack.queue := [(⟨.ring, .spike⟩)] }), 759, ⟨.ring, .spike⟩, [], by decide⟩,
   ⟨[⟨.ring, .spike⟩], ⟨.ring, .spike⟩, [], by decide⟩,
   ⟨(st fun b => { b with rack.cur := some ⟨.ring, .data 0 []⟩ }), .ring, 0, [], by decide⟩,
   ⟨(st fun b => { b with boot.powered := true }), by decide⟩,
   ⟨(st id), .firmware, 0, by decide⟩,
   ⟨(st id), .firmware, 0x20000, 64, by decide⟩,
   ⟨(st id), .firmware, 0xC0000, 1, by decide⟩,
   ⟨(bd id), 0, 1, by decide⟩,
   ⟨(bd id), 0, by decide⟩⟩

theorem wit_spike_commands :
    (∃ s : State, ∃ actor : Actor, acts s.body actor A.SPK_CTL (2 + s.body.get F.SPK_CTL_FREEZE))
    ∧ (∃ s : State, ∃ actor : Actor, (wrote s.body actor A.SPK_CTL 1).flag F.SPK_CTL_FREEZE = true ∧ s.body.spk.frozen = false)
    ∧ (∃ s : State, ∃ actor : Actor, (wrote s.body actor A.SPK_CTL 0).flag F.SPK_CTL_FREEZE = false ∧ s.body.spk.frozen = true)
    ∧ (∃ s : State, s.body.spk.frozen = true)
    ∧ (∃ s : State, ∃ p l : Nat, ∃ r : SpkRec, s.body.ownWindow (.host p l) = true ∧ s.body.spkShown (2 + 16 * p + l) = some r)
    ∧ (∃ s : State, ∃ w : Nat, ∃ actor : Actor, ∃ r : SpkRec, (w = 0 ∧ actor = .firmware ∨ w = 1 ∧ actor = .bmc) ∧ acts s.body actor
      (A.SPK_W_STEP w) 1 ∧ s.body.spkShown w = some r)
    ∧ (∃ s : State, ∃ w : Nat, ∃ actor : Actor, ∃ r : SpkRec, ∃ q, (w = 0 ∧ actor = .firmware ∨ w = 1 ∧ actor = .bmc) ∧ q < 2 ^ 64 ∧
      s.body.mayAct actor (A.SPK_W_CURSOR w) (BitVec.ofNat 64 q) = true)
    ∧ (∃ s : State, ∃ actor : Actor, acts s.body actor A.SPK_CLR_CTL 1)
    ∧ (∃ s : State, ∃ actor : Actor, ∃ root : Option Nat, ∃ sigOk : Bool, acts s.body actor A.SPK_CLR_CTL 2 ∧ (wrote s.body actor
      A.SPK_CLR_CTL 2).clearCode root sigOk = 0)
    ∧ (∃ s : State, ∃ actor : Actor, ∃ root : Option Nat, ∃ sigOk : Bool, acts s.body actor A.SPK_CLR_CTL 2 ∧ (wrote s.body actor
      A.SPK_CLR_CTL 2).clearCode root sigOk ≠ 0)
    ∧ (∃ s : State, ∃ upTo root : Nat, s.body.spk.clearing = some (upTo, root) ∧ s.body.spk.frzReq = false)
    ∧ (∃ b : Body, ∃ r : SpkRec, b.spk.frozen = false ∧ r.fatal = true)
    ∧ (∃ b : Body, ∃ r : SpkRec, b.spk.frozen = true ∧ r.fatal = false)
    ∧ (∃ b : Body, ∃ r : SpkRec, b.spk.frozen = true ∧ r.fatal = true ∧ b.spk.side.length < 64)
    ∧ (∃ b : Body, ∃ r : SpkRec, b.spk.frozen = true ∧ r.fatal = true ∧ 64 ≤ b.spk.side.length) :=
  ⟨⟨(st id), .firmware, by decide⟩,
   ⟨(st fun b => { b with spk.frozen := false }), .firmware, by decide⟩,
   ⟨(st fun b => { b with spk.frozen := true }), .firmware, by decide⟩,
   ⟨(st fun b => { b with spk.frozen := true }), by decide⟩,
   ⟨(st fun b => { b with spk.sram := [(⟨1, 0, 0, 0, 0, true, false, .named .unitEntry, 0, 0⟩)] }), 0, 0, ⟨1, 0, 0, 0, 0, true, false,
     .named .unitEntry, 0, 0⟩, by decide⟩,
   ⟨(st fun b => { b with spk.sram := [(⟨1, 0, 0, 0, 0, true, false, .named .unitEntry, 0, 0⟩)] }), 0, .firmware, ⟨1, 0, 0, 0, 0, true,
     false, .named .unitEntry, 0, 0⟩, by decide⟩,
   ⟨(st id), 0, .firmware, ⟨1, 0, 0, 0, 0, true, false, .named .unitEntry, 0, 0⟩, 0, by decide⟩,
   ⟨(st id), .firmware, by decide⟩,
   ⟨(st fun b => { b.put F.PASS_SEQ_LAST_SEQ 1 with spk.chUsed := false, ciph.slots := [1] }), .firmware, some 1, true, by decide⟩,
   ⟨(st id), .firmware, none, false, by decide⟩,
   ⟨(st fun b => { b with spk.clearing := some (0, 0), spk.frzReq := false }), 0, 0, by decide⟩,
   ⟨(bd fun b => { b with spk.frozen := false }), ⟨1, 0, 0, 0, 0, true, false, .named .unitEntry, 0, 0⟩, by decide⟩,
   ⟨(bd fun b => { b with spk.frozen := true }), ⟨1, 0, 0, 0, 0, false, false, .named .unitEntry, 0, 0⟩, by decide⟩,
   ⟨(bd fun b => { b with spk.frozen := true }), ⟨1, 0, 0, 0, 0, true, false, .named .unitEntry, 0, 0⟩, by decide⟩,
   ⟨(bd fun b => { b with spk.frozen := true, spk.side := List.replicate 64 ⟨1, 0, 0, 0, 0, true, true, .named .unitEntry, 0, 0⟩ }), ⟨1,
     0, 0, 0, 0, true, false, .named .unitEntry, 0, 0⟩, by decide⟩⟩

theorem wit_rail_commands :
    (∃ s : State, ∃ r : Nat, r < 24 ∧ s.body.railState r = .minOff)
    ∧ (∃ s : State, ∃ r : Nat, r < 24 ∧ (s.body.railDef r).isSome = true ∧ s.body.railState r = .rising)
    ∧ (∃ s : State, ∃ r : Nat, r < 24 ∧ (s.body.railDef r).isSome = true ∧ s.body.railState r = .debouncing)
    ∧ (∃ s : State, ∃ r us : Nat, ∃ d, r < 24 ∧ s.body.railState r = .debouncing ∧ (s.body.rail r).retry = false ∧ s.body.flag
      F.HOB_STATUS_PENDING_OFF = false ∧ s.body.hob.table[s.body.hob.step + 1]? = some d ∧ d.rail < 24 ∧ d.rail ≠ r)
    ∧ (∃ s : State, ∃ r us : Nat, r < 24 ∧ s.body.railState r = .debouncing ∧ (s.body.rail r).retry = false ∧ s.body.flag
      F.HOB_STATUS_PENDING_OFF = false ∧ s.body.hob.table[s.body.hob.step + 1]? = none)
    ∧ (∃ s : State, ∃ r us : Nat, r < 24 ∧ (s.body.railState r = .rising ∨ s.body.railState r = .debouncing) ∧ s.body.flag
      F.HOB_STATUS_PENDING_OFF = false ∧ s.body.hob.table[s.body.hob.step + 1]? = none)
    ∧ (∃ s : State, ∃ r us : Nat, ∃ d : RailDef, r < 24 ∧ s.body.railState r = .up ∧ nbit (s.body.get F.HOB_RAILS_GOOD) r = false ∧
      s.body.railDef r = some d ∧ d.kind ≠ 0)
    ∧ (∃ s : State, ∃ r us : Nat, ∃ d : RailDef, r < 24 ∧ s.body.downAt r = true ∧ (s.body.rail r).below = false ∧ (s.body.rail
      r).timedOut = false ∧ s.body.railDef r = some d ∧ nbit d.flags 0 = false ∧ s.body.hob.force = false ∧ (s.body.rail r).skip = false)
    ∧ (∃ s : State, ∃ actor : Actor, ∃ r : Nat, r < 24 ∧ acts s.body actor (F.HOB_RAIL_CTL_RETRY r).addr (bitWord s.body
      (F.HOB_RAIL_CTL_RETRY r) 1) ∧ s.body.hobState = .up ∧ s.body.railState r = .failed ∧ (s.body.railDef r).isSome = true)
    ∧ (∃ s : State, ∃ actor : Actor, ∃ r : Nat, r < 24 ∧ acts s.body actor (F.HOB_RAIL_CTL_SKIP_WAIT r).addr (bitWord s.body
      (F.HOB_RAIL_CTL_SKIP_WAIT r) 1) ∧ s.body.downAt r = true ∧ (s.body.rail r).timedOut = false)
    ∧ (∃ s : State, ∃ r x us : Nat, ∃ d : RailDef, r < 24 ∧ (s.body.hob.present = false ∨ r ≠ s.body.cfg.img.qui.sagSense) ∧
      s.body.railDef r = some d ∧ s.body.railState r = .up ∧ d.offMv ≤ s.body.senseMv r x ∧ s.body.senseMv r x < 2 ^ 16) :=
  ⟨⟨(st fun b => b.put (F.HOB_RAIL_STATE_STATE 0) 6), 0, by decide⟩,
   ⟨(st fun b => { b.put (F.HOB_RAIL_STATE_STATE 0) 1 with hob.table := [⟨0, 1, 0, 0, 0, 0, 0, 0, 0, 0, 0⟩] }), 0, by decide⟩,
   ⟨(st fun b => { b.put (F.HOB_RAIL_STATE_STATE 0) 2 with hob.table := [⟨0, 1, 0, 0, 0, 0, 0, 0, 0, 0, 0⟩] }), 0, by decide⟩,
   ⟨(st fun b =>
     { b.put (F.HOB_RAIL_STATE_STATE 0) 2 with hob.rails := [(0, { retry := false })], hob.table := [⟨0, 1, 0, 0, 0, 0, 0, 0, 0, 0, 0⟩, ⟨1, 1, 0, 0, 0, 0, 0, 0, 0, 0, 0⟩] }),
     0, 0, ⟨1, 1, 0, 0, 0, 0, 0, 0, 0, 0, 0⟩, by decide⟩,
   ⟨(st fun b => { b.put (F.HOB_RAIL_STATE_STATE 0) 2 with hob.rails := [(0, { retry := false })] }), 0, 0, by decide⟩,
   ⟨(st fun b => b.put (F.HOB_RAIL_STATE_STATE 0) 1), 0, 0, by decide⟩,
   ⟨(st fun b => { b.put (F.HOB_RAIL_STATE_STATE 0) 3 with hob.table := [⟨0, 1, 0, 0, 0, 0, 0, 0, 0, 0, 0⟩] }), 0, 0, ⟨0, 1, 0, 0, 0, 0,
     0, 0, 0, 0, 0⟩, by decide⟩,
   ⟨(st fun b =>
     { b.put F.HOB_STATUS_STATE 4 with hob.force := false, hob.rails := [(0, { below := false })], hob.table := [⟨0, 1, 0, 0, 0, 0, 0, 0, 0, 0, 0⟩], hob.step := 1 }),
     0, 0, ⟨0, 1, 0, 0, 0, 0, 0, 0, 0, 0, 0⟩, by decide⟩,
   ⟨(st fun b =>
     { b.put F.HOB_STATUS_STATE 2 |>.put (F.HOB_RAIL_STATE_STATE 0) 4 with hob.table := [⟨0, 1, 0, 0, 0, 0, 0, 0, 0, 0, 0⟩] }),
     .firmware, 0, by decide⟩,
   ⟨(st fun b =>
     { b.put F.HOB_STATUS_STATE 4 with hob.rails := [(0, { timedOut := false })], hob.table := [⟨0, 1, 0, 0, 0, 0, 0, 0, 0, 0, 0⟩], hob.step := 1 }),
     .firmware, 0, by decide⟩,
   ⟨(st fun b => { b.put (F.HOB_RAIL_STATE_STATE 0) 3 with hob.present := false, hob.table := [⟨0, 1, 0, 0, 0, 0, 0, 0, 0, 0, 0⟩] }), 0,
     0, 0, ⟨0, 1, 0, 0, 0, 0, 0, 0, 0, 0, 0⟩, by decide⟩⟩

theorem wit_hob_requests :
    (∃ s : State, ∃ actor : Actor, acts s.body actor A.HOB_REQ 1 ∧ s.body.hob.thHold = false ∧ s.body.hobState = .off)
    ∧ (∃ s : State, ∃ actor : Actor, acts s.body actor A.HOB_REQ 1 ∧ s.body.hob.thHold = false ∧ s.body.hobState = .up)
    ∧ (∃ s : State, ∃ actor : Actor, acts s.body actor A.HOB_REQ 1 ∧ s.body.hob.thHold = false ∧ (s.body.hobState = .flushing ∨
      s.body.hobState = .poweringDown) ∧ s.body.flag F.HOB_STATUS_PENDING_ON = false)
    ∧ (∃ s : State, ∃ actor : Actor, acts s.body actor A.HOB_REQ 2 ∧ s.body.hobState = .off)
    ∧ (∃ s : State, ∃ actor : Actor, acts s.body actor A.HOB_REQ 2 ∧ s.body.hobState = .poweringUp ∧ s.body.flag F.HOB_STATUS_PENDING_OFF
      = false)
    ∧ (∃ s : State, ∃ actor : Actor, acts s.body actor A.HOB_REQ 2 ∧ s.body.hobState = .up ∧ s.body.isOn U.persist = true)
    ∧ (∃ s : State, s.body.hob.pfDown = true ∧ s.body.hob.thHold = false ∧ s.body.hobState = .off)
    ∧ (∃ s : State, ∃ n : Nat, s.body.rstMay n = true ∧ s.body.hob.outs.contains n = false)
    ∧ (∃ s : State, ∃ actor : Actor, ∃ n : Nat, acts s.body actor (F.HOB_RST_PULSE n).addr (bitWord s.body (F.HOB_RST_PULSE n) 1) ∧
      s.body.hob.outs.contains n = true) :=
  ⟨⟨(st fun b => { b.put F.HOB_STATUS_STATE 0 with hob.thHold := false }), .firmware, by decide⟩,
   ⟨(st fun b => { b.put F.HOB_STATUS_STATE 2 with hob.thHold := false }), .firmware, by decide⟩,
   ⟨(st fun b => { b.put F.HOB_STATUS_STATE 3 with hob.thHold := false }), .firmware, by decide⟩,
   ⟨(st fun b => b.put F.HOB_STATUS_STATE 0), .firmware, by decide⟩,
   ⟨(st fun b => b.put F.HOB_STATUS_STATE 1), .firmware, by decide⟩,
   ⟨(st fun b => b.put F.HOB_STATUS_STATE 2 |>.put (F.UNIT_STATE_STATE U.persist) 2), .firmware, by decide⟩,
   ⟨(st fun b => { b.put F.HOB_STATUS_STATE 0 with hob.pfDown := true, hob.thHold := false }), by decide⟩,
   ⟨(st fun b => b.put (F.HOB_RST_HOLD 0) 0 |>.put F.HOB_STATUS_STATE 2), 0, by decide⟩,
   ⟨(st fun b => { b with hob.outs := [0] }), .firmware, 0, by decide⟩⟩

theorem wit_thermal_commands :
    (∃ s : State, ∃ n us : Nat, ∃ t : Int, n < 24)
    ∧ (∃ s : State, ∃ n us : Nat, n < 24 ∧ (mgetD s.body.th.die n {}).fails = 2)
    ∧ (∃ b : Body, b.anyShutdown = true ∧ b.flag F.TH_STATUS_SHUTDOWN = false)
    ∧ (∃ b : Body, ∃ k : Nat, ∃ t : Int, ∃ cls, 1 ≤ k ∧ k ≤ 7 ∧ t ∈ b.classTemps cls ∧ b.thresh cls (k - 1) ≤ t) :=
  ⟨⟨(st id), 0, 0, 0, by decide⟩,
   ⟨(st fun b => { b with th.die := [(0, { fails := 2 })] }), 0, 0, by decide⟩,
   ⟨(bd fun b => { b with th.die := [(0, { valid := true })], cfg.loaded := true }), by decide⟩,
   ⟨(bd fun b => { b with th.die := [(0, { valid := true })] }), 1, 0, .die, by decide⟩⟩

theorem wit_reset_commands :
    (∃ s : State, ∃ bad corrected : List Nat, s.body.boot.powered = false)
    ∧ (∃ s : State, s.body.hobState = .off)
    ∧ (∃ s : State, ∃ actor : Actor, acts s.body actor A.BOOT_CTL 1 ∧ s.body.hobState = .off)
    ∧ (∃ s : State, ∃ actor : Actor, acts s.body actor A.BOOT_CTL 1 ∧ s.body.hobState = .up ∧ s.body.isOn U.persist = true)
    ∧ (∃ s : State, ∃ actor : Actor, acts s.body actor A.BOOT_CTL 2 ∧ s.body.dx.warm = false) :=
  ⟨⟨(st fun b => { b with boot.powered := false }), [], [], by decide⟩,
   ⟨(st fun b => b.put F.HOB_STATUS_STATE 0), by decide⟩,
   ⟨(st fun b => b.put F.HOB_STATUS_STATE 0), .firmware, by decide⟩,
   ⟨(st fun b => b.put F.HOB_STATUS_STATE 2 |>.put (F.UNIT_STATE_STATE U.persist) 2), .firmware, by decide⟩,
   ⟨(st fun b => { b with dx.warm := false }), .firmware, by decide⟩⟩

theorem wit_boot_and_watchdog :
    (∃ s : State, ∃ a b : SlotVerdict, ∃ us1 us2 : Nat, s.body.boot.stage = 1)
    ∧ (∃ s : State, ∃ us : Nat, s.body.boot.stage = 3 ∧ s.body.hobState = .up)
    ∧ (∃ s : State, ∃ us : Nat, s.body.boot.stage = 4 ∧ s.body.flag F.TIME_STATUS_TREF_OK = true)
    ∧ (∃ s : State, ∃ us : Nat, s.body.boot.stage = 4 ∧ s.body.flag F.TIME_STATUS_TREF_OK = false)
    ∧ (∃ s : State, ∃ actor : Actor, acts s.body actor A.BOOT_WDT_KICK 1)
    ∧ (∃ s : State, s.body.boot.wdtOn = true ∧ s.body.get F.BOOT_WDT_CFG_TIMEOUT_MS ≠ 0 ∧ s.body.dx.warm = false ∧ s.body.boot.wdtTwice =
      false) :=
  ⟨⟨(st fun b => { b with boot.stage := 1 }), ⟨none, false⟩, ⟨none, false⟩, 0, 0, by decide⟩,
   ⟨(st fun b => { b.put F.HOB_STATUS_STATE 2 with boot.stage := 3 }), 0, by decide⟩,
   ⟨(st fun b => { b.put F.TIME_STATUS_TREF_OK 1 with boot.stage := 4 }), 0, by decide⟩,
   ⟨(st fun b => { b with boot.stage := 4 }), 0, by decide⟩,
   ⟨(st id), .firmware, by decide⟩,
   ⟨(st fun b => { b.put F.BOOT_WDT_CFG_TIMEOUT_MS 1 with boot.wdtOn := true, dx.warm := false, boot.wdtTwice := false }), by decide⟩⟩

theorem wit_state_window_commands :
    (∃ s : State, ∃ actor : Actor, ∃ fixed : Bool, ∃ bad : List Nat, acts s.body actor A.STATE_CMD 1 ∧ s.body.rb.snap = none ∧ rowSlow
      ((wrote s.body actor A.STATE_CMD 1).get F.STATE_SEL_KIND) = false)
    ∧ (∃ s : State, ∃ actor : Actor, ∃ fixed : Bool, ∃ bad : List Nat, acts s.body actor A.STATE_CMD 1 ∧ s.body.rb.snap = none ∧ rowSlow
      ((wrote s.body actor A.STATE_CMD 1).get F.STATE_SEL_KIND) = true ∧ ((wrote s.body actor A.STATE_CMD 1).rowOf ((wrote s.body actor
      A.STATE_CMD 1).get F.STATE_SEL_KIND) ((wrote s.body actor A.STATE_CMD 1).get F.STATE_SEL_INDEX)).isSome = true)
    ∧ (∃ s : State, ∃ actor : Actor, ∃ fixed : Bool, ∃ bad : List Nat, acts s.body actor A.STATE_CMD 1 ∧ s.body.rb.snap ≠ none)
    ∧ (∃ s : State, ∃ fixed : Bool, ∃ bad : List Nat, ∃ kind i : Nat, s.body.rb.snap = some (kind, i)) :=
  ⟨⟨(st fun b => { b with rb.snap := none }), .firmware, false, [], by decide⟩,
   ⟨(st fun b => { b.put F.STATE_SEL_KIND 19 with rb.snap := none }), .firmware, false, [], by decide⟩,
   ⟨(st fun b => { b with rb.snap := some (0, 0) }), .firmware, false, [], by decide⟩,
   ⟨(st fun b => { b with rb.snap := some (0, 0) }), false, [], 0, 0, by decide⟩⟩

theorem wit_reset_values :
    (∃ k, k < 16)
    ∧ (∃ u, u < 80) :=
  ⟨⟨0, by decide⟩,
   ⟨0, by decide⟩⟩

theorem wit_frame_cores_and_flash :
    (∃ c : Instr, ∃ s : State, c.wf = true ∧ ofFlash c = true)
    ∧ (∃ c : Instr, ∃ s : State, c.wf = true ∧ ofCores c = true) :=
  ⟨⟨.eraseResume, (st id), by decide⟩,
   ⟨.tcmClearDone 15, (st id), by decide⟩⟩

theorem wit_frame_recorder_and_rails :
    (∃ c : Instr, ∃ s : State, c.wf = true ∧ ofRecorder c = true)
    ∧ (∃ c : Instr, ∃ s : State, c.wf = true ∧ ofRails c = true) :=
  ⟨⟨.operatingSecond, (st id), by decide⟩,
   ⟨.resetRelease 0, (st id), by decide⟩⟩

theorem wit_frame_keys_and_attestation :
    (∃ c : Instr, ∃ s : State, c.wf = true ∧ ofSpdm c = true)
    ∧ (∃ c : Instr, ∃ s : State, c.wf = true ∧ ofKeys c = true) :=
  ⟨⟨.spdmGetVersion, (st id), by decide⟩,
   ⟨.keyActivate, (st id), by decide⟩⟩

theorem wit_frame_reads :
    (∃ c : Instr, ∃ s : State, c.wf = true ∧ ofMailboxReads c = true)
    ∧ (∃ c : Instr, ∃ s : State, c.wf = true ∧ ofSnapshots c = true) :=
  ⟨⟨.identify 0 0, (st id), by decide⟩,
   ⟨.rackSnapshot .firmware 0 .good, (st id), by decide⟩⟩

theorem wit_frame_queues_and_regions :
    (∃ c : Instr, ∃ s : State, c.wf = true ∧ ofQueues c = true)
    ∧ (∃ c : Instr, ∃ s : State, c.wf = true ∧ ofRegions c = true) :=
  ⟨⟨.qFlush .firmware 0, (st id), by decide⟩,
   ⟨.regDereg .firmware 0, (st id), by decide⟩⟩

end Sys2Proof.Tests
end

/-! The lifecycle of a unit (R29): what entering a state and holding a request do to UNIT_STATE and to the events, what each request is in
each state, and the table assembled from these. -/

namespace Sys2Proof.Machine.Body

open Sys2Proof.Stmt

/-! ## The fields of UNIT_STATE stand apart (R35) -/

@[simp] theorem unitState_apart_pending (u : Nat) : (F.UNIT_STATE_STATE u).apart (F.UNIT_STATE_PENDING u) = true := by
  simp [Fld.apart, F.UNIT_STATE_STATE, F.UNIT_STATE_PENDING]
@[simp] theorem unitState_apart_startFailed (u : Nat) : (F.UNIT_STATE_STATE u).apart (F.UNIT_STATE_START_FAILED u) = true := by
  simp [Fld.apart, F.UNIT_STATE_STATE, F.UNIT_STATE_START_FAILED]
@[simp] theorem unitState_apart_faultStop (u : Nat) : (F.UNIT_STATE_STATE u).apart (F.UNIT_STATE_FAULT_STOP u) = true := by
  simp [Fld.apart, F.UNIT_STATE_STATE, F.UNIT_STATE_FAULT_STOP]
@[simp] theorem pending_apart_unitState (u : Nat) : (F.UNIT_STATE_PENDING u).apart (F.UNIT_STATE_STATE u) = true := by
  simp [Fld.apart, F.UNIT_STATE_STATE, F.UNIT_STATE_PENDING]
@[simp] theorem pendingEnable_apart_unitState (u : Nat) : (F.UNIT_STATE_PENDING_ENABLE u).apart (F.UNIT_STATE_STATE u) = true := by
  simp [Fld.apart, F.UNIT_STATE_STATE, F.UNIT_STATE_PENDING_ENABLE]
@[simp] theorem pendingEnable_apart_pending (u : Nat) : (F.UNIT_STATE_PENDING_ENABLE u).apart (F.UNIT_STATE_PENDING u) = true := by
  simp [Fld.apart, F.UNIT_STATE_PENDING, F.UNIT_STATE_PENDING_ENABLE]
@[simp] theorem pending_apart_startFailed (u : Nat) : (F.UNIT_STATE_PENDING u).apart (F.UNIT_STATE_START_FAILED u) = true := by
  simp [Fld.apart, F.UNIT_STATE_PENDING, F.UNIT_STATE_START_FAILED]
@[simp] theorem pendingEnable_apart_startFailed (u : Nat) :
    (F.UNIT_STATE_PENDING_ENABLE u).apart (F.UNIT_STATE_START_FAILED u) = true := by
  simp [Fld.apart, F.UNIT_STATE_PENDING_ENABLE, F.UNIT_STATE_START_FAILED]

theorem unitState_apart_of_ne {u v : Nat} (h : v ≠ u) : (F.UNIT_STATE_STATE u).apart (F.UNIT_STATE_STATE v) = true := by
  have ha : (F.UNIT_STATE_STATE v).addr ≠ (F.UNIT_STATE_STATE u).addr := by
    simp only [F.UNIT_STATE_STATE]
    omega
  rw [Fld.apart, decide_eq_true ha, Bool.true_or]

/-! ## A register write seen by the lifecycle -/

theorem flag_put_of_apart (s : Body) {f g : Fld} (v : Nat) (h : f.apart g = true) : (s.put f v).flag g = s.flag g := by
  simp only [flag, get_put_ne s f g v h]

/-- A field of one bit reads back as the truth value it was set to. -/
theorem flag_putB_same (s : Body) (f : Fld) (e : Bool) (hw : f.w = 1) (h : f.lo < 64) : (s.putB f e).flag f = e := by
  simp only [flag, putB, get_put_same s f _ (by omega : f.lo + f.w ≤ 64), hw]
  cases e <;> rfl

theorem flag_put_one (s : Body) (f : Fld) (hw : f.w = 1) (h : f.lo < 64) : (s.put f 1).flag f = true :=
  flag_putB_same s f true hw h

theorem flag_put_zero (s : Body) (f : Fld) (hw : f.w = 1) (h : f.lo < 64) : (s.put f 0).flag f = false :=
  flag_putB_same s f false hw h

theorem unit_put_of_apart (s : Body) {f : Fld} (v u : Nat) (h : f.apart (F.UNIT_STATE_STATE u) = true) : (s.put f v).unit u = s.unit u := by
  simp only [unit, get_put_ne s f _ v h]

@[simp] theorem entered_put (s : Body) (f : Fld) (v u : Nat) : entered (s.put f v) u = entered s u := rfl

/-! ## What another unit is asked for -/

@[simp] theorem unit_later (s : Body) (t : Todo) (u : Nat) : (s.later t).unit u = s.unit u := rfl
@[simp] theorem flag_later (s : Body) (t : Todo) (f : Fld) : (s.later t).flag f = s.flag f := rfl
@[simp] theorem entered_later (s : Body) (t : Todo) (u : Nat) : entered (s.later t) u = entered s u := rfl
@[simp] theorem mem_todo_later (s : Body) (t : Todo) : t ∈ (s.later t).todo := by simp [later]

/-! ## Entering a state -/

/-- The argument of the event that a state entry posts: the state, and bit 3 for a stop that a fault began. -/
def entryArg (s : Body) (u : Nat) (st : UnitState) : Nat :=
  unitCode st + (if st == .stopping && (s.put (F.UNIT_STATE_STATE u) (unitCode st)).flag (F.UNIT_STATE_FAULT_STOP u) then 8 else 0)

/-- The mark of a fault lies above the two bits of the state. -/
theorem entryArg_mod (s : Body) (u : Nat) (st : UnitState) : s.entryArg u st % 4 = unitCode st := by
  unfold entryArg
  split <;> cases st <;> rfl

theorem unitEnter_evs (s : Body) (u : Nat) (st : UnitState) :
    (s.unitEnter u st).evs = s.evs ++ [⟨u, .named .unitEntry, s.entryArg u st⟩] := rfl

theorem get_unitEnter (s : Body) (u : Nat) (st : UnitState) (f : Fld) :
    (s.unitEnter u st).get f = (s.put (F.UNIT_STATE_STATE u) (unitCode st)).get f := rfl

/-- The state entered is the state that UNIT_STATE then shows. -/
@[simp] theorem unit_unitEnter_same (s : Body) (u : Nat) (st : UnitState) : (s.unitEnter u st).unit u = st := by
  simp only [unit, get_unitEnter, get_put_same s (F.UNIT_STATE_STATE u) (unitCode st) (by decide : 0 + 2 ≤ 64)]
  cases st <;> rfl

theorem unit_unitEnter_ne (s : Body) {u v : Nat} (st : UnitState) (h : v ≠ u) : (s.unitEnter u st).unit v = s.unit v := by
  simp only [unit, get_unitEnter, get_put_ne s _ _ _ (unitState_apart_of_ne h)]

@[simp] theorem flag_unitEnter (s : Body) (u : Nat) (st : UnitState) (f : Fld) (h : (F.UNIT_STATE_STATE u).apart f = true) :
    (s.unitEnter u st).flag f = s.flag f :=
  flag_put_of_apart s _ h

@[simp] theorem entered_unitEnter (s : Body) (u : Nat) (st : UnitState) : entered (s.unitEnter u st) u = entered s u ++ [unitCode st] := by
  simp [entered, unitEnter_evs, entryArg_mod]

/-! ## A pending request -/

@[simp] theorem unit_unitPend (s : Body) (u : Nat) (p : Option Bool) : (s.unitPend u p).unit u = s.unit u := by
  cases p <;> simp [unitPend, putB, unit_put_of_apart]

@[simp] theorem entered_unitPend (s : Body) (u : Nat) (p : Option Bool) : entered (s.unitPend u p) u = entered s u := by
  cases p <;> rfl

@[simp] theorem flag_startFailed_unitPend (s : Body) (u : Nat) (p : Option Bool) :
    (s.unitPend u p).flag (F.UNIT_STATE_START_FAILED u) = s.flag (F.UNIT_STATE_START_FAILED u) := by
  cases p <;> simp [unitPend, putB, flag_put_of_apart]

/-- A request that is cleared is not shown. -/
@[simp] theorem flag_pending_unitPend_none (s : Body) (u : Nat) : (s.unitPend u none).flag (F.UNIT_STATE_PENDING u) = false := by
  simp only [unitPend, flag_put_of_apart _ _ (pendingEnable_apart_pending u)]
  exact flag_put_zero s _ rfl (by decide : 2 < 64)

/-- A request that is held is the one pending. -/
@[simp] theorem unitPending_unitPend_some (s : Body) (u : Nat) (e : Bool) : (s.unitPend u (some e)).unitPending u e = true := by
  have hp : (s.unitPend u (some e)).flag (F.UNIT_STATE_PENDING u) = true := by
    simp only [unitPend, putB, flag_put_of_apart _ _ (pendingEnable_apart_pending u)]
    exact flag_put_one s _ rfl (by decide : 2 < 64)
  have he : (s.unitPend u (some e)).flag (F.UNIT_STATE_PENDING_ENABLE u) = e :=
    flag_putB_same _ _ e rfl (by decide : 3 < 64)
  simp [unitPending, hp, he]

/-! ## Beginning the start steps and the stop steps -/

@[simp] theorem unit_unitStart (s : Body) (u : Nat) : (s.unitStart u).unit u = .starting := by simp [unitStart]
@[simp] theorem mem_todo_unitStart (s : Body) (u : Nat) : .startSteps u ∈ (s.unitStart u).todo := by simp [unitStart]
@[simp] theorem entered_unitStart (s : Body) (u : Nat) : entered (s.unitStart u) u = entered s u ++ [1] := by
  simp [unitStart, unitCode]
@[simp] theorem flag_unitStart (s : Body) (u : Nat) (f : Fld) (h : (F.UNIT_STATE_STATE u).apart f = true) :
    (s.unitStart u).flag f = s.flag f := by
  simp [unitStart, h]

@[simp] theorem unit_unitStop (s : Body) (u : Nat) : (s.unitStop u).unit u = .stopping := by simp [unitStop]
@[simp] theorem mem_todo_unitStop (s : Body) (u : Nat) : .stopSteps u ∈ (s.unitStop u).todo := by simp [unitStop]
@[simp] theorem entered_unitStop (s : Body) (u : Nat) : entered (s.unitStop u) u = entered s u ++ [3] := by
  simp [unitStop, unitCode]
@[simp] theorem flag_unitStop (s : Body) (u : Nat) (f : Fld) (h : (F.UNIT_STATE_STATE u).apart f = true) :
    (s.unitStop u).flag f = s.flag f := by
  simp [unitStop, h]

/-! ## What each event of the table is in each state (R29) -/

section
variable {b : Body} {u : Nat}

theorem unitEnable_of_off (h : b.unit u = .off) (hh : b.boot.held = false) : b.unitEnable u = b.unitStart u := by
  simp [unitEnable, h, hh]
/-- A unit held in reset stays there (R72, R434). -/
theorem unitEnable_of_held (h : b.unit u = .off) (hh : b.boot.held = true) : b.unitEnable u = b := by
  simp [unitEnable, h, hh]
theorem unitEnable_of_starting (h : b.unit u = .starting) : b.unitEnable u = b.unitPend u none := by simp [unitEnable, h]
theorem unitEnable_of_on (h : b.unit u = .on) : b.unitEnable u = b := by simp [unitEnable, h]
theorem unitEnable_of_stopping (h : b.unit u = .stopping) : b.unitEnable u = b.unitPend u (some true) := by simp [unitEnable, h]

theorem unitDisable_of_off (h : b.unit u = .off) : b.unitDisable u = b := by simp [unitDisable, h]
theorem unitDisable_of_starting (h : b.unit u = .starting) : b.unitDisable u = b.unitPend u (some false) := by simp [unitDisable, h]
theorem unitDisable_of_on (h : b.unit u = .on) : b.unitDisable u = b.unitStop u := by simp [unitDisable, h]
theorem unitDisable_of_stopping (h : b.unit u = .stopping) : b.unitDisable u = b.unitPend u none := by simp [unitDisable, h]

theorem unitStarted_of_not_pending (h : b.unit u = .starting) (hp : b.unitPending u false = false) :
    b.unitStarted u = (b.unitEnter u .on).later (.started u) := by
  simp [unitStarted, h, hp]
/-- A unit that a pending disable waits for passes through ON. -/
theorem unitStarted_of_pending (h : b.unit u = .starting) (hp : b.unitPending u false = true) :
    b.unitStarted u = (((b.unitEnter u .on).later (.started u)).unitPend u none).unitStop u := by
  simp [unitStarted, h, hp]

theorem unitFail_of_starting (h : b.unit u = .starting) :
    b.unitFail u = ((b.put (F.UNIT_STATE_START_FAILED u) 1).unitPend u none).unitStop u := by
  simp [unitFail, h]

theorem unitFault_of_on (h : b.unit u = .on) : b.unitFault u = (b.put (F.UNIT_STATE_FAULT_STOP u) 1).unitStop u := by
  simp [unitFault, h]

theorem unitStopped_of_not_pending (h : b.unit u = .stopping) (hp : b.unitPending u true = false) :
    b.unitStopped u = b.unitEnter u .off := by
  simp [unitStopped, h, hp]
/-- A unit that a pending enable waits for passes through OFF. -/
theorem unitStopped_of_pending (h : b.unit u = .stopping) (hp : b.unitPending u true = true) :
    b.unitStopped u = ((b.unitEnter u .off).unitPend u none).unitStart u := by
  simp [unitStopped, h, hp]

end

/-! ## What a completed start, a failure, a fault and a completed stop show -/

theorem flag_startFailed_unitFail {b : Body} {u : Nat} (h : b.unit u = .starting) :
    (b.unitFail u).flag (F.UNIT_STATE_START_FAILED u) = true := by
  rw [unitFail_of_starting h, flag_unitStop _ _ _ (unitState_apart_startFailed u), flag_startFailed_unitPend]
  exact flag_put_one b _ rfl (by decide : 4 < 64)

theorem flag_faultStop_unitFault {b : Body} {u : Nat} (h : b.unit u = .on) :
    (b.unitFault u).flag (F.UNIT_STATE_FAULT_STOP u) = true := by
  rw [unitFault_of_on h, flag_unitStop _ _ _ (unitState_apart_faultStop u)]
  exact flag_put_one b _ rfl (by decide : 5 < 64)

/-- Settles O12: each row of the table is what its event is in that state, read through the rules of state entry and pending request. -/
theorem lifecycleTable : Obligations.LifecycleTable := by
  unfold Obligations.LifecycleTable
  refine ⟨fun b u _ => ⟨fun h hh => ?offEnable, unitEnable_of_held, unitDisable_of_off, fun h => ?startingEnable,
    fun h => ?startingDisable, fun h hp => ?started, fun h hp => ?startedPending, fun h => ?startFails, unitEnable_of_on,
    fun h => ?onDisable, fun h => ?onFault, fun h => ?stoppingEnable, fun h => ?stoppingDisable, fun h hp => ?stopped,
    fun h hp => ?stoppedPending⟩, fun b u st _ => ?entry⟩
  case offEnable => simp [unitEnable_of_off h hh]
  case startingEnable => simp [unitEnable_of_starting h, h]
  case startingDisable => simp [unitDisable_of_starting h, h]
  case started => simp [unitStarted_of_not_pending h hp, unitCode]
  case startedPending => simp [unitStarted_of_pending h hp, unitCode]
  case startFails =>
    have failed := flag_startFailed_unitFail h
    rw [unitFail_of_starting h] at failed ⊢
    simp [failed]
  case onDisable => simp [unitDisable_of_on h]
  case onFault =>
    have faulted := flag_faultStop_unitFault h
    rw [unitFault_of_on h] at faulted ⊢
    simp [faulted]
  case stoppingEnable => simp [unitEnable_of_stopping h, h]
  case stoppingDisable => simp [unitDisable_of_stopping h, h]
  case stopped => simp [unitStopped_of_not_pending h hp, unitCode]
  case stoppedPending => simp [unitStopped_of_pending h hp, unitCode]
  case entry =>
    exact ⟨unit_unitEnter_same b u st, _, unitEnter_evs b u st, rfl, rfl, entryArg_mod b u st,
      fun v _ hv => unit_unitEnter_ne b st hv⟩

end Sys2Proof.Machine.Body

/-! A cached buffer of a Ramekin pool (R296, R297, R300): what an allocation that no rule refuses answers, why the channel of the buffer's
state byte takes the access when every channel of the set has registers of its own, and a set for which it does not. -/

namespace Sys2Proof.Machine.Body

/-! ## An allocation that the cache can serve -/

/-- No rule of R296, R300 and R301 refuses the allocation, and `i` heads the cache of its pool `p`, before `r`. -/
structure Cached (b : Body) (p size owner i : Nat) (r : List Nat) : Prop where
  pool_lt : p < 6
  on : b.isOn U.ramekin = true
  pos : 0 < size
  fits : size ≤ rkSize p
  smallest : ∀ q, q < p → rkSize q < size
  owner_lt : owner < 14
  area : b.flag F.RK_STATUS_AREA_LOST = false
  free : b.rkFreeN p ≠ 0
  reserve : b.rkUnmet owner p < b.rkFreeN p
  cache : (b.pool p).cache = i :: r

/-- The units once the head of a pool's cache is taken. -/
def uncached (b : Body) (p : Nat) (r : List Nat) : Body := b.setPool p { b.pool p with cache := r }

/-- The units once a buffer that was taken is ALLOCATED for its owner (R295, R301). -/
def lent (t : Body) (p i owner : Nat) : Body :=
  ((t.setRkByte (t.rkStateAt p i) (128 + owner)).setHeld owner p (t.rkHeld owner p + 1)).rkShow p

theorem rkSize_le {p : Nat} (hp : p < 6) : rkSize p ≤ 262144 :=
  Nat.mul_le_mul_left 256 (Nat.pow_le_pow_right (by decide : 0 < 4) (by omega : p ≤ 5))

/-- The class an allocation is served from is the smallest that holds the size (R296). -/
theorem rkClass_eq_some {p size : Nat} (hp : p < 6) (fits : size ≤ rkSize p) (smallest : ∀ q, q < p → rkSize q < size) :
    rkClass size = some p := by
  rw [rkClass, List.find?_range_eq_some]
  exact ⟨decide_eq_true fits, List.mem_range.2 hp, fun q hq => by simp [smallest q hq]⟩

/-- Past the refusals, all that can still fail is the access to the state byte of the buffer taken (R300). -/
theorem Cached.rkAlloc_eq {b : Body} {p size owner i : Nat} {r : List Nat} (bad : Bool) (h : b.Cached p size owner i r) :
    b.rkAlloc size owner bad =
      if (b.uncached p r).rkReach ((b.uncached p r).rkStateAt p i) then ((b.uncached p r).lent p i owner, rkHandle p i, 0)
      else (b.rkFailed p 6, rkNull, 6) := by
  have size_le : ¬ 262144 < size := Nat.not_lt.2 (Nat.le_trans h.fits (rkSize_le h.pool_lt))
  have owner_lt : ¬ 14 ≤ owner := Nat.not_le.2 h.owner_lt
  have reserve : ¬ b.rkFreeN p < b.rkUnmet owner p + 1 := Nat.not_lt.2 h.reserve
  have taken : b.rkTake p bad = (b.uncached p r, .buf i) := by simp [rkTake, h.cache, uncached]
  cases reach : (b.uncached p r).rkReach ((b.uncached p r).rkStateAt p i) <;>
    simp [rkAlloc, h.on, Nat.ne_of_gt h.pos, size_le, owner_lt, rkClass_eq_some h.pool_lt h.fits h.smallest, h.area, h.free, reserve, taken,
      reach, lent]

/-! ## What showing a pool leaves -/

namespace RegsOutside
variable {lo hi : Nat} {a b : Body}

theorem andPut (h : RegsOutside lo hi a b) {f : Fld} (hf : lo ≤ f.addr ∧ f.addr < hi) (v : Nat) : RegsOutside lo hi a (b.put f v) :=
  h.trans (.put b f v hf)

theorem andRk (h : RegsOutside lo hi a b) (k : RkSt) : RegsOutside lo hi a { b with rk := k } :=
  h.trans (.of_eq rfl)

theorem andRaiseIf (h : RegsOutside lo hi a b) {f : Fld} (hf : lo ≤ f.addr ∧ f.addr < hi) (t : Bool) (u n : Nat) :
    RegsOutside lo hi a (if t then b.raise u f n else b) := by
  cases t
  · exact h
  · exact (h.andPut hf 1).trans (.of_eq rfl)

theorem andEach {α : Type} (h : RegsOutside lo hi a b) (l : List α) (f : Body → α → Body)
    (hf : ∀ x ∈ l, ∀ t, RegsOutside lo hi t (f t x)) : RegsOutside lo hi a (b.forEach l f) := by
  induction l generalizing b with
  | nil => exact h
  | cons x l ih => exact ih (h.trans (hf x List.mem_cons_self b)) fun y hy => hf y (List.mem_cons_of_mem x hy)

end RegsOutside

/-- RK_POOL_STAT as a pool is shown (R312). -/
def rkStatShown (s : Body) (p : Nat) : Body :=
  let x := s.pool p
  let s' := ((s.put (F.RK_POOL_STAT_BUFFERS p) (s.rkCount p)).put (F.RK_POOL_STAT_FREE p) (s.rkFreeN p)).putB
    (F.RK_POOL_STAT_CHAIN_BROKEN p) x.broken
  (s'.putB (F.RK_POOL_STAT_LOW p) (s.rkFreeN p < s.get (F.RK_POOL_CFG_LOW_WATER p))).put (F.RK_POOL_STAT_QUARANTINED p) (min x.quar.length 63)

/-- Past RK_POOL_STAT, showing a pool writes its pointers, the minima and the events. -/
theorem rkShow_regsOutside_stat (s : Body) {p : Nat} (hp : p < 6) : RegsOutside 0xe00c0 0xf0000 (s.rkStatShown p) (s.rkShow p) := by
  have ptr : 0xe00c0 ≤ A.RK_POOL_PTR p ∧ A.RK_POOL_PTR p < 0xf0000 := by simp only [A.RK_POOL_PTR]; omega
  have minima (o : Nat) (ho : o ∈ List.range 16) : 0xe00c0 ≤ A.RK_MIN o p ∧ A.RK_MIN o p < 0xf0000 := by
    simp only [A.RK_MIN, List.mem_range] at *
    omega
  have shown : RegsOutside 0xe00c0 0xf0000 (s.rkStatShown p) (s.rkStatShown p) := .of_eq rfl
  refine .andRaiseIf (.andRk (.andEach ?_ _ _ fun o ho t => ?_) _) (by decide) _ _ _
  · exact ((shown.andPut ptr _).andPut ptr _).andPut ptr _
  · exact .put t _ _ (minima o ho)

/-- Showing a pool writes registers of the pools from RK_POOL_STAT on (R312). -/
theorem rkShow_regsOutside (s : Body) {p : Nat} (hp : p < 6) : RegsOutside 0xe0080 0xf0000 s (s.rkShow p) := by
  have stat : 0xe0080 ≤ A.RK_POOL_STAT p ∧ A.RK_POOL_STAT p < 0xf0000 := by simp only [A.RK_POOL_STAT]; omega
  have shown : RegsOutside 0xe0080 0xf0000 s s := .of_eq rfl
  have written : RegsOutside 0xe0080 0xf0000 s (s.rkStatShown p) :=
    ((((shown.andPut stat _).andPut stat _).andPut stat _).andPut stat _).andPut stat _
  exact written.trans fun k hk => rkShow_regsOutside_stat s hp k (by omega)

theorem RegsOutside.get_eq {lo hi : Nat} {a b : Body} (h : RegsOutside lo hi a b) {f : Fld} (hf : f.addr < lo ∨ hi ≤ f.addr) :
    b.get f = a.get f :=
  congrArg f.ofWord (h f.addr hf)

/-- RK_POOL_STAT.BUFFERS shows the buffers of the pool (R294, R312). -/
theorem buffers_rkShow (s : Body) {p : Nat} (hp : p < 6) : (s.rkShow p).get (F.RK_POOL_STAT_BUFFERS p) = s.rkCount p % 2 ^ 28 := by
  have below : (F.RK_POOL_STAT_BUFFERS p).addr < 0xe00c0 := by simp only [F.RK_POOL_STAT_BUFFERS]; omega
  rw [(rkShow_regsOutside_stat s hp).get_eq (.inl below), rkStatShown, putB, putB]
  iterate 4 rw [get_put_ne _ _ _ _ (by simp [Fld.apart, F.RK_POOL_STAT_BUFFERS, F.RK_POOL_STAT_FREE, F.RK_POOL_STAT_CHAIN_BROKEN,
    F.RK_POOL_STAT_LOW, F.RK_POOL_STAT_QUARANTINED])]
  exact get_put_same _ _ _ (by decide : 0 + 28 ≤ 64)

theorem forEach_put_eq {α : Type} (s : Body) (l : List α) (f : α → Fld) (v : Body → α → Nat) :
    (s.forEach l fun t x => t.put (f x) (v t x)) = { s with regs := (s.forEach l fun t x => t.put (f x) (v t x)).regs } := by
  induction l generalizing s with
  | nil => rfl
  | cons x l ih => exact ih (s.put (f x) (v s x))

/-- Showing a pool writes registers, posts events, and says in the pool itself only whether FREE is low (R303, R312). -/
theorem rkShow_eq (s : Body) (p : Nat) :
    ∃ m e low, s.rkShow p
      = { s with regs := m, evs := e, rk := { s.rk with pools := mput {} s.rk.pools p { s.pool p with low := low } } } := by
  unfold rkShow
  dsimp only
  rw [forEach_put_eq _ (List.range 16) (F.RK_MIN_HELD · p) (·.rkHeld · p)]
  split <;> exact ⟨_, _, _, rfl⟩

@[simp] theorem sp_rkShow (s : Body) (p : Nat) : (s.rkShow p).sp = s.sp := by
  obtain ⟨m, e, low, h⟩ := rkShow_eq s p
  rw [h]

@[simp] theorem rkHeld_rkShow (s : Body) (p o q : Nat) : (s.rkShow p).rkHeld o q = s.rkHeld o q := by
  obtain ⟨m, e, low, h⟩ := rkShow_eq s p
  rw [h]
  rfl

@[simp] theorem cache_rkShow (s : Body) (p : Nat) : ((s.rkShow p).pool p).cache = (s.pool p).cache := by
  obtain ⟨m, e, low, h⟩ := rkShow_eq s p
  simp [h, pool]

theorem sp_uncached (b : Body) (p : Nat) (r : List Nat) : (b.uncached p r).sp = b.sp := sp_rkShow ..

theorem buffers_uncached (b : Body) {p : Nat} (r : List Nat) (hp : p < 6) :
    (b.uncached p r).get (F.RK_POOL_STAT_BUFFERS p) = b.rkCount p % 2 ^ 28 :=
  buffers_rkShow _ hp

@[simp] theorem cache_lent (t : Body) (p i owner : Nat) : ((t.lent p i owner).pool p).cache = (t.pool p).cache := cache_rkShow ..

@[simp] theorem rkHeld_lent (t : Body) (p i owner : Nat) : (t.lent p i owner).rkHeld owner p = t.rkHeld owner p + 1 := by
  rw [lent, rkHeld_rkShow, rkHeld, setHeld, mgetD_mput_same]

/-! ## The channel of a region offset -/

/-- Every channel of the set has the registers of a Stockpot channel (R35, R124). -/
def ChannelsNamed (b : Body) : Prop := ∀ c ∈ b.sp.set.getD [], c < 12

/-- The registers of the pools say nothing of a channel's mode and state. -/
theorem rkReach_eq_of_regsOutside {a b : Body} (h : RegsOutside 0xe0080 0xf0000 a b) (sp : b.sp = a.sp) (named : a.ChannelsNamed)
    (r : Nat) : b.rkReach r = a.rkReach r := by
  have chan : b.rkChan r = a.rkChan r := by simp only [rkChan, sp]
  unfold rkReach
  rw [chan]
  split
  next c e =>
    have hc : c < 12 := by
      simp only [rkChan] at e
      split at e
      · cases e
      · exact named c (List.mem_of_getElem? e)
    have unit : b.get (F.UNIT_STATE_STATE (U.sp c)) = a.get (F.UNIT_STATE_STATE (U.sp c)) :=
      h.get_eq (.inl (by simp only [F.UNIT_STATE_STATE, U.sp]; omega))
    have mode : b.get (F.SP_CH_STATUS_MODE c) = a.get (F.SP_CH_STATUS_MODE c) :=
      h.get_eq (.inl (by simp only [F.SP_CH_STATUS_MODE]; omega))
    simp only [isOn, Body.unit, spMode, unit, mode]
  next => rfl

/-- The pools lie where RK_POOL_CFG puts them. -/
theorem rkStateAt_eq_of_regsOutside {a b : Body} (h : RegsOutside 0xe0080 0xf0000 a b) {p : Nat} (hp : p < 6) (i : Nat) :
    b.rkStateAt p i = a.rkStateAt p i := by
  have mib (q : Nat) (hq : q ≤ p) : b.get (F.RK_POOL_CFG_MIB q) = a.get (F.RK_POOL_CFG_MIB q) :=
    h.get_eq (.inl (by simp only [F.RK_POOL_CFG_MIB]; omega))
  have base : b.rkBase p = a.rkBase p := by
    unfold rkBase
    rw [List.map_congr_left fun q hq => by rw [mib q (Nat.le_of_lt (List.mem_range.1 hq))]]
  simp only [rkStateAt, rkCount, base, mib p (Nat.le_refl p)]

/-! ## Whether the buffer is lent -/

/-- With the registers of every channel apart from those of the pools, the cached buffer is lent: it leaves the cache and its owner holds
one more (R296, R297, R301). -/
theorem Cached.rkAlloc_lends {b : Body} {p size owner i : Nat} {r : List Nat} (bad : Bool) (h : b.Cached p size owner i r)
    (named : b.ChannelsNamed) (reach : b.rkReach (b.rkStateAt p i) = true) :
    (b.rkAlloc size owner bad).2 = (rkHandle p i, 0) ∧ ((b.rkAlloc size owner bad).1.pool p).cache = r
      ∧ (b.rkAlloc size owner bad).1.rkHeld owner p = b.rkHeld owner p + 1 := by
  have outside : RegsOutside 0xe0080 0xf0000 b (b.uncached p r) :=
    .trans (.andRk (.of_eq rfl) _) (rkShow_regsOutside _ h.pool_lt)
  have held : (b.uncached p r).rkHeld owner p = b.rkHeld owner p := rkHeld_rkShow ..
  have cache : ((b.uncached p r).pool p).cache = r := (cache_rkShow ..).trans (by simp [pool])
  have still : (b.uncached p r).rkReach ((b.uncached p r).rkStateAt p i) = true := by
    rw [rkReach_eq_of_regsOutside outside (sp_uncached b p r) named, rkStateAt_eq_of_regsOutside outside h.pool_lt, reach]
  rw [h.rkAlloc_eq bad, if_pos still]
  exact ⟨rfl, (cache_lent ..).trans cache, by simp [held]⟩

/-! ## A channel set that takes the channel away -/

/-- The Ramekin unit ON, a buffer in the cache of pool 0, and a set of one channel, which takes accesses. -/
def poolOn (c : Nat) : Body :=
  { ({} : Body).put (F.UNIT_STATE_STATE U.ramekin) 2 |>.put (F.UNIT_STATE_STATE (U.sp c)) 2 with
    rk.pools := [(0, { cache := [0] })], sp.set := some [c] }

/-- On a Stockpot channel the buffer is lent. -/
theorem poolOn_zero_rkAlloc : ((poolOn 0).rkAlloc 1 0).2 = (rkHandle 0 0, 0) :=
  have cached : (poolOn 0).Cached 0 1 0 0 [] := by constructor <;> decide
  (cached.rkAlloc_lends false (by simp [ChannelsNamed, poolOn]) (by decide)).1

/-- A channel number whose UNIT_STATE would stand at RK_POOL_STAT of pool 0. -/
def strayChannel : Nat := 114190

/-- The state it would show is the low bits of that pool's number of buffers. -/
theorem get_unitState_strayChannel (b : Body) :
    b.get (F.UNIT_STATE_STATE (U.sp strayChannel)) = b.get (F.RK_POOL_STAT_BUFFERS 0) % 4 :=
  (Nat.mod_mod_of_dvd _ (by decide : 4 ∣ 2 ^ 28)).symm

/-- No rule refuses an allocation of one byte for owner 0. -/
theorem strayPool_cached : (poolOn strayChannel).Cached 0 1 0 0 [] := by
  constructor <;> decide

theorem strayPool_reach : (poolOn strayChannel).rkReach ((poolOn strayChannel).rkStateAt 0 0) = true := by decide

/-- Taking the buffer shows the pool, which has no buffers by RK_POOL_CFG, and the channel reads as OFF. -/
theorem strayPool_uncached_reach (r : Nat) : ((poolOn strayChannel).uncached 0 []).rkReach r = false := by
  have chan : ((poolOn strayChannel).uncached 0 []).rkChan r = some strayChannel := by
    rw [rkChan, sp_uncached]
    exact congrArg ([strayChannel][·]?) (Nat.mod_one (r / 4096))
  have noBuffers : (poolOn strayChannel).rkCount 0 = 0 := by
    simp [rkCount, (by decide : (poolOn strayChannel).get (F.RK_POOL_CFG_MIB 0) = 0)]
  have off : ((poolOn strayChannel).uncached 0 []).isOn (U.sp strayChannel) = false := by
    simp [isOn, unit, get_unitState_strayChannel, buffers_uncached, noBuffers]
  simp [rkReach, chan, off]

/-- The allocation answers NULL with STATUS 6, though the channel took accesses before. -/
theorem strayPool_rkAlloc : ((poolOn strayChannel).rkAlloc 1 0).2 = (rkNull, 6) := by
  rw [strayPool_cached.rkAlloc_eq, strayPool_uncached_reach]
  rfl

/-- Refutes O36: its last clause holds the allocation to be served for every channel set, one that names a number without registers of its
own included. With `strayChannel` in the set, whose UNIT_STATE is RK_POOL_STAT of the pool, it answers STATUS 6. -/
theorem not_ramekinCommands : ¬ Obligations.RamekinCommands := by
  unfold Obligations.RamekinCommands
  rintro ⟨_, answers⟩
  obtain ⟨_, _, _, rules⟩ := answers (poolOn strayChannel) 1 0 false
  obtain ⟨pool_lt, on, pos, fits, smallest, owner_lt, area, free, reserve, cache⟩ := strayPool_cached
  obtain ⟨_, _, _, _, lends⟩ := rules 0 pool_lt on pos fits smallest owner_lt
  obtain ⟨lent, _, _⟩ := lends 0 [] area free reserve cache strayPool_reach
  have status : (6 : Nat) = 0 := congrArg Prod.snd (strayPool_rkAlloc.symm.trans lent)
  exact absurd status (by decide)

end Sys2Proof.Machine.Body

/-! The step and the history of stamped events (R24 to R27): the shapes an answer can have, and that each of them leaves the queue alone and
adds stamps above the last one issued. -/

namespace Sys2Proof.Machine

open Sys2Proof.Stmt

/-- How a command answers: the Pass takes what it makes of the units, after the other units have answered or at once; a command of the
Pass or of the power domains may instead leave the state, or answer one that follows it. -/
inductive Answers (s : State) : Host.Outcome State Fault Refusal → Prop where
  | units (b : Body) : Answers s (.next (s.settled b))
  | alone (b : Body) : Answers s (.next (s.taken b))
  | follows {t : State} (h : s.Follows t) : Answers s (.next t)

/-- Every answer is a next state that follows the one before. -/
theorem Answers.next {s : State} {o : Host.Outcome State Fault Refusal} (h : Answers s o) : ∃ t, o = .next t ∧ s.Follows t := by
  cases h with
  | units b => exact ⟨_, rfl, State.settled_follows s _⟩
  | alone b => exact ⟨_, rfl, State.taken_follows s _⟩
  | follows h => exact ⟨_, rfl, h⟩

theorem Answers.stays (s : State) : Answers s (.next s) := .follows (.of_same rfl rfl rfl)

/-- The Pass takes what a change of its buffers, its mark or the units leaves. -/
theorem Answers.finishes {s t : State} (h : s.Follows t) : Answers s (.next t.finish) := .follows (h.trans (State.finish_follows t))

theorem execPassOverflow_answers (src : Nat) (s : State) : Answers s (execPassOverflow src s) := by
  unfold execPassOverflow
  dsimp only
  split
  · exact .stays s
  · exact .finishes (.of_same rfl rfl rfl)

theorem execPassMarkStore_answers (s : State) : Answers s (execPassMarkStore s) := by
  unfold execPassMarkStore
  split
  · exact .stays s
  · exact .finishes (.of_same rfl rfl rfl)

theorem execPassMarkStall_answers (s : State) : Answers s (execPassMarkStall s) := by
  unfold execPassMarkStall
  split
  · exact .stays s
  · exact .finishes (.of_same rfl rfl rfl)

theorem execPassMarkStoreDone_answers (s : State) : Answers s (execPassMarkStoreDone s) := by
  unfold execPassMarkStoreDone
  split
  · exact .stays s
  · split
    · exact .stays s
    · exact .finishes (.of_same rfl rfl rfl)

theorem execPowerOnReset_answers (bad corrected : List Nat) (s : State) : Answers s (execPowerOnReset bad corrected s) := by
  unfold execPowerOnReset
  split
  · exact .stays s
  · exact .finishes (State.reset__follows s true 0 bad corrected)

theorem exec_answers (c : Instr) (s : State) : Answers s (exec c s) := by
  cases c
  case passOverflow src => exact execPassOverflow_answers src s
  case passMarkStore => exact execPassMarkStore_answers s
  case passMarkStall => exact execPassMarkStall_answers s
  case passMarkStoreDone => exact execPassMarkStoreDone_answers s
  case powerOnReset bad corrected => exact execPowerOnReset_answers bad corrected s
  case alwaysOnLoss => exact .follows (State.powerLost_follows s)
  case cfProgram | cfProgramDone | cfErase | cfEraseDone | cfHash | cfHashDone | flashRead | eraseResume | eraseStarved | coreRunSet |
    coreRunClear | coreReset | tcmClear | tcmClearDone | coreNmi | evqPop | evqFlush | mtimecmpMatch | keeperCoreHalt | keeperTakeover |
    debugHalt | debugResume | rackBurstStart | operatingSecond | rackSnapshot | rackFwCmd | spikeFlushRequest | spikeFreeze |
    spikeUnfreeze | spikeFreezeMax | spikeStep | spikeCursorWrite | spikeClearChallenge | spikeClearSubmit | spikeClearDone |
    rackBurstDone | keyInstall | keyDiscardNext | keyActivate | fuseProgram | fuseRevoke | untrustClr | untrustSnapshot |
    keySlotSnapshot | fwMeasureExtend | dbgNewChallenge | dbgSubmit | spdmGetVersion | spdmGetCapabilities | spdmNegotiateAlgorithms |
    spdmGetDigests | spdmGetCertificate | spdmKeyExchange | spdmFinish | spdmEndSession | trefLost | trefReturn | ptpMessage | ptpLost |
    tsyncInEdge | tsyncFault | epochPulse | discoveryBeaconRx | peerLost | phaseMeasurement | syncLocked | referenceLost |
    holdoverExceeded | referenceRegained | timeFreezeSet | timeFreezeClear | slotCheckA | slotCheckB | slotCheckDone | svnCommit |
    recoveryImageWrite | purgeDone | placeModeWrite | promoteFilterDecay | disturbDecay | mapEntryWriteback | mapFlush |
    untrustRuleClear | qCfgWrite | qPush | qGapMarker | qPop | qFlush | qWinSnapshot | rkAlloc | rkFree | rkCacheRefill | rkRebuild |
    rkRebuildDone | rkPeek | jobExport | jobImport =>
    exact .alone _
  all_goals exact .units _

/-- Settles O1. -/
theorem stepRunsFront : Obligations.StepRunsFront := by
  unfold Obligations.StepRunsFront
  intro c rest s
  rfl

/-- Settles O2: every shape an answer can have follows the state before. -/
theorem everyCommandCompletes : Obligations.EveryCommandCompletes := by
  unfold Obligations.EveryCommandCompletes
  intro c s
  obtain ⟨t, answer, follows⟩ := (exec_answers c s).next
  exact ⟨t, answer, follows.pending, follows.last, follows.log⟩

/-- Settles O3: a step follows the state before, and what follows an ordered history is ordered. -/
theorem passHistoryKept : Obligations.PassHistoryKept := by
  unfold Obligations.PassHistoryKept
  intro s t ordered stepped
  unfold step at stepped
  split at stepped
  case h_1 =>
    cases stepped
    exact ⟨ordered, Nat.le_refl _⟩
  case h_2 c rest _ =>
    obtain ⟨t', answer, follows⟩ := (exec_answers c { s with pending := rest }).next
    cases answer.symm.trans stepped
    exact ⟨follows.ordered ordered, follows.last⟩

/-- Settles O4: nothing has been stamped. -/
theorem passHistoryAtReset : Obligations.PassHistoryAtReset := by
  unfold Obligations.PassHistoryAtReset PassHistory
  simp [State.reset]

end Sys2Proof.Machine

/-! The memories held as words (R5, R294, R363, R377, R386): what each reads after a write, byte by byte or word by word. -/

namespace Sys2Proof.Machine

/-- Leaving out keys of a sparse map leaves the others as they were. -/
theorem mget_filter_key {α : Type} (m : SMap α) (q : Nat → Bool) (k : Nat) :
    mget (m.filter fun p => q p.1) k = if q k then mget m k else none := by
  induction m with
  | nil => simp [mget]
  | cons p r ih =>
    obtain ⟨a, x⟩ := p
    by_cases keep : q a <;> by_cases here : k = a <;> simp_all [mget]

theorem range'_succ (a n : Nat) : range' a (n + 1) = a :: range' (a + 1) n := by
  simp [range', List.range_succ_eq_map, Nat.add_comm, Nat.add_left_comm]

namespace Body

/-! ## Bytes of a word -/

/-- Byte `i` of a word as a field. -/
def byteFld (i : Nat) : Fld := ⟨0, 8 * (i % 8), 8⟩

theorem byteFld_fits (i : Nat) : (byteFld i).lo + (byteFld i).w ≤ 64 := by
  have := Nat.mod_lt i (by decide : 0 < 8)
  simp only [byteFld]
  omega

theorem byteFld_apart {i k : Nat} (word : k / 8 = i / 8) (ne : k ≠ i) :
    (byteFld k).lo + (byteFld k).w ≤ (byteFld i).lo ∨ (byteFld i).lo + (byteFld i).w ≤ (byteFld k).lo := by
  simp only [byteFld]
  omega

theorem ofWord_byteFld (i : Nat) (x : Word) : (byteFld i).ofWord x = x.toNat / 256 ^ (i % 8) % 256 := by
  simp [byteFld, Fld.ofWord, Nat.pow_mul]

/-! ## The memories of the service cores -/

theorem memByte_eq (m : SMap Word) (a : Nat) : memByte m a = (byteFld a).ofWord (mgetD m (a / 8) 0) := rfl

theorem memByte_memSet_same (m : SMap Word) (a v : Nat) : memByte (memSet m a v) a = v % 256 := by
  rw [memByte_eq, memSet, mgetD_mput_same]
  exact Fld.ofWord_insert _ _ _ (byteFld_fits a)

theorem memByte_memSet_ne (m : SMap Word) (a v : Nat) {x : Nat} (ne : x ≠ a) : memByte (memSet m a v) x = memByte m x := by
  rw [memByte_eq, memByte_eq, memSet]
  by_cases word : x / 8 = a / 8
  · rw [word, mgetD_mput_same]
    exact Fld.ofWord_insert_ne _ _ _ _ (byteFld_fits x) (byteFld_apart word ne)
  · rw [mgetD_mput_ne _ _ _ _ _ _ word]

theorem memStore_succ (m : SMap Word) (a n : Nat) (v : Word) :
    memStore m a (n + 1) v = memSet (memStore m a n v) (a + n) (v.toNat / 256 ^ n) := by
  simp [memStore, List.range_succ]

/-- A store of several bytes writes those bytes alone. -/
theorem memByte_memStore (m : SMap Word) (a n : Nat) (v : Word) (x : Nat) :
    memByte (memStore m a n v) x = if a ≤ x ∧ x < a + n then v.toNat / 256 ^ (x - a) % 256 else memByte m x := by
  induction n with
  | zero =>
    rw [if_neg (by omega)]
    rfl
  | succ n ih =>
    rw [memStore_succ]
    by_cases last : x = a + n
    · rw [last, memByte_memSet_same, if_pos (by omega), Nat.add_sub_cancel_left]
    · rw [memByte_memSet_ne _ _ _ last, ih]
      exact ite_congr (propext (by omega)) (fun _ => rfl) fun _ => rfl

/-! ## The code flash -/

theorem flashWord_flashAnd (b : Body) (n : Nat) (x : Word) (k : Nat) :
    (b.flashAnd n x).flashWord k = if k = n then b.flashWord k &&& x else b.flashWord k := by
  simp only [flashWord, flashAnd]
  split
  case isTrue same =>
    rw [same, mgetD_mput_same]
    ext i
    simp
  case isFalse ne => rw [mgetD_mput_ne _ _ _ _ _ _ ne]

theorem flashWord_flashErase (b : Body) (n len k : Nat) :
    (b.flashErase n len).flashWord k = if n ≤ k ∧ k < n + len then BitVec.allOnes 64 else b.flashWord k := by
  simp only [flashWord, flashErase, mgetD]
  rw [mget_filter_key b.cf.words (fun a => decide (a < n) || decide (n + len ≤ a)) k]
  by_cases erased : n ≤ k ∧ k < n + len
  · rw [if_pos erased, if_neg (by simp; omega)]
    rfl
  · rw [if_neg erased, if_pos (by simp; omega)]

/-! ## The Rack -/

theorem mgetD_storeList (l : List Word) (m : SMap Word) (g k : Nat) :
    mgetD ((l.zip (range' g l.length)).foldl (fun m p => mput 0 m p.2 p.1) m) k 0
      = if g ≤ k ∧ k < g + l.length then l.getD (k - g) 0 else mgetD m k 0 := by
  induction l generalizing m g with
  | nil =>
    rw [if_neg (by simp)]
    rfl
  | cons x l ih =>
    rw [List.length_cons, range'_succ, List.zip_cons_cons, List.foldl_cons, ih]
    by_cases first : k = g
    · subst first
      rw [if_neg (by omega), if_pos (by omega), mgetD_mput_same, Nat.sub_self]
      rfl
    · rw [mgetD_mput_ne _ _ _ _ _ _ first]
      by_cases later : g + 1 ≤ k ∧ k < g + 1 + l.length
      · rw [if_pos later, if_pos (by omega), (by omega : k - g = (k - (g + 1)) + 1), List.getD_cons_succ]
      · rw [if_neg later, if_neg (by omega)]

theorem group_writeGroups (b : Body) (g k : Nat) (l : List Word) :
    (b.writeGroups g l).group k = if g ≤ k ∧ k < g + l.length then l.getD (k - g) 0 else b.group k :=
  mgetD_storeList l b.rack.cells g k

/-! ## The Ramekin region -/

theorem rkFilled_setRkWord (b : Body) (n : Nat) (w : Word) (r : Nat) : (b.setRkWord n w).rkFilled r = b.rkFilled r := rfl
theorem rkPattern_setRkWord (b : Body) (n : Nat) (w : Word) (r : Nat) : (b.setRkWord n w).rkPattern r = b.rkPattern r := rfl

theorem rkWord_setRkWord_same (b : Body) {n : Nat} (w : Word) (filled : b.rkFilled (8 * n) = true) : (b.setRkWord n w).rkWord n = w := by
  rw [rkWord, rkFilled_setRkWord, if_pos filled, rkPattern_setRkWord]
  exact mgetD_mput_same ..

/-- An unfilled unit of the region reads as zero whatever is written to it (R145). -/
theorem rkWord_of_unfilled {b : Body} {n : Nat} (unfilled : ¬ b.rkFilled (8 * n) = true) : b.rkWord n = 0 := if_neg unfilled

theorem rkWord_setRkWord_ne (b : Body) {n k : Nat} (w : Word) (ne : k ≠ n) : (b.setRkWord n w).rkWord k = b.rkWord k := by
  rw [rkWord, rkWord, rkFilled_setRkWord, rkPattern_setRkWord]
  exact ite_congr rfl (fun _ => mgetD_mput_ne _ _ _ _ _ _ ne) fun _ => rfl

theorem rkByte_eq (b : Body) (r : Nat) : b.rkByte r = (byteFld r).ofWord (b.rkWord (r / 8)) := (ofWord_byteFld r _).symm

theorem rkByte_setRkByte_same (b : Body) {r : Nat} (v : Nat) (filled : b.rkFilled (8 * (r / 8)) = true) :
    (b.setRkByte r v).rkByte r = v % 256 := by
  rw [rkByte_eq, setRkByte, rkWord_setRkWord_same b _ filled]
  exact Fld.ofWord_insert _ _ _ (byteFld_fits r)

theorem rkByte_setRkByte_ne (b : Body) {r k : Nat} (v : Nat) (ne : k ≠ r) : (b.setRkByte r v).rkByte k = b.rkByte k := by
  rw [rkByte_eq, rkByte_eq, setRkByte]
  by_cases word : k / 8 = r / 8
  · rw [word]
    by_cases filled : b.rkFilled (8 * (r / 8)) = true
    · rw [rkWord_setRkWord_same b _ filled]
      exact Fld.ofWord_insert_ne _ _ _ _ (byteFld_fits k) (byteFld_apart word ne)
    · rw [rkWord_of_unfilled filled, rkWord_of_unfilled (b := b.setRkWord _ _) filled]
  · rw [rkWord_setRkWord_ne b _ word]

/-- Settles O7: each memory by its own laws of reading after a write and of the canonical form. -/
theorem memoryOperations : Obligations.MemoryOperations := by
  unfold Obligations.MemoryOperations
  refine ⟨fun b f g v => ⟨get_put_same b f v, get_put_ne b f g v⟩, ?registers, ?cores, ?flash, ?rack, ?region⟩
  case registers => exact fun b a x => ⟨word_setWord b a x, fun k ne => word_setWord_ne b a k x ne, setWord_wf b a x⟩
  case cores => exact fun m a n v x => ⟨memByte_memStore m a n v x, memStore_wf m a n v⟩
  case flash =>
    exact fun b n len k x => ⟨flashWord_flashAnd b n x k, flashWord_flashErase b n len k,
      fun w => ⟨flashAnd_wf b n x w, flashErase_wf b n len w⟩⟩
  case rack => exact fun b g k l => ⟨group_writeGroups b g k l, writeGroups_wf b g l⟩
  case region => exact fun b r v k => ⟨rkByte_setRkByte_same b v, rkByte_setRkByte_ne b v, setRkByte_wf b r v⟩

end Body
end Sys2Proof.Machine

/-! How a register write is judged (R5, R7, R11, R12): what a field of each access type takes from an actor that may write it, and what one
that may not leaves. -/

namespace Sys2Proof.Machine.Body

open Sys2Proof.Stmt

/-- The actor may write the field: its Writers column names it, nothing blocks it, its port exists (R11, R12, R266). -/
def mayField (b : Body) (r : RegDef) (a : Nat) (actor : Actor) (value : Word) (blk : Bool) (d : FieldDef) : Bool :=
  b.namesActor r a d actor value && !blk && !b.portAbsent ⟨a, d.lo, d.w⟩

/-- The LOCK bit of the register is set (R7). -/
def lockedReg (b : Body) (r : RegDef) : Bool :=
  match r.lock with
  | some (la, lb) => (b.word la).getLsbD lb
  | none => false

theorem lockedReg_of_lock (b : Body) {r : RegDef} {la lb : Nat} (h : r.lock = some (la, lb)) : b.lockedReg r = (b.word la).getLsbD lb := by
  simp only [lockedReg, h]

theorem ofWord_lt (f : Fld) (x : Word) : f.ofWord x < 2 ^ f.w := Nat.mod_lt _ (Nat.two_pow_pos _)

theorem ofWord_insert_of_lt {f : Fld} (x : Word) {v : Nat} (fits : f.lo + f.w ≤ 64) (h : v < 2 ^ f.w) : f.ofWord (f.insert x v) = v := by
  rw [Fld.ofWord_insert f x v fits, Nat.mod_eq_of_lt h]

section
variable (b : Body) (r : RegDef) (a : Nat) (actor : Actor) (value : Word) (blk : Bool) (j : Judged) (d : FieldDef)

/-! ## One field, by its access type -/

theorem judgeField_ro (typ : d.typ = .ro) : b.judgeField r a actor value blk j d = j := by
  simp only [judgeField, typ]

theorem judgeField_rw (typ : d.typ = .rw) : let f : Fld := ⟨a, d.lo, d.w⟩
    b.judgeField r a actor value blk j d = if b.mayField r a actor value blk d then { j with word := f.insert j.word (f.ofWord value) }
      else { j with viol := j.viol || f.ofWord value != f.ofWord j.word } := by
  unfold judgeField
  rw [typ]
  rfl

theorem judgeField_rwl (typ : d.typ = .rwl) : let f : Fld := ⟨a, d.lo, d.w⟩
    b.judgeField r a actor value blk j d
      = if b.mayField r a actor value blk d && !b.lockedReg r then { j with word := f.insert j.word (f.ofWord value) }
        else { j with viol := j.viol || f.ofWord value != f.ofWord j.word } := by
  unfold judgeField
  rw [typ]
  rfl

theorem judgeField_w1c (typ : d.typ = .w1c) : let f : Fld := ⟨a, d.lo, d.w⟩
    b.judgeField r a actor value blk j d
      = if b.mayField r a actor value blk d then { j with word := f.insert j.word (f.ofWord j.word &&& (2 ^ d.w - 1 - f.ofWord value)) }
        else { j with viol := j.viol || (f.ofWord j.word &&& f.ofWord value) != 0 } := by
  unfold judgeField
  rw [typ]
  rfl

theorem judgeField_w1s (typ : d.typ = .w1s) : let f : Fld := ⟨a, d.lo, d.w⟩
    b.judgeField r a actor value blk j d
      = if b.mayField r a actor value blk d then { j with word := f.insert j.word (f.ofWord j.word ||| f.ofWord value) }
        else { j with viol := j.viol || (f.ofWord j.word ||| f.ofWord value) != f.ofWord j.word } := by
  unfold judgeField
  rw [typ]
  rfl

theorem judgeField_wo (typ : d.typ = .wo) : let f : Fld := ⟨a, d.lo, d.w⟩
    b.judgeField r a actor value blk j d
      = if b.mayField r a actor value blk d then { j with wo := f.insert j.wo (f.ofWord value), taken := true }
        else { j with viol := j.viol || f.ofWord value != 0 } := by
  unfold judgeField
  rw [typ]
  rfl

/-! ## An actor that may not write the field -/

variable {b r a actor value blk d}

theorem judgeField_keeps (may : b.mayField r a actor value blk d = false) :
    (b.judgeField r a actor value blk j d).word = j.word ∧ (b.judgeField r a actor value blk j d).wo = j.wo
      ∧ (b.judgeField r a actor value blk j d).taken = j.taken := by
  cases typ : d.typ
  case ro => simp [judgeField_ro (typ := typ)]
  case rw => simp [judgeField_rw (typ := typ), may]
  case rwl => simp [judgeField_rwl (typ := typ), may]
  case w1c => simp [judgeField_w1c (typ := typ), may]
  case w1s => simp [judgeField_w1s (typ := typ), may]
  case wo => simp [judgeField_wo (typ := typ), may]

end

/-- Settles O9: a field that the actor may write takes the value as its access type says, one whose LOCK is set takes nothing. -/
theorem fieldTypes : Obligations.FieldTypes := by
  unfold Obligations.FieldTypes
  intro b r a actor value j d fits names present f t
  have may : b.mayField r a actor value false d = true := by simp [mayField, names, present]
  have value_lt := ofWord_lt f value
  have word_lt := ofWord_lt f j.word
  refine ⟨fun typ => judgeField_ro b r a actor value false j d typ, fun typ => ?rw, fun typ => ?w1c, fun typ => ?w1s, fun typ => ?wo,
    fun typ la lb lock => ⟨fun free => ?unlocked, fun held => ?locked⟩⟩
  case rw =>
    simp only [t, judgeField_rw (typ := typ), may, if_true, and_true]
    exact ofWord_insert_of_lt _ fits value_lt
  case w1c =>
    simp only [t, judgeField_w1c (typ := typ), may, if_true, and_true]
    exact ofWord_insert_of_lt _ fits (Nat.lt_of_le_of_lt Nat.and_le_left word_lt)
  case w1s =>
    simp only [t, judgeField_w1s (typ := typ), may, if_true, and_true]
    exact ofWord_insert_of_lt _ fits (Nat.or_lt_two_pow word_lt value_lt)
  case wo =>
    simp only [t, judgeField_wo (typ := typ), may, if_true, true_and, and_true]
    exact ofWord_insert_of_lt _ fits value_lt
  case unlocked =>
    simp only [t, judgeField_rwl (typ := typ), may, lockedReg_of_lock b lock, free, Bool.not_false, Bool.and_true, if_true, and_true]
    exact ofWord_insert_of_lt _ fits value_lt
  case locked => simp [t, f, judgeField_rwl (typ := typ), lockedReg_of_lock b lock, held]

/-- Settles O10: an actor that may not write the field only leaves a violation where the write would have changed it. -/
theorem unnamedActorChangesNothing : Obligations.UnnamedActorChangesNothing := by
  unfold Obligations.UnnamedActorChangesNothing
  intro b r a actor value blk j d barred f t
  have may : b.mayField r a actor value blk d = false := by
    rcases barred with names | blocked
    · simp [mayField, names]
    · simp [mayField, blocked]
  obtain ⟨word, wo, taken⟩ := judgeField_keeps j may
  refine ⟨word, wo, taken, fun typ => ?ro, fun typ => ?rw, fun typ => ?w1c, fun typ => ?w1s, fun typ => ?wo⟩
  case ro => simp [t, judgeField_ro (typ := typ)]
  case rw =>
    rcases typ with typ | typ
    · simp [t, f, judgeField_rw (typ := typ), may]
    · simp [t, f, judgeField_rwl (typ := typ), may]
  case w1c => simp [t, f, judgeField_w1c (typ := typ), may]
  case w1s => simp [t, f, judgeField_w1s (typ := typ), may]
  case wo => simp [t, f, judgeField_wo (typ := typ), may]

/-! ## Writes that reach the register block -/

/-- A full-width aligned write by an actor that has no window is a write of the register at its address (R5, R262). -/
theorem writeAny_of_reaches (b : Body) {actor : Actor} {a : Nat} (v : Word) (noWindow : ∀ p k, actor ≠ .host p k) (aligned : a % 8 = 0) :
    b.writeAny actor a 8 v = b.writeReg actor a v := by
  cases actor with
  | host p k => exact absurd rfl (noWindow p k)
  | firmware | bmc | debugPort => simp [writeAny, aligned]

theorem writeReg_of_findReg (b : Body) (actor : Actor) {a : Nat} (v : Word) {r : RegDef} (found : findReg a = some r) :
    b.writeReg actor a v
      = (b.judge actor a v).1.written { actor := actor, addr := a, value := v, wo := (b.judge actor a v).2, old := b } := by
  simp [writeReg, found]

/-- Settles O11. -/
theorem registerWrites : Obligations.RegisterWrites := by
  unfold Obligations.RegisterWrites
  refine ⟨fun b actor a v g other => ⟨judge_get_ne b actor a v g other, judge_todo b actor a v, judge_out b actor a v⟩,
    fun s actor a v r noWindow aligned found => ⟨_, rfl, ?_⟩⟩
  exact (writeAny_of_reaches s.body v noWindow aligned).trans (writeReg_of_findReg s.body actor v found)

end Sys2Proof.Machine.Body

/-! Register writes, counters and events in one spelling: every operation on a field is a write of the register file, which a read then meets
in the normal form of `rread` and `rwrite`. -/

namespace Sys2Proof.Machine.Body

@[simp] theorem putB_eq (s : Body) (f : Fld) (t : Bool) : s.putB f t = s.put f (b2n t) := rfl
@[simp] theorem inc_eq (s : Body) (f : Fld) : s.inc f = s.put f (s.get f + 1) := rfl
@[simp] theorem addWrap_eq (s : Body) (f : Fld) (n : Nat) : s.addWrap f n = s.put f (s.get f + n) := rfl
@[simp] theorem incSat_eq (s : Body) (f : Fld) : s.incSat f = s.put f (min (s.get f + 1) (2 ^ f.w - 1)) := rfl
@[simp] theorem addSat_eq (s : Body) (f : Fld) (n : Nat) : s.addSat f n = s.put f (min (s.get f + n) (2 ^ f.w - 1)) := rfl
@[simp] theorem postN_eq (s : Body) (u : Nat) (e : EvName) (n : Nat) : s.postN u e n = s.post u (.named e) n := rfl
@[simp] theorem forEach_nil {α : Type} (s : Body) (f : Body → α → Body) : s.forEach [] f = s := rfl
@[simp] theorem forEach_cons {α : Type} (s : Body) (x : α) (l : List α) (f : Body → α → Body) :
    s.forEach (x :: l) f = (f s x).forEach l f := rfl
@[simp] theorem when_true (s : Body) (f : Body → Body) : s.when true f = f s := rfl
@[simp] theorem when_false (s : Body) (f : Body → Body) : s.when false f = s := rfl

@[simp] theorem regs_put (s : Body) (f : Fld) (v : Nat) : (s.put f v).regs = rwrite s.regs f v := rfl
@[simp] theorem regs_raise (s : Body) (u : Nat) (f : Fld) (n : Nat) : (s.raise u f n).regs = rwrite s.regs f 1 := rfl
@[simp] theorem regs_later (s : Body) (t : Todo) : (s.later t).regs = s.regs := rfl
@[simp] theorem todo_later (s : Body) (t : Todo) : (s.later t).todo = s.todo ++ [t] := rfl
@[simp] theorem evs_later (s : Body) (t : Todo) : (s.later t).evs = s.evs := rfl

theorem rread_mod (m : SMap Word) (f : Fld) : rread m f % 2 ^ f.w = rread m f := Nat.mod_eq_of_lt (rread_lt m f)

end Sys2Proof.Machine.Body

/-! The service frame (R16 to R23): what a tick counts, when a change of the admission cut falls due, which level is then in force, and the
plan that the seal phase freezes. -/

namespace Sys2Proof.Machine.Body

open Sys2Proof.Stmt

/-! ## Overruns (R21, R22) -/

theorem overrunCount_true (b : Body) :
    let c := b.overrunCount true
    c.get F.FRAME_OVR_COUNT_COUNT = (b.get F.FRAME_OVR_COUNT_COUNT + 1) % 2 ^ 64 ∧ c.frame.ovrRun = b.frame.ovrRun + 1
      ∧ c.frame.cleanRun = 0 := by
  simp (disch := decide) [overrunCount, get_eq, rread_rwrite_same, rread_rwrite_ne]
  rfl

theorem overrunCount_false (b : Body) :
    let c := b.overrunCount false
    c.get F.FRAME_OVR_COUNT_COUNT = b.get F.FRAME_OVR_COUNT_COUNT ∧ c.frame.ovrRun = 0 ∧ c.frame.cleanRun = b.frame.cleanRun + 1 := by
  simp (disch := decide) [overrunCount, get_eq, rread_rwrite_ne]

theorem overrunCount_true_due {b : Body} (low : b.get F.FRAME_OVR_STATUS_AUTO_LEVEL < 4) :
    (b.frame.ovrRun + 1) % 8 = 0 ↔ (b.overrunCount true).frame.cutDue = 1 := by
  simp [overrunCount, low]

theorem overrunCount_false_due {b : Body} (raised : 0 < b.get F.FRAME_OVR_STATUS_AUTO_LEVEL) :
    (b.frame.cleanRun + 1) % 64 = 0 ↔ (b.overrunCount false).frame.cutDue = 2 := by
  simp [overrunCount, raised]

/-! ## The admission cut (R22, R23) -/

/-- The level that the forced level, the disabled automatic cut or the computed level puts in force (R23). -/
def cutLevel (b : Body) : Nat :=
  if b.flag F.FRAME_OVR_CTL_FORCE_EN then min 4 (b.get F.FRAME_OVR_CTL_FORCE_LEVEL)
  else if b.flag F.FRAME_OVR_CTL_AUTO_CUT_DIS then 0 else b.get F.FRAME_OVR_STATUS_AUTO_LEVEL

theorem cutLevel_lt (b : Body) : b.cutLevel < 8 := by
  have auto : b.get F.FRAME_OVR_STATUS_AUTO_LEVEL < 8 := ofWord_lt _ _
  unfold cutLevel
  split
  · omega
  · split <;> omega

theorem cutApply_eq (b : Body) :
    b.cutApply = if b.cutLevel = b.get F.FRAME_OVR_STATUS_LEVEL then b
      else (b.put F.FRAME_OVR_STATUS_LEVEL b.cutLevel).postN U.persist .cutChange b.cutLevel := rfl

theorem level_cutApply (b : Body) : b.cutApply.get F.FRAME_OVR_STATUS_LEVEL = b.cutLevel := by
  rw [cutApply_eq]
  split
  case isTrue same => exact same.symm
  case isFalse =>
    show (b.put F.FRAME_OVR_STATUS_LEVEL b.cutLevel).get F.FRAME_OVR_STATUS_LEVEL = b.cutLevel
    rw [get_put_same _ _ _ (by decide)]
    exact Nat.mod_eq_of_lt b.cutLevel_lt

theorem autoLevel_cutApply (b : Body) : b.cutApply.get F.FRAME_OVR_STATUS_AUTO_LEVEL = b.get F.FRAME_OVR_STATUS_AUTO_LEVEL := by
  rw [cutApply_eq]
  split
  · rfl
  · exact get_put_ne b F.FRAME_OVR_STATUS_LEVEL _ _ (by decide)

theorem cutChange_due_up {b : Body} (due : b.frame.cutDue = 1) :
    b.cutChange.get F.FRAME_OVR_STATUS_AUTO_LEVEL = min 4 (b.get F.FRAME_OVR_STATUS_AUTO_LEVEL + 1) := by
  have fits : min 4 (b.get F.FRAME_OVR_STATUS_AUTO_LEVEL + 1) < 2 ^ F.FRAME_OVR_STATUS_AUTO_LEVEL.w :=
    Nat.lt_of_le_of_lt (Nat.min_le_left ..) (by decide)
  simp only [cutChange, due, if_true, get_put_same _ F.FRAME_OVR_STATUS_AUTO_LEVEL _ (by decide)]
  exact Nat.mod_eq_of_lt fits

theorem cutChange_due_down {b : Body} (due : b.frame.cutDue = 2) :
    b.cutChange.get F.FRAME_OVR_STATUS_AUTO_LEVEL = b.get F.FRAME_OVR_STATUS_AUTO_LEVEL - 1 := by
  have fits : b.get F.FRAME_OVR_STATUS_AUTO_LEVEL - 1 < 2 ^ F.FRAME_OVR_STATUS_AUTO_LEVEL.w :=
    Nat.lt_of_le_of_lt (Nat.sub_le ..) (ofWord_lt _ _)
  simp only [cutChange, due, (by decide : ¬ (2 : Nat) = 1), if_true, if_false, get_put_same _ F.FRAME_OVR_STATUS_AUTO_LEVEL _ (by decide)]
  exact Nat.mod_eq_of_lt fits

theorem cutChange_not_due {b : Body} (due : b.frame.cutDue = 0) :
    b.cutChange.get F.FRAME_OVR_STATUS_AUTO_LEVEL = b.get F.FRAME_OVR_STATUS_AUTO_LEVEL := by
  simp [cutChange, due, get_eq]

/-! ## The frame's own commands -/

theorem frameTick_of_framesRun {b : Body} (o : TickObs) (run : b.framesRun = true) :
    b.frameTick o = ((b.tickTime o).tickGrant b.frameNo).tickWork o := by
  simp [frameTick, run]

theorem planFreeze_frozen {b : Body} (run : b.framesRun = true) (open_ : b.frame.sealing = false) :
    b.planFreeze.frame.next.frozen = true ∧ b.planFreeze.th.planLevel = b.planFreeze.get F.TH_STATUS_LEVEL := by
  simp [planFreeze, run, open_, get_eq]

/-- Settles O14. -/
theorem frameCommands : Obligations.FrameCommands := by
  unfold Obligations.FrameCommands
  refine ⟨⟨fun b => ⟨overrunCount_true b, overrunCount_false b, overrunCount_true_due, overrunCount_false_due⟩,
    fun b => ⟨cutChange_due_up, cutChange_due_down, cutChange_not_due, fun forced => ?forced, fun free disabled => ?disabled,
      fun free enabled => ?computed, autoLevel_cutApply b⟩⟩,
    fun s o run => ⟨_, rfl, frameTick_of_framesRun o run⟩, fun s run open_ => ⟨_, rfl, planFreeze_frozen run open_⟩,
    fun s due => ⟨_, rfl, if_neg due⟩⟩
  case forced => rw [level_cutApply, cutLevel, if_pos forced]
  case disabled => simp [level_cutApply, cutLevel, free, disabled]
  case computed => simp [level_cutApply, cutLevel, free, enabled]

end Sys2Proof.Machine.Body

/-! The hardware queues (R305 to R311): what showing, replacing, filling and emptying a queue leave, and the commands read through these. -/

namespace Sys2Proof.Machine.Body

open Sys2Proof.Stmt

/-! ## What a command makes of the units -/

/-- A command that concerns no other unit, by what it makes of the units. -/
theorem leadsAlone_of_eq {c : Instr} {s : State} {P : Body → Prop} {b₀ b : Body} (answer : exec c s = .next (s.taken b₀)) (made : b₀ = b)
    (holds : P b) : LeadsAlone c s P :=
  ⟨b₀, answer, made ▸ holds⟩

/-- A command that may concern other units, by what it makes of its own. -/
theorem leads_of_eq {c : Instr} {s : State} {P : Body → Prop} {b₀ b : Body} (answer : exec c s = .next (s.settled b₀)) (made : b₀ = b)
    (holds : P b) : Leads c s P :=
  ⟨b₀, answer, made ▸ holds⟩

/-- An event raised waits for the Pass. -/
theorem mem_evs_raise (s : Body) (u : Nat) (f : Fld) (n : Nat) : ⟨u, .bit f, n⟩ ∈ (s.raise u f n).evs := by simp
theorem mem_evs_post (s : Body) (u : Nat) (e : Event) (n : Nat) : ⟨u, e, n⟩ ∈ (s.post u e n).evs := by simp
theorem mem_out_send (s : Body) (o : Out) : o ∈ (s.send o).out := by simp

/-! ## A write that selects -/

theorem select_of_mayAct (s : Body) (actor : Actor) (a v : Nat) (act : Body → Body) (may : s.mayAct actor a (BitVec.ofNat 64 v) = true) :
    s.select actor a v act = act (wrote s actor a v) :=
  if_pos may

theorem command_eq_of_acts (s : Body) (actor : Actor) (a v : Nat) (act : Body → Body) (h : acts s actor a v) :
    s.command actor a v act = act (wrote s actor a v) :=
  command_of_acts s actor a v act h

/-- A write of another register leaves the lifecycle of the units (R35). -/
theorem unit_judge_ne (s : Body) (actor : Actor) {a : Nat} (v : Word) (u : Nat) (h : (F.UNIT_STATE_STATE u).addr ≠ a) :
    (s.judge actor a v).1.unit u = s.unit u := by
  simp only [unit, judge_get_ne s actor a v _ h]

@[simp] theorem queue_wrote (s : Body) (actor : Actor) (a v k : Nat) : (wrote s actor a v).queue k = s.queue k := by
  simp [queue, wrote]

theorem word_put_ne (s : Body) (f : Fld) (v : Nat) {a : Nat} (h : a ≠ f.addr) : (s.put f v).word a = s.word a :=
  word_setWord_ne s f.addr a _ h

/-! ## Showing and replacing a queue (R313) -/

@[simp] theorem q_qShow (s : Body) : s.qShow.q = s.q := (rfl)
@[simp] theorem evs_qShow (s : Body) : s.qShow.evs = s.evs := (rfl)
@[simp] theorem out_qShow (s : Body) : s.qShow.out = s.out := (rfl)

theorem qShow_regsOutside (s : Body) : RegsOutside 0xf0010 0xf0028 s s.qShow := by
  have here : RegsOutside 0xf0010 0xf0028 s s := .of_eq rfl
  unfold qShow
  simp only [putB_eq]
  iterate 12 refine RegsOutside.andPut ?_ (by decide) _
  exact here

@[simp] theorem evs_setQueue (s : Body) (k : Nat) (q : Queue) : (s.setQueue k q).evs = s.evs := (rfl)
@[simp] theorem out_setQueue (s : Body) (k : Nat) (q : Queue) : (s.setQueue k q).out = s.out := (rfl)
@[simp] theorem queue_setQueue (s : Body) (k : Nat) (q : Queue) : (s.setQueue k q).queue k = q := mgetD_mput_same ..

theorem setQueue_regsOutside (s : Body) (k : Nat) (q : Queue) : RegsOutside 0xf0010 0xf0028 s (s.setQueue k q) :=
  .trans (.of_eq rfl) (qShow_regsOutside _)

@[simp] theorem unit_setQueue (s : Body) (k : Nat) (q : Queue) : (s.setQueue k q).unit U.queue = s.unit U.queue := by
  simp only [unit, (setQueue_regsOutside s k q).get_eq (f := F.UNIT_STATE_STATE U.queue) (by decide)]

@[simp] theorem queue_raise (s : Body) (u : Nat) (f : Fld) (n k : Nat) : (s.raise u f n).queue k = s.queue k := (rfl)
@[simp] theorem queue_send (s : Body) (o : Out) (k : Nat) : (s.send o).queue k = s.queue k := (rfl)
@[simp] theorem queue_put (s : Body) (f : Fld) (v k : Nat) : (s.put f v).queue k = s.queue k := (rfl)
@[simp] theorem queue_setWord (s : Body) (a : Nat) (x : Word) (k : Nat) : (s.setWord a x).queue k = s.queue k := (rfl)

/-! ## Items in (R306, R308) -/

section
variable {b : Body} {slot k : Nat} {q : Queue} {v : Word}

theorem qPush_staged (bound : b.flag (F.Q_BIND_BOUND slot) = true) (slotQueue : b.get (F.Q_BIND_QUEUE slot) = k) (hq : b.queue k = q)
    (prod : q.prod = 0) (short : q.staged.length + 1 < q.item) :
    b.qPush slot v = b.setQueue k { q with staged := q.staged ++ [v] } := by
  simp [qPush, bound, slotQueue, hq, prod, short]

theorem qPush_whole (bound : b.flag (F.Q_BIND_BOUND slot) = true) (slotQueue : b.get (F.Q_BIND_QUEUE slot) = k) (hq : b.queue k = q)
    (prod : q.prod = 0) (whole : q.item ≤ q.staged.length + 1) :
    b.qPush slot v = ((b.setQueue k { q with staged := [] }).qCommit k (q.staged ++ [v])).1 := by
  simp [qPush, bound, slotQueue, hq, prod, Nat.not_lt.2 whole]

theorem qWorks_setQueue (b : Body) (k : Nat) (q : Queue) : (b.setQueue k q).qWorks k = (q.enabled && b.unit U.queue != .off) := by
  simp [qWorks]

theorem qCommit_enters {l : List Word} (works : b.qWorks k = true) (hq : b.queue k = q) (kept : q.dropped = 0)
    (room : q.item ≤ qFree q) :
    (b.qCommit k l).1 = b.setQueue k { q with words := q.words ++ l.map fun w => QWord.mk w false false } := by
  simp [qCommit, works, hq, kept, Nat.not_lt.2 room]

theorem qCommit_drops {l : List Word} (works : b.qWorks k = true) (hq : b.queue k = q) (kept : q.dropped = 0)
    (full : qFree q < q.item) :
    (b.qCommit k l).1 = b.setQueue k { q with dropped := 1, dropF := b.frameNo } := by
  simp [qCommit, works, hq, kept, full]

end

/-! ## The gap marker (R308) -/

theorem qGapMarker_enters {b : Body} {k : Nat} (works : b.qWorks k = true) (dropped : (b.queue k).dropped ≠ 0)
    (room : (b.queue k).item ≤ qFree (b.queue k)) :
    ∃ item, item.length = (b.queue k).item ∧ (∀ w ∈ item, w.gap = true)
      ∧ b.qGapMarker k = (b.setQueue k { b.queue k with words := (b.queue k).words ++ item, dropped := 0, dropF := 0 }).raise U.queue
          F.Q_EVENTS_GAP k := by
  unfold qGapMarker
  rw [if_neg (by simp [works, dropped, room])]
  refine ⟨_, ?_, ?_, rfl⟩
  · simp
  · intro w hw
    obtain ⟨i, _, rfl⟩ := List.mem_map.1 hw
    rfl

/-! ## Words out (R306, R307, R309) -/

theorem words_qParity (s : Body) (k n : Nat) : ((s.qParity k n).queue k).words = (s.queue k).words := by
  unfold qParity
  split
  · rfl
  · simp

theorem qPop_word {b : Body} {slot : Nat} {w : QWord} {r : List QWord} (bound : b.flag (F.Q_BIND_BOUND slot) = true)
    (cons : (b.queue (b.get (F.Q_BIND_QUEUE slot))).cons = 0) (words : (b.queue (b.get (F.Q_BIND_QUEUE slot))).words = w :: r) :
    .qWord slot w.data w.bad ∈ (b.qPop slot).out ∧ ((b.qPop slot).queue (b.get (F.Q_BIND_QUEUE slot))).words = r := by
  generalize hk : b.get (F.Q_BIND_QUEUE slot) = k at cons words ⊢
  have popped : b.qPop slot = ((b.setQueue k { b.queue k with words := r, head := ((b.queue k).head + 1) % max 1 (b.queue k).size }).qParity k
      (b2n w.bad)).send (.qWord slot w.data w.bad) := by
    simp [qPop, qTake, bound, hk, cons, words]
  rw [popped]
  refine ⟨by simp, ?_⟩
  rw [queue_send, words_qParity, queue_setQueue]

theorem qPop_empty {b : Body} {slot : Nat} (bound : b.flag (F.Q_BIND_BOUND slot) = true)
    (cons : (b.queue (b.get (F.Q_BIND_QUEUE slot))).cons = 0) (words : (b.queue (b.get (F.Q_BIND_QUEUE slot))).words = []) :
    b.qPop slot = (b.send (.qWord slot 0 false)).raise U.queue F.Q_EVENTS_UNDERFLOW (b.get (F.Q_BIND_QUEUE slot)) := by
  simp [qPop, qTake, bound, cons, words]

@[simp] theorem queue_qFlush (s : Body) (k : Nat) :
    (s.qFlush k).queue k = { s.queue k with
      head := ((s.queue k).head + (s.queue k).words.length) % max 1 (s.queue k).size, words := [], staged := [], dropped := 0, dropF := 0,
      flushes := ((s.queue k).flushes + 1) % 65536 } :=
  queue_setQueue ..

/-! ## The reading window (R311) -/

theorem qWinSnap_word {b : Body} {w : QWord} (here : (b.queue (b.get F.Q_WIN_SEL_QUEUE)).words[b.get F.Q_WIN_SEL_OFFSET]? = some w)
    (good : w.bad = false) : b.qWinSnap.word A.Q_WIN_DATA = w.data ∧ b.qWinSnap.flag F.Q_WIN_TAG_VALID = true := by
  simp only [qWinSnap, queue_put, queue_setWord, here, putB_eq, good, b2n, qParity, if_true, Bool.false_eq_true, if_false]
  constructor
  · iterate 3 rw [word_put_ne _ _ _ (by decide)]
    exact word_setWord _ A.Q_WIN_DATA w.data
  · rw [flag_put_of_apart _ _ (by decide), flag_put_of_apart _ _ (by decide)]
    exact flag_put_one _ _ rfl (by decide)

/-- A push selects its slot and is judged there alone: the queue unit and the queues stand as before. -/
theorem qWorks_staged {s : Body} {actor : Actor} {slot v k : Nat} {q : Queue} (enabled : q.enabled = true)
    (on : s.unit U.queue ≠ .off) : ((wrote s actor (A.Q_PUSH slot) v).setQueue k q).qWorks k = true := by
  have apart : (F.UNIT_STATE_STATE U.queue).addr ≠ A.Q_PUSH slot := by
    simp only [F.UNIT_STATE_STATE, U.queue, A.Q_PUSH]
    omega
  simp [qWorks_setQueue, enabled, wrote, unit_judge_ne _ _ _ _ apart, on]

/-- Settles O37. -/
theorem queueCommands : Obligations.QueueCommands := by
  unfold Obligations.QueueCommands
  refine ⟨fun s actor v may => ⟨_, rfl, ?configure⟩, ?push, fun s k works dropped room => ?gap, ?pop, ?flush, ?window⟩
  case configure => exact select_of_mayAct s.body actor A.Q_CFG v.toNat _ (by simpa using may)
  case push =>
    intro s actor slot v may g bound k q prod
    have selected := select_of_mayAct s.body actor (A.Q_PUSH slot) v.toNat (·.qPush slot v) (by simpa using may)
    have whole (h : q.item ≤ q.staged.length + 1) := selected.trans (qPush_whole (q := q) bound rfl (queue_wrote ..) prod h)
    refine ⟨fun short => leadsAlone_of_eq rfl (selected.trans (qPush_staged (q := q) bound rfl (queue_wrote ..) prod short)) ?_,
      fun h enabled on kept room => leadsAlone_of_eq rfl ((whole h).trans
        (qCommit_enters (qWorks_staged (q := { q with staged := [] }) enabled on) (queue_setQueue ..) kept room)) ?_,
      fun h enabled on kept full => leadsAlone_of_eq rfl ((whole h).trans
        (qCommit_drops (qWorks_staged (q := { q with staged := [] }) enabled on) (queue_setQueue ..) kept full)) ?_⟩
    · rw [queue_setQueue]
      exact ⟨rfl, rfl⟩
    · rw [queue_setQueue]
      exact ⟨rfl, rfl⟩
    · rw [queue_setQueue]
      exact ⟨rfl, rfl⟩
  case gap =>
    obtain ⟨item, length, marked, entered⟩ := qGapMarker_enters works dropped room
    refine leadsAlone_of_eq rfl entered ?_
    rw [queue_raise, queue_setQueue]
    exact ⟨rfl, by simp [length], ⟨item, rfl, marked⟩, mem_evs_raise ..⟩
  case pop =>
    intro s actor slot bound k q cons
    refine ⟨fun w r words => ⟨_, rfl, qPop_word bound cons words⟩,
      fun words => leadsAlone_of_eq rfl (qPop_empty bound cons words) ?_⟩
    simp [k]
  case flush =>
    intro s actor slot act g bound
    have flushed : g.qFlushSlot slot = g.qFlush (g.get (F.Q_BIND_QUEUE slot)) := by rw [qFlushSlot, bound, when_true]
    refine leadsAlone_of_eq rfl ((command_eq_of_acts s.body actor (A.Q_FLUSH slot) 1 _ act).trans flushed) ?_
    rw [queue_qFlush, queue_wrote]
    exact ⟨rfl, rfl, rfl⟩
  case window =>
    intro s actor k offset w may g here good
    have snapped := select_of_mayAct s.body actor A.Q_WIN_SEL (k + 4096 * (offset % 2 ^ 22)) (fun b => (b.when false (·.qSpoil k offset)).qWinSnap) may
    simp only [when_false] at snapped
    exact leadsAlone_of_eq rfl snapped (qWinSnap_word (by rwa [queue_wrote]) good)

end Sys2Proof.Machine.Body

/-! Frames: a unit's command keeps everything but its own unit, the registers of its blocks, the readback shadows and the events raised. Each
operation is shown once to keep a frame; a command's frame is the chain of its operations. -/

namespace Sys2Proof.Machine.Body

/-- The addresses of a range of CSPACE. -/
abbrev Range (lo hi k : Nat) : Prop := lo ≤ k ∧ k < hi

/-- A view of the units that shows neither registers, nor shadows, nor events. -/
def Blind (view : Body → Body) : Prop := ∀ s m r v, view { s with regs := m, rb := r, evs := v } = view s

/-- Nothing that the view shows has changed, and no register outside `own`. -/
structure Kept (view : Body → Body) (own : Nat → Prop) (a b : Body) : Prop where
  blind : Blind view
  units : view b = view a
  regs : ∀ k, ¬ own k → b.word k = a.word k

namespace Kept
variable {view : Body → Body} {own : Nat → Prop} {a b c : Body}

theorem refl (blind : Blind view) : Kept view own a a := ⟨blind, rfl, fun _ _ => rfl⟩

theorem trans (h : Kept view own a b) (k : Kept view own b c) : Kept view own a c :=
  ⟨h.blind, k.units.trans h.units, fun x hx => (k.regs x hx).trans (h.regs x hx)⟩

/-- A change that the view does not show and that writes no register. -/
theorem hidden (h : Kept view own a b) (units : view c = view b := by rfl) (regs : c.regs = b.regs := by rfl) : Kept view own a c :=
  h.trans ⟨h.blind, units, fun k _ => by simp only [word, regs]⟩

theorem setWord (h : Kept view own a b) (x : Nat) (v : Word) (hx : own x) : Kept view own a (b.setWord x v) :=
  h.trans ⟨h.blind, h.blind b _ b.rb b.evs, fun k hk => word_setWord_ne b x k v fun e => hk (e ▸ hx)⟩

theorem put (h : Kept view own a b) (f : Fld) (v : Nat) (hf : own f.addr) : Kept view own a (b.put f v) := h.setWord _ _ hf
theorem putB (h : Kept view own a b) (f : Fld) (t : Bool) (hf : own f.addr) : Kept view own a (b.putB f t) := h.put _ _ hf
theorem inc (h : Kept view own a b) (f : Fld) (hf : own f.addr) : Kept view own a (b.inc f) := h.put _ _ hf
theorem incSat (h : Kept view own a b) (f : Fld) (hf : own f.addr) : Kept view own a (b.incSat f) := h.put _ _ hf
theorem addSat (h : Kept view own a b) (f : Fld) (n : Nat) (hf : own f.addr) : Kept view own a (b.addSat f n) := h.put _ _ hf

theorem post (h : Kept view own a b) (u : Nat) (e : Event) (n : Nat) : Kept view own a (b.post u e n) :=
  h.hidden (h.blind b b.regs b.rb _) rfl

theorem raise (h : Kept view own a b) (u : Nat) (f : Fld) (n : Nat) (hf : own f.addr) : Kept view own a (b.raise u f n) :=
  (h.put f 1 hf).post u (.bit f) n

theorem violation (h : Kept view own a b) (actor : Actor) (x : Nat) : Kept view own a (b.violation actor x) := h.post _ _ _

theorem judge (h : Kept view own a b) (actor : Actor) (x : Nat) (v : Word) (hx : own x) : Kept view own a (b.judge actor x v).1 := by
  obtain ⟨j, e⟩ | e := judge_cases b actor x v <;> rw [e]
  · rw [judgeDone_eq]
    exact h.trans ⟨h.blind, h.blind b _ _ _, fun k hk => mgetD_mput_ne _ _ _ _ _ _ fun e => hk (e ▸ hx)⟩
  · exact h.violation actor x

theorem command (h : Kept view own a b) (actor : Actor) (x v : Nat) (act : Body → Body) (hx : own x)
    (hact : ∀ {g}, Kept view own a g → Kept view own a (act g)) : Kept view own a (b.command actor x v act) := by
  unfold Body.command
  dsimp only
  split
  · exact h.judge actor x _ hx
  · exact hact (h.judge actor x _ hx)

theorem select (h : Kept view own a b) (actor : Actor) (x v : Nat) (act : Body → Body) (hx : own x)
    (hact : ∀ {g}, Kept view own a g → Kept view own a (act g)) : Kept view own a (b.select actor x v act) := by
  unfold Body.select
  dsimp only
  split
  · exact hact (h.judge actor x _ hx)
  · exact h.judge actor x _ hx

theorem ite (t : Prop) [Decidable t] (h : Kept view own a b) (k : Kept view own a c) : Kept view own a (if t then b else c) := by
  split
  · exact h
  · exact k

theorem when (h : Kept view own a b) (t : Bool) (f : Body → Body) (hf : Kept view own a (f b)) : Kept view own a (b.when t f) := by
  cases t
  · exact h
  · exact hf

theorem forEach {α : Type} (h : Kept view own a b) (l : List α) (f : Body → α → Body)
    (hf : ∀ x ∈ l, ∀ {t}, Kept view own a t → Kept view own a (f t x)) : Kept view own a (b.forEach l f) := by
  induction l generalizing b with
  | nil => exact h
  | cons x l ih => exact ih (hf x List.mem_cons_self h) fun y hy => hf y (List.mem_cons_of_mem x hy)

/-- Outside its own range of CSPACE a command leaves every register. -/
theorem outside {lo hi : Nat} (h : Kept view (Range lo hi) a b) : Stmt.regsOutside lo hi a b :=
  fun k hk => h.regs k (by omega)

end Kept

/-- The bound that a well-formed command puts on its index. -/
theorem lt_of_wf {t : Bool} {n m : Nat} (wf : (t && decide (n < m)) = true) : n < m := by
  simp only [Bool.and_eq_true, decide_eq_true_eq] at wf
  exact wf.2

/-! ## The item queues (R305 to R313) -/

/-- The units but the queues and what the block has sent. -/
def offQueues (b : Body) : Body := { b with regs := [], rb := {}, evs := [], out := [], q := {} }

theorem offQueues_blind : Blind offQueues := fun _ _ _ _ => rfl

/-- A command that keeps the other units changes the queues, the messages sent and its registers alone. -/
theorem Kept.eq_of_offQueues {own : Nat → Prop} {a b : Body} (h : Kept offQueues own a b) :
    b = { a with regs := b.regs, rb := b.rb, evs := b.evs, out := b.out, q := b.q } :=
  calc b = { offQueues b with regs := b.regs, rb := b.rb, evs := b.evs, out := b.out, q := b.q } := rfl
    _ = { offQueues a with regs := b.regs, rb := b.rb, evs := b.evs, out := b.out, q := b.q } := by rw [h.units]
    _ = _ := rfl

section
/-- The registers of the queues, and nothing outside the queues. -/
abbrev QueueKept (a b : Body) : Prop := Kept offQueues (Range 0xf0000 0x100000) a b

variable {a b : Body}

theorem Kept.qShow (h : QueueKept a b) : QueueKept a b.qShow := by
  unfold Body.qShow
  simp only [putB_eq]
  iterate 12 refine Kept.put ?_ _ _ (by decide)
  exact h

theorem Kept.setQueue (h : QueueKept a b) (k : Nat) (q : Queue) : QueueKept a (b.setQueue k q) :=
  Kept.qShow h.hidden

theorem Kept.qFlush (h : QueueKept a b) (k : Nat) : QueueKept a (b.qFlush k) := h.setQueue _ _

theorem Kept.raiseQueue (h : QueueKept a b) (f : Fld) (k : Nat) (hf : f.addr = A.Q_EVENTS) : QueueKept a (b.raise U.queue f k) :=
  h.raise _ f _ (hf ▸ by decide)

theorem Kept.qCommit (h : QueueKept a b) (k : Nat) (l : List Word) : QueueKept a (b.qCommit k l).1 := by
  unfold Body.qCommit
  dsimp only
  split
  · exact h.raiseQueue _ _ rfl
  · split
    · exact h.setQueue _ _
    · exact h.setQueue _ _

theorem Kept.qGapMarker (h : QueueKept a b) (k : Nat) : QueueKept a (b.qGapMarker k) := by
  unfold Body.qGapMarker
  dsimp only
  split
  · exact h
  · exact (h.setQueue _ _).raiseQueue _ _ rfl

theorem Kept.qPush (h : QueueKept a b) (slot : Nat) (v : Word) : QueueKept a (b.qPush slot v) := by
  unfold Body.qPush
  dsimp only
  split
  · exact h
  · split
    · exact h.raiseQueue _ _ rfl
    · split
      · exact h.setQueue _ _
      · exact (h.setQueue _ _).qCommit _ _

theorem Kept.qSpoil (h : QueueKept a b) (k i : Nat) : QueueKept a (b.qSpoil k i) := by
  unfold Body.qSpoil
  dsimp only
  split
  · exact h.setQueue _ _
  · exact h

theorem Kept.qParity (h : QueueKept a b) (k n : Nat) : QueueKept a (b.qParity k n) := by
  unfold Body.qParity
  split
  · exact h
  · exact (h.setQueue _ _).raiseQueue _ _ rfl

theorem Kept.qTake (h : QueueKept a b) (k : Nat) : QueueKept a (b.qTake k).1 := by
  unfold Body.qTake
  dsimp only
  split
  · exact h
  · exact (h.setQueue _ _).qParity _ _

theorem Kept.qPop (h : QueueKept a b) (slot : Nat) : QueueKept a (b.qPop slot) := by
  have taken := h.qTake (b.get (F.Q_BIND_QUEUE slot))
  unfold Body.qPop
  dsimp only
  split
  · exact h.hidden
  · split
    · exact Kept.raiseQueue h.hidden _ _ rfl
    · split
      next here =>
        rw [here] at taken
        exact Kept.hidden taken
      next here =>
        rw [here] at taken
        exact Kept.raiseQueue (Kept.hidden taken) _ _ rfl

theorem Kept.qConfigure (h : QueueKept a b) (k : Nat) (w : Word) : QueueKept a (b.qConfigure k w) := by
  have disabled : QueueKept a (if F.Q_CFG_ENABLE.ofWord w == 1 then b else (b.setQueue k { b.queue k with enabled := false }).qFlush k) :=
    .ite _ h ((h.setQueue _ _).qFlush k)
  unfold Body.qConfigure
  dsimp only
  split
  · exact .ite _ ((Kept.qShow disabled).raiseQueue _ _ rfl) (Kept.qShow disabled)
  · refine .ite _ (h.qShow.raiseQueue _ _ rfl) (.ite _ (h.setQueue _ _) (.ite _ (h.setQueue _ _) ?_))
    exact (Kept.qShow (h.setQueue _ _)).raiseQueue _ _ rfl

theorem Kept.qWinSnap (h : QueueKept a b) : QueueKept a b.qWinSnap := by
  have tagged := ((h.setWord A.Q_WIN_TAG 0 (by decide)).put F.Q_WIN_TAG_ECHO_QUEUE (b.get F.Q_WIN_SEL_QUEUE) (by decide)).put
    F.Q_WIN_TAG_ECHO_OFFSET (b.get F.Q_WIN_SEL_OFFSET) (by decide)
  unfold Body.qWinSnap
  dsimp only
  split
  · refine Kept.qParity (.putB (.putB (.put ?_ _ _ (by decide)) _ _ (by decide)) _ _ (by decide)) _ _
    exact tagged.setWord _ _ (by decide)
  · exact tagged.setWord _ _ (by decide)

/-- The registers of a slot lie in the block of the queues. -/
theorem slotReg_own {slot lo : Nat} (hs : slot < 256) (h : 0xf8000 ≤ lo ∧ lo < 0xf8040) : Range 0xf0000 0x100000 (lo + 0x40 * slot) := by
  omega

end

open Sys2Proof.Stmt in
theorem frame_of_ofQueues {c : Instr} (s : State) (wf : c.wf = true) (queues : ofQueues c = true) :
    ∃ b, exec c s = .next (s.taken b) ∧ QueueKept s.body b := by
  have here : QueueKept s.body s.body := .refl offQueues_blind
  cases c
  case qCfgWrite actor v => exact ⟨_, rfl, here.select _ _ _ _ (by decide) fun h => h.qConfigure _ _⟩
  case qPush actor slot v =>
    exact ⟨_, rfl, here.select _ _ _ _ (slotReg_own (lt_of_wf wf) (by decide)) fun h => h.qPush slot v⟩
  case qGapMarker k => exact ⟨_, rfl, here.qGapMarker k⟩
  case qPop actor slot bad => exact ⟨_, rfl, Kept.qPop (here.when _ _ (here.qSpoil _ _)) slot⟩
  case qFlush actor slot =>
    exact ⟨_, rfl, here.command _ _ _ _ (slotReg_own (lt_of_wf wf) (by decide)) fun h => h.when _ _ (h.qFlush _)⟩
  case qWinSnapshot actor k offset bad =>
    exact ⟨_, rfl, here.select _ _ _ _ (by decide) fun h => Kept.qWinSnap (h.when _ _ (h.qSpoil _ _))⟩
  all_goals cases queues

/-! ## Registrations of memory (R279, R280, R292) -/

/-- The units but the RDMA tables. -/
def offRdma (b : Body) : Body := { b with regs := [], rb := {}, evs := [], rdma := {} }

theorem offRdma_blind : Blind offRdma := fun _ _ _ _ => rfl

/-- The registers of the ports and the RDMA engine, and the counts of regions of the partitions. -/
def RdmaReg (k : Nat) : Prop := Range 0xC0000 0xE0000 k ∨ ∃ p, p < 256 ∧ k = (F.PART_ATTR_REGIONS p).addr

abbrev RdmaKept (a b : Body) : Prop := Kept offRdma RdmaReg a b

theorem Kept.eq_of_offRdma {own : Nat → Prop} {a b : Body} (h : Kept offRdma own a b) :
    b = { a with regs := b.regs, rb := b.rb, evs := b.evs, rdma := b.rdma } :=
  calc b = { offRdma b with regs := b.regs, rb := b.rb, evs := b.evs, rdma := b.rdma } := rfl
    _ = { offRdma a with regs := b.regs, rb := b.rb, evs := b.evs, rdma := b.rdma } := by rw [h.units]
    _ = _ := rfl

theorem Kept.outside_regions {a b : Body} (h : RdmaKept a b) (k : Nat) (outside : k < 0xC0000 ∨ 0xE0000 ≤ k)
    (uncounted : ∀ p, p < 256 → k ≠ (F.PART_ATTR_REGIONS p).addr) : b.word k = a.word k :=
  h.regs k fun own => own.elim (by omega) fun ⟨p, hp, e⟩ => uncounted p hp e

section
variable {a b : Body}

theorem Kept.rdmaShow (h : RdmaKept a b) : RdmaKept a b.rdmaShow := by
  refine Kept.forEach ((h.put _ _ (.inl (by decide))).put _ _ (.inl (by decide))) _ _ fun p hp t ht => ht.put _ _ (.inl ?_)
  have := List.mem_range.1 hp
  simp only [F.ETH_STATUS_QPS]
  omega

theorem Kept.cmdEnd (h : RdmaKept a b) (result key : Nat) : RdmaKept a (b.cmdEnd result key) := by
  refine Kept.raise (.put (.put (.put h _ _ (.inl (by decide))) _ _ (.inl (by decide))) _ _ (.inl (by decide))) _ _ _ (.inl ?_)
  split <;> decide

theorem Kept.regCreate (h : RdmaKept a b) (i : Nat) : RdmaKept a (b.regCreate i) := by
  unfold Body.regCreate
  dsimp only
  split
  · exact h.cmdEnd _ _
  refine .ite _ (h.cmdEnd _ _) (.ite _ (h.cmdEnd _ _) ?_)
  have partition : b.arg 1 47 8 < 256 := Nat.mod_lt _ (by decide)
  exact Kept.cmdEnd (Kept.rdmaShow (Kept.inc h.hidden (F.PART_ATTR_REGIONS (b.arg 1 47 8)) (.inr ⟨_, partition, rfl⟩))) _ _

theorem Kept.regDereg (h : RdmaKept a b) (i : Nat) : RdmaKept a (b.regDereg i) := by
  unfold Body.regDereg
  split
  · exact .ite _ (h.cmdEnd _ _) h.hidden
  · exact h.cmdEnd _ _

theorem Kept.pdSet (h : RdmaKept a b) (i : Nat) : RdmaKept a (b.pdSet i) := by
  unfold Body.pdSet
  exact Kept.cmdEnd h.hidden _ _

theorem Kept.rdmaCmd (h : RdmaKept a b) (actor : Actor) (op i : Nat) (act : Body → Body)
    (hact : ∀ {g}, RdmaKept a g → RdmaKept a (act g)) : RdmaKept a (b.rdmaCmd actor op i act) := by
  refine h.command _ _ _ _ (.inl (by decide)) fun {g} hg => ?_
  unfold Body.rdmaBegin
  exact .ite _ hg (hact (((hg.put _ _ (.inl (by decide))).put _ _ (.inl (by decide))).put _ _ (.inl (by decide))))

end

open Sys2Proof.Stmt in
theorem frame_of_ofRegions {c : Instr} (s : State) (regions : ofRegions c = true) :
    ∃ b, exec c s = .next (s.settled b) ∧ RdmaKept s.body b := by
  have here : RdmaKept s.body s.body := .refl offRdma_blind
  cases c
  case regCreate actor i => exact ⟨_, rfl, here.rdmaCmd _ _ _ _ fun h => h.regCreate i⟩
  case regDereg actor i => exact ⟨_, rfl, here.rdmaCmd _ _ _ _ fun h => h.regDereg i⟩
  case pdSet actor i => exact ⟨_, rfl, here.rdmaCmd _ _ _ _ fun h => h.pdSet i⟩
  all_goals cases regions

/-- Settles O60. -/
theorem frameQueuesAndRegions : Obligations.FrameQueuesAndRegions := by
  unfold Obligations.FrameQueuesAndRegions
  refine fun c s wf => ⟨fun queues => ?_, fun regions => ?_⟩
  · obtain ⟨b, answer, kept⟩ := frame_of_ofQueues s wf queues
    exact ⟨b, .inl answer, kept.eq_of_offQueues, kept.outside⟩
  · obtain ⟨b, answer, kept⟩ := frame_of_ofRegions s regions
    exact ⟨b, .inr answer, kept.eq_of_offRdma, kept.outside_regions⟩

end Sys2Proof.Machine.Body

/-! The frame of the code flash (O56): a fetch that refills an I-cache takes a free value (R364), and
the counter of free values is none of the parts that the frame leaves open. -/

namespace Sys2Proof.Machine

/-! ## A Pass that may not stamp yet (R26, R27) -/

namespace State

/-- The Pass before its boot mark store has finished: it holds what is presented, so no unit takes a stamped event. -/
structure Waits (s t : State) : Prop where
  ready : t.pass.ready = false
  freeCtr : t.body.freeCtr = s.body.freeCtr
  boot : t.body.boot = s.body.boot

theorem Waits.trans {s t u : State} (h : Waits s t) (k : Waits t u) : Waits s u :=
  ⟨k.ready, k.freeCtr.trans h.freeCtr, k.boot.trans h.boot⟩

theorem not_mayStamp_of_not_ready {p : PassSt} (ready : p.ready = false) : mayStamp p = false := by
  simp [mayStamp, ready]

theorem present_waits {s : State} (e : PassEvent) (ready : s.pass.ready = false) : Waits s (s.present e) := by
  unfold present
  rw [not_mayStamp_of_not_ready ready, Bool.false_and, if_neg (by decide)]
  dsimp only
  split <;> exact ⟨ready, rfl, rfl⟩

theorem settle_waits (n : Nat) {s : State} (ready : s.pass.ready = false) : Waits s (settle n s) := by
  induction n generalizing s with
  | zero => exact ⟨ready, rfl, rfl⟩
  | succ n ih =>
    unfold settle
    split
    · exact ⟨ready, rfl, rfl⟩
    next e r _ =>
      have popped : Waits s { s with body := { s.body with evs := r } } := ⟨ready, rfl, rfl⟩
      have presented := popped.trans (present_waits e popped.ready)
      exact presented.trans (ih presented.ready)

theorem finish_waits {s : State} (ready : s.pass.ready = false) : Waits s s.finish := by
  have undrained : drainBufs 2048 s = s := by simp [drainBufs, not_mayStamp_of_not_ready ready]
  rw [finish, undrained]
  exact settle_waits settleFuel ready

theorem windowTold_waits {s : State} (old : Body) (ready : s.pass.ready = false) : Waits s (s.windowTold old) := by
  unfold windowTold
  split
  · exact ⟨ready, rfl, rfl⟩
  · have raised : Waits s { s with body := { s.body with evs := s.body.evs ++ Body.windowEvents old s.body } } := ⟨ready, rfl, rfl⟩
    exact raised.trans (finish_waits raised.ready)

theorem taken_waits {s : State} (b : Body) (ready : s.pass.ready = false) : Waits { s with body := b } (s.taken b) := by
  have finished : Waits { s with body := b } (finish { s with body := b }) := finish_waits ready
  exact finished.trans (windowTold_waits s.body finished.ready)

/-- With idle units nothing but the Pass takes part, and no reset follows. -/
theorem settled_freeCtr {s : State} {b : Body} (ready : s.pass.ready = false) (ran : b.unitsRun = b) (unasked : b.boot.resetReq = none) :
    (s.settled b).body.freeCtr = b.freeCtr := by
  have taken := taken_waits b ready
  unfold settled
  rw [ran]
  dsimp only
  rw [taken.boot, unasked]
  exact taken.freeCtr

end State

namespace Body

/-! ## Units that nothing waits for -/

/-- Nothing is asked, no flush or access waits, nothing is owed to the twin or held from it, and no logical device or open port looks on. -/
structure Idle (b : Body) : Prop where
  todo : b.todo = []
  hob : (b.hobState == .flushing) = false
  held : b.nc.held = []
  lds : b.allLds = []
  acks : b.twin.ackOwed = []
  start : b.twin.resync.heldStart = none
  ports : ((List.range 16).any (fun p => b.flag (F.CXP_STATUS_OPEN p)) || (List.range 8).any fun p => b.flag (F.ETH_STATUS_OPEN p)) = false

theorem runTodos_of_nil {b : Body} (todo : b.todo = []) (n : Nat) : runTodos n b = b := by
  cases n with
  | zero => rfl
  | succ n => simp [runTodos, todo]

theorem pumpHeld_of_nil {b : Body} (held : b.nc.held = []) : b.pumpHeld = b := by
  have same : ({ b with nc := { b.nc with held := [] } } : Body) = b := by rw [← held]
  simp [pumpHeld, held, same]

theorem moduleRecord_of_nil {b : Body} (lds : b.allLds = []) (n code : Nat) : b.moduleRecord n code = b := by
  simp [moduleRecord, lds]

theorem moduleRecords_of_nil {b : Body} (lds : b.allLds = []) : b.moduleRecords = b := by
  have unrecorded (t : Bool) (n code : Nat) : b.when t (·.moduleRecord n code) = b := by
    cases t
    · rfl
    · exact moduleRecord_of_nil lds n code
  simp only [moduleRecords, unrecorded]

/-- The other units leave idle units as they are. -/
theorem Idle.unitsRun {b : Body} (h : b.Idle) : b.unitsRun = b := by
  have flushed : b.flushLook = b := by simp [flushLook, h.hob]
  have acked : b.ackTry = b := by simp [ackTry, h.acks]
  have restarted : b.resyncHeld = b := by simp [resyncHeld, h.start]
  have opened : b.portOpened = b := by
    unfold portOpened
    dsimp only
    rw [h.ports]
    rfl
  simp only [Body.unitsRun, runTodos_of_nil h.todo, flushed, pumpHeld_of_nil h.held, moduleRecords_of_nil h.lds, acked, restarted, opened]

/-! ## A fetch that refills an I-cache -/

/-- A fetch of the first line by core 0, of a machine that holds nothing. -/
def firstFetch : Body := ({} : Body).flashRead (.fetch 0 false) 0

theorem freeCtr_firstFetch : firstFetch.freeCtr = 1 := rfl

/-- Units that differ from empty ones in the flash, its registers, the messages and the events alone are idle. -/
theorem idle_of_flashFrame {b : Body}
    (same : b = { ({} : Body) with regs := b.regs, rb := b.rb, evs := b.evs, out := b.out, cf := b.cf
                                   rack := { ({} : Body).rack with queue := b.rack.queue } })
    (outside : ∀ k, k < 0x130000 ∨ 0x140000 ≤ k → b.word k = 0) : b.Idle := by
  have off (f : Fld) (hf : f.addr < 0x130000 ∨ 0x140000 ≤ f.addr) : b.get f = 0 := by
    simp [get, outside f.addr hf, Fld.ofWord]
  have cxl (p : Nat) (hp : p < 16) : b.flag (F.CXP_STATUS_OPEN p) = false := by
    simp [flag, off (F.CXP_STATUS_OPEN p) (by simp only [F.CXP_STATUS_OPEN]; omega)]
  have eth (p : Nat) (hp : p < 8) : b.flag (F.ETH_STATUS_OPEN p) = false := by
    simp [flag, off (F.ETH_STATUS_OPEN p) (by simp only [F.ETH_STATUS_OPEN]; omega)]
  refine ⟨by rw [same], ?_, by rw [same], by rw [same]; rfl, by rw [same], by rw [same], ?_⟩
  · simp [hobState, off F.HOB_STATUS_STATE (by decide)]
  · rw [Bool.or_eq_false_iff, List.any_eq_false, List.any_eq_false]
    exact ⟨fun p hp => by simp [cxl p (List.mem_range.1 hp)], fun p hp => by simp [eth p (List.mem_range.1 hp)]⟩

/-- Refutes O56: the fetch of `firstFetch` refills the I-cache, and takes a free value for it, which no frame of the code flash allows. -/
theorem not_frameCoresAndFlash : ¬ Obligations.FrameCoresAndFlash := by
  unfold Obligations.FrameCoresAndFlash
  intro frames
  obtain ⟨flash, _⟩ := frames (.flashRead (.fetch 0 false) 0) {} rfl
  obtain ⟨b, answer, same, outside⟩ := flash rfl
  have kept : b.freeCtr = 0 := by rw [same]
  have fetched : exec (.flashRead (.fetch 0 false) 0) {} = .next (State.taken {} firstFetch) := rfl
  have counted : (State.taken {} firstFetch).body.freeCtr = 1 := (State.taken_waits (s := {}) firstFetch rfl).freeCtr
  have idle : b.Idle := idle_of_flashFrame same outside
  rw [fetched] at answer
  have uncounted : (State.taken {} b).body.freeCtr = 0 := (State.taken_waits (s := {}) b rfl).freeCtr.trans kept
  have unsettled : (State.settled {} b).body.freeCtr = 0 :=
    (State.settled_freeCtr (s := {}) rfl idle.unitsRun (by rw [same])).trans kept
  rcases answer with alone | units
  · rw [Host.Outcome.next.inj alone, uncounted] at counted
    exact absurd counted (by decide)
  · rw [Host.Outcome.next.inj units, unsettled] at counted
    exact absurd counted (by decide)

end Body
end Sys2Proof.Machine

/-! The frames of the Rack, the Spike and the rails (R386 to R421). -/

namespace Sys2Proof.Machine.Body

/-! ## The Rack and the Spike -/

/-- The units but the Spike and what is queued and counted for the Rack. -/
def offRecorder (b : Body) : Body :=
  { b with regs := [], rb := {}, evs := [], freeCtr := 0, spk := {}, rack := { b.rack with queue := [], cnt := [] } }

theorem offRecorder_blind : Blind offRecorder := fun _ _ _ _ => rfl

theorem Kept.eq_of_offRecorder {own : Nat → Prop} {a b : Body} (h : Kept offRecorder own a b) :
    b = { a with regs := b.regs, rb := b.rb, evs := b.evs, freeCtr := b.freeCtr, spk := b.spk
                 rack := { a.rack with queue := b.rack.queue, cnt := b.rack.cnt } } :=
  calc b = { offRecorder b with regs := b.regs, rb := b.rb, evs := b.evs, freeCtr := b.freeCtr, spk := b.spk
                                rack := { (offRecorder b).rack with queue := b.rack.queue, cnt := b.rack.cnt } } := rfl
    _ = { offRecorder a with regs := b.regs, rb := b.rb, evs := b.evs, freeCtr := b.freeCtr, spk := b.spk
                             rack := { (offRecorder a).rack with queue := b.rack.queue, cnt := b.rack.cnt } } := by rw [h.units]
    _ = _ := rfl

/-- The units but the Spike and the Rack's queue, and the registers of the Rack and the Spike. -/
abbrev RecorderKept (a b : Body) : Prop := Kept offRecorder (Range 0x140000 0x160000) a b

section
variable {a b : Body}

theorem Kept.incCounter (h : RecorderKept a b) (k : Nat) : RecorderKept a (b.incCounter k) := by
  unfold Body.incCounter
  exact .ite _ h h.hidden

theorem Kept.rackSnap (h : RecorderKept a b) (g : Nat) (ecc : Ecc) : RecorderKept a (b.rackSnap g ecc) := by
  unfold Body.rackSnap
  exact Kept.put (Kept.putB (Kept.putB (h.setWord _ _ (by decide)) _ _ (by decide)) _ _ (by decide)) _ _ (by decide)

theorem Kept.rackFw (h : RecorderKept a b) (g n : Nat) : RecorderKept a (b.rackFw g n) := by
  unfold Body.rackFw
  refine .ite _ ((h.put F.RACK_FW_STATUS_STATE _ (by decide)).raise U.rack _ _ (by decide)) ?_
  exact Kept.hidden (b := b.put F.RACK_FW_STATUS_STATE 1) (h.put _ _ (by decide))

theorem Kept.spkFreeze (h : RecorderKept a b) : RecorderKept a b.spkFreeze := by
  unfold Body.spkFreeze
  exact .ite _ h (.ite _ h.hidden h.hidden)

theorem Kept.clearRefuse (h : RecorderKept a b) (code : Nat) : RecorderKept a (b.clearRefuse code) := by
  unfold Body.clearRefuse
  have state := (Kept.hidden (c := { b with spk := { b.spk with chUsed := true } }) h).put F.SPK_CLR_STATUS_STATE 3 (by decide)
  have result := state.put F.SPK_CLR_STATUS_RESULT code (by decide)
  exact (result.when _ _ (result.inc _ (by decide))).raise _ _ _ (by decide)

theorem Kept.clearSubmit (h : RecorderKept a b) (root : Option Nat) (sigOk : Bool) : RecorderKept a (b.clearSubmit root sigOk) := by
  unfold Body.clearSubmit
  exact .ite _ (h.clearRefuse _) (Kept.put (Kept.put h.hidden _ _ (by decide)) _ _ (by decide))

theorem Kept.clrChallenge (h : RecorderKept a b) : RecorderKept a b.clrChallenge := by
  refine Kept.hidden (b := b.freshWords (A.SPK_CLR_CHALLENGE 0) 4) (.forEach h _ _ fun i hi t ht => ?_)
  have := List.mem_range.1 hi
  have written := ht.setWord (A.SPK_CLR_CHALLENGE 0 + 8 * i) (Config.freeWord t.freeCtr) (by simp only [A.SPK_CLR_CHALLENGE]; omega)
  exact written.hidden

end

open Sys2Proof.Stmt in
theorem frame_of_ofRecorder {c : Instr} (s : State) (recorder : ofRecorder c = true) :
    ∃ b, exec c s = .next (s.taken b) ∧ RecorderKept s.body b := by
  have here : RecorderKept s.body s.body := .refl offRecorder_blind
  cases c
  case operatingSecond => exact ⟨_, rfl, here.when _ _ (here.incCounter 0)⟩
  case rackSnapshot actor g ecc => exact ⟨_, rfl, here.select _ _ _ _ (by decide) fun h => h.rackSnap _ ecc⟩
  case rackFwCmd actor g n => exact ⟨_, rfl, here.command _ _ _ _ (by decide) fun h => h.rackFw _ _⟩
  case spikeFreeze actor =>
    have judged : RecorderKept s.body (s.body.judge actor A.SPK_CTL 1).1 := here.judge _ _ _ (by decide)
    exact ⟨_, rfl, judged.when _ _ judged.spkFreeze⟩
  case spikeClearChallenge actor => exact ⟨_, rfl, here.command _ _ _ _ (by decide) fun h => h.clrChallenge⟩
  case spikeClearSubmit actor root ok => exact ⟨_, rfl, here.command _ _ _ _ (by decide) fun h => h.clearSubmit root ok⟩
  all_goals cases recorder

/-! ## The rails and the reset outputs -/

/-- The units but the Hob, what it sends and what it logs in the Rack. -/
def offRails (b : Body) : Body :=
  { b with regs := [], rb := {}, evs := [], out := [], hob := {}, rack := { b.rack with queue := [] } }

theorem offRails_blind : Blind offRails := fun _ _ _ _ => rfl

theorem Kept.eq_of_offRails {own : Nat → Prop} {a b : Body} (h : Kept offRails own a b) :
    b = { a with regs := b.regs, rb := b.rb, evs := b.evs, out := b.out, hob := b.hob, rack := { a.rack with queue := b.rack.queue } } :=
  calc b = { offRails b with regs := b.regs, rb := b.rb, evs := b.evs, out := b.out, hob := b.hob
                             rack := { (offRails b).rack with queue := b.rack.queue } } := rfl
    _ = { offRails a with regs := b.regs, rb := b.rb, evs := b.evs, out := b.out, hob := b.hob
                          rack := { (offRails a).rack with queue := b.rack.queue } } := by rw [h.units]
    _ = _ := rfl

/-- The units but the Hob, and the registers of the Hob. -/
abbrev RailsKept (a b : Body) : Prop := Kept offRails (Range 0x160000 0x170000) a b

section
variable {a b : Body} {r : Nat}

/-- The registers of a rail lie in the block of the Hob. -/
theorem railReg_own {lo : Nat} (hr : r < 24) (h : 0x160000 ≤ lo ∧ lo < 0x160000 + 0x8000) : Range 0x160000 0x170000 (lo + 0x40 * r) := by
  omega

theorem Kept.setRailState (h : RailsKept a b) (hr : r < 24) (st : RailState) : RailsKept a (b.setRailState r st) :=
  h.put _ _ (railReg_own (lo := 0x160108) hr (by decide))

theorem Kept.setRail (h : RailsKept a b) (r : Nat) (x : Rail) : RailsKept a (b.setRail r x) := h.hidden

theorem Kept.putBit (h : RailsKept a b) (f : Fld) (i : Nat) (t : Bool) (hf : Range 0x160000 0x170000 f.addr) : RailsKept a (b.putBit f i t) :=
  h.put _ _ hf

theorem Kept.rackPut (h : RailsKept a b) (o : RackOrder) (w : RackWhat) : RailsKept a (b.rackPut o w) := h.hidden

theorem Kept.logged (h : RailsKept a b) (l : List HobLog) : RailsKept a { b with hob := { b.hob with log := l } } := h.hidden

theorem Kept.hobLog (h : RailsKept a b) (r ev det us : Nat) : RailsKept a (b.hobLog r ev det us) := by
  unfold Body.hobLog
  exact (((h.logged _).put _ _ (by decide)).inc _ (by decide)).rackPut _ _

theorem Kept.railEnable (h : RailsKept a b) (hr : r < 24) : RailsKept a (b.railEnable r) := by
  unfold Body.railEnable Body.railOn
  have on : RailsKept a ((b.putBit F.HOB_RAILS_ENABLED r true).send (.railEn r true)) := .hidden (h.putBit F.HOB_RAILS_ENABLED r true (by decide))
  exact .ite _ h ((on.setRailState hr .rising).setRail r _)

theorem Kept.railPg (h : RailsKept a b) (hr : r < 24) (high : Bool) : RailsKept a (b.railPg r high) := by
  have good := h.putBit F.HOB_RAILS_GOOD r high (by decide)
  unfold Body.railPg
  refine .ite _ good ?_
  split
  · exact good.setRailState hr _
  · have rising := (good.setRailState hr .rising).incSat (F.HOB_RAIL_CNT_CHATTER r) (railReg_own (lo := 0x160118) hr (by decide))
    exact (rising.raise U.hob F.HOB_EVENTS_CHATTER r (by decide)).hobLog _ _ _ _
  · exact good

theorem Kept.railRetry (h : RailsKept a b) (hr : r < 24) : RailsKept a (b.railRetry r) := by
  unfold Body.railRetry
  exact .ite _ h ((h.setRailState hr _).setRail r _)

theorem Kept.rstAssert (h : RailsKept a b) (n : Nat) : RailsKept a (b.rstAssert n) := by
  have cleared : RailsKept a { b with hob := { b.hob with outs := b.hob.outs.filter (· != n) } } := h.hidden
  exact cleared.when _ (·.send (.resetOut n true)) cleared.hidden

theorem Kept.bitCommand (h : RailsKept a b) (actor : Actor) (f : Fld) (v : Nat) (act : Body → Body) (hf : Range 0x160000 0x170000 f.addr)
    (hact : ∀ {g}, RailsKept a g → RailsKept a (act g)) : RailsKept a (b.bitCommand actor f v act) := h.command _ _ _ _ hf hact

end

open Sys2Proof.Stmt in
theorem frame_of_ofRails {c : Instr} (s : State) (wf : c.wf = true) (rails : ofRails c = true) :
    ∃ b, exec c s = .next (s.settled b) ∧ RailsKept s.body b := by
  have here : RailsKept s.body s.body := .refl offRails_blind
  cases c
  case railEnable r => exact ⟨_, rfl, here.railEnable (of_decide_eq_true wf)⟩
  case railPgChange r high => exact ⟨_, rfl, here.railPg (of_decide_eq_true wf) high⟩
  case railRetry actor r =>
    have hr := lt_of_wf wf
    exact ⟨_, rfl, here.bitCommand _ _ _ _ (railReg_own (lo := 0x160100) hr (by decide)) fun h => h.railRetry hr⟩
  case resetRelease n => exact ⟨_, rfl, .ite _ here.hidden here⟩
  case resetPulse actor n =>
    have hn := lt_of_wf wf
    refine ⟨_, rfl, here.bitCommand _ _ _ _ ?_ fun h => h.rstAssert n⟩
    simp only [Range, F.HOB_RST_PULSE]
    omega
  all_goals cases rails

/-- Settles O57. -/
theorem frameRecorderAndRails : Obligations.FrameRecorderAndRails := by
  unfold Obligations.FrameRecorderAndRails
  refine fun c s wf => ⟨fun recorder => ?_, fun rails => ?_⟩
  · obtain ⟨b, answer, kept⟩ := frame_of_ofRecorder s recorder
    exact ⟨b, .inl answer, kept.eq_of_offRecorder, kept.outside⟩
  · obtain ⟨b, answer, kept⟩ := frame_of_ofRails s wf rails
    exact ⟨b, .inr answer, kept.eq_of_offRails, kept.outside⟩

end Sys2Proof.Machine.Body

/-! The frames of SPDM, keys, fuses, measurements and the untrusted table (R337 to R342, R353 to R358). -/

namespace Sys2Proof.Machine.Body

/-! ## SPDM -/

/-- The cipher engine alone answers: it may change its own state and send. -/
def CipherOnly (a b : Body) : Prop := b = { a with out := b.out, ciph := b.ciph }

section
variable {a b c : Body}

theorem CipherOnly.ite (t : Prop) [Decidable t] (h : CipherOnly a b) (k : CipherOnly a c) : CipherOnly a (if t then b else c) := by
  split
  · exact h
  · exact k

theorem CipherOnly.spdmKeyExchange (b : Body) (id : Nat) : CipherOnly b (b.spdmKeyExchange id) := .ite _ rfl rfl

theorem CipherOnly.spdmFinish (b : Body) (id : Nat) (ok : Bool) : CipherOnly b (b.spdmFinish id ok) := by
  unfold Body.spdmFinish
  split
  · exact .ite _ rfl (.ite _ rfl rfl)
  · rfl

theorem CipherOnly.spdmEnd (b : Body) (id : Nat) : CipherOnly b (b.spdmEnd id) := .ite _ rfl rfl

end

open Sys2Proof.Stmt in
theorem frame_of_ofSpdm {c : Instr} (s : State) (spdm : ofSpdm c = true) :
    ∃ b, exec c s = .next (s.taken b) ∧ CipherOnly s.body b := by
  cases c
  case spdmGetVersion => exact ⟨_, rfl, rfl⟩
  case spdmGetCapabilities => exact ⟨_, rfl, .ite _ rfl rfl⟩
  case spdmNegotiateAlgorithms common => exact ⟨_, rfl, .ite _ rfl rfl⟩
  case spdmGetDigests => exact ⟨_, rfl, .ite _ rfl rfl⟩
  case spdmGetCertificate slot offset length => exact ⟨_, rfl, .ite _ rfl rfl⟩
  case spdmKeyExchange id => exact ⟨_, rfl, .spdmKeyExchange _ id⟩
  case spdmFinish id ok => exact ⟨_, rfl, .spdmFinish _ id ok⟩
  case spdmEndSession id => exact ⟨_, rfl, .spdmEnd _ id⟩
  all_goals cases spdm

/-! ## Keys, fuses, measurements and the untrusted table -/

/-- The units but the cipher engine and what is queued and counted for the Rack. -/
def offCipher (b : Body) : Body :=
  { b with regs := [], rb := {}, evs := [], freeCtr := 0, ciph := {}, rack := { b.rack with queue := [], cnt := [] } }

theorem offCipher_blind : Blind offCipher := fun _ _ _ _ => rfl

theorem Kept.eq_of_offCipher {own : Nat → Prop} {a b : Body} (h : Kept offCipher own a b) :
    b = { a with regs := b.regs, rb := b.rb, evs := b.evs, freeCtr := b.freeCtr, ciph := b.ciph
                 rack := { a.rack with queue := b.rack.queue, cnt := b.rack.cnt } } :=
  calc b = { offCipher b with regs := b.regs, rb := b.rb, evs := b.evs, freeCtr := b.freeCtr, ciph := b.ciph
                              rack := { (offCipher b).rack with queue := b.rack.queue, cnt := b.rack.cnt } } := rfl
    _ = { offCipher a with regs := b.regs, rb := b.rb, evs := b.evs, freeCtr := b.freeCtr, ciph := b.ciph
                           rack := { (offCipher a).rack with queue := b.rack.queue, cnt := b.rack.cnt } } := by rw [h.units]
    _ = _ := rfl

/-- The units but the cipher engine and the Rack's queue, and the registers of the cipher engine. -/
abbrev CipherKept (a b : Body) : Prop := Kept offCipher (Range 0x110000 0x120000) a b

section
variable {a b : Body}

theorem Kept.cipher (h : CipherKept a b) (x : CipherSt) : CipherKept a { b with ciph := x } := h.hidden

theorem Kept.cipherRegs (h : CipherKept a b) : CipherKept a b.cipherRegs := by
  unfold Body.cipherRegs
  simp only [putB_eq]
  iterate 9 refine Kept.put ?_ _ _ (by decide)
  exact h

theorem Kept.recWrite (h : CipherKept a b) (o : RackOrder) (off : Nat) (l : List Word) (low : Nat) :
    CipherKept a (b.recWrite o off l low) := h.hidden

theorem Kept.sealDmk (h : CipherKept a b) (which : Nat) (d : DmkSt) : CipherKept a (b.sealDmk which d) := h.recWrite _ _ _ _

theorem Kept.keyInstall (h : CipherKept a b) (root : Option Nat) (certOk sigOk wrapOk : Bool) :
    CipherKept a (b.keyInstall root certOk sigOk wrapOk) := by
  unfold Body.keyInstall
  refine .ite _ (((h.put _ _ (by decide)).put _ _ (by decide)).raise _ _ _ (by decide)) ?_
  exact Kept.cipherRegs (Kept.raise ((((h.cipher _).sealDmk 2 _).put _ _ (by decide)).put _ _ (by decide)) _ _ _ (by decide))

theorem Kept.keyDiscard (h : CipherKept a b) : CipherKept a b.keyDiscard := by
  unfold Body.keyDiscard
  exact Kept.cipherRegs ((((h.cipher _).sealDmk 2 _).put _ _ (by decide)).put _ _ (by decide))

theorem Kept.keyActivate (h : CipherKept a b) : CipherKept a b.keyActivate := by
  unfold Body.keyActivate
  exact .ite _ h (Kept.cipherRegs (Kept.raise ((((h.cipher _).sealDmk 0 _).sealDmk 1 _).sealDmk 2 _) _ _ _ (by decide)))

theorem Kept.fuseProgram (h : CipherKept a b) (slot : Nat) : CipherKept a (b.fuseProgram slot) := by
  unfold Body.fuseProgram
  exact .ite _ (h.put _ _ (by decide)) (Kept.cipherRegs (Kept.raise ((h.cipher _).put _ _ (by decide)) _ _ _ (by decide)))

theorem Kept.fuseRevoke (h : CipherKept a b) (slot : Nat) : CipherKept a (b.fuseRevoke slot) := by
  have refused (n : Nat) : CipherKept a (b.put F.FUSE_STATUS_RESULT n) := h.put _ _ (by decide)
  unfold Body.fuseRevoke
  refine .ite _ (refused 1) (.ite _ (refused 2) (.ite _ (refused 3) ?_))
  exact Kept.cipherRegs (Kept.raise ((h.cipher _).put _ _ (by decide)) _ _ _ (by decide))

theorem Kept.keySlotSnap (h : CipherKept a b) (slot : Nat) : CipherKept a (b.keySlotSnap slot) := by
  unfold Body.keySlotSnap
  exact (((h.putB _ _ (by decide)).put _ _ (by decide)).put _ _ (by decide)).put _ _ (by decide)

theorem Kept.untrustSnap (h : CipherKept a b) (e : Nat) : CipherKept a (b.untrustSnap e) := by
  unfold Body.untrustSnap
  simp only [putB_eq]
  iterate 7 refine Kept.put ?_ _ _ (by decide)
  exact h

theorem Kept.fwExtend (h : CipherKept a b) : CipherKept a b.fwExtend := by
  refine Kept.forEach h _ _ fun i hi t ht => ht.setWord _ _ ?_
  have := List.mem_range.1 hi
  simp only [Range, A.FW_MEASURE_VALUE]
  omega

theorem Kept.dbgChallenge (h : CipherKept a b) : CipherKept a b.dbgChallenge := by
  refine Kept.hidden (b := b.freshWords (A.DBG_CHALLENGE 0) 4) (.forEach h _ _ fun i hi t ht => ?_)
  have := List.mem_range.1 hi
  have written := ht.setWord (A.DBG_CHALLENGE 0 + 8 * i) (Config.freeWord t.freeCtr) (by simp only [A.DBG_CHALLENGE]; omega)
  exact written.hidden

end

open Sys2Proof.Stmt in
theorem frame_of_ofKeys {c : Instr} (s : State) (keys : ofKeys c = true) :
    ∃ b, exec c s = .next (s.taken b) ∧ CipherKept s.body b := by
  have here : CipherKept s.body s.body := .refl offCipher_blind
  cases c
  case keyInstall actor root certOk sigOk wrapOk =>
    exact ⟨_, rfl, here.command _ _ _ _ (by decide) fun h => h.keyInstall root certOk sigOk wrapOk⟩
  case keyDiscardNext actor => exact ⟨_, rfl, here.command _ _ _ _ (by decide) fun h => h.keyDiscard⟩
  case keyActivate => exact ⟨_, rfl, here.keyActivate⟩
  case fuseProgram actor slot => exact ⟨_, rfl, here.command _ _ _ _ (by decide) fun h => h.fuseProgram _⟩
  case fuseRevoke actor slot => exact ⟨_, rfl, here.command _ _ _ _ (by decide) fun h => h.fuseRevoke _⟩
  case keySlotSnapshot actor slot => exact ⟨_, rfl, here.select _ _ _ _ (by decide) fun h => h.keySlotSnap _⟩
  case untrustSnapshot actor entry => exact ⟨_, rfl, here.select _ _ _ _ (by decide) fun h => h.untrustSnap _⟩
  case fwMeasureExtend actor => exact ⟨_, rfl, here.command _ _ _ _ (by decide) fun h => h.fwExtend⟩
  case dbgNewChallenge actor => exact ⟨_, rfl, here.command _ _ _ _ (by decide) fun h => h.dbgChallenge⟩
  all_goals cases keys

/-- Settles O58. -/
theorem frameKeysAndAttestation : Obligations.FrameKeysAndAttestation := by
  unfold Obligations.FrameKeysAndAttestation
  refine fun c s _ => ⟨fun spdm => ?_, fun keys => ?_⟩
  · obtain ⟨b, answer, only⟩ := frame_of_ofSpdm s spdm
    exact ⟨b, .inl answer, only⟩
  · obtain ⟨b, answer, kept⟩ := frame_of_ofKeys s keys
    exact ⟨b, .inl answer, kept.eq_of_offCipher, kept.outside⟩

end Sys2Proof.Machine.Body

/-! The Rack (R386 to R398): which burst goes first, what a burst leaves in the cells, counters that stop at their highest value. -/

namespace Sys2Proof.Machine

theorem mgetD_mset_same {α : Type} (m : SMap α) (a : Nat) (x d : α) : mgetD (mset m a x) a d = x := by
  rw [mgetD, mget_mset_same, Option.getD_some]

theorem mgetD_mset_ne {α : Type} (m : SMap α) {a b : Nat} (x d : α) (h : b ≠ a) : mgetD (mset m a x) b d = mgetD m b d := by
  rw [mgetD, mgetD, mget_mset_ne m a b x h]

namespace Body

open Sys2Proof.Stmt

/-! ## Registers after a judged write -/

theorem rread_judge_ne (s : Body) (actor : Actor) {a : Nat} (v : Word) (g : Fld) (h : g.addr ≠ a) :
    rread (s.judge actor a v).1.regs g = rread s.regs g :=
  judge_get_ne s actor a v g h

theorem get_wrote_ne (s : Body) (actor : Actor) {a : Nat} (v : Nat) (g : Fld) (h : g.addr ≠ a) :
    (wrote s actor a v).get g = s.get g :=
  judge_get_ne s actor a _ g h

theorem rread_wrote_ne (s : Body) (actor : Actor) {a : Nat} (v : Nat) (g : Fld) (h : g.addr ≠ a) :
    rread (wrote s actor a v).regs g = rread s.regs g :=
  judge_get_ne s actor a _ g h

/-! ## Commands that a write carries -/

section
variable {c : Instr} {s : State} {P : Body → Prop} {actor : Actor} {a v : Nat} {act : Body → Body}

theorem leadsAlone_command (h : acts s.body actor a v) (holds : P (act (wrote s.body actor a v)))
    (answer : exec c s = .next (s.taken (s.body.command actor a v act)) := by rfl) : LeadsAlone c s P :=
  leadsAlone_of_eq answer (command_eq_of_acts _ _ _ _ _ h) holds

theorem leads_command (h : acts s.body actor a v) (holds : P (act (wrote s.body actor a v)))
    (answer : exec c s = .next (s.settled (s.body.command actor a v act)) := by rfl) : Leads c s P :=
  leads_of_eq answer (command_eq_of_acts _ _ _ _ _ h) holds

theorem leadsAlone_select (may : s.body.mayAct actor a (BitVec.ofNat 64 v) = true) (holds : P (act (wrote s.body actor a v)))
    (answer : exec c s = .next (s.taken (s.body.select actor a v act)) := by rfl) : LeadsAlone c s P :=
  leadsAlone_of_eq answer (select_of_mayAct _ _ _ _ _ may) holds

theorem leads_select (may : s.body.mayAct actor a (BitVec.ofNat 64 v) = true) (holds : P (act (wrote s.body actor a v)))
    (answer : exec c s = .next (s.settled (s.body.select actor a v act)) := by rfl) : Leads c s P :=
  leads_of_eq answer (select_of_mayAct _ _ _ _ _ may) holds

end

/-! ## The order of bursts (R388) -/

theorem orderNo_le (o : RackOrder) : orderNo o ≤ 5 := by cases o <;> decide

theorem foldl_min_le (f : Burst → Nat) (q : List Burst) (m : Nat) :
    q.foldl (fun m b => min m (f b)) m ≤ m ∧ ∀ y ∈ q, q.foldl (fun m b => min m (f b)) m ≤ f y := by
  induction q generalizing m with
  | nil => exact ⟨Nat.le_refl m, fun _ h => absurd h List.not_mem_nil⟩
  | cons x q ih =>
    obtain ⟨least, each⟩ := ih (min m (f x))
    refine ⟨Nat.le_trans least (Nat.min_le_left ..), fun y hy => ?_⟩
    obtain rfl | hy := List.mem_cons.1 hy
    · exact Nat.le_trans least (Nat.min_le_right ..)
    · exact each y hy

/-- The first burst of the lowest order number stands behind bursts of higher numbers alone. -/
theorem pickBurst_first {q : List Burst} {x : Burst} {rest : List Burst} (picked : pickBurst q = some (x, rest)) :
    (∀ y ∈ q, orderNo x.order ≤ orderNo y.order)
    ∧ ∃ l r, q = l ++ x :: r ∧ rest = l ++ r ∧ ∀ y ∈ l, orderNo x.order < orderNo y.order := by
  unfold pickBurst at picked
  dsimp only at picked
  obtain ⟨-, least⟩ := foldl_min_le (fun b => orderNo b.order) q 6
  generalize q.foldl (fun m b => min m (orderNo b.order)) 6 = best at picked least
  split at picked
  next => cases picked
  next i found =>
    obtain ⟨inside, here, before⟩ := List.findIdx?_eq_some_iff_getElem.1 found
    rw [List.getElem?_eq_getElem inside] at picked
    obtain ⟨rfl, rfl⟩ : q[i] = x ∧ q.eraseIdx i = rest := by simpa using picked
    have number : orderNo q[i].order = best := by simpa using here
    refine ⟨fun y hy => number ▸ least y hy, q.take i, q.drop (i + 1), by simp, List.eraseIdx_eq_take_drop_succ q i, fun y hy => ?_⟩
    obtain ⟨j, hj, rfl⟩ := List.mem_take_iff_getElem.1 hy
    have later := before j (by omega)
    have := least q[j] (List.getElem_mem _)
    simp only [beq_iff_eq] at later
    omega

/-! ## Starting and ending a burst (R386, R387) -/

section
variable {b : Body} {mv : Nat} {x : Burst} {rest : List Burst}

/-- The temperature hold looks at the thermal unit alone. -/
theorem rackTempHold_rack (b : Body) (r : RackSt) : rackTempHold { b with rack := r } = b.rackTempHold := rfl

theorem burstStart_supplied (idle : b.rack.cur = none) (picked : pickBurst b.rack.queue = some (x, rest)) (warm : b.rackTempHold = false)
    (enough : 760 ≤ mv) : b.burstStart mv = { b with rack := { b.rack with aonMv := mv, cur := some x, queue := rest } } := by
  have supplied : ¬ mv < 760 := by omega
  simp [burstStart, idle, picked, rackTempHold_rack, warm, rackSupplyHold, supplied]

theorem burstStart_held (idle : b.rack.cur = none) (picked : pickBurst b.rack.queue = some (x, rest)) (warm : b.rackTempHold = false)
    (low : mv < 760) :
    b.burstStart mv = { b with rack := { b.rack with aonMv := mv } }.raise U.rack F.RACK_EVENTS_SUPPLY_HOLD := by
  simp [burstStart, idle, picked, rackTempHold_rack, warm, rackSupplyHold, low]

@[simp] theorem rack_dbgOpen (b : Body) : b.dbgOpen.rack = b.rack := by
  unfold dbgOpen
  dsimp only
  split <;> rfl

theorem mem_evs_dbgOpen {b : Body} {e : PassEvent} (h : e ∈ b.evs) : e ∈ b.dbgOpen.evs := by
  unfold dbgOpen
  dsimp only
  split
  · exact h
  · exact List.mem_append_left _ h

theorem rack_burstData (b : Body) (x : Burst) (g : Nat) (l : List Word) : (b.burstData x g l).rack = (b.writeGroups g l).rack := by
  unfold burstData
  dsimp only
  split <;> rfl

theorem mem_evs_burstData {x : Burst} (firmware : x.order = .firmware) (g : Nat) (l : List Word) :
    ⟨U.rack, .bit F.RACK_EVENTS_FW_DONE, 0⟩ ∈ (b.burstData x g l).evs := by
  unfold burstData
  rw [firmware]
  exact mem_evs_raise ..

theorem rackDone_data {o : RackOrder} {g : Nat} {l : List Word} (running : b.rack.cur = some ⟨o, .data g l⟩) :
    b.rackDone = ({ b with rack := { b.rack with cur := none } } : Body).burstData ⟨o, .data g l⟩ g l := by
  simp only [rackDone, running]

/-- The groups that a burst has written read well again. -/
theorem bad_writeGroups {g n : Nat} {l : List Word} (h : n ∈ (b.writeGroups g l).rack.bad) : n < g ∨ g + l.length ≤ n := by
  simp only [writeGroups, List.mem_filter, Bool.or_eq_true, decide_eq_true_eq] at h
  exact h.2

end

/-! ## Counters (R392, R393) -/

section
variable (b : Body) (k : Nat)

theorem counter_incCounter_same :
    (b.incCounter k).counter k = if b.counter k < counterMax k then b.counter k + 1 else b.counter k := by
  unfold incCounter
  dsimp only
  split
  next top => rw [if_neg (by omega)]
  next room =>
    rw [if_pos (by omega)]
    exact mgetD_mset_same ..

theorem counter_incCounter_ne {j : Nat} (ne : j ≠ k) : (b.incCounter k).counter j = b.counter j := by
  unfold incCounter
  dsimp only
  split
  · rfl
  · exact mgetD_mset_ne _ _ _ ne

theorem queue_incCounter (room : b.counter k < counterMax k) :
    (b.incCounter k).rack.queue = b.rack.queue ++ incrementWrites k (b.counter k) 0 ++ incrementWrites k (b.counter k) 1 := by
  simp [incCounter, Nat.not_le.2 room]

end

theorem carries_lt_cellCount (k : Nat) (p : Nat → Bool) : ((List.range (cellCount k - 1)).filter p).length < 3 := by
  have cells : cellCount k ≤ 3 := by
    unfold cellCount
    split <;> decide
  have := List.length_filter_le p (List.range (cellCount k - 1))
  rw [List.length_range] at this
  omega

/-- One cell a burst, each among the four groups of its copy. -/
theorem incrementWrites_cell {k v copy : Nat} {x : Burst} (h : x ∈ incrementWrites k v copy) :
    x.order = .record ∧ ∃ i w, i < 4 ∧ x.what = .data (8 * k + 4 * copy + i) [w] := by
  unfold incrementWrites at h
  dsimp only at h
  have few := carries_lt_cellCount k fun i => (List.range (i + 1)).all fun j => digit v j == 65535
  generalize List.length _ = carries at h few
  simp only [List.append_assoc, List.mem_append, List.mem_map, List.mem_reverse, List.mem_range, List.mem_singleton] at h
  obtain ⟨i, hi, rfl⟩ | rfl | ⟨i, hi, rfl⟩ := h
  · exact ⟨rfl, i, _, by omega, rfl⟩
  · exact ⟨rfl, carries, _, by omega, rfl⟩
  · exact ⟨rfl, i, _, by omega, rfl⟩

/-! ## Snapshots and the firmware area (R397, R398) -/

section
variable {b : Body} {g n : Nat}

theorem rackSnap_good (cell : g < 0xC0000) (good : b.rack.bad.contains g = false) :
    (b.rackSnap g .good).word A.RACK_RD_DATA = b.group g ∧ (b.rackSnap g .good).get F.RACK_RD_TAG_ECHO = g
    ∧ (b.rackSnap g .good).flag F.RACK_RD_TAG_UNCORRECTABLE = false ∧ (b.rackSnap g .good).rack = b.rack := by
  have read : b.groupRead g b.spikeAreaWord .good = (b.group g, false) := by
    have below : ¬ 0xC0000 ≤ g := by omega
    simp only [groupRead, good, below]
    rfl
  unfold rackSnap
  dsimp only
  rw [read]
  dsimp only
  refine ⟨?_, ?_, ?_, rfl⟩
  · simp only [putB_eq]
    iterate 3 rw [word_put_ne _ _ _ (by decide)]
    exact word_setWord ..
  · rw [get_put_same _ _ _ (by decide)]
    exact Nat.mod_eq_of_lt (Nat.lt_trans cell (by decide))
  · simp (disch := decide) [flag_eq, rread_rwrite_ne, rread_rwrite_same, b2n]

theorem rackFw_queued (some_ : 1 ≤ n) (few : n ≤ 64) (idle : b.get F.RACK_FW_STATUS_STATE ≠ 1) (above : 0x20000 ≤ g)
    (below : g + n ≤ 0xC0000) :
    ∃ l, l.length = n ∧ b.rackFw g n = (b.put F.RACK_FW_STATUS_STATE 1).rackPut .firmware (.data g l) := by
  unfold rackFw
  rw [if_neg (by simp only [Bool.or_eq_true, decide_eq_true_eq, beq_iff_eq]; omega)]
  exact ⟨_, by simp, rfl⟩

theorem rackFw_refused (idle : b.get F.RACK_FW_STATUS_STATE ≠ 1) (above : 0xC0000 < g + n) :
    b.rackFw g n = (b.put F.RACK_FW_STATUS_STATE 3).raise U.rack F.RACK_EVENTS_FW_REFUSED := by
  unfold rackFw
  rw [if_pos (by simp only [Bool.or_eq_true, decide_eq_true_eq]; omega), if_neg (by simpa using idle)]

end

/-- Settles O47. -/
theorem rackCommands : Obligations.RackCommands := by
  unfold Obligations.RackCommands
  refine ⟨⟨fun s mv x rest idle picked warm => ⟨fun enough => ?start, fun low => ?hold⟩, fun q x rest picked => pickBurst_first picked,
    fun s o g l running => ?done, fun s powered room => ?second, fun s actor g cell may good => ?snap,
    fun s actor g n act some_ few idle => ⟨fun above below => ?firmware, fun fits above => ?refused⟩⟩,
    fun b k => ⟨⟨counter_incCounter_same b k, fun j ne => counter_incCounter_ne b k ne⟩, queue_incCounter b k,
      fun v copy x h => incrementWrites_cell h⟩⟩
  case start => exact leadsAlone_of_eq rfl (burstStart_supplied idle picked warm enough) ⟨rfl, rfl, rfl⟩
  case hold =>
    refine leadsAlone_of_eq rfl (burstStart_held idle picked warm low) ⟨idle, rfl, ?_⟩
    exact flag_put_one _ _ rfl (by decide)
  case done =>
    refine leadsAlone_of_eq rfl (congrArg dbgOpen (rackDone_data running)) ?_
    have rack : ∀ c : Body, (c.burstData ⟨o, .data g l⟩ g l).dbgOpen.rack = (c.writeGroups g l).rack := fun c => by
      rw [rack_dbgOpen, rack_burstData]
    refine ⟨?_, fun n => ?_, fun n hn => ?_, fun firmware => mem_evs_dbgOpen (mem_evs_burstData firmware g l)⟩
    · rw [rack]; rfl
    · rw [group, rack]
      exact group_writeGroups _ g n l
    · rw [rack] at hn
      exact bad_writeGroups hn
  case second =>
    refine leadsAlone_of_eq rfl (b := s.body.incCounter 0) (by simp [powered]) ⟨?_, fun k hk => counter_incCounter_ne _ _ hk⟩
    rw [counter_incCounter_same, if_pos (by simpa [counterMax] using room)]
  case snap =>
    have index : g % 2 ^ 20 = g := Nat.mod_eq_of_lt (by omega)
    refine leadsAlone_select may ?_
    rw [index]
    have := rackSnap_good (b := wrote s.body actor A.RACK_RD_ADDR (g * 8)) cell (by simpa [wrote] using good)
    simpa [group, wrote] using this
  case firmware =>
    have index : g % 2 ^ 20 = g := Nat.mod_eq_of_lt (by omega)
    have count : n % 128 = n := Nat.mod_eq_of_lt (by omega)
    refine leadsAlone_command act ?_
    rw [index, count] at act ⊢
    rw [← get_wrote_ne s.body actor (a := A.RACK_FW_CMD) (g * 8 + n * 2 ^ 23) _ (by decide)] at idle
    obtain ⟨l, length, queued⟩ := rackFw_queued some_ few idle above below
    rw [queued]
    exact ⟨get_put_same _ _ _ (by decide), l, by simp [rackPut, wrote], length⟩
  case refused =>
    have index : g % 2 ^ 20 = g := Nat.mod_eq_of_lt fits
    have count : n % 128 = n := Nat.mod_eq_of_lt (by omega)
    refine leadsAlone_command act ?_
    rw [index, count] at act ⊢
    rw [rackFw_refused ?_ above]
    · refine ⟨?_, by simp [wrote], flag_put_one _ _ rfl (by decide)⟩
      rw [get_raise, get_put_ne _ _ _ _ (by decide), get_put_same _ _ _ (by decide)]
      rfl
    · rwa [get_wrote_ne _ _ _ _ (by decide)]

end Body

end Sys2Proof.Machine

/-! Resets (R387, R433 to R435): what the bursts that still end leave, what stage 0 of the boot leaves, and what each kind of reset keeps. -/

namespace Sys2Proof.Machine.Body

open Sys2Proof.Stmt

/-! ## Bursts that end before a reset (R387) -/

/-- The units but the Rack and the Spike. -/
def offBursts (b : Body) : Body := { b with regs := [], rb := {}, evs := [], rack := {}, spk := {} }

theorem offBursts_blind : Blind offBursts := fun _ _ _ _ => rfl

/-- Nothing has changed but the Rack, the Spike, registers and events. -/
abbrev BurstsKept (a b : Body) : Prop := Kept offBursts (fun _ => True) a b

/-- A record written into the Spike area, at the next place (R401). -/
def spkStored (s : Body) (r : SpkRec) : Body :=
  let s := match mget s.spk.rack s.spk.rackAt with
    | some o => if s.spk.sram.any (fun q => q.seq == o.seq) then s else s.spkDropped o.seq
    | none => s
  let k := s.spk.rackAt
  { s with spk := { s.spk with rack := mset s.spk.rack k r, rackAt := (k + 1) % 32768 }
           rack := { s.rack with bad := s.rack.bad.filter fun g => g < 0xC0000 + 8 * k || 0xC0000 + 8 * k + 8 ≤ g } }

/-- The records that a flush has left, fewer by those that one burst writes. -/
def spkWritten (s : Body) (left n : Nat) : Body :=
  let s := s.forEach ((s.spk.sram.drop (s.spk.unfl - n)).take n).reverse spkStored
  { s with spk := { s.spk with unfl := s.spk.unfl - n, flushing := some (left - n) } }

theorem spkWrite8_of_flushing {s : Body} {left : Nat} (flushing : s.spk.flushing = some left) :
    let n := min 8 (min left s.spk.unfl)
    let t := (s.spkWritten left n).inc F.RACK_COUNT_WRITES
    s.spkWrite8 = if left - n = 0 then t else t.rackPut (if t.spk.pfFlush then .powerFail else .spike) .spike := by
  unfold spkWrite8
  rw [flushing]
  rfl

section
variable {a b : Body}

theorem Kept.spkDropped (h : BurstsKept a b) (seq : Nat) : BurstsKept a (b.spkDropped seq) := h.hidden

theorem Kept.spkStored (h : BurstsKept a b) (r : SpkRec) : BurstsKept a (b.spkStored r) := by
  unfold Body.spkStored
  split
  · exact Kept.hidden (.ite _ h (h.spkDropped _))
  · exact h.hidden

theorem Kept.spkWritten (h : BurstsKept a b) (left n : Nat) : BurstsKept a (b.spkWritten left n) :=
  Kept.hidden (h.forEach _ _ fun r _ _ ht => ht.spkStored r)

theorem Kept.spkWrite8 (h : BurstsKept a b) : BurstsKept a b.spkWrite8 := by
  rcases flushing : b.spk.flushing with _ | left
  · rw [show b.spkWrite8 = b by unfold Body.spkWrite8; rw [flushing]]
    exact h
  · rw [spkWrite8_of_flushing flushing]
    have counted := (h.spkWritten left (min 8 (min left b.spk.unfl))).inc F.RACK_COUNT_WRITES trivial
    exact .ite _ counted counted.hidden

theorem Kept.burstFinish (h : BurstsKept a b) : BurstsKept a b.burstFinish := by
  unfold Body.burstFinish
  split
  · split
    · exact h.hidden
    · exact Kept.spkWrite8 h.hidden
  · exact h

theorem Kept.burstsFinish (n : Nat) (h : BurstsKept a b) : BurstsKept a (burstsFinish n b) := by
  induction n generalizing b with
  | zero => exact h
  | succ n ih =>
    unfold Body.burstsFinish
    refine .ite _ h ?_
    split
    · exact ih (Kept.burstFinish h.hidden)
    · exact h

end

/-! ## The units after a reset (R433) -/

/-- Every unit is OFF in the registers at reset. -/
theorem rread_resetRegs_unit {u : Nat} (h : u < 80) : rread resetRegs (F.UNIT_STATE_STATE u) = 0 := by
  revert u
  decide

theorem unit_eq_off {b : Body} {u : Nat} (h : b.get (F.UNIT_STATE_STATE u) = 0) : b.unit u = .off := by
  unfold unit
  rw [h]
  rfl

/-- What a reset makes of the units, where `k` are the units once the bursts have ended. -/
structure AfterReset (k b : Body) : Prop where
  slots : b.ciph = { slots := k.ciph.slots, revoked := k.ciph.revoked, hashes := k.ciph.hashes }
  flash : b.cf = { words := k.cf.words, bad := k.cf.bad }
  fuses : b.cfg.svnFuses = k.cfg.svnFuses
  media : b.mtl = mtlKept k.mtl
  ramekin : b.rk = {}
  cores : b.dx = {}
  boot : b.boot = { powered := true }
  units : ∀ u, u < 80 → b.get (F.UNIT_STATE_STATE u) = 0

theorem AfterReset.put {k b : Body} (h : AfterReset k b) (f : Fld) (v : Nat) (hf : 0x1280 ≤ f.addr) : AfterReset k (b.put f v) where
  slots := h.slots
  flash := h.flash
  fuses := h.fuses
  media := h.media
  ramekin := h.ramekin
  cores := h.cores
  boot := h.boot
  units u hu := by
    refine (get_setWord_ne b f.addr _ _ ?_).trans (h.units u hu)
    simp only [F.UNIT_STATE_STATE]
    omega

/-- The units at reset but what the Rack, the code flash, the media and the fuses hold, before the registers that are kept are shown. -/
def resetBase (k : Body) (power : Bool) : Body :=
  { regs := resetRegs
    cfg := { svnFuses := k.cfg.svnFuses }
    tier := { chunkMap := k.tier.chunkMap }
    mtl := mtlKept k.mtl
    ciph := { slots := k.ciph.slots, revoked := k.ciph.revoked, hashes := k.ciph.hashes }
    cf := { words := k.cf.words, bad := k.cf.bad }
    rack := { cells := k.rack.cells, bad := k.rack.bad, queue := if power then [] else k.rack.queue
              aonMv := if power then 0 else k.rack.aonMv }
    spk := { rack := k.spk.rack, rackAt := k.spk.rackAt }
    hob := { log := k.hob.log, pfDown := !power && k.hob.pfDown, thHold := !power && k.hob.thHold }
    boot := { powered := true }
    out := k.out, freeCtr := k.freeCtr }

theorem resetBase_afterReset (k : Body) (power : Bool) : AfterReset k (k.resetBase power) :=
  ⟨rfl, rfl, rfl, rfl, rfl, rfl, rfl, fun _ hu => rread_resetRegs_unit hu⟩

theorem resetBody_afterReset (s : Body) (power : Bool) : ∃ k, BurstsKept s k ∧ AfterReset k (s.resetBody power) := by
  have finished : BurstsKept s s.burstFinish := (Kept.refl offBursts_blind).burstFinish
  refine ⟨if power then s.burstFinish else Body.burstsFinish s.burstFinish.rack.queue.length s.burstFinish,
    .ite _ finished (finished.burstsFinish _), ?_⟩
  unfold resetBody
  dsimp only
  generalize (if power then s.burstFinish else Body.burstsFinish s.burstFinish.rack.queue.length s.burstFinish) = k
  have logged := (resetBase_afterReset k power).put F.HOB_LOG_NEXT (k.get F.HOB_LOG_NEXT) (by decide)
  cases power
  · exact ((logged.put F.HOB_STATUS_LAST_DOWN_CAUSE _ (by decide)).put F.TIME_STATUS_TREF_OK _ (by decide)).put F.BOOT_COUNT_SYSTEM _ (by decide)
  · exact logged

/-! ## Stage 0 of the boot (R430) -/

/-- The units but those whose records and counters the boot reads. -/
def offBoot (b : Body) : Body :=
  { b with regs := [], rb := {}, evs := [], freeCtr := 0, rack := {}, spk := {}, time := {}, twin := {}, cxl := {}
           cf := { b.cf with bad := [] }, ciph := { b.ciph with jobSeq := 0, table := [] }, boot := { b.boot with stage := 0 } }

theorem offBoot_blind : Blind offBoot := fun _ _ _ _ => rfl

/-- The registers but UNIT_STATE. -/
abbrev BeyondUnits (k : Nat) : Prop := k < 0x1000 ∨ 0x1280 ≤ k

/-- The power-fail record read at boot (R396). -/
def bootPfail (s : Body) : Body :=
  match s.recRead 0x40 8 with
  | none => s
  | some l =>
    let s' := (s.put F.PFAIL_STATUS_SOURCE (recWord l 2 % 256)).put F.PFAIL_STATUS_DETECT_FRAME (recWord l 1)
    (s'.put F.PFAIL_TIME_VAULT_US (nbits (recWord l 2) 16 32)).put F.PFAIL_TIME_TOTAL_US (nbits (recWord l 2) 48 16 + recWord l 3 * 2 ^ 16)

/-- The flash operation record read at boot (R383). -/
def bootFlash (s : Body) : Body :=
  match s.recRead 0x80 8 with
  | none => s
  | some l =>
    let x : Bool × Nat := (nbit (recWord l 1) 1, recWord l 1 / 4)
    if !nbit (recWord l 1) 0 then s
    else ((({ s with cf := { s.cf with bad := x :: s.cf.bad.filter (· != x) } }.put F.CF_INTERRUPTED_VALID 1).putB
      F.CF_INTERRUPTED_KIND x.1).put F.CF_INTERRUPTED_PAGE x.2).raise U.flash F.CF_EVENTS_INTERRUPTED_FOUND x.2

theorem bootRecords_eq (s : Body) : s.bootRecords = s.bootPfail.bootFlash := rfl

/-- Counters and rings read at boot, and the count of power cycles. -/
def bootCounters (s : Body) (power : Bool) (bad corrected : List Nat) : Body :=
  ((((((s.stageAt 0).bootBad bad).bootScan.addWrap F.RACK_COUNT_CORRECTED corrected.length).forEach bootCounts bootCount).when power
    (·.incCounter 1)).forEach [0, 1, 2, 3] bootRing)

/-- The first numbers of the sequences of jobs, beacons and lease requests. -/
def numbersBegin (s : Body) (job beacon req : Nat) : Body :=
  let s := { s with ciph := { s.ciph with jobSeq := job }, time := { s.time with beaconSeq := beacon } }
  s.leaseMod fun l => { l with nextReq := req }

/-- The sequences that the marks of rings 1 to 3 begin (R27). -/
def bootSequences (s : Body) : Body :=
  let j := s.bootMark 1
  let b := j.2.bootMark 2
  let t := b.2.bootMark 3
  t.2.numbersBegin j.1 b.1 t.1

theorem stage0_eq (s : Body) (power : Bool) (bad corrected : List Nat) :
    s.stage0 power bad corrected = (s.bootCounters power bad corrected).bootSequences.bootEpoch.bootPairs.bootUntrust.bootShutdown.bootRecords.bootShown := by
  unfold stage0 bootCounters bootSequences numbersBegin
  rfl

/-- Nothing has changed that the boot does not read from the Rack, and no unit has entered a state. -/
abbrev BootKept (a b : Body) : Prop := Kept offBoot BeyondUnits a b

section
variable {a b : Body}

theorem Kept.stageAt (h : BootKept a b) (n : Nat) : BootKept a (b.stageAt n) := Kept.put h.hidden _ _ (by decide)

theorem Kept.bootTime (h : BootKept a b) (n : Nat) (us : Option Nat) : BootKept a (b.bootTime n us) := by
  have own : BeyondUnits (F.BOOT_TIME_US n).addr := by simp only [F.BOOT_TIME_US]; omega
  unfold Body.bootTime
  split
  · exact h.put _ _ own
  · exact Kept.hidden (h.put (F.BOOT_TIME_US n) _ own)

theorem Kept.bootBad (h : BootKept a b) (bad : List Nat) : BootKept a (b.bootBad bad) :=
  Kept.forEach h.hidden _ _ fun g _ _ ht =>
    ((ht.put F.RACK_ERR_GROUP g (by decide)).incSat F.RACK_ERR_COUNT (by decide)).raise U.rack F.RACK_EVENTS_UNCORRECTABLE g (by decide)

theorem Kept.bootScan (h : BootKept a b) : BootKept a b.bootScan := Kept.addSat h.hidden _ _ (by decide)

theorem Kept.writeCounter (h : BootKept a b) (k v : Nat) : BootKept a (b.writeCounter k v) := h.hidden

theorem Kept.bootCount (h : BootKept a b) (k : Nat) : BootKept a (b.bootCount k) := by
  unfold Body.bootCount
  dsimp only
  generalize b.bootCounter k b.newestRec = r
  have counted : BootKept a (if r.2.1 || r.2.2 then b.writeCounter k r.1 else { b with rack := { b.rack with cnt := mput 0 b.rack.cnt k r.1 } }) :=
    .ite _ (h.writeCounter k r.1) h.hidden
  have carried := counted.when r.2.1 (·.raise U.rack F.RACK_EVENTS_CARRY_COMPLETED k) (counted.raise _ _ _ (by decide))
  exact carried.when _ _ (carried.raise _ _ _ (by decide))

theorem Kept.bootRing (h : BootKept a b) (r : Nat) : BootKept a (b.bootRing r) := by
  unfold Body.bootRing
  split
  · exact h.hidden
  · exact h

theorem Kept.bootMark (h : BootKept a b) (r : Nat) : BootKept a (b.bootMark r).2 := h.hidden

theorem Kept.bootEpoch (h : BootKept a b) : BootKept a b.bootEpoch := by
  unfold Body.bootEpoch
  split
  · exact h
  next l _ =>
    dsimp only
    refine Kept.put (Kept.put (Kept.put (b := (b.leaseMod _).resyncMod _) ?_ _ _ (by decide)) _ _ (by decide)) _ _ (by decide)
    exact h.hidden

theorem Kept.bootPairs (h : BootKept a b) : BootKept a b.bootPairs := by
  unfold Body.bootPairs
  exact Kept.put (b := b.leaseMod _) h.hidden _ _ (by decide)

theorem Kept.cipherShown (h : BootKept a b) : BootKept a b.cipherRegs := by
  unfold Body.cipherRegs
  simp only [putB_eq]
  iterate 9 refine Kept.put ?_ _ _ (by decide)
  exact h

theorem Kept.bootUntrust (h : BootKept a b) : BootKept a b.bootUntrust := by
  unfold Body.bootUntrust
  exact Kept.cipherShown (b := { b with ciph := { b.ciph with table := _ } }) h.hidden

theorem Kept.bootShutdown (h : BootKept a b) : BootKept a b.bootShutdown := by
  unfold Body.bootShutdown
  split
  · exact h
  · exact h.hidden

theorem Kept.bootPfail (h : BootKept a b) : BootKept a b.bootPfail := by
  unfold Body.bootPfail
  split
  · exact h
  · exact (((h.put _ _ (by decide)).put _ _ (by decide)).put _ _ (by decide)).put _ _ (by decide)

theorem Kept.bootFlash (h : BootKept a b) : BootKept a b.bootFlash := by
  unfold Body.bootFlash
  split
  · exact h
  next l _ =>
    have marked (x : Bool × Nat) : BootKept a { b with cf := { b.cf with bad := x :: b.cf.bad.filter (· != x) } } := h.hidden
    exact .ite _ h ((((marked _).put _ _ (by decide)).putB _ _ (by decide)).put _ _ (by decide) |>.raise _ _ _ (by decide))

theorem Kept.bootRecords (h : BootKept a b) : BootKept a b.bootRecords := by
  rw [bootRecords_eq]
  exact h.bootPfail.bootFlash

theorem Kept.bootShown (h : BootKept a b) : BootKept a b.bootShown := by
  unfold Body.bootShown
  refine (((Kept.forEach (.forEach (.forEach ((h.put _ _ (by decide)).put _ _ (by decide)) _ _ ?sp) _ _ ?md) _ _ ?rails).put
    F.SVN_FUSE_FUSED _ (by decide)).put _ _ (by decide)).put _ _ (by decide)
  case sp => exact fun c _ _ ht => ht.put _ _ (by simp only [BeyondUnits, F.SP_CH_TRAIN_RESULT]; omega)
  case md => exact fun c _ _ ht => ht.put _ _ (by simp only [BeyondUnits, F.MD_TRAIN_RESULT]; omega)
  case rails =>
    exact fun r _ _ ht => (ht.put _ _ (by simp only [BeyondUnits, F.HOB_RAIL_LIFE_FAIL_UP]; omega)).put _ _ (by
      simp only [BeyondUnits, F.HOB_RAIL_LIFE_PG_LOST]; omega)

theorem Kept.bootIncCounter (h : BootKept a b) (k : Nat) : BootKept a (b.incCounter k) := by
  unfold Body.incCounter
  exact .ite _ h h.hidden

theorem Kept.numbersBegin (h : BootKept a b) (job beacon req : Nat) : BootKept a (b.numbersBegin job beacon req) := h.hidden

theorem Kept.bootSequences (h : BootKept a b) : BootKept a b.bootSequences := by
  unfold Body.bootSequences
  exact (((h.bootMark 1).bootMark 2).bootMark 3).numbersBegin _ _ _

theorem Kept.bootCounters (h : BootKept a b) (power : Bool) (bad corrected : List Nat) : BootKept a (b.bootCounters power bad corrected) := by
  have read := ((h.stageAt 0).bootBad bad).bootScan.put F.RACK_COUNT_CORRECTED
    (((b.stageAt 0).bootBad bad).bootScan.get F.RACK_COUNT_CORRECTED + corrected.length) (by decide)
  have counted := read.forEach bootCounts Body.bootCount fun k _ _ ht => ht.bootCount k
  exact (counted.when power (·.incCounter 1) (counted.bootIncCounter 1)).forEach [0, 1, 2, 3] Body.bootRing fun r _ _ ht => ht.bootRing r

theorem Kept.stage0 (h : BootKept a b) (power : Bool) (bad corrected : List Nat) : BootKept a (b.stage0 power bad corrected) := by
  rw [stage0_eq]
  exact ((((((h.bootCounters power bad corrected).bootSequences).bootEpoch).bootPairs).bootUntrust).bootShutdown).bootRecords.bootShown

end

/-! ## Power-on and system resets, and a loss of power (R433, R444) -/

/-- What stage 0 leaves of a reset. -/
structure AfterBoot (s b : Body) : Prop where
  slots : b.ciph.slots = s.ciph.slots
  revoked : b.ciph.revoked = s.ciph.revoked
  hashes : b.ciph.hashes = s.ciph.hashes
  current : b.ciph.cur = {}
  next : b.ciph.next = {}
  flash : b.cf.words = s.cf.words
  fuses : b.cfg.svnFuses = s.cfg.svnFuses
  media : b.mtl.cells = s.mtl.cells
  ramekin : b.rk = {}
  cores : b.dx = {}
  powered : b.boot.powered = true
  units : ∀ u, u < 80 → b.unit u = .off

theorem unit_of_bootKept {a b : Body} (h : BootKept a b) {u : Nat} (hu : u < 80) : b.get (F.UNIT_STATE_STATE u) = a.get (F.UNIT_STATE_STATE u) := by
  have same := h.regs (F.UNIT_STATE_STATE u).addr (by simp only [BeyondUnits, F.UNIT_STATE_STATE]; omega)
  simp only [get, same]

theorem afterBoot_of_kept {s k r b : Body} (bursts : BurstsKept s k) (reset : AfterReset k r) (boot : BootKept r b) : AfterBoot s b where
  slots := (congrArg (·.ciph.slots) boot.units).trans ((congrArg (·.slots) reset.slots).trans (congrArg (·.ciph.slots) bursts.units))
  revoked := (congrArg (·.ciph.revoked) boot.units).trans ((congrArg (·.revoked) reset.slots).trans (congrArg (·.ciph.revoked) bursts.units))
  hashes := (congrArg (·.ciph.hashes) boot.units).trans ((congrArg (·.hashes) reset.slots).trans (congrArg (·.ciph.hashes) bursts.units))
  current := (congrArg (·.ciph.cur) boot.units).trans (congrArg (·.cur) reset.slots)
  next := (congrArg (·.ciph.next) boot.units).trans (congrArg (·.next) reset.slots)
  flash := (congrArg (·.cf.words) boot.units).trans ((congrArg (·.words) reset.flash).trans (congrArg (·.cf.words) bursts.units))
  fuses := (congrArg (·.cfg.svnFuses) boot.units).trans (reset.fuses.trans (congrArg (·.cfg.svnFuses) bursts.units))
  media := (congrArg (·.mtl.cells) boot.units).trans ((congrArg (·.cells) reset.media).trans (congrArg (·.mtl.cells) bursts.units))
  ramekin := (congrArg (·.rk) boot.units).trans reset.ramekin
  cores := (congrArg (·.dx) boot.units).trans reset.cores
  powered := (congrArg (·.boot.powered) boot.units).trans (congrArg (·.powered) reset.boot)
  units u hu := unit_eq_off ((unit_of_bootKept boot hu).trans (reset.units u hu))

/-- What the boot ROM shows once stage 0 has ended. -/
def bootNoted (s : Body) (seed mark last kind cause cycles : Nat) : Body :=
  let b := (s.put F.PASS_SEQ_SEED_SEQ seed).put F.PASS_MARK_MARK mark
  let b := (b.put F.PASS_SEQ_LAST_SEQ last).put F.BOOT_STATUS_LAST_RESET kind
  let b := (b.put F.BOOT_STATUS_SYS_CAUSE cause).postN U.spike .bootRecord cycles
  (b.bootTime 0 none).stageAt 1

theorem Kept.bootNoted {a b : Body} (h : BootKept a b) (seed mark last kind cause cycles : Nat) :
    BootKept a (b.bootNoted seed mark last kind cause cycles) := by
  have seeded := (h.put F.PASS_SEQ_SEED_SEQ seed (by decide)).put F.PASS_MARK_MARK mark (by decide)
  have shown := ((seeded.put F.PASS_SEQ_LAST_SEQ last (by decide)).put F.BOOT_STATUS_LAST_RESET kind (by decide)).put
    F.BOOT_STATUS_SYS_CAUSE cause (by decide)
  exact ((shown.post U.spike (.named .bootRecord) cycles).bootTime 0 none).stageAt 1

theorem bootNoted_shown (b : Body) (seed mark last kind cause cycles : Nat) :
    let t := b.bootNoted seed mark last kind cause cycles
    t.boot.stage = 1 ∧ t.get F.BOOT_STATUS_LAST_RESET = kind % 16 ∧ t.get F.BOOT_STATUS_SYS_CAUSE = cause % 16
    ∧ t.get F.BOOT_STATUS_STAGE = 1 := by
  refine ⟨rfl, ?_, ?_, ?_⟩
  all_goals simp (disch := decide) [bootNoted, stageAt, bootTime, fresh, get_eq, rread_rwrite_ne, rread_rwrite_same]
  all_goals rfl

end Sys2Proof.Machine.Body

namespace Sys2Proof.Machine.State

open Body

theorem body_reset_ (s : State) (power : Bool) (cause : Nat) (bad corrected : List Nat) :
    let m := ((s.body.resetBody power).stage0 power bad corrected).bootMark 0
    ∃ mark cycles, (s.reset_ power cause bad corrected).body
      = m.2.bootNoted m.1 mark s.pass.last (if power then 0 else 1) cause cycles := by
  unfold reset_ bootNoted
  exact ⟨_, _, rfl⟩

theorem afterBoot_reset_ (s : State) (power : Bool) (cause : Nat) (bad corrected : List Nat) :
    AfterBoot s.body (s.reset_ power cause bad corrected).body := by
  obtain ⟨k, bursts, reset⟩ := resetBody_afterReset s.body power
  obtain ⟨mark, cycles, noted⟩ := body_reset_ s power cause bad corrected
  rw [noted]
  exact afterBoot_of_kept bursts reset ((((Kept.refl offBoot_blind).stage0 power bad corrected).bootMark 0).bootNoted _ _ _ _ _ _)

theorem mark_storeMark (b : Body) (r v : Nat) : mgetD (b.storeMark r v).rack.mark r 0 = v := mgetD_mset_same ..

/-- PASS_SEQ goes on from the mark that the reset stores (R27). -/
theorem seed_reset_ (s : State) (power : Bool) (cause : Nat) (bad corrected : List Nat) :
    (s.reset_ power cause bad corrected).pass.seed = (s.reset_ power cause bad corrected).pass.mark := by
  have rack (b : Body) (seed mark last kind cause cycles : Nat) : (b.bootNoted seed mark last kind cause cycles).rack = b.rack := rfl
  obtain ⟨mark, cycles, noted⟩ := body_reset_ s power cause bad corrected
  have shown : (s.reset_ power cause bad corrected).pass.mark = mgetD (s.reset_ power cause bad corrected).body.rack.mark 0 0 := by
    unfold reset_
    dsimp only
  rw [shown, noted, rack]
  exact (mark_storeMark _ 0 _).symm

end Sys2Proof.Machine.State

namespace Sys2Proof.Machine.Body

open Sys2Proof.Stmt

/-! ## Requests for a system reset (R433) -/

theorem hobState_eq_of_get {a b : Body} (h : b.get F.HOB_STATUS_STATE = a.get F.HOB_STATUS_STATE) : b.hobState = a.hobState := by
  unfold hobState
  rw [h]

theorem sysReset_off {b : Body} (off : b.hobState = .off) (cause : Nat) :
    b.sysReset cause = { b with boot := { b.boot with resetReq := some cause } } := by
  unfold sysReset
  rw [off]

theorem hobState_setHob (b : Body) (st : HobState) : (b.setHob st).hobState = st := by
  have shown : (b.setHob st).get F.HOB_STATUS_STATE = hobCode st := by
    simp (disch := decide) only [setHob, hobLog, rackPut, inc_eq, postN_eq, get_eq, regs_put, post_regs, rread_rwrite_ne, rread_rwrite_same]
    cases st <;> rfl
  unfold hobState
  rw [shown]
  cases st <;> rfl

theorem hobState_put_of_apart (b : Body) (f : Fld) (v : Nat) (h : f.apart F.HOB_STATUS_STATE = true) : (b.put f v).hobState = b.hobState :=
  hobState_eq_of_get (get_put_ne b f _ v h)

/-- A request with the controller in service flushes first; the reset goes on once the rails are down. -/
theorem sysReset_up {b : Body} (up : b.hobState = .up) (persist : b.isOn U.persist = true) (cause : Nat) :
    (b.sysReset cause).hobState = .flushing ∧ (b.sysReset cause).hob.resetAfter = true ∧ (b.sysReset cause).boot.cause = cause := by
  have asked : b.sysReset cause = (({ b with hob := { b.hob with resetAfter := true, offWhy := .request }, boot := { b.boot with cause := cause } }
      : Body).setHob .flushing).put F.HOB_STATUS_LAST_DOWN_CAUSE 1 := by
    have up' (h : HobSt) (x : BootSt) : ({ b with hob := h, boot := x } : Body).hobState = .up := up
    have persist' (h : HobSt) (x : BootSt) : ({ b with hob := h, boot := x } : Body).isOn U.persist = true := persist
    unfold sysReset
    rw [up]
    simp only [hobOffReq, up', persist', if_true]
    rfl
  rw [asked, hobState_put_of_apart _ _ _ (by decide), hobState_setHob]
  exact ⟨rfl, rfl, rfl⟩

/-! ## A warm restart (R435) -/

/-- Every unit, but neither registers nor events. -/
def offRegs (b : Body) : Body := { b with regs := [], rb := {}, evs := [] }

theorem offRegs_blind : Blind offRegs := fun _ _ _ _ => rfl

/-- The registers of the cores alone are set. -/
theorem dxRegsReset_kept (s : Body) : Kept offRegs (Range 0x120000 0x130000) s s.dxRegsReset := by
  refine Kept.forEach (.refl offRegs_blind) _ _ fun c hc t ht => ?_
  have core : c < 16 := List.mem_range.1 hc
  refine Kept.forEach ((((ht.setWord _ _ ?ctl).setWord _ _ ?cmp).setWord _ _ ?evq).setWord _ _ ?status) _ _ fun i hi t ht => ht.setWord _ _ ?latch
  case ctl => simp only [Range, A.DX_CORE_CTL]; omega
  case cmp => simp only [Range, A.DX_MTIMECMP]; omega
  case evq => simp only [Range, A.EVQ_CTL]; omega
  case status => simp only [Range, A.EVQ_STATUS]; omega
  case latch =>
    have latch : i < 3 := by
      simp only [List.mem_cons, List.not_mem_nil, or_false] at hi
      omega
    simp only [Range, A.EVQ_LATCH]
    omega

theorem Kept.dx_of_offRegs {own : Nat → Prop} {a b : Body} (h : Kept offRegs own a b) : b.dx = a.dx := congrArg (·.dx) h.units
theorem Kept.boot_of_offRegs {own : Nat → Prop} {a b : Body} (h : Kept offRegs own a b) : b.boot = a.boot := congrArg (·.boot) h.units

theorem get_dxRegsReset (s : Body) (f : Fld) (h : f.addr < 0x120000 ∨ 0x130000 ≤ f.addr) : s.dxRegsReset.get f = s.get f := by
  have same := s.dxRegsReset_kept.regs f.addr (by omega)
  simp only [get, same]

theorem unit_dxRegsReset (s : Body) {u : Nat} (hu : u < 80) : s.dxRegsReset.unit u = s.unit u := by
  rw [unit, unit, get_dxRegsReset _ _ (by simp only [F.UNIT_STATE_STATE]; omega)]

/-- A warm restart that has been counted. -/
def warmCounted (b : Body) : Body :=
  (({ b with dx := { b.dx with warm := true } } : Body).inc F.BOOT_COUNT_WARM).put F.BOOT_STATUS_LAST_RESET 2

theorem unit_warmCounted (b : Body) {u : Nat} (hu : u < 80) : b.warmCounted.unit u = b.unit u := by
  have beyond (f : Fld) (v : Nat) (t : Body) (h : 0x1280 ≤ f.addr) : (t.put f v).unit u = t.unit u := by
    refine unit_put_of_apart t v u ?_
    have ne : (F.UNIT_STATE_STATE u).addr ≠ f.addr := by simp only [F.UNIT_STATE_STATE]; omega
    simp [Fld.apart, ne]
  rw [warmCounted, beyond _ _ _ (by decide), inc_eq, beyond _ _ _ (by decide)]
  rfl

theorem warmCounted_shown (b : Body) : b.warmCounted.get F.BOOT_STATUS_LAST_RESET = 2
    ∧ b.warmCounted.get F.BOOT_COUNT_WARM = (b.get F.BOOT_COUNT_WARM + 1) % 2 ^ 32 := by
  refine ⟨?_, ?_⟩
  · rw [warmCounted, get_put_same _ _ _ (by decide)]
    rfl
  · rw [warmCounted, get_put_ne _ _ _ _ (by decide), inc_eq, get_put_same _ _ _ (by decide)]
    rfl

/-- The cluster's registers set to their reset values, once the restart has been counted. -/
def warmBegun (b : Body) : Body := b.warmCounted.dxRegsReset

theorem warmRestart_eq {b : Body} (cold : b.dx.warm = false) :
    b.warmRestart = match b.unit U.dexith with
      | .on => (b.warmBegun.unitStop U.dexith).unitEnable U.dexith
      | .stopping => b.warmBegun.unitEnable U.dexith
      | .starting => b.warmBegun
      | .off => b.warmBegun.unitEnable U.dexith := by
  rw [← unit_warmCounted b (by decide : U.dexith < 80), warmRestart, if_neg (by simp [cold])]
  rfl

theorem warmBegun_shown (b : Body) : b.warmBegun.dx.warm = true ∧ b.warmBegun.boot = b.boot ∧ b.warmBegun.get F.BOOT_STATUS_LAST_RESET = 2
    ∧ b.warmBegun.get F.BOOT_COUNT_WARM = (b.get F.BOOT_COUNT_WARM + 1) % 2 ^ 32 ∧ ∀ u, u < 80 → b.warmBegun.unit u = b.unit u := by
  obtain ⟨kind, count⟩ := b.warmCounted_shown
  unfold warmBegun
  rw [b.warmCounted.dxRegsReset_kept.dx_of_offRegs, b.warmCounted.dxRegsReset_kept.boot_of_offRegs, get_dxRegsReset _ _ (by decide), get_dxRegsReset _ _ (by decide)]
  exact ⟨rfl, rfl, kind, count, fun u hu => (unit_dxRegsReset _ hu).trans (unit_warmCounted b hu)⟩

/-- A request for one unit leaves the cores, the boot's registers and the other units. -/
theorem unitEnable_keeps (b : Body) (u : Nat) : (b.unitEnable u).dx = b.dx
    ∧ (∀ f : Fld, f.addr ≠ (F.UNIT_STATE_STATE u).addr → (b.unitEnable u).get f = b.get f) := by
  have pend (p : Option Bool) : (b.unitPend u p).dx = b.dx
      ∧ ∀ f : Fld, f.addr ≠ (F.UNIT_STATE_STATE u).addr → (b.unitPend u p).get f = b.get f := by
    cases p
    all_goals exact ⟨rfl, fun f hf => (get_setWord_ne _ _ _ f hf).trans (get_setWord_ne _ _ _ f hf)⟩
  unfold unitEnable
  split
  · split
    · exact ⟨rfl, fun _ _ => rfl⟩
    · exact ⟨rfl, fun f hf => get_setWord_ne _ _ _ f hf⟩
  · exact pend none
  · exact ⟨rfl, fun _ _ => rfl⟩
  · exact pend (some true)

theorem unitStop_keeps (b : Body) (u : Nat) : (b.unitStop u).dx = b.dx
    ∧ (∀ f : Fld, f.addr ≠ (F.UNIT_STATE_STATE u).addr → (b.unitStop u).get f = b.get f) :=
  ⟨rfl, fun f hf => get_setWord_ne _ _ _ f hf⟩

/-- A warm restart leaves what the registers were once it had begun, but for the cluster's own state. -/
theorem warmRestart_keeps {b : Body} (cold : b.dx.warm = false) : b.warmRestart.dx = b.warmBegun.dx
    ∧ (∀ f : Fld, f.addr ≠ (F.UNIT_STATE_STATE U.dexith).addr → b.warmRestart.get f = b.warmBegun.get f) := by
  obtain ⟨cores, registers⟩ := unitEnable_keeps b.warmBegun U.dexith
  obtain ⟨stopCores, stopRegisters⟩ := unitStop_keeps b.warmBegun U.dexith
  obtain ⟨againCores, againRegisters⟩ := unitEnable_keeps (b.warmBegun.unitStop U.dexith) U.dexith
  rw [warmRestart_eq cold]
  split
  · exact ⟨againCores.trans stopCores, fun f hf => (againRegisters f hf).trans (stopRegisters f hf)⟩
  · exact ⟨cores, registers⟩
  · exact ⟨rfl, fun _ _ => rfl⟩
  · exact ⟨cores, registers⟩

theorem warmRestart_on {b : Body} (cold : b.dx.warm = false) (on : b.unit U.dexith = .on) : b.warmRestart.unit U.dexith = .stopping := by
  rw [warmRestart_eq cold, on]
  dsimp only
  rw [unitEnable_of_stopping (unit_unitStop ..), unit_unitPend, unit_unitStop]

theorem warmRestart_off {b : Body} (cold : b.dx.warm = false) (off : b.unit U.dexith = .off) (free : b.boot.held = false) :
    b.warmRestart.unit U.dexith = .starting := by
  obtain ⟨-, boot, -, -, units⟩ := b.warmBegun_shown
  rw [warmRestart_eq cold, off]
  dsimp only
  rw [unitEnable_of_off ((units _ (by decide)).trans off) (by rw [boot, free]), unit_unitStart]

/-- Settles O52. -/
theorem resetCommands : Obligations.ResetCommands := by
  unfold Obligations.ResetCommands
  refine ⟨fun s bad corrected unpowered => ⟨_, if_neg (by simp [unpowered]), rfl⟩, fun s => ?loss, ?kept, fun s off => ?pin,
    fun s actor act => ⟨fun off => ?asked, fun up persist => ?flush⟩, fun s actor act cold => ?warm⟩
  case loss =>
    obtain ⟨k, bursts, reset⟩ := resetBody_afterReset s.body true
    have words := (congrArg (·.words) reset.flash).trans (congrArg (·.cf.words) bursts.units)
    have bad := (congrArg (·.bad) reset.flash).trans (congrArg (·.cf.bad) bursts.units)
    have slots := (congrArg (·.slots) reset.slots).trans (congrArg (·.ciph.slots) bursts.units)
    have revoked := (congrArg (·.revoked) reset.slots).trans (congrArg (·.ciph.revoked) bursts.units)
    exact ⟨s.powerLost, rfl, rfl, words, bad, slots, revoked, congrArg (·.cur) reset.slots, rfl, rfl, rfl⟩
  case kept =>
    intro s power cause bad corrected t
    have after := s.afterBoot_reset_ power cause bad corrected
    obtain ⟨mark, cycles, noted⟩ := s.body_reset_ power cause bad corrected
    have shown := bootNoted_shown (((s.body.resetBody power).stage0 power bad corrected).bootMark 0).2
      (((s.body.resetBody power).stage0 power bad corrected).bootMark 0).1 mark s.pass.last (if power then 0 else 1) cause cycles
    rw [← noted] at shown
    obtain ⟨stage, kind, why, shownStage⟩ := shown
    have kind' : (if power then 0 else 1) % 16 = if power then 0 else 1 := by cases power <;> rfl
    exact ⟨after.powered, stage, kind.trans kind', why, shownStage, after.slots, after.revoked, after.hashes, after.current, after.next,
      after.flash, after.fuses, after.media, after.ramekin, after.cores, rfl, s.seed_reset_ power cause bad corrected, after.units⟩
  case pin => exact leads_of_eq rfl (sysReset_off off 1) rfl
  case asked =>
    refine leads_command act ?_
    rw [sysReset_off ((hobState_eq_of_get (get_wrote_ne _ _ _ _ (by decide))).trans off)]
  case flush =>
    refine leads_command act ?_
    have persist' : (wrote s.body actor A.BOOT_CTL 1).isOn U.persist = true := by rwa [isOn, wrote, unit_judge_ne _ _ _ _ (by decide)]
    obtain ⟨flushing, after, cause⟩ := sysReset_up ((hobState_eq_of_get (get_wrote_ne _ _ _ _ (by decide))).trans up) persist' 2
    exact ⟨flushing, after, cause⟩
  case warm =>
    have cold' : (wrote s.body actor A.BOOT_CTL 2).dx.warm = false := by simpa [wrote] using cold
    have units (u : Nat) (hu : u < 80) : (wrote s.body actor A.BOOT_CTL 2).unit u = s.body.unit u :=
      unit_judge_ne _ _ _ _ (by simp only [F.UNIT_STATE_STATE, A.BOOT_CTL]; omega)
    obtain ⟨cores, registers⟩ := warmRestart_keeps cold'
    obtain ⟨warm, -, kind, count, begun⟩ := warmBegun_shown (wrote s.body actor A.BOOT_CTL 2)
    refine leads_command act ⟨(congrArg (·.warm) cores).trans warm, (registers _ (by decide)).trans kind, ?_,
      fun on => warmRestart_on cold' ((units _ (by decide)).trans on),
      fun off free => warmRestart_off cold' ((units _ (by decide)).trans off) (by simpa [wrote] using free), fun u hu ne => ?_⟩
    · rw [registers _ (by decide), count, get_wrote_ne _ _ _ _ (by decide)]
    · rw [← units u hu, ← begun u hu, unit, unit, registers _ (by simp only [F.UNIT_STATE_STATE]; omega)]

end Sys2Proof.Machine.Body

/-! The commands of the Pass (R26, R27): each is the model's own step under its conditions, and `finish` keeps the mark. -/

namespace Sys2Proof.Machine.State

section
variable {s : State}

theorem passOverflow_presented {src : Nat} (lost : mgetD s.pass.lost src 0 ≠ 0)
    (few : ((mgetD s.pass.bufs src []).filter (!s.body.fatalClass ·)).length < 14) :
    execPassOverflow src s = .next (finish { s with
      pass := { s.pass with lost := merase s.pass.lost src }, body := s.body.postN src .passOverflow (mgetD s.pass.lost src 0) }) := by
  unfold execPassOverflow
  exact if_neg (by simp only [Bool.or_eq_true, decide_eq_true_eq]; omega)

theorem passMarkStore_begins (free : s.pass.storing = none) (ready : s.pass.ready = true) (due : s.pass.mark + 2 ^ 31 ≤ s.pass.last) :
    execPassMarkStore s = .next (finish { s with
      pass := { s.pass with storing := some (s.pass.mark + 2 ^ 31) }, body := s.body.storeMark 0 (s.pass.mark + 2 ^ 31) }) := by
  unfold execPassMarkStore
  exact if_neg (by simp [free, ready]; omega)

theorem passMarkStall_begins (going : s.pass.stall = false) (ready : s.pass.ready = true) (due : s.pass.mark + 2 ^ 32 - 1 ≤ s.pass.last) :
    execPassMarkStall s = .next (finish { s with
      pass := { s.pass with stall := true }
      body := (s.body.put F.PASS_STATUS_MARK_STALL 1).raise U.pass F.PASS_STATUS_MARK_STALLED }) := by
  unfold execPassMarkStall
  exact if_neg (by simp only [going, ready, Bool.not_true, Bool.or_self, Bool.false_or, decide_eq_true_eq, Nat.not_lt]; exact due)

theorem passMarkStoreDone_ends {v : Nat} (storing : s.pass.storing = some v) (written : s.body.ringBusy 0 = false) :
    execPassMarkStoreDone s = .next (finish { s with
      pass := { s.pass with mark := v, storing := none, ready := true, stall := false }
      body := (s.body.put F.PASS_MARK_MARK v).put F.PASS_STATUS_MARK_STALL 0 }) := by
  simp only [execPassMarkStoreDone, storing, written, Bool.false_eq_true, if_false]

end

/-- Settles O6. -/
theorem passCommands : Obligations.PassCommands := by
  unfold Obligations.PassCommands
  refine ⟨fun s src lost few => passOverflow_presented lost few, fun s free ready due => ⟨_, passMarkStore_begins free ready due, ?_⟩,
    fun s going ready due => ⟨_, passMarkStall_begins going ready due, ?_⟩,
    fun s v storing written => ⟨_, passMarkStoreDone_ends storing written, ?_⟩⟩
  · exact ⟨(finish_sameMark _).storing, (finish_sameMark _).mark⟩
  · exact ⟨(finish_sameMark _).stall, (finish_sameMark _).mark⟩
  · exact ⟨(finish_sameMark _).mark, (finish_sameMark _).storing, (finish_sameMark _).ready, (finish_sameMark _).stall⟩

end Sys2Proof.Machine.State

/-! The machine at reset (R433): its registers are the short list of reset values. -/

namespace Sys2Proof.Machine.Body

theorem resetRegs_compare {k : Nat} (hk : k < 16) : rread resetRegs (F.DX_MTIMECMP_CMP k) = 2 ^ 64 - 1 := by
  revert k
  decide

theorem resetRegs_run {k : Nat} (hk : k < 16) : rread resetRegs (F.DX_CORE_CTL_RUN k) = if k = 0 then 1 else 0 := by
  revert k
  decide

/-- Settles O55. -/
theorem resetValues : Obligations.ResetValues := by
  unfold Obligations.ResetValues
  exact ⟨by decide, by decide, by decide, by decide, by decide, by decide, by decide, by decide, fun _ hk => resetRegs_compare hk,
    fun _ hk => resetRegs_run hk, fun _ hu => unit_eq_off (rread_resetRegs_unit hu), by decide, by decide, rfl, rfl, by decide, rfl, rfl, rfl⟩

end Sys2Proof.Machine.Body

/-! The time unit (R36 to R55, R460): what its references, its pulses, its beacons and the discipline make of the registers and of the state
of R48. -/

namespace Sys2Proof.Machine.Body

open Sys2Proof.Stmt

theorem when_pos {s : Body} {c : Bool} {f : Body → Body} (h : c = true) : s.when c f = f s := by
  rw [h, when_true]

/-! ## What showing the time leaves (R47, R49, R56) -/

@[simp] theorem time_timeRegs (s : Body) : s.timeRegs.time = s.time := (rfl)
@[simp] theorem evs_timeRegs (s : Body) : s.timeRegs.evs = s.evs := (rfl)
@[simp] theorem time_setSync (s : Body) (st : SyncState) : (s.setSync st).time = { s.time with sync := st, lockRun := 0 } := (rfl)
@[simp] theorem evs_setSync (s : Body) (st : SyncState) : (s.setSync st).evs = s.evs := (rfl)

theorem get_timeRegs (s : Body) (f : Fld) (state : F.TIME_STATUS_SYNC_STATE.apart f = true) (error : F.HOLDOVER_EST_ERROR.apart f = true)
    (elapsed : F.HOLDOVER_EST_ELAPSED_MS.apart f = true) (mtime : F.DX_MTIME_MTIME.apart f = true) : s.timeRegs.get f = s.get f := by
  unfold timeRegs
  dsimp only
  rw [get_put_ne _ _ _ _ mtime, get_put_ne _ _ _ _ elapsed, get_put_ne _ _ _ _ error, get_put_ne _ _ _ _ state]

theorem freeze_setSync (s : Body) (st : SyncState) : (s.setSync st).get F.TIME_CTL_FREEZE = s.get F.TIME_CTL_FREEZE :=
  get_timeRegs _ _ (by decide) (by decide) (by decide) (by decide)

/-! ## References (R39, R42, R44) -/

/-- PTP is shown healthy, with the clock that it follows. -/
def PtpShown (clock : Word) (b : Body) : Prop := b.flag F.TIME_STATUS_PTP_OK = true ∧ b.word A.PTP_PARENT = clock

section
variable {clock : Word} {b : Body}

theorem PtpShown.put (h : PtpShown clock b) (f : Fld) (v : Nat) (status : f.apart F.TIME_STATUS_PTP_OK = true) (parent : A.PTP_PARENT ≠ f.addr) :
    PtpShown clock (b.put f v) :=
  ⟨(flag_put_of_apart b v status).trans h.1, (word_put_ne b f v parent).trans h.2⟩

theorem PtpShown.of_regs {c : Body} (h : PtpShown clock b) (regs : c.regs = b.regs) : PtpShown clock c := by
  unfold PtpShown flag get word at *
  rwa [regs]

theorem PtpShown.setSync (h : PtpShown clock b) (st : SyncState) : PtpShown clock (b.setSync st) := by
  unfold Body.setSync timeRegs
  refine .put (.put (.put (.put (h.of_regs ?_) _ _ ?_ ?_) _ _ ?_ ?_) _ _ ?_ ?_) _ _ ?_ ?_
  · rfl
  all_goals decide

theorem PtpShown.counterSet (h : PtpShown clock b) (t : Nat) : PtpShown clock (b.counterSet t) := by
  unfold Body.counterSet
  split
  · exact h
  · exact .setSync (h.of_regs rfl) _

theorem PtpShown.phaseMeasured (h : PtpShown clock b) (off : Int) : PtpShown clock (b.phaseMeasured off) := by
  have noted : PtpShown clock { b with time := { b.time with lastOff := off } } := h.of_regs rfl
  unfold Body.phaseMeasured
  dsimp only
  split
  · exact .of_regs ((noted.setSync .acquiring).put F.TIME_EVENTS_ALIGN_LOST 1 (by decide) (by decide)) rfl
  · exact noted

theorem PtpShown.measured (h : PtpShown clock b) (off : Int) :
    PtpShown clock ((b.putOffset off).when (b.get F.TIME_STATUS_SOURCE == 2) (·.phaseMeasured off)) := by
  have offset : PtpShown clock (b.putOffset off) := h.put _ _ (by decide) (by decide)
  unfold Body.when
  split
  · exact offset.phaseMeasured off
  · exact offset

theorem word_put_whole (b : Body) (f : Fld) (x : Word) (lo : f.lo = 0) (w : f.w = 64) : (b.put f x.toNat).word f.addr = x := by
  rw [put, word_setWord]
  apply BitVec.eq_of_getLsbD_eq
  intro i hi
  rw [Fld.insert_bit _ _ _ _ hi, lo, w]
  simp [hi, BitVec.testBit_toNat]

theorem ptpMessage_shown {port transport domain : Nat} (clock : Word) (time : Option Nat) (off : Option Int)
    (sel : port = b.get F.PTP_CFG_PORT_SEL) (good : port ≤ 7 ∨ port = 15) (means : transport = b.get F.PTP_CFG_TRANSPORT)
    (known : transport ≤ 2) (inDomain : domain = min 127 (b.get F.PTP_CFG_DOMAIN_NUM)) :
    PtpShown clock (b.ptpMessage port transport domain clock true time off) := by
  have shown : PtpShown clock ((b.put F.TIME_STATUS_PTP_OK 1).put F.PTP_PARENT_CLOCK_ID clock.toNat) :=
    ⟨(flag_put_of_apart _ _ (by decide)).trans (flag_put_one _ _ rfl (by decide)), word_put_whole _ F.PTP_PARENT_CLOCK_ID clock rfl rfl⟩
  unfold ptpMessage
  rw [if_neg (by simp [← sel, ← means, ← inDomain]; omega)]
  dsimp only
  split
  · exact shown.counterSet _
  · split
    · exact shown.counterSet _
    · exact shown.measured _
  · exact shown.measured _
  · exact shown

end

/-- Settles O15. -/
theorem referenceCommands : Obligations.ReferenceCommands := by
  unfold Obligations.ReferenceCommands
  refine ⟨fun s ok => leadsAlone_of_eq rfl (when_pos ok) ⟨?_, flag_put_one _ _ rfl (by decide), mem_evs_raise ..⟩,
    fun s => ⟨_, rfl, flag_put_one _ _ rfl (by decide), rfl⟩,
    fun s port transport domain clock time off sel good means known inDomain => ⟨_, rfl, ptpMessage_shown clock time off sel good means known inDomain⟩,
    fun s ok => leadsAlone_of_eq rfl (when_pos ok) ⟨?_, mem_evs_raise ..⟩, ?edge,
    fun s missing ok three => leadsAlone_of_eq rfl (when_pos (by simp [ok, three])) ⟨?_, mem_evs_raise ..⟩⟩
  · exact (flag_put_of_apart _ _ (by decide)).trans (flag_put_zero _ _ rfl (by decide))
  · exact (flag_put_of_apart _ _ (by decide)).trans ((flag_put_of_apart _ _ (by decide)).trans (flag_put_zero _ _ rfl (by decide)))
  · intro s late inWindow
    refine ⟨fun inside => leadsAlone_of_eq rfl (if_pos (by simpa [inWindow] using inside)) ⟨?_, rfl, ?_⟩,
      fun outside => leadsAlone_of_eq rfl (if_neg (by simpa [inWindow] using outside)) ⟨rfl, ?_⟩⟩
    · exact (flag_put_of_apart _ _ (by decide)).trans (flag_put_one _ _ rfl (by decide))
    · rw [inc_eq, get_put_same _ _ _ (by decide), get_put_ne _ _ _ _ (by decide)]
      rfl
    · rw [inc_eq, get_put_same _ _ _ (by decide)]
      rfl
  · exact (flag_put_of_apart _ _ (by decide)).trans (flag_put_zero _ _ rfl (by decide))

/-! ## Pulses and beacons (R43, R52 to R55) -/

@[simp] theorem pulseMs_beaconSend (s : Body) (leaving : Bool) : (s.beaconSend leaving).time.pulseMs = s.time.pulseMs := by
  unfold beaconSend beaconSeqNext
  dsimp only
  split
  · rfl
  · split <;> rfl

theorem pulseMs_when (s : Body) (c : Bool) (f : Body → Body) (h : ∀ t : Body, (f t).time.pulseMs = t.time.pulseMs) :
    (s.when c f).time.pulseMs = s.time.pulseMs := by
  cases c
  · rfl
  · exact h s

/-- The milliseconds that a pulse takes: the whole ones before the end of the frame in progress (R43). -/
def pulseEnd (s : Body) : Nat := (s.time.tai + s.periodNs - 1 - s.get F.EPOCH_TIME_E) / 1000000

theorem pulseMs_epochPulse {s : Body} (set : s.time.sync ≠ .unset) (numbered : s.time.numbered = true) (due : s.time.pulseMs < s.pulseEnd) :
    s.epochPulse.time.pulseMs = s.pulseEnd := by
  have taken (t : Body) (drive : Bool) (out : Out) (h : t.time.pulseMs = s.pulseEnd) :
      (t.when drive (·.send out)).time.pulseMs = s.pulseEnd := (pulseMs_when t drive (·.send out) fun _ => rfl).trans h
  unfold epochPulse
  rw [if_neg (by unfold pulseEnd at due; simp [set, numbered]; omega)]
  dsimp only
  have driven := taken { s with time := { s.time with pulseMs := s.pulseEnd } } (s.flag F.TIME_CTL_TSYNC_OUT_EN && s.syncState != .unset && s.syncState != .adrift)
    (.tsyncOut (s.get F.TSYNC_CFG_OUT_ADVANCE)) rfl
  split
  · exact (pulseMs_when _ _ _ fun t => pulseMs_beaconSend t false).trans driven
  · split
    · exact (pulseMs_beaconSend _ true).trans driven
    · exact driven

/-- The units once a beacon has been accepted (R54). -/
def beaconTaken (b : Body) (m : BeaconMsg) : Body :=
  { b.inc F.BEACON_RX_ACCEPTED with
    time := { (b.inc F.BEACON_RX_ACCEPTED).time with lastSeq := mset (b.inc F.BEACON_RX_ACCEPTED).time.lastSeq m.member m.seq } }

section
variable {b : Body} {m : BeaconMsg} {src : Nat}

/-- An accepted beacon of a member that is no peer yet makes it one (R54, R55). -/
theorem beaconRx_newPeer (ok : b.beaconOk m true = true) (own : b.flag F.TIME_CTL_SRC_BEACON_EN = false) (stays : nbit m.flags 0 = false)
    (other : m.member ≠ b.get F.DOMAIN_ID_MEMBER) (new : mget b.time.peers m.member = none) :
    ∃ p : Peer, p.addr = src ∧ p.frame = m.frame ∧ p.sync = m.sync ∧ p.role = m.role ∧ (b.beaconRx m src true).time
      = { b.time with lastSeq := mset b.time.lastSeq m.member m.seq, peers := mset b.time.peers m.member p } := by
  have disabled : (b.beaconTaken m).flag F.TIME_CTL_SRC_BEACON_EN = false := (flag_put_of_apart b _ (by decide)).trans own
  have member : (b.beaconTaken m).get F.DOMAIN_ID_MEMBER = b.get F.DOMAIN_ID_MEMBER := get_put_ne b _ _ _ (by decide)
  unfold beaconTaken at disabled member
  unfold beaconRx
  rw [if_neg (by simp [ok])]
  dsimp only
  rw [disabled, when_false, member]
  simp only [new, inc_eq, put_time, beq_eq_false_iff_ne.2 other, stays, Bool.false_eq_true, if_false]
  exact ⟨_, rfl, rfl, rfl, rfl, rfl⟩

theorem peerLost_due {k : Nat} {p : Peer} (known : mget b.time.peers k = some p) (due : p.at_ + 3 * b.beaconInterval ≤ b.time.pulseMs) :
    b.peerLost k = ({ b with time := { b.time with peers := merase b.time.peers k } }.peerRegs).postN U.time .peerLost k := by
  simp [peerLost, peerDrop, known, due]

end

/-! ## The discipline (R48, R49, R460) -/

section
variable {b : Body} {off : Int}

theorem freeze_putOffset (b : Body) (off : Int) : (b.putOffset off).flag F.TIME_CTL_FREEZE = b.flag F.TIME_CTL_FREEZE :=
  flag_put_of_apart b _ (by decide)

theorem lastOff_phaseMeasured (b : Body) (off : Int) : (b.phaseMeasured off).time.lastOff = off := by
  unfold phaseMeasured
  dsimp only
  split <;> rfl

theorem phaseMeasured_far (locked : b.time.sync = .locked) (free : b.flag F.TIME_CTL_FREEZE = false) (far : 320 < off.natAbs) :
    (b.phaseMeasured off).time.sync = .acquiring := by
  unfold phaseMeasured
  dsimp only
  rw [if_pos]
  · rfl
  · simpa [locked, far, flag_eq] using free

theorem phaseMeasured_near (locked : b.time.sync = .locked) (near : off.natAbs ≤ 320) : (b.phaseMeasured off).time.sync = .locked := by
  unfold phaseMeasured
  dsimp only
  rw [if_neg]
  · exact locked
  · simp only [Bool.and_eq_true, decide_eq_true_eq]
    omega

theorem referenceLost_locked (locked : b.time.sync = .locked) : b.referenceLost = b.holdoverEnter := by
  unfold referenceLost
  rw [locked]

theorem referenceLost_acquiring (acquiring : b.time.sync = .acquiring) :
    b.referenceLost = (b.setSync .adrift).raise U.time F.TIME_EVENTS_ALIGN_LOST := by
  unfold referenceLost
  rw [acquiring]

theorem referenceRegained_holdover (free : b.flag F.TIME_CTL_FREEZE = false) (hold : b.time.sync = .holdover) :
    b.referenceRegained off = b.setSync (if off.natAbs ≤ 240 then .locked else .acquiring) := by
  unfold referenceRegained
  rw [if_neg (by simp [free]), hold]

theorem referenceRegained_adrift (free : b.flag F.TIME_CTL_FREEZE = false) (adrift : b.time.sync = .adrift) :
    b.referenceRegained off = b.setSync .acquiring := by
  unfold referenceRegained
  rw [if_neg (by simp [free]), adrift]

theorem freeze_holdoverEnter (b : Body) : b.holdoverEnter.flag F.TIME_CTL_FREEZE = b.flag F.TIME_CTL_FREEZE := by
  unfold holdoverEnter flag
  rw [get_raise, get_put_ne _ _ _ _ (by decide), freeze_setSync]
  rfl

/-- A write of one field of TIME_CTL is judged as the word with that field replaced. -/
theorem timeCtl_eq (b : Body) (actor : Actor) (v : Nat) :
    b.timeCtl actor F.TIME_CTL_FREEZE v = wrote b actor A.TIME_CTL (bitWord b F.TIME_CTL_FREEZE v) := by
  rw [wrote, bitWord, BitVec.ofNat_toNat, BitVec.setWidth_eq]
  rfl

end

/-- Settles O16. -/
theorem beaconAndSyncCommands : Obligations.BeaconAndSyncCommands := by
  unfold Obligations.BeaconAndSyncCommands
  refine ⟨⟨fun s set numbered due => ⟨_, rfl, pulseMs_epochPulse set numbered due⟩, fun s m src ok own stays other new => ?beacon,
    fun s k p known due => leadsAlone_of_eq rfl (peerLost_due known due) ⟨mget_merase_same .., mem_evs_post ..⟩⟩,
    fun s off on source => ?phase, fun s acquiring ready free => leadsAlone_of_eq rfl (when_pos (by simp [acquiring, ready, free])) rfl,
    fun s none_ on => ⟨fun locked => ?lost, fun acquiring => ?adrift⟩, fun s hold exceeded => ?exceeded,
    fun s off some_ on free => ⟨fun hold near => ?near, fun hold far => ?far, fun adrift => ?back⟩, fun s actor frozen locked => ?freeze,
    fun s actor was clear => ?thaw⟩
  case beacon =>
    obtain ⟨p, addr, frame, sync, role, made⟩ := beaconRx_newPeer (src := src) ok own stays other new
    refine ⟨_, rfl, ?_⟩
    show mget (s.body.beaconRx m src true).time.lastSeq m.member = _ ∧ (mget (s.body.beaconRx m src true).time.peers m.member).map _ = _
    rw [made, mget_mset_same, mget_mset_same, Option.map_some, addr, frame, sync, role]
    exact ⟨rfl, rfl⟩
  case phase =>
    refine leadsAlone_of_eq rfl (when_pos (by simpa [on] using source)) ⟨lastOff_phaseMeasured .., fun locked free far => ?_,
      fun locked near => phaseMeasured_near locked near⟩
    exact phaseMeasured_far locked ((freeze_putOffset ..).trans free) far
  case lost => exact leadsAlone_of_eq rfl ((when_pos (by simp [none_, on])).trans (referenceLost_locked locked)) ⟨rfl, rfl, rfl⟩
  case adrift => exact leadsAlone_of_eq rfl ((when_pos (by simp [none_, on])).trans (referenceLost_acquiring acquiring)) rfl
  case exceeded => exact leadsAlone_of_eq rfl (when_pos (by simp [hold, exceeded])) ⟨rfl, mem_evs_raise ..⟩
  case near =>
    refine leadsAlone_of_eq rfl ((when_pos (by simp [some_, on])).trans (referenceRegained_holdover free hold)) ?_
    rw [time_setSync, if_pos near]
  case far =>
    refine leadsAlone_of_eq rfl ((when_pos (by simp [some_, on])).trans (referenceRegained_holdover free hold)) ?_
    rw [time_setSync, if_neg (by omega)]
  case back => exact leadsAlone_of_eq rfl ((when_pos (by simp [some_, on])).trans (referenceRegained_adrift free adrift)) rfl
  case freeze =>
    have judged := timeCtl_eq s.body actor 1
    have locked' : (s.body.timeCtl actor F.TIME_CTL_FREEZE 1).time.sync = .locked := by simpa [judged, wrote] using locked
    rw [← judged] at frozen
    exact leadsAlone_of_eq rfl ((when_pos frozen).trans (referenceLost_locked locked')) ⟨rfl, (freeze_holdoverEnter _).trans frozen⟩
  case thaw =>
    rw [← timeCtl_eq] at clear
    exact leadsAlone_of_eq rfl (if_pos (by simp [was, clear])) ⟨rfl, clear⟩

end Sys2Proof.Machine.Body

/-! Placement (R86 to R101, R168, R462): counters that are halved, what a purge drops, the pins of a set and the snapshot of a translation. -/

namespace Sys2Proof.Machine

/-! ## Counters kept in canonical form -/

theorem mget_of_wfFrom {α : Type} [DecidableEq α] {d : Nat → α} {m : SMap α} {lo k : Nat} (wf : Memory.wfFrom d lo m = true) (below : k < lo) :
    mget m k = none := by
  induction m generalizing lo with
  | nil => rfl
  | cons p m ih =>
    obtain ⟨a, x⟩ := p
    simp only [Memory.wfFrom, Bool.and_eq_true, decide_eq_true_eq] at wf
    obtain ⟨⟨lower, -⟩, rest⟩ := wf
    rw [mget, if_neg (by omega)]
    exact ih rest (by omega)

/-- Every counter of a map halved; one that comes to zero is not listed. -/
def halved (m : SMap Nat) : SMap Nat := (m.map fun p => (p.1, p.2 / 2)).filter (·.2 != 0)

theorem mgetD_halved_of_wfFrom {m : SMap Nat} {lo : Nat} (wf : Memory.wfFrom (fun _ => 0) lo m = true) (k : Nat) :
    mgetD (halved m) k 0 = mgetD m k 0 / 2 := by
  induction m generalizing lo with
  | nil => exact (Nat.zero_div 2).symm
  | cons p m ih =>
    obtain ⟨a, x⟩ := p
    simp only [Memory.wfFrom, Bool.and_eq_true] at wf
    obtain ⟨-, rest⟩ := wf
    have tail := ih rest
    have unlisted : mget m a = none := mget_of_wfFrom rest (by omega)
    unfold halved mgetD at *
    rw [List.map_cons, List.filter_cons]
    split
    · rw [mget, mget]
      split
      · rfl
      · exact tail
    next zero =>
      rw [mget]
      split
      next same =>
        subst same
        have zero' : x / 2 = 0 := by simpa using zero
        rw [tail, unlisted, Option.getD_some, zero']
        rfl
      · exact tail

theorem mgetD_halved {m : SMap Nat} (wf : Memory.wf (fun _ => 0) m = true) (k : Nat) : mgetD (halved m) k 0 = mgetD m k 0 / 2 :=
  mgetD_halved_of_wfFrom wf k

namespace Body

open Sys2Proof.Stmt

/-! ## A purge (R462) -/

/-- One partition shown (R99, R100). -/
def partShown (s : Body) (p : PartDef) : Body :=
  let old := s.get (F.PART_ATTR_STATE p.id)
  let st := s.partState p
  let s := (s.put (F.PART_ATTR_STATE p.id) st.1).put (F.PART_ATTR_CAUSE p.id) st.2
  let s := s.put (F.PART_SIZE_CHUNKS_MAPPED p.id) (if st.1 = 1 then p.size else 0)
  if st.1 = 2 && old != 2 then s.raise U.mtl F.PLACE_EVENTS_PART_OFFLINE p.id else s

/-- The capacity and what of it is free. -/
def capacityShown (s : Body) : Body :=
  (s.put F.PART_CAPACITY_CHUNKS s.capChunks).put F.PART_CAPACITY_FREE (s.capChunks - s.tier.chunkMap.length)

theorem partShow_eq (s : Body) : s.partShow = (s.forEach s.cfg.img.qui.parts partShown).capacityShown := rfl

theorem mem_evs_partShown {s : Body} {e : PassEvent} (p : PartDef) (h : e ∈ s.evs) : e ∈ (s.partShown p).evs := by
  unfold partShown
  dsimp only
  split
  · exact List.mem_append_left _ h
  · exact h

/-- Showing the partitions keeps every event that waited. -/
theorem mem_evs_partShow {s : Body} {e : PassEvent} (h : e ∈ s.evs) : e ∈ s.partShow.evs := by
  have each (l : List PartDef) (t : Body) (ht : e ∈ t.evs) : e ∈ (t.forEach l partShown).evs := by
    induction l generalizing t with
    | nil => exact ht
    | cons p l ih => exact ih _ (mem_evs_partShown p ht)
  rw [partShow_eq]
  exact each _ s h

/-- Showing a partition writes its registers and posts events. -/
theorem Kept.partShown {view : Body → Body} {a b : Body} (h : Kept view (fun _ => True) a b) (p : PartDef) :
    Kept view (fun _ => True) a (b.partShown p) := by
  unfold Body.partShown
  dsimp only
  generalize b.partState p = st
  have shown := ((h.put (F.PART_ATTR_STATE p.id) st.1 trivial).put (F.PART_ATTR_CAUSE p.id) st.2 trivial).put
    (F.PART_SIZE_CHUNKS_MAPPED p.id) (if st.1 = 1 then p.size else 0) trivial
  exact .ite _ (shown.raise _ _ _ trivial) shown

theorem Kept.partShow {view : Body → Body} {a b : Body} (h : Kept view (fun _ => True) a b) : Kept view (fun _ => True) a b.partShow := by
  rw [partShow_eq]
  exact ((h.forEach _ _ fun p _ _ ht => ht.partShown p).put _ _ trivial).put _ _ trivial

section
variable {own : Nat → Prop} {a b : Body}

theorem Kept.nc_of_offRegs (h : Kept offRegs own a b) : b.nc = a.nc := congrArg (·.nc) h.units
theorem Kept.tier_of_offRegs (h : Kept offRegs own a b) : b.tier = a.tier := congrArg (·.tier) h.units

end

theorem nc_partShow (s : Body) : s.partShow.nc = s.nc := ((Kept.refl (own := fun _ => True) offRegs_blind).partShow).nc_of_offRegs
theorem tier_partShow (s : Body) : s.partShow.tier = s.tier := ((Kept.refl (own := fun _ => True) offRegs_blind).partShow).tier_of_offRegs

/-- The units without the lines, blocks and entries of the released 1 GiB units. -/
def purged (s : Body) : Body :=
  let gone := fun (line : Nat) => s.tier.purge.contains (unitOf line)
  let s := { s with nc := { s.nc with
    ways := s.nc.ways.filter fun (w : Nat × NcLine) => !gone w.2.line
    col := s.nc.col.filter fun (w : Nat × ColEntry) => !gone w.2.line } }
  let s := { s with sp := { s.sp with
    ch := s.sp.ch.map fun (c : Nat × SpCh) => (c.1, { c.2 with blocks := c.2.blocks.filter fun (b : Nat × SpBlock) => !gone (b.2.granule * 64) })
    wbs := s.sp.wbs.filter fun (w : WriteBack) => !gone (w.gran * 64) } }
  { s with tier := { s.tier with purge := [] } }

theorem purgeEnd_eq {s : Body} (purging : s.tier.purge ≠ []) : s.purgeEnd = (s.purged.raise U.mtl F.PLACE_EVENTS_PURGE_DONE).partShow := by
  unfold purgeEnd
  rw [if_neg (by simpa using purging)]
  rfl

theorem purged_ways {s : Body} {w : Nat × NcLine} (h : w ∈ s.purged.nc.ways) : s.tier.purge.contains (unitOf w.2.line) = false := by
  simpa using (List.mem_filter.1 h).2

theorem purged_col {s : Body} {w : Nat × ColEntry} (h : w ∈ s.purged.nc.col) : s.tier.purge.contains (unitOf w.2.line) = false := by
  simpa using (List.mem_filter.1 h).2

/-! ## Modes, pins and the snapshot of a translation (R88, R101, R128) -/

/-- A word written with one field replaced, judged as the word that the statement names. -/
theorem judge_insert (b : Body) (actor : Actor) (f : Fld) (v : Nat) :
    (b.judge actor f.addr (f.insert (b.word f.addr) v)).1 = wrote b actor f.addr (bitWord b f v) := by
  rw [wrote, bitWord, BitVec.ofNat_toNat, BitVec.setWidth_eq]

section
variable {b b' : Body} {gran lg c set : Nat} {p : PartDef}

theorem pinFill_full (part : b.partOf (gran * 64) = some p) (chunk : b.lgOf (gran * 64) = some lg) (place : b.spPlace gran = some (c, set))
    (pin : b.placeMode p.id = 1) (slot : b.slotOpen (b.place lg).ch = true) (absent : b.spFind gran = none) (full : 6 ≤ b.pinnedIn c set) :
    b.pinFill gran = b.incSat F.SP_DIRTY_STATE_PIN_SET_FULL := by
  simp [pinFill, part, chunk, place, pin, slot, absent, full]

theorem pinFill_promoted {k : Nat} {x : SpBlock} (part : b.partOf (gran * 64) = some p) (chunk : b.lgOf (gran * 64) = some lg)
    (place : b.spPlace gran = some (c, set)) (pin : b.placeMode p.id = 1) (slot : b.slotOpen (b.place lg).ch = true)
    (room : b.pinnedIn c set < 6) (promoted : b.promote lg gran p.id = some b') (found : b'.spFind gran = some (c, k, x)) :
    b.pinFill gran = (b'.setBlock c k { x with pinned := true }).slotTake (b'.place lg).ch := by
  simp [pinFill, part, chunk, place, pin, slot, Nat.not_le.2 room, promoted, found]

end

/-- Only registers of a range are written. -/
abbrev Shows (lo hi : Nat) (a b : Body) : Prop := Kept offRegs (Range lo hi) a b

theorem Kept.get_eq {view : Body → Body} {own : Nat → Prop} {a b : Body} (h : Kept view own a b) (f : Fld) (hf : ¬ own f.addr) :
    b.get f = a.get f :=
  congrArg f.ofWord (h.regs f.addr hf)

/-- What a translation shows of the near cache. -/
def xlateNear (s : Body) (line : Nat) : Body :=
  match s.ncFind line with
  | some (_, w) => (s.put F.XLATE_RESULT_0_NC_PRESENT 1).putB F.XLATE_RESULT_0_NC_DIRTY w.dirty
  | none => s

/-- What a translation shows of the Stockpot. -/
def xlatePot (s : Body) (line : Nat) : Body :=
  match s.spFind (granOf line) with
  | some (_, _, b) =>
    let s := (s.put F.XLATE_RESULT_0_SP_PRESENT 1).putB F.XLATE_RESULT_0_SP_SECTOR_VALID (b.valid.getLsbD (line % 64))
    (s.putB F.XLATE_RESULT_0_SP_SECTOR_DIRTY (b.dirty.getLsbD (line % 64))).putB F.XLATE_RESULT_0_PINNED (s.pinnedPart b.part)
  | none => s

/-- A snapshot names its line and its frame. -/
def xlateEcho (s : Body) (line : Nat) : Body :=
  let s := (s.setWord A.XLATE_RESULT_0 0).setWord A.XLATE_RESULT_1 0
  (s.put F.XLATE_ECHO_LINE line).put F.XLATE_FRAME_FRAME s.frameNo

abbrev XlateShows (a b : Body) : Prop := Shows 0x8a048 0x8a058 a b

section
variable {a b : Body}

theorem Kept.xlateNear (h : XlateShows a b) (line : Nat) : XlateShows a (b.xlateNear line) := by
  unfold Body.xlateNear
  split
  · exact (h.put _ _ (by decide)).putB _ _ (by decide)
  · exact h

theorem Kept.xlatePot (h : XlateShows a b) (line : Nat) : XlateShows a (b.xlatePot line) := by
  unfold Body.xlatePot
  split
  · exact (((h.put _ _ (by decide)).putB _ _ (by decide)).putB _ _ (by decide)).putB _ _ (by decide)
  · exact h

/-- The results of a translation lie in XLATE_RESULT_0 and XLATE_RESULT_1. -/
theorem xlateSnap_shows (s : Body) (line : Nat) : XlateShows (s.xlateEcho line) (s.xlateSnap line) := by
  have here : XlateShows (s.xlateEcho line) (s.xlateEcho line) := .refl offRegs_blind
  unfold xlateSnap
  dsimp only
  split
  · simp only [putB_eq]
    iterate 8 refine Kept.put ?_ _ _ (by decide)
    exact ((((here.put _ _ (by decide)).put _ _ (by decide)).xlateNear line).put _ _ (by decide)).xlatePot line
  · exact here

end

theorem xlateEcho_shown (s : Body) {line : Nat} (fits : line < 2 ^ 41) : (s.xlateEcho line).get F.XLATE_ECHO_LINE = line
    ∧ (s.xlateEcho line).get F.XLATE_FRAME_FRAME = (s.xlateEcho line).frameNo := by
  unfold xlateEcho frameNo
  dsimp only
  generalize (s.setWord A.XLATE_RESULT_0 0).setWord A.XLATE_RESULT_1 0 = t
  refine ⟨?_, ?_⟩
  · rw [get_put_ne _ _ _ _ (by decide), get_put_same _ _ _ (by decide)]
    exact Nat.mod_eq_of_lt fits
  · rw [get_put_same _ _ _ (by decide), get_put_ne _ _ _ _ (by decide), get_put_ne _ _ _ _ (by decide)]
    exact rread_mod _ F.FRAME_NOW_FRAME

/-- Settles O18. -/
theorem placementCommands : Obligations.PlacementCommands := by
  unfold Obligations.PlacementCommands
  refine ⟨fun s purging => leadsAlone_of_eq rfl (purgeEnd_eq purging) ?purge,
    fun s actor part mode => ⟨_, rfl, congrArg (placeModeSettle · part _) (judge_insert ..)⟩,
    fun s due wf => leadsAlone_of_eq rfl (if_pos due) fun k => mgetD_halved wf k,
    fun s due wfA wfB => leadsAlone_of_eq rfl (if_pos due) fun k => ⟨mgetD_halved wfA k, mgetD_halved wfB k⟩,
    fun s gran lg c set p part chunk place pin slot absent full => ⟨_, rfl, pinFill_full part chunk place pin slot absent full⟩,
    fun s gran lg c set p b' part chunk place pin slot room promoted k x found =>
      ⟨_, rfl, pinFill_promoted part chunk place pin slot room promoted found⟩,
    fun s actor line may fits => leads_select may ?xlate⟩
  case purge =>
    rw [nc_partShow, tier_partShow]
    exact ⟨rfl, fun _ => purged_ways, fun _ => purged_col, mem_evs_partShow (mem_evs_raise ..)⟩
  case xlate =>
    obtain ⟨echo, frame⟩ := xlateEcho_shown (wrote s.body actor A.XLATE_ADDR (line * 64)) fits
    have shows_ := xlateSnap_shows (wrote s.body actor A.XLATE_ADDR (line * 64)) line
    exact ⟨(shows_.get_eq _ (by decide)).trans echo, (shows_.get_eq _ (by decide)).trans (frame.trans (shows_.get_eq _ (by decide)).symm)⟩

end Body

end Sys2Proof.Machine

/-! The near cache (R108 to R120): fills, repairs, the Colander, maintenance operations and the two snapshots. -/

namespace Sys2Proof.Machine.Body

open Sys2Proof.Stmt

section
variable {b b' : Body}

/-! ## Fills, repairs and the Colander (R108, R109, R113) -/

theorem ncFill_installed {i : Nat} {m : MissReg} {fill : LineData × Bool} (known : mget b.nc.mrs i = some m) (filled : m.fill = some fill)
    (on : b.isOn U.nc = true)
    (installed : (let fin := m.accs.foldl (fun l a => accLine l a.kind) fill
      b.install m.line fin.1 (m.dirty || m.accs.any fun a => a.kind != .read) fin.2 m.cls) = some b') :
    b.ncFill i = (((m.accs.foldl (fun (x : Body × (LineData × Bool)) a => (x.1.accApply a x.2 m.at_, accLine x.2 a.kind)) (b', fill)).1.dropMr
      i).pumpHeld).ncPump := by
  dsimp only at installed
  simp only [ncFill, known, filled, on, if_true, installed]

theorem repairSend_line {line : Nat} {r : Repair} (waits : b.nc.repairs.find? (·.line == line) = some r) (kind : askKind r.ask = .lineRepair)
    (left : (b.twin.queue.any fun q => q.line == line && q.pos.lt r.pos) = false) :
    b.repairSend line = ({ b with nc := { b.nc with repairs := b.nc.repairs.erase r } }).askTwin .lineRepair line r.pos r.ask := by
  have whole : (AssistKind.lineRepair == .granuleRepair) = false := rfl
  simp only [repairSend, waits, kind, whole, Bool.false_eq_true, if_false, left]

theorem colAccept_taken {i : Nat} {e : ColEntry} (here : mget b.nc.col i = some e)
    (alone : (b.nc.col.any fun p => p.2.line == e.line && p.2.writing) = false) (taken : b.spAccept e.line e.data e.poison = some b') :
    b.colAccept i = ((b'.dropCol i).ncPump).pumpHeld := by
  simp only [colAccept, here, alone, Bool.and_false, Bool.false_eq_true, if_false, taken]

/-! ## Snapshots (R120) -/

theorem mrSnap_shown {i : Nat} {m : MissReg} (known : mget b.nc.mrs i = some m) (fits : m.line < 2 ^ 41) :
    (b.mrSnap i).flag F.NC_MR_PEEK_0_VALID = true ∧ (b.mrSnap i).get F.NC_MR_PEEK_1_LINE = m.line := by
  unfold mrSnap
  dsimp only
  have known' : mget (((b.setWord A.NC_MR_PEEK_0 0).setWord A.NC_MR_PEEK_1 0).put F.NC_MR_PEEK_0_ECHO i).nc.mrs i = some m := known
  rw [known']
  dsimp only
  generalize ((b.setWord A.NC_MR_PEEK_0 0).setWord A.NC_MR_PEEK_1 0).put F.NC_MR_PEEK_0_ECHO i = t
  simp only [putB_eq]
  refine ⟨?_, ?_⟩
  · iterate 7 refine (flag_put_of_apart _ _ (by decide)).trans ?_
    exact flag_put_one _ _ rfl (by decide)
  · rw [get_put_same _ _ _ (by decide)]
    exact Nat.mod_eq_of_lt fits

/-- The eight words of a line written at NC_COL_DATA. -/
def colWords (s : Body) (w : Nat → Word) : Body := s.forEach (List.range 8) fun s n => s.setWord (A.NC_COL_DATA n) (w n)

theorem colWords_shows (s : Body) (w : Nat → Word) : Shows 0x30440 0x30480 s (s.colWords w) := by
  refine Kept.forEach (.refl offRegs_blind) _ _ fun n hn t ht => ht.setWord _ _ ?_
  have := List.mem_range.1 hn
  simp only [Range, A.NC_COL_DATA]
  omega

theorem word_colWords (s : Body) (w : Nat → Word) : (s.colWords w).word (A.NC_COL_DATA 0) = w 0 := by
  show (((((((((s.setWord (A.NC_COL_DATA 0) (w 0)).setWord (A.NC_COL_DATA 1) (w 1)).setWord (A.NC_COL_DATA 2) (w 2)).setWord
    (A.NC_COL_DATA 3) (w 3)).setWord (A.NC_COL_DATA 4) (w 4)).setWord (A.NC_COL_DATA 5) (w 5)).setWord (A.NC_COL_DATA 6) (w 6)).setWord
    (A.NC_COL_DATA 7) (w 7))).word (A.NC_COL_DATA 0) = w 0
  iterate 7 refine (word_setWord_ne _ _ _ _ (by decide)).trans ?_
  exact word_setWord ..

theorem colSnap_shown {i : Nat} {e : ColEntry} (here : mget b.nc.col i = some e) (fits : e.line < 2 ^ 41) :
    (b.colSnap i).flag F.NC_COL_PEEK_0_VALID = true ∧ (b.colSnap i).get F.NC_COL_PEEK_1_LINE = e.line
    ∧ (b.colSnap i).word (A.NC_COL_DATA 0) = BitVec.ofNat 64 (word8 e.data 0) := by
  unfold colSnap
  dsimp only
  have here' : mget (((b.setWord A.NC_COL_PEEK_0 0).setWord A.NC_COL_PEEK_1 0).put F.NC_COL_PEEK_0_ECHO i).nc.col i = some e := here
  rw [here']
  dsimp only
  generalize ((b.setWord A.NC_COL_PEEK_0 0).setWord A.NC_COL_PEEK_1 0).put F.NC_COL_PEEK_0_ECHO i = t
  simp only [putB_eq]
  have words (s : Body) := s.colWords_shows fun n => BitVec.ofNat 64 (word8 e.data (8 * n))
  refine ⟨?_, ?_, word_colWords _ fun n => BitVec.ofNat 64 (word8 e.data (8 * n))⟩
  · refine (congrArg (· != 0) ((words _).get_eq F.NC_COL_PEEK_0_VALID (by decide))).trans ?_
    iterate 5 refine (flag_put_of_apart _ _ (by decide)).trans ?_
    exact flag_put_one _ _ rfl (by decide)
  · refine ((words _).get_eq _ (by decide)).trans ?_
    rw [get_put_same _ _ _ (by decide)]
    exact Nat.mod_eq_of_lt fits

/-- The end of a maintenance operation (R118). -/
theorem ncOp_ended (b : Body) :
    let t := (((({ b with nc := { b.nc with op := none } } : Body).put F.NC_OP_STATUS_STATE 2).put F.NC_OP_STATUS_SETS_DONE 131072).raise U.nc
      F.NC_EVENTS_OP_DONE)
    t.nc.op = none ∧ t.get F.NC_OP_STATUS_STATE = 2 ∧ ⟨U.nc, .bit F.NC_EVENTS_OP_DONE, 0⟩ ∈ t.evs := by
  refine ⟨rfl, ?_, mem_evs_raise ..⟩
  rw [get_raise, get_put_ne _ _ _ _ (by decide), get_put_ne _ _ _ _ (by decide), get_put_same _ _ _ (by decide)]
  rfl

end

/-- Settles O20. -/
theorem nearCacheCommands : Obligations.NearCacheCommands := by
  unfold Obligations.NearCacheCommands
  refine ⟨fun s i m fill b' known filled on installed => ⟨_, rfl, ncFill_installed known filled on installed⟩,
    fun s line r waits kind left => ⟨_, rfl, repairSend_line waits kind left⟩,
    fun s i e b' here alone taken => ⟨_, rfl, colAccept_taken here alone taken⟩,
    fun s actor whole idle => ⟨fun act => leads_command act rfl, fun act => leads_command act rfl, fun act => leads_command act rfl⟩,
    fun s o running closed => leads_of_eq rfl ?ended (ncOp_ended s.body), fun s actor i m may fits known line => leads_select may ?miss,
    fun s actor i e may fits here line => leads_select may ?colander⟩
  case ended => simp only [running, closed, Bool.false_eq_true, if_false]
  case miss => exact mrSnap_shown (by simpa [wrote] using known) line
  case colander => exact colSnap_shown (by simpa [wrote] using here) line

end Sys2Proof.Machine.Body

/-! The fill engine and the scrub of the Stockpot (R145, R146). -/

namespace Sys2Proof.Machine

theorem mem_insertNat {l : List Nat} {a x : Nat} : x ∈ insertNat l a ↔ x = a ∨ x ∈ l := by
  induction l with
  | nil => simp [insertNat]
  | cons k l ih =>
    unfold insertNat
    split
    · simp
    · split
      next same => subst same; simp
      next => simp only [List.mem_cons, ih]; exact or_left_comm

theorem mem_foldl_insertNat {l m : List Nat} {x : Nat} : x ∈ m.foldl insertNat l ↔ x ∈ m ∨ x ∈ l := by
  induction m generalizing l with
  | nil => simp
  | cons a m ih => simp only [List.foldl_cons, ih, mem_insertNat, List.mem_cons]; exact or_left_comm.trans or_assoc.symm

theorem mem_range' {a n x : Nat} : x ∈ range' a n ↔ a ≤ x ∧ x < a + n := by
  simp only [range', List.mem_map, List.mem_range]
  constructor
  · rintro ⟨i, hi, rfl⟩
    omega
  · rintro ⟨lower, upper⟩
    exact ⟨x - a, by omega, by omega⟩

namespace Body

open Sys2Proof.Stmt

/-! ## Channels of the Stockpot -/

@[simp] theorem spCh_setSpCh_same (s : Body) (c : Nat) (x : SpCh) : (s.setSpCh c x).spCh c = x := mgetD_mset_same ..
theorem spCh_setSpCh_ne (s : Body) {c k : Nat} (x : SpCh) (h : k ≠ c) : (s.setSpCh c x).spCh k = s.spCh k := mgetD_mset_ne _ _ _ h

/-- The mode of a channel after a write of another register. -/
theorem spMode_wrote (s : Body) (actor : Actor) {a : Nat} (v c : Nat) (h : (F.SP_CH_STATUS_MODE c).addr ≠ a) :
    (wrote s actor a v).spMode c = s.spMode c := by
  unfold spMode
  rw [get_wrote_ne _ _ _ _ h]

theorem isOn_wrote (s : Body) (actor : Actor) {a : Nat} (v u : Nat) (h : (F.UNIT_STATE_STATE u).addr ≠ a) :
    (wrote s actor a v).isOn u = s.isOn u := by
  unfold isOn
  rw [wrote, unit_judge_ne _ _ _ _ h]

/-! ## The fill (R145) -/

/-- The units of a fill join those of a channel that hold a pattern. -/
def chFilled (f : FillJob) (s : Body) (c : Nat) : Body :=
  let x := s.spCh c
  s.setSpCh c { x with filled := (range' f.first f.units).foldl insertNat x.filled, pats := (f.first, f.units, f.pat) :: x.pats }

theorem filled_chFilled (f : FillJob) (s : Body) (c k : Nat) {u : Nat} (h : u ∈ (s.spCh k).filled ∨ k = c ∧ f.first ≤ u ∧ u < f.first + f.units) :
    u ∈ ((chFilled f s c).spCh k).filled := by
  unfold chFilled
  by_cases same : k = c
  · subst same
    rw [spCh_setSpCh_same, mem_foldl_insertNat, mem_range']
    exact h.elim .inr fun ⟨_, range⟩ => .inl range
  · rw [spCh_setSpCh_ne _ _ same]
    exact h.resolve_right fun ⟨e, _⟩ => same e

theorem filled_forEach_chFilled (f : FillJob) (l : List Nat) (s : Body) (k : Nat) {u : Nat}
    (h : u ∈ (s.spCh k).filled ∨ k ∈ l ∧ f.first ≤ u ∧ u < f.first + f.units) : u ∈ ((s.forEach l (chFilled f)).spCh k).filled := by
  induction l generalizing s with
  | nil => exact h.elim id fun ⟨none_, _⟩ => absurd none_ List.not_mem_nil
  | cons c l ih =>
    refine ih (chFilled f s c) ?_
    obtain held | ⟨listed, range⟩ := h
    · exact .inl (filled_chFilled f s c k (.inl held))
    · obtain rfl | later := List.mem_cons.1 listed
      · exact .inl (filled_chFilled f s k k (.inr ⟨rfl, range⟩))
      · exact .inr ⟨later, range⟩

/-- The end of a fill leaves the channels of its mask filled, says so and is done. -/
theorem fillEnd_eq {b : Body} {f : FillJob} (running : b.sp.fill = some f) : ∃ (r : RkSt) (u : Nat),
    let t := ({ b with rk := r } : Body).forEach ((List.range 12).filter (nbit f.mask)) (chFilled f)
    b.fillEnd = (((({ t with sp := { t.sp with fill := none } } : Body).put F.SP_FILL_STATUS_STATE 2).put F.SP_FILL_STATUS_UNITS_DONE
      f.units).raise u F.SP_EVENTS_FILL_DONE f.mask) := by
  unfold fillEnd
  rw [running]
  exact ⟨_, _, rfl⟩

theorem fillEnd_shown {b : Body} {f : FillJob} (running : b.sp.fill = some f) : b.fillEnd.sp.fill = none
    ∧ b.fillEnd.get F.SP_FILL_STATUS_STATE = 2
    ∧ ∀ c, c < 12 → nbit f.mask c = true → ∀ u, f.first ≤ u → u < f.first + f.units → (b.fillEnd.spCh c).filled.contains u = true := by
  obtain ⟨r, u, ended⟩ := fillEnd_eq running
  rw [ended]
  dsimp only
  refine ⟨rfl, ?_, fun c hc listed u lower upper => ?_⟩
  · rw [get_raise, get_put_ne _ _ _ _ (by decide), get_put_ne _ _ _ _ (by decide), get_put_same _ _ _ (by decide)]
    rfl
  · have filled := filled_forEach_chFilled f ((List.range 12).filter (nbit f.mask)) { b with rk := r } c
      (.inr ⟨List.mem_filter.2 ⟨List.mem_range.2 hc, listed⟩, lower, upper⟩)
    exact List.contains_iff_mem.2 filled

/-! ## The scrub (R146) -/

theorem scrubGo_begins {b : Body} (idle : b.sp.scrub = none) (known : b.get F.SP_SCRUB_CH_CH < 12)
    (on : b.isOn (U.sp (b.get F.SP_SCRUB_CH_CH)) = true) (awake : b.spMode (b.get F.SP_SCRUB_CH_CH) ≠ .frozen) :
    b.scrubGo = ({ b with sp := { b.sp with scrub := some (b.get F.SP_SCRUB_CH_CH, b.get F.SP_SCRUB_START_SPA * 64,
      b.get F.SP_SCRUB_LEN_BYTES * 64) } } : Body).put F.SP_SCRUB_SUM_2_STATE 1 := by
  simp [scrubGo, idle, on, awake, Nat.not_le.2 known]

/-- What a scrub that has ended shows. -/
def scrubShown (s : Body) (c corrected lost first poisoned skipped us : Nat) : Body :=
  let s := (s.put F.SP_SCRUB_SUM_0_CORRECTED corrected).put F.SP_SCRUB_SUM_0_UNCORRECTABLE lost
  let s := (s.put F.SP_SCRUB_SUM_1_FIRST_ERR_SPA first).put F.SP_SCRUB_SUM_1_POISONED poisoned
  let s := ((s.put F.SP_SCRUB_SUM_2_STATE 2).put F.SP_SCRUB_SUM_2_SKIPPED skipped).put F.SP_SCRUB_SUM_2_DURATION_US us
  s.raise (U.sp c) F.SP_EVENTS_SCRUB_DONE c

theorem state_scrubShown (s : Body) (c corrected lost first poisoned skipped us : Nat) :
    (s.scrubShown c corrected lost first poisoned skipped us).get F.SP_SCRUB_SUM_2_STATE = 2 := by
  unfold scrubShown
  dsimp only
  rw [get_raise, get_put_ne _ _ _ _ (by decide), get_put_ne _ _ _ _ (by decide), get_put_ne _ _ _ _ (by decide),
    get_put_same _ _ _ (by decide)]
  rfl

theorem scrubEnd_eq {b : Body} {c lo n : Nat} (running : b.sp.scrub = some (c, lo, n)) (fixed bad : List Nat) (us : Nat) :
    ∃ (t : Body) (corrected lost first poisoned skipped : Nat), b.scrubEnd fixed bad us
      = ({ t with sp := { t.sp with scrub := none } } : Body).scrubShown c corrected lost first poisoned skipped us := by
  unfold scrubEnd
  rw [running]
  exact ⟨_, _, _, _, _, _, rfl⟩

/-- Settles O22. -/
theorem fillAndScrubCommands : Obligations.FillAndScrubCommands := by
  unfold Obligations.FillAndScrubCommands
  refine ⟨fun s actor mask act => leads_command act rfl, fun s f running => ⟨_, rfl, fillEnd_shown running⟩,
    fun s actor act idle known on awake => leads_command act ?go, fun s c lo n us running => ?done⟩
  case go =>
    have channel := get_wrote_ne s.body actor (a := A.SP_SCRUB_CTL) 1 F.SP_SCRUB_CH_CH (by decide)
    have on' : (wrote s.body actor A.SP_SCRUB_CTL 1).isOn (U.sp (s.body.get F.SP_SCRUB_CH_CH)) = true :=
      (isOn_wrote _ _ _ _ (by simp only [F.UNIT_STATE_STATE, U.sp, A.SP_SCRUB_CTL]; omega)).trans on
    have awake' : (wrote s.body actor A.SP_SCRUB_CTL 1).spMode (s.body.get F.SP_SCRUB_CH_CH) ≠ .frozen := by
      rwa [spMode_wrote _ _ _ _ (by simp only [F.SP_CH_STATUS_MODE, A.SP_SCRUB_CTL]; omega)]
    rw [scrubGo_begins (by simpa [wrote] using idle) (by rwa [channel]) (by rwa [channel]) (by rwa [channel]), channel,
      get_wrote_ne _ _ _ _ (by decide), get_wrote_ne _ _ _ _ (by decide)]
    exact ⟨get_put_same _ _ _ (by decide), rfl⟩
  case done =>
    obtain ⟨t, corrected, lost, first, poisoned, skipped, shown⟩ := scrubEnd_eq running [] [] us
    exact leads_of_eq rfl shown ⟨rfl, state_scrubShown .., mem_evs_raise ..⟩

end Body

end Sys2Proof.Machine

/-! The twin link (R219 to R222, R346). -/

namespace Sys2Proof.Machine
namespace Body

open Sys2Proof.Stmt

/-! ## What showing the link leaves -/

@[simp] theorem twin_linkRegs (s : Body) : s.linkRegs.twin = s.twin := rfl
@[simp] theorem ciph_linkRegs (s : Body) : s.linkRegs.ciph = s.ciph := rfl
@[simp] theorem out_linkRegs (s : Body) : s.linkRegs.out = s.out := rfl
@[simp] theorem evs_linkRegs (s : Body) : s.linkRegs.evs = s.evs := rfl

theorem get_linkRegs (s : Body) (f : Fld) (link : F.TWIN_STATUS_LINK.apart f = true)
    (trained : F.TWIN_STATUS_MAIN_TRAINED.apart f = true) (limit : F.TWIN_LINK_LAT_LIMIT_NS.apart f = true) : s.linkRegs.get f = s.get f := by
  unfold linkRegs
  simp only [putB_eq]
  rw [get_put_ne _ _ _ _ limit, get_put_ne _ _ _ _ trained, get_put_ne _ _ _ _ link]

/-! ## Messages in their order (R222) -/

/-- A message in its order with a good tag is taken. -/
theorem rxMsg_of_inOrder {b : Body} {h : MsgHdr} (order : inOrder b h) : b.rxMsg h = (rcvd b h, true) := by
  obtain ⟨session, tag, ⟨frame, seq⟩ | ⟨later_, first, unasked⟩⟩ := order
  · simp [rxMsg, session, tag, frame, seq, rcvd]
  · have unpast : ¬ h.frame < b.twin.link.rxFrame := by omega
    have moved : h.frame ≠ b.twin.link.rxFrame := by omega
    simp [rxMsg, session, tag, later_, first, unasked, unpast, moved, rcvd]

/-! ## The commands of the link -/

/-- The groups of a link that was down train and a HELLO goes out. -/
theorem linkTrain_of_down {b : Body} (on : b.isOn U.twin = true) (down : b.linkUp = false) (tag : b.mayTag = true)
    (fitted : nbit b.cfg.img.fix2.twinFlags 1 = true) (fall : Bool) : ∃ t : Body, b.linkTrain true fall
      = (t.twinSend (.hello ⟨b.cfg.img.fix.member, b.cfg.img.fix2.twinMember, b.cfg.img.fix.domain, b.ciph.cur.gen, b.periodNs,
          b.cfg.img.shared.toNat⟩)).linkRegs
      ∧ t.frameNo = b.frameNo ∧ t.twin.link.mainUp = true ∧ t.twin.link.session = false := by
  unfold linkTrain
  dsimp only
  rw [on, down, tag, fitted]
  exact ⟨_, rfl, rfl, rfl, rfl⟩

theorem sent_twinSend (s : Body) (m : TwinMsg) : ∃ q, .twin s.frameNo q m ∈ (s.twinSend m).out := ⟨_, mem_out_send ..⟩

theorem helloRx_of_fits {b : Body} {h : MsgHdr} {m : HelloMsg} (trained : b.twin.link.mainUp = true ∨ b.twin.link.fallUp = true)
    (tag : h.tagOk = true) (member : m.member = b.cfg.img.fix2.twinMember) (twin : m.twin = b.cfg.img.fix.member)
    (domain : m.domain = b.cfg.img.fix.domain) (key : m.keyGen = b.ciph.cur.gen) (period : m.period = b.periodNs) :
    ∃ t : Body, b.helloRx h m = t.linkRegs ∧ t.twin.link.session = true ∧ t.twin.link.peerOk = true ∧ t.ciph.session = m.keyGen
      ∧ t.twin.link.rxFrame = h.frame ∧ t.twin.link.rxSeq = h.seq + 1 := by
  have up : (!(b.twin.link.mainUp || b.twin.link.fallUp)) = false := by rcases trained with group | group <;> simp [group]
  have fits : (m.member != b.cfg.img.fix2.twinMember || m.twin != b.cfg.img.fix.member || m.domain != b.cfg.img.fix.domain
      || m.keyGen != b.ciph.cur.gen || m.period != b.periodNs) = false := by simp [member, twin, domain, key, period]
  unfold helloRx
  dsimp only
  rw [up, tag, fits]
  exact ⟨_, rfl, rfl, rfl, rfl, rfl, rfl⟩

theorem helloRx_of_stranger {b : Body} {h : MsgHdr} {m : HelloMsg} (trained : b.twin.link.mainUp = true ∨ b.twin.link.fallUp = true)
    (tag : h.tagOk = true) (member : m.member ≠ b.cfg.img.fix2.twinMember) :
    b.helloRx h m = b.raise U.twin F.TWIN_EVENTS_PEER_REFUSED m.member := by
  have up : (!(b.twin.link.mainUp || b.twin.link.fallUp)) = false := by rcases trained with group | group <;> simp [group]
  unfold helloRx
  dsimp only
  rw [up, tag, bne_iff_ne.2 member]
  rfl

theorem linkDown_shown (b : Body) : b.linkDown.twin.link.mainUp = false ∧ b.linkDown.twin.link.fallUp = false
    ∧ b.linkDown.twin.link.session = false ∧ b.linkDown.ciph.session = 0 := ⟨rfl, rfl, rfl, rfl⟩

/-- The main group has lost lock: the fall-back is asked for. -/
theorem groupFallback_of_lock {b : Body} (main : b.twin.link.onFall = false) (up : b.twin.link.mainUp = true) : b.groupFallback true
    = ((b.put F.TWIN_STATUS_MAIN_STABLE 0).linkMod fun l => { l with mainUp := false, fallReq := true }).linkRegs := by
  unfold groupFallback
  dsimp only
  rw [main, up]
  rfl

theorem mainStable_of_due {b : Body} (stable : 10000 ≤ b.get F.TWIN_STATUS_MAIN_STABLE) (fall : b.twin.link.onFall = true)
    (peer : b.twin.link.peerStable = true) (unset_ : b.twin.link.revert = 0)
    (lower : b.cfg.img.fix.member ≤ b.cfg.img.fix2.twinMember) :
    b.mainStable = b.linkMod fun l => { l with revert := b.frameNo + 16 } := by
  simp [mainStable, Nat.not_lt.2 stable, fall, peer, unset_, Nat.not_lt.2 lower]

theorem groupRevert_of_due {b : Body} (set_ : b.twin.link.revert ≠ 0) (due : b.twin.link.revert ≤ b.frameNo)
    (fall : b.twin.link.onFall = true) (up : b.twin.link.mainUp = true) (may : b.flag F.TWIN_CTL_REVERT_DIS = false)
    (free : b.get F.TWIN_CTL_GROUP_FORCE ≠ 2) : b.groupRevert = b.groupMove false := by
  simp [groupRevert, set_, Nat.not_lt.2 due, fall, up, may, free]

/-- The move to the main group. -/
theorem groupMove_main (b : Body) : (b.groupMove false).twin.link.onFall = false ∧ (b.groupMove false).twin.link.revert = 0
    ∧ ⟨U.twin, .bit F.TWIN_EVENTS_GROUP_REVERT, 0⟩ ∈ (b.groupMove false).evs := by
  have moved : b.groupMove false = ((((b.linkMod fun l => { l with onFall := false, fallReq := false, revert := 0 }).inc
    F.TWIN_LINK_SWITCHES).raise U.twin F.TWIN_EVENTS_GROUP_REVERT).linkRegs) := rfl
  rw [moved, evs_linkRegs, twin_linkRegs]
  exact ⟨rfl, rfl, mem_evs_raise ..⟩

theorem nakRx_of_inOrder {b : Body} {h : MsgHdr} (order : inOrder b h) (frame seq : Nat) : b.nakRx h frame seq
    = (rcvd b h).resend ((b.twin.link.replayBuf.filter fun m => frame < m.1 || (m.1 == frame && seq % 2 ^ 30 ≤ m.2.1 % 2 ^ 30)).reverse) := by
  unfold nakRx
  rw [rxMsg_of_inOrder order]
  rfl

theorem relayRx_answer {b : Body} {h : MsgHdr} (order : inOrder b h) {m : TrivetMsg} (answer : m.typ = 3 ∨ m.typ = 4) (key us : Nat) :
    b.relayRx h m key us = (rcvd b h).trivetAnswer m none key us := by
  simp [relayRx, rxMsg_of_inOrder order, answer]

theorem relayRx_request {b : Body} {h : MsgHdr} (order : inOrder b h) {m : TrivetMsg} (typ : m.typ ≠ 3) (typ' : m.typ ≠ 4) (key us : Nat) :
    b.relayRx h m key us = (rcvd b h).forEach (List.range b.cfg.img.fix2.trivets.length) fun s i => s.send (.trivet m i) := by
  simp [relayRx, rxMsg_of_inOrder order, typ, typ', rcvd, linkMod]

/-- What is sent stays among what is sent. -/
theorem mem_out_forEach_send {α : Type} (l : List α) (o : α → Out) (s : Body) {x : Out} (h : x ∈ s.out ∨ ∃ a ∈ l, x = o a) :
    x ∈ (s.forEach l fun s a => s.send (o a)).out := by
  induction l generalizing s with
  | nil => simpa using h
  | cons a l ih =>
    refine ih (s.send (o a)) ?_
    simp only [send, List.mem_cons] at h ⊢
    obtain held | ⟨c, rfl | listed, rfl⟩ := h
    · exact .inl (.inr held)
    · exact .inl (.inl rfl)
    · exact .inr ⟨c, listed, rfl⟩

/-- Settles O25. -/
theorem twinLinkCommands : Obligations.TwinLinkCommands := by
  unfold Obligations.TwinLinkCommands
  refine ⟨fun s on down tag fitted fall => ?train, fun s h m trained => ⟨fun tag member twin domain key period => ?hello,
      fun tag member => leads_of_eq rfl (helloRx_of_stranger trained tag member) ⟨rfl, mem_evs_raise ..⟩⟩,
    fun s => ⟨_, rfl, linkDown_shown _⟩,
    fun s main up => leads_of_eq rfl (groupFallback_of_lock main up) ⟨rfl, rfl, ?stable⟩,
    fun s stable fall peer unset_ lower => leads_of_eq rfl (mainStable_of_due stable fall peer unset_ lower) rfl,
    fun s set_ due fall up may free => leads_of_eq rfl (groupRevert_of_due set_ due fall up may free) (groupMove_main _),
    fun s h frame seq order => leads_of_eq rfl (nakRx_of_inOrder order frame seq) rfl,
    fun s h m key us order => ⟨fun answer => leads_of_eq rfl (relayRx_answer order answer key us) rfl,
      fun typ typ' => leads_of_eq rfl (relayRx_request order typ typ' key us) fun i hi =>
        mem_out_forEach_send _ _ _ (.inr ⟨i, List.mem_range.2 hi, rfl⟩)⟩⟩
  case train =>
    obtain ⟨t, trained, frame, main, session⟩ := linkTrain_of_down on down tag fitted fall
    have answer : exec (.twinLinkTrain true fall) s = .next (s.settled (s.body.linkTrain true fall)) := by
      rw [← if_pos (c := s.body.isOn U.twin = true) (t := s.body.linkTrain true fall) (e := s.body) on]
      rfl
    refine leads_of_eq answer trained ⟨main, session, ?_⟩
    rw [← frame]
    exact sent_twinSend t _
  case hello =>
    obtain ⟨t, taken, holds⟩ := helloRx_of_fits trained tag member twin domain key period
    exact leads_of_eq rfl taken holds
  case stable =>
    rw [get_linkRegs _ _ (by decide) (by decide) (by decide)]
    exact get_put_same _ _ _ (by decide)

end Body
end Sys2Proof.Machine

/-! The mirror: batches sent and taken, heartbeats, requests for a line of the twin (R222 to R231). -/

namespace Sys2Proof.Machine
namespace Body

open Sys2Proof.Stmt

@[simp] theorem epochNow_rcvd (b : Body) (h : MsgHdr) : (rcvd b h).epochNow = b.epochNow := rfl

/-! ## Batches sent (R224) -/

theorem mirrorSegment_of_open {b : Body} (mirrors : b.mirrors = true) (late : b.twin.late = []) (unsealed : b.twin.sealed = false) :
    ∃ t : Body, b.mirrorSegment.out = (t.twinSend (.segment ⟨b.frameNo, b.twin.seg, b.epochNow, b.inSeg b.frameNo b.twin.seg⟩)).out
      ∧ t.frameNo = b.frameNo ∧ b.mirrorSegment.twin.seg = b.twin.seg + 1
      ∧ b.mirrorSegment.twin.recs = b.twin.recs + (b.inSeg b.frameNo b.twin.seg).length := by
  unfold mirrorSegment
  rw [mirrors, late]
  dsimp only
  rw [unsealed]
  exact ⟨_, rfl, rfl, rfl, rfl⟩

theorem sealSend_of_open {b : Body} (mirrors : b.mirrors = true) (late : b.twin.late = []) (unsealed : b.twin.sealed = false)
    (sealing : b.frame.sealing = true) : ∃ (t : Body) (k : Nat), b.sealSend = t.twinSend (.seal ⟨b.frameNo, b.twin.seg,
        b.twin.recs + (b.inSeg b.frameNo b.twin.seg).length, k, b.epochNow⟩)
      ∧ t.frameNo = b.frameNo ∧ t.twin.sealed = true ∧ t.twin.recs = 0 := by
  unfold sealSend
  rw [mirrors, late]
  dsimp only
  rw [unsealed, sealing]
  exact ⟨_, _, rfl, rfl, rfl, rfl⟩

/-! ## Batches taken (R227) -/

theorem segmentRx_of_stale {b : Body} {h : MsgHdr} {m : SegMsg} (order : inOrder b h) (stale : m.epoch < b.epochNow) :
    b.segmentRx h m = (rcvd b h).staleDrop := by
  simp [segmentRx, rxMsg_of_inOrder order, staleMsg, stale]

/-- The batch of a segment is begun anew by a segment of another batch and by its first one. -/
def batchBegun (s : Body) (m : SegMsg) : Body :=
  if m.batch != s.twin.rxBatch || m.seg = 1 then
    { s with twin := { s.twin with rxBatch := m.batch, rxSegs := 0, rxRecs := 0, rxGap := false } }
  else s

/-- A segment is counted to its batch. -/
def segCounted (s : Body) (m : SegMsg) : Body :=
  { s with twin := { s.twin with
    rxGap := s.twin.rxGap || m.seg != s.twin.rxSegs + 1, rxSegs := m.seg, rxRecs := s.twin.rxRecs + m.recs.length } }

theorem segmentRx_of_follows {b : Body} {h : MsgHdr} {m : SegMsg} (order : inOrder b h) (fresh : b.epochNow ≤ m.epoch)
    (follows : b.follows = true) : b.segmentRx h m = (((rcvd b h).batchBegun m).segCounted m).forEach m.recs mirrorApply := by
  have follows' : (rcvd b h).follows = true := follows
  simp only [segmentRx, rxMsg_of_inOrder order, staleMsg, epochNow_rcvd, Nat.not_lt.2 fresh, follows', batchBegun, segCounted]
  rfl

theorem batchBegun_first (s : Body) {m : SegMsg} (first : m.seg = 1) :
    s.batchBegun m = { s with twin := { s.twin with rxBatch := m.batch, rxSegs := 0, rxRecs := 0, rxGap := false } } := by
  simp [batchBegun, first]

theorem batchBegun_same {s : Body} {m : SegMsg} (next : m.seg ≠ 1) (same : m.batch = s.twin.rxBatch) : s.batchBegun m = s := by
  simp [batchBegun, next, same]

theorem nc_batchBegun (s : Body) (m : SegMsg) : (s.batchBegun m).nc = s.nc := by
  unfold batchBegun
  split <;> rfl

/-- A SEAL that names what has arrived is acknowledged at once where nothing waits. -/
theorem sealRx_of_whole {b : Body} {h : MsgHdr} {m : SealMsg} (order : inOrder b h) (fresh : b.epochNow ≤ m.epoch)
    (follows : b.follows = true) (whole : b.twin.rxGap = false) (batch : m.batch = b.twin.rxBatch) (segments : m.segments = b.twin.rxSegs)
    (records : m.records = b.twin.rxRecs) (none_ : b.twin.ackOwed = []) (idle : b.nc.held.any (·.req == Requester.mirror) = false) :
    ∃ t : Body, (b.sealRx h m).out = (t.twinSend (.ack m.batch m.records 0)).out ∧ t.frameNo = b.frameNo
      ∧ (b.sealRx h m).twin.ackOwed = [] := by
  have follows' : (rcvd b h).follows = true := follows
  have taken : b.sealRx h m = ({ rcvd b h with twin := { (rcvd b h).twin with ackOwed := [(m.batch, m.records)] } } : Body).ackTry := by
    have current : (rcvd b h).staleMsg m.epoch = false := decide_eq_false (Nat.not_lt.2 fresh)
    have whole' : (rcvd b h).twin.rxGap = false := whole
    have batch' : m.batch = (rcvd b h).twin.rxBatch := batch
    have segments' : m.segments = (rcvd b h).twin.rxSegs := segments
    have records' : m.records = (rcvd b h).twin.rxRecs := records
    have none' : (rcvd b h).twin.ackOwed = [] := none_
    unfold sealRx
    rw [rxMsg_of_inOrder order]
    simp [current, follows', whole', ← batch', ← segments', ← records', none']
  rw [taken]
  unfold ackTry
  dsimp only
  have idle' : (rcvd b h).nc.held.any (·.req == Requester.mirror) = false := idle
  rw [idle']
  exact ⟨_, rfl, rfl, rfl⟩

/-! ## Acknowledgements taken (R31, R189, R235) -/

/-- An acknowledged batch is marked so, while the pair is not split. -/
def batchAcked (s : Body) (batch : Nat) : Body :=
  if s.get F.SPLIT_INFO_SPLIT_FRAME != 0 then s else
    { s with per := { s.per with batches := s.per.batches.map fun (b : Batch) => if b.frame = batch then { b with acked := true } else b } }

/-- An acknowledgement moves LAST_ACKED up and ends the copies of its batch. -/
def copiesAcked (s : Body) (batch : Nat) (apart : Bool) : Body :=
  let s := if s.get F.TWIN_BATCH_LAST_ACKED < batch then s.put F.TWIN_BATCH_LAST_ACKED batch else s
  let done := (s.twin.resync.copying.filter fun c => c.2 = batch).map (·.1)
  let s := s.resyncMod fun r => { r with
    log := r.log.filter fun e => e.2 != batch
    copying := r.copying.filter fun c => c.2 != batch
    bitmap := r.bitmap.filter fun g => !done.contains g
    marking := r.marking && !apart && !r.log.isEmpty }
  let s := s.addWrap F.RESYNC_DONE_COPIED done.length
  if !apart && s.twin.resync.log.isEmpty then s.resyncMod fun r => { r with bitmap := [], marking := false } else s

theorem ackRx_of_holder {b : Body} {h : MsgHdr} (order : inOrder b h) (holds : b.holds = true) (batch : Nat) : b.ackRx h batch 0
    = ((((rcvd b h).batchAcked batch).copiesAcked batch (b.get F.SPLIT_INFO_SPLIT_FRAME != 0)).splitRegs.commitRun).switchSet := by
  have holds' : (rcvd b h).holds = true := holds
  unfold ackRx
  rw [rxMsg_of_inOrder order]
  dsimp only
  rw [holds', if_neg (by decide), if_neg (by decide), copiesAcked, batchAcked]
  rfl

theorem copiesAcked_shown (s : Body) (batch : Nat) (apart : Bool) : (s.copiesAcked batch apart).per = s.per
    ∧ (s.copiesAcked batch apart).twin.resync.copying = s.twin.resync.copying.filter fun c => c.2 != batch := by
  unfold copiesAcked
  dsimp only
  split <;> split <;> exact ⟨rfl, rfl⟩

theorem batches_batchAcked (s : Body) (batch : Nat) : (s.batchAcked batch).per.batches = (if s.get F.SPLIT_INFO_SPLIT_FRAME = 0 then
    s.per.batches.map (fun (x : Batch) => if x.frame = batch then { x with acked := true } else x) else s.per.batches) := by
  by_cases split_ : s.get F.SPLIT_INFO_SPLIT_FRAME = 0 <;> simp [batchAcked, split_]

theorem twin_batchAcked (s : Body) (batch : Nat) : (s.batchAcked batch).twin = s.twin := by
  unfold batchAcked
  split <;> rfl

/-! ## Heartbeats (R47, R230, R231) -/

@[simp] theorem twin_timeRegs (s : Body) : s.timeRegs.twin = s.twin := rfl

@[simp] theorem twin_counterSet (s : Body) (t : Nat) : (s.counterSet t).twin = s.twin := by
  unfold counterSet
  split <;> rfl

@[simp] theorem twin_phaseMeasured (s : Body) (off : Int) : (s.phaseMeasured off).twin = s.twin := by
  unfold phaseMeasured
  dsimp only
  split <;> rfl

theorem twin_when_counterSet (s : Body) (c : Bool) (t : Nat) : (s.when c (·.counterSet t)).twin = s.twin := by
  cases c
  · rfl
  · exact twin_counterSet s t

theorem twin_when_phaseMeasured (s : Body) (c : Bool) (off : Int) : (s.when c (·.phaseMeasured off)).twin = s.twin := by
  cases c
  · rfl
  · exact twin_phaseMeasured s off

/-- A heartbeat is counted; one that finds the counter unset sets it. -/
def heartbeatCounted (s : Body) (t : Nat) : Body := (s.when s.counterUnset (·.counterSet t)).inc F.TWIN_HB_RX

theorem twin_heartbeatCounted (s : Body) (t : Nat) : (s.heartbeatCounted t).twin = s.twin := twin_when_counterSet s s.counterUnset t

/-- What a heartbeat says of the twin and of the link is kept. -/
def heartbeatKept (s : Body) (m : Heartbeat) (t4 : Nat) : Body :=
  let s := { s with twin := { s.twin with hb := m } }
  let s := if s.follows && s.epochNow < m.epoch then s.put F.TWIN_LEASE_EPOCH m.epoch else s
  s.linkMod fun l => { l with lastTx := m.tx, lastRx := t4, peerStable := nbit m.flags 4,
                              revert := if l.revert = 0 then m.revert else l.revert }

/-- The latency and the offset of the twin are measured. -/
def heartbeatMeasured (s : Body) (measured : Bool) (off : Int) (lat : Nat) : Body :=
  if measured then
    let ns := lat / 16
    let lim := (s.periodNs - 300) / 2
    let was := s.get F.TWIN_LINK_LAT_NS
    let s := (s.put F.TWIN_LINK_LAT_NS (min ns 65535)).put F.OFFSET_TWIN (unsgn 32 off)
    let s := if ns > lim && was ≤ lim then s.raise U.twin F.TWIN_EVENTS_LATENCY_HIGH ns else s
    s.when (s.get F.TIME_STATUS_SOURCE == 3) (·.phaseMeasured off)
  else s

/-- The alignment of the twin, its change and that it was heard are noted. -/
def heartbeatNoted (s : Body) (h : MsgHdr) (m : Heartbeat) (measured : Bool) (off : Int) : Body :=
  let fault : Bool := measured && s.follows && off.natAbs > 960
  let s := s.putB F.TIME_STATUS_TWIN_ALIGN_OK (measured && off.natAbs ≤ 80)
  let s := if fault then s.raise U.time F.TIME_EVENTS_TWIN_ALIGN_FAULT off.natAbs else s
  let s := { s with time := { s.time with twinOk := !fault } }
  let s := { s with cfg := { s.cfg with twinSaid := if m.change = 0 then none else some (m.chHash, m.change) } }
  let s := if fault then s else { s with twin := { s.twin with hbFrame := h.frame } }
  s.leaseMod fun l => { l with heard := true, pairRun := if m.role = 0 then l.pairRun + 1 else 0 }

/-- What a heartbeat of the right epoch and period makes of the units. -/
def heartbeatTaken (s : Body) (h : MsgHdr) (m : Heartbeat) (at_ : Nat) : Body :=
  let t4 := s.timeAt at_
  let i := fun (n : Nat) => (n : Int)
  let off : Int := ((i m.echoRx - i m.echoTx) + (i m.tx - i t4)) / 2
  let lat : Nat := (((i t4 - i m.echoTx) - (i m.tx - i m.echoRx)) / 2).toNat
  let measured : Bool := m.echoTx != 0
  (((s.heartbeatKept m t4).heartbeatCounted (m.tx / 16)).heartbeatMeasured measured off lat).heartbeatNoted h m measured off

theorem heartbeatRx_eq (b : Body) (h : MsgHdr) (m : Heartbeat) (at_ : Nat) : b.heartbeatRx h m at_
    = if !(b.rxMsg h).2 then (b.rxMsg h).1
      else if (b.rxMsg h).1.staleMsg m.epoch && m.role != 0 && (b.rxMsg h).1.role != .none then
        (b.rxMsg h).1.raise U.twin F.TWIN_EVENTS_STALE_EPOCH
      else if m.period != (b.rxMsg h).1.periodNs then (b.rxMsg h).1.raise U.twin F.TWIN_EVENTS_PEER_REFUSED
      else (((b.rxMsg h).1.heartbeatTaken h m at_).heartbeatRole (b.rxMsg h).1.twin.hb.role).timeRegs := rfl

theorem heartbeatRx_of_fits {b : Body} {h : MsgHdr} {m : Heartbeat} (order : inOrder b h) (fresh : b.epochNow ≤ m.epoch)
    (period : m.period = b.periodNs) (at_ : Nat) :
    b.heartbeatRx h m at_ = (((rcvd b h).heartbeatTaken h m at_).heartbeatRole b.twin.hb.role).timeRegs := by
  have current : (rcvd b h).staleMsg m.epoch = false := decide_eq_false (Nat.not_lt.2 fresh)
  have same : (m.period != (rcvd b h).periodNs) = false := bne_eq_false_iff_eq.2 period
  rw [heartbeatRx_eq, rxMsg_of_inOrder order, if_neg (by simp), current, if_neg (by simp), same, if_neg (by decide)]
  rfl

theorem twin_heartbeatKept (s : Body) (m : Heartbeat) (t4 : Nat) :
    (s.heartbeatKept m t4).twin.hb = m ∧ (s.heartbeatKept m t4).twin.link.lastTx = m.tx := by
  unfold heartbeatKept
  dsimp only
  split <;> exact ⟨rfl, rfl⟩

@[simp] theorem twin_heartbeatMeasured (s : Body) (measured : Bool) (off : Int) (lat : Nat) :
    (s.heartbeatMeasured measured off lat).twin = s.twin := by
  unfold heartbeatMeasured
  cases measured
  · rfl
  · dsimp only
    rw [if_pos rfl, twin_when_phaseMeasured]
    split <;> rfl

theorem twin_heartbeatNoted (s : Body) (h : MsgHdr) (m : Heartbeat) (measured : Bool) (off : Int) :
    (s.heartbeatNoted h m measured off).twin.hb = s.twin.hb ∧ (s.heartbeatNoted h m measured off).twin.link = s.twin.link
    ∧ (s.heartbeatNoted h m measured off).twin.lease.heard = true := by
  unfold heartbeatNoted
  dsimp only
  split <;> exact ⟨rfl, rfl, rfl⟩

theorem twin_heartbeatTaken (s : Body) (h : MsgHdr) (m : Heartbeat) (at_ : Nat) : (s.heartbeatTaken h m at_).twin.hb = m
    ∧ (s.heartbeatTaken h m at_).twin.lease.heard = true ∧ (s.heartbeatTaken h m at_).twin.link.lastTx = m.tx := by
  unfold heartbeatTaken
  dsimp only
  obtain ⟨hb, link, heard⟩ := twin_heartbeatNoted (((s.heartbeatKept m (s.timeAt at_)).heartbeatCounted (m.tx / 16)).heartbeatMeasured
    (m.echoTx != 0) _ _) h m (m.echoTx != 0) _
  obtain ⟨kept, tx⟩ := twin_heartbeatKept s m (s.timeAt at_)
  refine ⟨hb.trans ?_, heard, (congrArg (·.lastTx) link).trans ?_⟩
  · rw [twin_heartbeatMeasured, twin_heartbeatCounted, kept]
  · rw [twin_heartbeatMeasured, twin_heartbeatCounted, tx]

/-- The 64th missed frame is detected. -/
def missDetected (s : Body) : Body :=
  let s := (s.leaseMod fun l => { l with detected := true }).raise U.twin F.TWIN_EVENTS_DETECTED
  { s with time := { s.time with twinOk := false } }

theorem missDetected_shown (s : Body) : s.missDetected.twin.lease.detected = true
    ∧ ⟨U.twin, .bit F.TWIN_EVENTS_DETECTED, 0⟩ ∈ s.missDetected.evs :=
  ⟨rfl, mem_evs_raise ..⟩

theorem role_missDetected (s : Body) : s.missDetected.role = s.role := by
  have same : s.missDetected.get F.TWIN_STATUS_ROLE = s.get F.TWIN_STATUS_ROLE :=
    get_put_ne (s.leaseMod fun l => { l with detected := true }) F.TWIN_EVENTS_DETECTED _ _ (by decide)
  simp only [role, same]

section
variable {b : Body} (run : 64 ≤ b.get F.TWIN_STATUS_MISSED_RUN) (first : b.twin.lease.detected = false) (on : b.isOn U.twin = true)
include run first on

theorem missed64_eq : b.missed64 = match b.role with
    | .resync => (b.missDetected.resyncAbort).setRole .none
    | .standby => b.missDetected.askSolo
    | .active => (b.missDetected.resyncAbort).askSolo
    | .solo => b.missDetected.resyncAbort
    | .none => b.missDetected := by
  unfold missed64
  rw [first, on, decide_eq_false (Nat.not_lt.2 run), if_neg (by decide), ← role_missDetected b]
  rfl

end

theorem splitToBitmap_shown (s : Body) : s.splitToBitmap.twin.lease = s.twin.lease ∧ s.splitToBitmap.evs = s.evs := ⟨rfl, rfl⟩

/-- A resync that ends early leaves the lease, and what was raised stays raised. -/
theorem resyncAbort_keeps (s : Body) : s.resyncAbort.twin.lease = s.twin.lease ∧ ∀ e ∈ s.evs, e ∈ s.resyncAbort.evs := by
  unfold resyncAbort
  dsimp only
  split
  · exact ⟨rfl, fun _ he => he⟩
  · split
    · exact ⟨rfl, fun _ he => List.mem_append_left _ he⟩
    · exact ⟨rfl, fun _ he => List.mem_append_left _ he⟩

/-! ## Requests of the twin (R229) -/

/-- A request for a line, of a role that serves it, in the window. -/
theorem assistReqRx_line {b : Body} {h : MsgHdr} (order : inOrder b h) (role : b.role = .active ∨ b.role = .standby) {pos : MPos}
    (window : b.inWindow pos = true) {line lg : Nat} (mapped : b.lgOf line = some lg) (awake : b.spFrozen (granOf line) = false)
    {kind : AssistKind} (one : kind ≠ .granuleRepair) {d : LineData} (held : b.asOf line pos = (d, false)) (req : Nat) :
    b.assistReqRx h req kind line pos = (rcvd b h).twinSend (.assistResp req 0 0 [d]) := by
  have serves : ((rcvd b h).role == .active || (rcvd b h).role == .standby) = true := by
    have same : (rcvd b h).role = b.role := rfl
    rcases role with role | role <;> simp [same, role]
  have window' : (rcvd b h).inWindow pos = true := window
  have mapped' : (rcvd b h).lgOf line = some lg := mapped
  have awake' : (rcvd b h).spFrozen (granOf line) = false := awake
  have held' : (rcvd b h).asOf line pos = (d, false) := held
  unfold assistReqRx
  rw [rxMsg_of_inOrder order]
  simp [serves, window', one, mapped', awake', held', maskOf, b2n]

theorem assistRespRx_line {b : Body} {h : MsgHdr} (order : inOrder b h) {req : Nat} {a : AssistReq}
    (asked : b.tier.assists.find? (·.req == req) = some a) (one : a.kind ≠ .granuleRepair) (d : LineData) :
    b.assistRespRx h req 0 0 [d] = (rcvd b h).askEnd a (some d) none := by
  have asked' : (rcvd b h).tier.assists.find? (·.req == req) = some a := asked
  simp [assistRespRx, rxMsg_of_inOrder order, asked', one]

/-- Settles O26. -/
theorem mirrorCommands : Obligations.MirrorCommands := by
  unfold Obligations.MirrorCommands
  refine ⟨fun s mirrors late unsealed => ⟨?segment, fun sealing => ?sealing⟩,
    fun s h m order => ⟨fun stale => leads_of_eq rfl (segmentRx_of_stale order stale) ⟨rfl, mem_evs_raise ..⟩,
      fun fresh follows => leads_of_eq rfl (segmentRx_of_follows order fresh follows) ⟨_, rfl, rfl, nc_batchBegun .., fun first => ?first,
        fun next same => ?next⟩⟩,
    fun s h m order fresh follows whole batch segments records none_ idle => ?sealRx,
    fun s h batch order holds => leads_of_eq rfl (ackRx_of_holder order holds batch) ⟨_, rfl, ?batches, ?copying⟩,
    fun s sub up on => leads_of_eq rfl (?send : s.body.heartbeatSend sub = _) rfl,
    fun s h m at_ order fresh period => leads_of_eq rfl (heartbeatRx_of_fits order fresh period at_) ⟨_, rfl, twin_heartbeatTaken ..⟩,
    fun s run first on => ⟨fun role => leads_of_eq rfl (missed64_eq run first on) ?none_, fun role => leads_of_eq rfl
      (missed64_eq run first on) ?asks⟩,
    fun s h req line lg kind pos d order role window mapped awake one held => leads_of_eq rfl
      (assistReqRx_line order role window mapped awake one held req) (sent_twinSend ..),
    fun s h req a d order asked one => leads_of_eq rfl (assistRespRx_line order asked one d) rfl⟩
  case segment =>
    obtain ⟨t, out, frame, seg, recs⟩ := mirrorSegment_of_open mirrors late unsealed
    refine ⟨_, rfl, seg, recs, ?_⟩
    rw [out, ← frame]
    exact sent_twinSend t _
  case sealing =>
    obtain ⟨t, k, sent, frame, sealed, recs⟩ := sealSend_of_open mirrors late unsealed sealing
    refine leads_of_eq rfl sent ⟨sealed, recs, ?_⟩
    obtain ⟨q, out⟩ := sent_twinSend t (.seal ⟨s.body.frameNo, s.body.twin.seg,
      s.body.twin.recs + (s.body.inSeg s.body.frameNo s.body.twin.seg).length, k, s.body.epochNow⟩)
    rw [frame] at out
    exact ⟨q, k, out⟩
  case first =>
    rw [batchBegun_first _ first]
    exact ⟨rfl, by simp [segCounted, first], by simp [segCounted]⟩
  case next =>
    rw [batchBegun_same next (by exact same)]
    exact ⟨same.symm, rfl, by simp [segCounted, rcvd, linkMod]⟩
  case sealRx =>
    obtain ⟨t, out, frame, none_'⟩ := sealRx_of_whole order fresh follows whole batch segments records none_ idle
    refine ⟨_, rfl, none_', ?_⟩
    rw [out, ← frame]
    exact sent_twinSend t _
  case batches => rw [(copiesAcked_shown ..).1, batches_batchAcked]; rfl
  case copying => rw [(copiesAcked_shown ..).2, twin_batchAcked]; rfl
  case send => simp [heartbeatSend, up, on]
  case none_ =>
    rw [role]
    exact missDetected_shown _
  case asks =>
    obtain ⟨detected, raised⟩ := missDetected_shown s.body
    rcases role with role | role <;> rw [role]
    · exact ⟨_, rfl, detected, raised⟩
    · obtain ⟨lease, evs⟩ := resyncAbort_keeps s.body.missDetected
      exact ⟨_, rfl, lease ▸ detected, evs _ raised⟩

end Body
end Sys2Proof.Machine

/-! Leases and roles (R212 to R216, R233, R240). -/

namespace Sys2Proof.Machine
namespace Body

open Sys2Proof.Stmt

@[simp] theorem twin_reqRegs (s : Body) : s.reqRegs.twin = s.twin := rfl

/-! ## A lease runs and ends (R195, R212, R213) -/

theorem leaseRenew_of_due {b : Body} (holds : b.holds = true) (due : b.twin.lease.renewAt + 50 ≤ b.frameNo) :
    b.leaseRenew = (b.leaseMod fun l => { l with renewAt := b.frameNo }).trivetSend 1 (roleCode b.role) false := by
  simp [leaseRenew, holds, Nat.not_lt.2 due]

theorem leaseStop_of_due {b : Body} (holds : b.holds = true) (runs : b.get F.TWIN_EXPIRY_FRAME ≠ 0)
    (due : b.get F.TWIN_EXPIRY_FRAME ≤ b.frameNo + 8) (reads : b.twin.lease.stopRead = false) :
    b.leaseStop = ((b.leaseMod fun l => { l with stopRead := true }).freezeHoldAll).grantSet := by
  simp [leaseStop, holds, runs, Nat.not_lt.2 due, reads]

theorem leaseExpire_of_due {b : Body} (holds : b.holds = true) (runs : b.get F.TWIN_EXPIRY_FRAME ≠ 0)
    (due : b.get F.TWIN_EXPIRY_FRAME ≤ b.frameNo) :
    b.leaseExpire = ((b.raise U.twin F.TWIN_EVENTS_LEASE_LOST).setRole .none).grantSet := by
  simp [leaseExpire, holds, runs, Nat.not_lt.2 due]

/-! ## Requests without an answer (R213, R216) -/

/-- A request counts as unanswered. -/
def unanswered (s : Body) (id typ : Nat) : Body :=
  let s' := s.leaseMod fun l => { l with
    reqs := l.reqs.map fun x => if x.id == id then { x with dead := true } else x
    unans := if typ == 1 then l.unans + 1 else l.unans
    unansAny := l.unansAny + 1 }
  if s.twin.lease.unansAny + 1 = 2 then s'.raise U.twin F.TWIN_EVENTS_TRIVET_UNREACHED else s'

theorem reqTimeout_eq {b : Body} {id : Nat} {r : TReq} (waits : b.twin.lease.reqs.find? (fun r => r.id == id && !r.dead) = some r) :
    b.reqTimeout id = if r.typ == 2 then (b.unanswered id r.typ).trivetSend r.typ r.kind r.force else (b.unanswered id r.typ).reqRegs := by
  simp only [reqTimeout, waits, unanswered]

theorem lease_unanswered (s : Body) (id typ : Nat) : (s.unanswered id typ).twin.lease = { s.twin.lease with
    reqs := s.twin.lease.reqs.map fun x => if x.id == id then { x with dead := true } else x
    unans := if typ == 1 then s.twin.lease.unans + 1 else s.twin.lease.unans
    unansAny := s.twin.lease.unansAny + 1 } := by
  unfold unanswered
  dsimp only
  split <;> rfl

/-- No request of an identity waits any longer. -/
theorem unanswered_none (s : Body) (id typ : Nat) : ((s.unanswered id typ).twin.lease.reqs.any fun x => x.id == id && !x.dead) = false := by
  rw [lease_unanswered, List.any_map, List.any_eq_false]
  intro x _
  by_cases same : x.id = id <;> simp [same]

/-! ## Answers of a Trivet (R213, R216, R217) -/

section
variable {b : Body} {m : TrivetMsg} {key : Nat} {r : TReq} (src us : Nat)
  (known : b.trivetKey key = true) (domain : m.domain = b.cfg.img.fix.domain) (own : m.member = b.cfg.img.fix.member)
  (waits : b.twin.lease.reqs.find? (·.id == m.reqId) = some r)

/-- What an answer shows. -/
def answerShown (s : Body) (m : TrivetMsg) (src us : Nat) : Body :=
  let s := ((s.put F.TRIVET_STATUS_LAST_SRC src).put F.TRIVET_STATUS_LAST_TYPE m.typ).putB F.TRIVET_STATUS_LAST_RELAYED false
  let s := (s.put F.TRIVET_STATUS_RTT_US us).inc F.TRIVET_COUNT_ANSWERED
  if m.typ = 4 then (s.put F.TRIVET_STATUS_LAST_REASON m.reason).inc F.TRIVET_STATUS_REFUSALS else s

/-- A request has been answered. -/
def reqAnswered (s : Body) (id : Nat) : Body :=
  (s.leaseMod fun l => { l with reqs := l.reqs.filter (·.id != id), unans := 0, unansAny := 0 }).reqRegs

theorem twin_answerShown (s : Body) (m : TrivetMsg) (src us : Nat) : (s.answerShown m src us).twin = s.twin := by
  unfold answerShown
  dsimp only
  split <;> rfl

include known domain own waits

theorem trivetAnswer_own : b.trivetAnswer m (some src) key us = if m.typ = 4 && m.reason = 3 then b.answerShown m src us
    else if m.typ = 3 then ((b.answerShown m src us).reqAnswered m.reqId).granted r m
    else if m.typ = 4 then ((b.answerShown m src us).reqAnswered m.reqId).refused m
    else (b.answerShown m src us).reqAnswered m.reqId := by
  have mine : (!b.trivetKey key || m.domain != b.cfg.img.fix.domain) = false := by simp [known, domain]
  have relay : (m.member == b.cfg.img.fix2.twinMember && m.member != b.cfg.img.fix.member) = false := by simp [own]
  have here : (m.member != b.cfg.img.fix.member) = false := by simp [own]
  unfold trivetAnswer
  rw [mine, relay, here, waits]
  rfl

theorem trivetAnswer_shown : ∃ t : Body, t.twin.lease.unans = 0 ∧ t.twin.lease.reqs = b.twin.lease.reqs.filter (·.id != m.reqId)
    ∧ (m.typ = 3 → b.trivetAnswer m (some src) key us = t.granted r m)
    ∧ (m.typ = 4 → m.reason ≠ 3 → b.trivetAnswer m (some src) key us = t.refused m)
    ∧ (m.typ = 4 → m.reason = 3 → (b.trivetAnswer m (some src) key us).twin.lease = b.twin.lease) := by
  rw [trivetAnswer_own src us known domain own waits]
  refine ⟨(b.answerShown m src us).reqAnswered m.reqId, rfl, ?_, fun grant => ?_, fun refuse acted => ?_, fun refuse starting => ?_⟩
  · show (b.answerShown m src us).twin.lease.reqs.filter _ = _
    rw [twin_answerShown]
  · simp [grant]
  · simp [refuse, acted]
  · simp [refuse, starting, twin_answerShown]

end

/-! ## Handoff and pairing (R233, R240) -/

theorem handoffRelease_of_ready {b : Body} (asked : b.twin.lease.handoff = true) (active : b.role = .active)
    (standby : b.twinRole = .standby) (stopped : b.twin.lease.stopRead = true) (committed : b.per.batches = []) : b.handoffRelease
    = ((((b.leaseMod fun l => { l with handSent := true }).heartbeatOut).trivetSend 5 0 false).setRole .none true).grantSet := by
  simp [handoffRelease, asked, active, standby, stopped, committed]

theorem pairWait_of_silence {b : Body} (none_ : b.role = .none) (on : b.isOn U.twin = true) (silent : b.twin.lease.heard = false)
    (replayed : b.replayOver = true) (due : b.twin.lease.onAt + b.get F.TWIN_CFG_PAIR_WAIT_MS * 1000000 ≤ b.time.tai) :
    b.pairWait = b.askSolo := by
  simp [pairWait, none_, on, silent, replayed, Nat.not_lt.2 due]

/-- Settles O27. -/
theorem leaseCommands : Obligations.LeaseCommands := by
  unfold Obligations.LeaseCommands
  refine ⟨fun s holds due => leads_of_eq rfl (leaseRenew_of_due holds due) rfl,
    fun s holds runs => ⟨fun due reads => leads_of_eq rfl (leaseStop_of_due holds runs due reads) rfl,
      fun due => leads_of_eq rfl (leaseExpire_of_due holds runs due) rfl⟩,
    fun s id r waits => ⟨fun other => leads_of_eq rfl ((reqTimeout_eq waits).trans (if_neg (by simpa using other))) ?counted,
      fun request => leads_of_eq rfl ((reqTimeout_eq waits).trans (if_pos (by simpa using request)))
        ⟨_, by rw [request], unanswered_none ..⟩⟩,
    fun s m src key us r known domain own waits => ?answers,
    fun s actor act => leads_command act rfl,
    fun s asked active standby stopped committed => leads_of_eq rfl (handoffRelease_of_ready asked active standby stopped committed) rfl,
    fun s actor act => leads_command act rfl,
    fun s none_ on silent replayed due => leads_of_eq rfl (pairWait_of_silence none_ on silent replayed due) rfl⟩
  case counted =>
    rw [twin_reqRegs]
    refine ⟨?_, ?_, unanswered_none ..⟩ <;> rw [lease_unanswered]
    simp
  case answers =>
    obtain ⟨t, unans, reqs, grant, -⟩ := trivetAnswer_shown (m := { m with typ := 3 }) src us known domain own waits
    obtain ⟨t', unans', reqs', -, refuse, starting⟩ := trivetAnswer_shown (m := { m with typ := 4 }) src us known domain own waits
    exact ⟨leads_of_eq rfl (grant rfl) ⟨_, rfl, unans, reqs⟩, fun acted => leads_of_eq rfl (refuse rfl acted) ⟨_, rfl, unans', reqs'⟩,
      fun hold => ⟨_, rfl, starting rfl hold⟩⟩

end Body
end Sys2Proof.Machine

/-! A resync and its switch frame (R236 to R238), and service as a witness (R214, R217). -/

namespace Sys2Proof.Machine
namespace Body

open Sys2Proof.Stmt

theorem role_of_get {a b : Body} (h : b.get F.TWIN_STATUS_ROLE = a.get F.TWIN_STATUS_ROLE) : b.role = a.role := by
  simp only [role, h]

/-! ## Entering a role that serves (R212) -/

theorem roleCode_lt (r : Role) : roleCode r % 2 ^ F.TWIN_STATUS_ROLE.w = roleCode r := by cases r <;> rfl

theorem role_of_code {b : Body} {r : Role} (h : b.get F.TWIN_STATUS_ROLE = roleCode r) : b.role = r := by
  unfold role
  rw [h]
  cases r <;> rfl

/-- A role is shown and its change told; a REQUEST made in the old role is not sent again. -/
def roleEntered (s : Body) (r : Role) : Body :=
  let s := (s.put F.TWIN_STATUS_ROLE (roleCode r)).raise U.twin F.TWIN_EVENTS_ROLE_CHANGE (roleCode r)
  (s.leaseMod fun l => { l with
    reqs := l.reqs.map fun x => if x.typ == 2 then { x with dead := true } else x
    handSent := l.handSent && r == .none, leaving := l.leaving && r == .none }).reqRegs

/-- RESYNC begins with no batch. -/
def batchDropped (s : Body) (r : Role) : Body :=
  if r == .resync then { s with twin := { s.twin with rxBatch := 0, rxSegs := 0, rxRecs := 0, rxGap := false, ackOwed := [] } } else s

/-- Whoever leaves for NONE drops what went with the role, and a holder says that it has lost it. -/
def roleLeft (s : Body) (was r : Role) : Body :=
  let s := if r == .none then s.roleDrop else s
  if r == .none && (was == .active || was == .solo) then s.postN U.twin .lostRole else s

theorem setRole_eq (b : Body) (r : Role) (clean : Bool) : b.setRole r clean = if b.role == r then b
    else ((((b.epochWrite .record r clean).roleEntered r).roleLeft b.role r).batchDropped r).timeRegs.later .ports := rfl

theorem roleLeft_some (s : Body) (was : Role) {r : Role} (some_ : r ≠ .none) : s.roleLeft was r = s := by
  simp [roleLeft, some_]

theorem setRole_new {b : Body} {r : Role} (new : b.role ≠ r) (some_ : r ≠ .none) (clean : Bool) :
    b.setRole r clean = (((b.epochWrite .record r clean).roleEntered r).batchDropped r).timeRegs.later .ports := by
  rw [setRole_eq, if_neg (by simpa using new), roleLeft_some _ _ some_]

theorem get_roleEntered (s : Body) (r : Role) (f : Fld) (own : F.TWIN_STATUS_ROLE.apart f = true) (event : F.TWIN_EVENTS_ROLE_CHANGE.apart f = true)
    (pending : F.TWIN_STATUS_REQUEST_PENDING.apart f = true) : (s.roleEntered r).get f = s.get f := by
  unfold roleEntered reqRegs
  rw [putB_eq, get_put_ne _ _ _ _ pending]
  exact (get_put_ne _ _ _ _ event).trans (get_put_ne _ _ _ _ own)

theorem role_roleEntered (s : Body) (r : Role) : (s.roleEntered r).get F.TWIN_STATUS_ROLE = roleCode r := by
  unfold roleEntered reqRegs
  rw [putB_eq, get_put_ne _ _ _ _ (by decide)]
  exact (get_put_ne _ _ _ _ (by decide)).trans ((get_put_same _ _ _ (by decide)).trans (roleCode_lt r))

theorem resync_roleEntered (s : Body) (r : Role) : (s.roleEntered r).twin.resync = s.twin.resync := rfl

theorem get_batchDropped (s : Body) (r : Role) (f : Fld) : (s.batchDropped r).get f = s.get f := by
  unfold batchDropped
  split <;> rfl

theorem resync_batchDropped (s : Body) (r : Role) : (s.batchDropped r).twin.resync = s.twin.resync := by
  unfold batchDropped
  split <;> rfl

theorem get_later (s : Body) (t : Todo) (f : Fld) : (s.later t).get f = s.get f := rfl
theorem get_epochWrite (s : Body) (o : RackOrder) (r : Role) (clean : Bool) (f : Fld) : (s.epochWrite o r clean).get f = s.get f := rfl
theorem resync_epochWrite (s : Body) (o : RackOrder) (r : Role) (clean : Bool) : (s.epochWrite o r clean).twin.resync = s.twin.resync := rfl
theorem twin_later (s : Body) (t : Todo) : (s.later t).twin = s.twin := rfl

/-- A role of a holder or a follower that is new is entered: it is shown, and the resync stays. -/
theorem setRole_shown {b : Body} {r : Role} (new : b.role ≠ r) (some_ : r ≠ .none) (clean : Bool := false) : (b.setRole r clean).role = r
    ∧ (b.setRole r clean).get F.RESYNC_STATUS_STATE = b.get F.RESYNC_STATUS_STATE
    ∧ (b.setRole r clean).twin.resync = b.twin.resync := by
  rw [setRole_new new some_]
  refine ⟨role_of_code ?_, ?_, ?_⟩
  · rw [get_later, get_timeRegs _ _ (by decide) (by decide) (by decide) (by decide), get_batchDropped, role_roleEntered]
  · rw [get_later, get_timeRegs _ _ (by decide) (by decide) (by decide) (by decide), get_batchDropped,
      get_roleEntered _ _ _ (by decide) (by decide) (by decide), get_epochWrite]
  · rw [twin_later, twin_timeRegs, resync_batchDropped, resync_roleEntered, resync_epochWrite]

/-! ## What persistence leaves of the twin -/

/-- The twin unit alone. -/
def onlyTwin (b : Body) : Body := { twin := b.twin }

theorem onlyTwin_blind : Blind onlyTwin := fun _ _ _ _ => rfl

/-- The registers of the media and of persistence, and nothing of the twin unit. -/
abbrev TwinKept (a b : Body) : Prop := Kept onlyTwin (Range 0x80000 0xA0000) a b

section
variable {a b : Body}

theorem Kept.commitRun (h : TwinKept a b) : TwinKept a b.commitRun := by
  unfold Body.commitRun
  dsimp only
  refine Kept.putB (.put (.hidden (.forEach h _ _ fun x _ t ht => ?_)) _ _ (by decide)) _ _ (by decide)
  have declared := ht.put F.COMMIT_FRAME_FRAME x.frame (by decide)
  refine Kept.forEach (.ite _ (.put (.ite _ (declared.raise _ F.PERSIST_EVENTS_COMMIT_LATE _ (by decide)) declared) _ _ (by decide))
    (.ite _ (declared.raise _ F.PERSIST_EVENTS_COMMIT_LATE _ (by decide)) declared)) _ _ fun w _ u hu => hu.hidden

/-- What a grant shows. -/
def grantShown (s : Body) (old g link level simmer drain k causes : Nat) : Body :=
  let s := (s.put F.CREDIT_NOW_GRANT g).put F.CREDIT_NOW_C_LINK link
  let s := ((s.put F.CREDIT_NOW_C_LEVEL level).put F.CREDIT_IN_C_SIMMER simmer).put F.CREDIT_IN_C_DRAIN drain
  let s := (s.put F.CREDIT_IN_CUT_LEVEL k).put F.PERSIST_STATUS_STOP_CAUSE causes
  let s := s.put F.PERSIST_STATUS_ADMIT (if causes != 0 then 2 else if g = link then 0 else 1)
  let s := if causes &&& (causes ^^^ old) != 0 then s.raise U.persist F.PERSIST_EVENTS_ADMIT_STOPPED causes else s
  if causes = 0 && old != 0 then s.raise U.persist F.PERSIST_EVENTS_ADMIT_RESUMED else s

theorem grantSet_eq (s : Body) : ∃ old g link level simmer drain k causes : Nat,
    s.grantSet = s.grantShown old g link level simmer drain k causes := ⟨_, _, _, _, _, _, _, _, rfl⟩

theorem Kept.grantSet {view : Body → Body} (h : Kept view (Range 0x80000 0xA0000) a b) : Kept view (Range 0x80000 0xA0000) a b.grantSet := by
  obtain ⟨old, g, link, level, simmer, drain, k, causes, e⟩ := grantSet_eq b
  rw [e]
  unfold grantShown
  dsimp only
  have shown := ((((((((h.put F.CREDIT_NOW_GRANT g (by decide)).put F.CREDIT_NOW_C_LINK link (by decide)).put F.CREDIT_NOW_C_LEVEL level
    (by decide)).put F.CREDIT_IN_C_SIMMER simmer (by decide)).put F.CREDIT_IN_C_DRAIN drain (by decide)).put F.CREDIT_IN_CUT_LEVEL k
    (by decide)).put F.PERSIST_STATUS_STOP_CAUSE causes (by decide)).put F.PERSIST_STATUS_ADMIT
    (if causes != 0 then 2 else if g = link then 0 else 1) (by decide))
  have stopped := Kept.ite (causes &&& (causes ^^^ old) != 0) (shown.raise U.persist F.PERSIST_EVENTS_ADMIT_STOPPED causes (by decide)) shown
  exact .ite _ (stopped.raise _ F.PERSIST_EVENTS_ADMIT_RESUMED _ (by decide)) stopped

theorem Kept.vaultRegs (h : TwinKept a b) : TwinKept a b.vaultRegs := by
  unfold Body.vaultRegs
  iterate 6 refine Kept.put ?_ _ _ (by decide)
  exact h

theorem Kept.vaultHdr (h : TwinKept a b) (x : VaultHdr) : TwinKept a (b.vaultHdr x) := Kept.vaultRegs h.hidden

theorem Kept.asked (h : TwinKept a b) (t : Todo) : TwinKept a (b.later t) := h.hidden

theorem Kept.unheld (h : TwinKept a b) : TwinKept a { b with per := { b.per with hold := false } } := h.hidden

theorem Kept.holdEnd (h : TwinKept a b) : TwinKept a b.holdEnd := by
  unfold Body.holdEnd
  exact .ite _ h (((h.unheld.vaultHdr _).put F.PERSIST_STATUS_VAULT_INCOMPLETE _ (by decide)).asked _)

end

theorem Kept.twin_of_onlyTwin {own : Nat → Prop} {a b : Body} (h : Kept onlyTwin own a b) : b.twin = a.twin := congrArg (·.twin) h.units
theorem Kept.per_of_offRegs {own : Nat → Prop} {a b : Body} (h : Kept offRegs own a b) : b.per = a.per := congrArg (·.per) h.units

theorem per_grantSet (s : Body) : s.grantSet.per = s.per := ((Kept.refl offRegs_blind).grantSet).per_of_offRegs

theorem hold_holdEnd (s : Body) : s.holdEnd.per.hold = false := by
  unfold holdEnd
  split
  next unheld => simpa using unheld
  next => rfl

/-! ## A resync begins (R212, R236) -/

theorem get_splitRegs (s : Body) (f : Fld) (entries : F.SPLIT_LOG_ENTRIES.apart f = true) (remaining : F.RESYNC_STATUS_REMAINING.apart f = true)
    (over_ : F.SPLIT_LOG_OVERFLOWED.apart f = true) : s.splitRegs.get f = s.get f := by
  unfold splitRegs
  dsimp only
  rw [putB_eq, get_put_ne _ _ _ _ over_, get_put_ne _ _ _ _ remaining, get_put_ne _ _ _ _ entries]

theorem resync_splitRegs (s : Body) : s.splitRegs.twin.resync = s.twin.resync := rfl
theorem role_splitRegs (s : Body) : s.splitRegs.role = s.role := role_of_get (get_splitRegs _ _ (by decide) (by decide) (by decide))

theorem get_twinSend (s : Body) (m : TwinMsg) (f : Fld) : (s.twinSend m).get f = s.get f := rfl
theorem resync_twinSend (s : Body) (m : TwinMsg) : (s.twinSend m).twin.resync = s.twin.resync := rfl

section
variable {b : Body} {mode : Nat} (none_ : b.role = .none) (on : b.isOn U.twin = true)
  (holder : b.twin.hb.role = 1 ∨ b.twin.hb.role = 3) (same : b.sameImage = true) (power : b.per.pf = .idle)
include none_ on holder same power

/-- A START of a holder may be taken in NONE. -/
theorem start_taken :
    (b.role != .none || !b.isOn U.twin || b.twin.hb.role == 2 || b.twin.hb.role == 4 || !b.sameImage || b.per.pf != .idle) = false := by
  rcases holder with role | role <;> simp [none_, on, role, same, power]

theorem resyncTake_held (early : b.replayOver = false ∨ ((List.range 12).any fun c => b.spMode c == .frozen) = true) :
    b.resyncTake mode = b.resyncMod fun r => { r with heldStart := some mode } := by
  have wait : (!b.replayOver || b.twin.hb.role == 0 || (List.range 12).any (fun c => b.spMode c == .frozen)) = true := by
    rcases early with replay | frozen
    · simp [replay]
    · rw [frozen, Bool.or_true]
  unfold resyncTake
  rw [start_taken none_ on holder same power, wait]
  rfl

end

/-- The twin's records of a resync are dropped, whose granules have been taken. -/
def resyncCleared (s : Body) : Body :=
  let s := if s.epochNow < s.twin.hb.epoch then s.put F.TWIN_LEASE_EPOCH s.twin.hb.epoch else s
  s.resyncMod fun r => { r with log := [], bitmap := [], marking := false, switchF := 0, heldStart := none }

/-- RESYNC is entered, and the LOG sent. -/
def resyncEntered (s : Body) (m : Nat) (c : TwinMsg) : Body :=
  (((s.splitRegs.setRole .resync).put F.RESYNC_STATUS_STATE 2).put F.RESYNC_STATUS_MODE m).twinSend c

theorem resyncTake_begins {b : Body} {mode : Nat} (none_ : b.role = .none) (on : b.isOn U.twin = true)
    (holder : b.twin.hb.role = 1 ∨ b.twin.hb.role = 3) (same : b.sameImage = true) (power : b.per.pf = .idle)
    (replayed : b.replayOver = true) (awake : ((List.range 12).any fun c => b.spMode c == .frozen) = false) :
    ∃ (m : Nat) (c : TwinMsg), b.resyncTake mode = b.resyncCleared.resyncEntered m c := by
  have now : (!b.replayOver || b.twin.hb.role == 0 || (List.range 12).any (fun c => b.spMode c == .frozen)) = false := by
    rw [awake]
    rcases holder with role | role <;> simp [replayed, role]
  unfold resyncTake
  rw [start_taken none_ on holder same power, now]
  exact ⟨_, _, rfl⟩

theorem resyncCleared_shown (s : Body) : s.resyncCleared.role = s.role ∧ s.resyncCleared.twin.resync.log = []
    ∧ s.resyncCleared.twin.resync.bitmap = [] := by
  unfold resyncCleared
  dsimp only
  split
  · exact ⟨role_of_get (get_put_ne _ _ _ _ (by decide)), rfl, rfl⟩
  · exact ⟨rfl, rfl, rfl⟩

theorem resyncEntered_shown {s : Body} (none_ : s.role = .none) (m : Nat) (c : TwinMsg) : (s.resyncEntered m c).role = .resync
    ∧ (s.resyncEntered m c).get F.RESYNC_STATUS_STATE = 2 ∧ (s.resyncEntered m c).twin.resync = s.twin.resync := by
  have new : s.splitRegs.role ≠ .resync := by
    rw [role_splitRegs, none_]
    exact nofun
  obtain ⟨entered, -, resync⟩ := setRole_shown new nofun
  refine ⟨(role_of_get ?_).trans entered, ?_, resync.trans (resync_splitRegs s)⟩ <;> rw [resyncEntered, get_twinSend]
  · rw [get_put_ne _ _ _ _ (by decide), get_put_ne _ _ _ _ (by decide)]
  · rw [get_put_ne _ _ _ _ (by decide), get_put_same _ _ _ (by decide)]
    rfl

theorem holds_of_role {b : Body} (role : b.role = .solo ∨ b.role = .active) : b.holds = true := by
  rcases role with role | role <;> simp [holds, role]

/-- Granules are marked for the copy, which runs. -/
def resyncMarked (s : Body) (full : Bool) (marks : List Nat) : Body :=
  (((s.resyncMod fun r => { r with bitmap := marks.foldl insertNat r.bitmap }).putB F.RESYNC_STATUS_MODE full).put F.RESYNC_STATUS_STATE 2)

theorem resyncLogRx_eq (b : Body) (h : MsgHdr) (mode : Nat) (grans : List Nat) : b.resyncLogRx h mode grans
    = if !(b.rxMsg h).2 then (b.rxMsg h).1
      else if !(b.rxMsg h).1.holds || ((b.rxMsg h).1.get F.RESYNC_STATUS_STATE != 1 && (b.rxMsg h).1.get F.RESYNC_STATUS_STATE != 2) then
        (b.rxMsg h).1
      else ((b.rxMsg h).1.resyncMarked (mode == 1 || (b.rxMsg h).1.flag F.RESYNC_STATUS_MODE)
        (if mode == 1 || (b.rxMsg h).1.flag F.RESYNC_STATUS_MODE then (b.rxMsg h).1.mdChans.flatMap (b.rxMsg h).1.mappedOn
          else grans)).splitRegs.switchSet := rfl

theorem resyncLogRx_of_part {b : Body} {h : MsgHdr} (order : inOrder b h) (holds : b.holds = true)
    (state : b.get F.RESYNC_STATUS_STATE = 1 ∨ b.get F.RESYNC_STATUS_STATE = 2) (part : b.flag F.RESYNC_STATUS_MODE = false)
    (grans : List Nat) : b.resyncLogRx h 0 grans = (((rcvd b h).resyncMarked false grans).splitRegs).switchSet := by
  have holds' : (rcvd b h).holds = true := holds
  have part' : (rcvd b h).flag F.RESYNC_STATUS_MODE = false := part
  have runs : ((rcvd b h).get F.RESYNC_STATUS_STATE != 1 && (rcvd b h).get F.RESYNC_STATUS_STATE != 2) = false := by
    have same : (rcvd b h).get F.RESYNC_STATUS_STATE = b.get F.RESYNC_STATUS_STATE := rfl
    rcases state with state | state <;> simp [same, state]
  simp [resyncLogRx_eq, rxMsg_of_inOrder order, holds', part', runs]

theorem resyncDoneRx_of_resync {b : Body} {h : MsgHdr} (order : inOrder b h) (role : b.role = .resync) :
    b.resyncDoneRx h = (rcvd b h).put F.RESYNC_STATUS_STATE 3 := by
  have role' : (rcvd b h).role = .resync := role
  simp [resyncDoneRx, rxMsg_of_inOrder order, role']

theorem resyncAbortRx_of_resync {b : Body} {h : MsgHdr} (order : inOrder b h) (role : b.role = .resync) :
    b.resyncAbortRx h = ((rcvd b h).resyncAbort).setRole .none := by
  have role' : (rcvd b h).role = .resync := role
  simp [resyncAbortRx, rxMsg_of_inOrder order, role']

/-! ## The switch frame (R238) -/

/-- At the switch the marks of the split are gone, and the resync is done. -/
def switched (s : Body) : Body :=
  let s := (s.resyncMod fun r => { r with
      switchF := 0, grantAct := false, marking := false, bitmap := [], log := [], copying := [], tainted := false }).splitRegs
  (((s.put F.RESYNC_STATUS_STATE 4).put F.SPLIT_INFO_SPLIT_FRAME 0).put F.RESYNC_STATUS_BITMAP_VALID 1).raise U.twin F.TWIN_EVENTS_RESYNC_DONE

theorem switched_shown (s : Body) : s.switched.role = s.role ∧ s.switched.get F.RESYNC_STATUS_STATE = 4
    ∧ s.switched.twin.resync.switchF = 0 ∧ s.switched.twin.resync.bitmap = [] := by
  refine ⟨role_of_get ?_, ?_, rfl, rfl⟩ <;> unfold switched <;> dsimp only
  · rw [get_raise, get_put_ne _ _ _ _ (by decide), get_put_ne _ _ _ _ (by decide), get_put_ne _ _ _ _ (by decide),
      get_put_ne _ _ _ _ (by decide), get_splitRegs _ _ (by decide) (by decide) (by decide)]
    rfl
  · rw [get_raise, get_put_ne _ _ _ _ (by decide), get_put_ne _ _ _ _ (by decide), get_put_ne _ _ _ _ (by decide),
      get_put_same _ _ _ (by decide)]
    rfl

/-- Only the batches from the switch frame on need an acknowledgement. -/
def needFrom (s : Body) (w : Nat) : Body :=
  { s with per := { s.per with batches := s.per.batches.map fun (b : Batch) => { b with needs := w ≤ b.frame } } }

theorem switchFrame_eq (b : Body) : b.switchFrame = if b.twin.resync.switchF = 0 || b.frameNo < b.twin.resync.switchF then b
    else match b.role with
      | .solo | .active => if !b.twin.resync.grantAct then b
        else (((b.switched.setRole .active).needFrom b.twin.resync.switchF).commitRun).grantSet
      | .resync => ((b.switched.setRole .standby).holdEnd).grantSet
      | _ => b := rfl

section
variable {b : Body} (set_ : b.twin.resync.switchF ≠ 0) (due : b.twin.resync.switchF ≤ b.frameNo)
include set_ due

theorem switch_due : (b.twin.resync.switchF = 0 || b.frameNo < b.twin.resync.switchF : Bool) = false := by simp [set_, due]

theorem switchFrame_of_holder (role : b.role = .solo) (granted : b.twin.resync.grantAct = true) :
    b.switchFrame = (((b.switched.setRole .active).needFrom b.twin.resync.switchF).commitRun).grantSet := by
  rw [switchFrame_eq, switch_due set_ due, if_neg Bool.false_ne_true, role]
  dsimp only
  rw [granted, Bool.not_true, if_neg Bool.false_ne_true]

theorem switchFrame_of_follower (role : b.role = .resync) : b.switchFrame = ((b.switched.setRole .standby).holdEnd).grantSet := by
  rw [switchFrame_eq, switch_due set_ due, if_neg Bool.false_ne_true, role]

end

/-- What persistence does of itself leaves the role and the resync. -/
theorem Kept.twinShown {a b : Body} (h : TwinKept a b) : b.role = a.role ∧ b.twin.resync = a.twin.resync
    ∧ b.get F.RESYNC_STATUS_STATE = a.get F.RESYNC_STATUS_STATE :=
  ⟨role_of_get (h.get_eq _ (by decide)), congrArg (·.resync) h.twin_of_onlyTwin, h.get_eq _ (by decide)⟩

theorem Kept.needed {a b : Body} (h : TwinKept a b) (w : Nat) : TwinKept a (b.needFrom w) := h.hidden

theorem holderSwitched_shown {b : Body} (role : b.role = .solo) (w : Nat) :
    let t := (((b.switched.setRole .active).needFrom w).commitRun).grantSet
    t.role = .active ∧ t.twin.resync.switchF = 0 ∧ t.twin.resync.bitmap = [] ∧ t.get F.RESYNC_STATUS_STATE = 4 := by
  obtain ⟨kept, state, off, bitmap⟩ := switched_shown b
  obtain ⟨active, entered, resync⟩ := setRole_shown (r := .active) (by rw [kept, role]; exact nofun) nofun
  obtain ⟨role', resync', state'⟩ :=
    (((Kept.refl (a := b.switched.setRole .active) onlyTwin_blind).needed w).commitRun.grantSet).twinShown
  rw [resync] at resync'
  exact ⟨role'.trans active, (congrArg (·.switchF) resync').trans off, (congrArg (·.bitmap) resync').trans bitmap,
    state'.trans (entered.trans state)⟩

theorem followerSwitched_shown {b : Body} (role : b.role = .resync) :
    let t := ((b.switched.setRole .standby).holdEnd).grantSet
    t.role = .standby ∧ t.per.hold = false ∧ t.get F.RESYNC_STATUS_STATE = 4 := by
  obtain ⟨kept, state, -, -⟩ := switched_shown b
  obtain ⟨standby, entered, -⟩ := setRole_shown (r := .standby) (by rw [kept, role]; exact nofun) nofun
  obtain ⟨role', -, state'⟩ := ((Kept.refl (a := b.switched.setRole .standby) onlyTwin_blind).holdEnd.grantSet).twinShown
  exact ⟨role'.trans standby, (congrArg (·.hold) (per_grantSet _)).trans (hold_holdEnd _), state'.trans (entered.trans state)⟩

theorem switchDefer_of_due {b : Body} (role : b.role = .solo) (set_ : b.twin.resync.switchF ≠ 0)
    (due : b.twin.resync.switchF ≤ b.frameNo + 4) (ungranted : b.twin.resync.grantAct = false) :
    b.switchDefer = (b.resyncMod fun r => { r with switchF := b.twin.resync.switchF + 16 }).askActive := by
  simp [switchDefer, holds, role, set_, Nat.not_lt.2 due, ungranted]

/-! ## A witness (R214, R217) -/

section
variable {b : Body} {m : TrivetMsg} {key : Nat} {p : WPair} (serves : b.witnessOn = true) (known : b.trivetKey key = true)
  (pair : b.pairOf m = some p)
include serves known pair

theorem witnessRx_seen (seen : b.witnessSeen p m = true) : b.witnessRx m key = b := by
  simp [witnessRx, serves, known, pair, seen]

variable (new : b.witnessSeen p m = false)
include new

theorem witnessRx_renew (holder : p.holder = some m.member) (cur : m.epoch = p.epoch) (typ : m.typ = 1) :
    b.witnessRx m key = b.witnessGrant p m false := by
  simp [witnessRx, serves, known, pair, new, holder, cur, typ]

theorem witnessRx_grant (other : p.holder ≠ some m.member) (open_ : b.witnessHold = false) (cur : m.epoch = p.epoch) (typ : m.typ = 2)
    (ended : p.live = false) : b.witnessRx m key = b.witnessGrant p m true := by
  simp [witnessRx, serves, known, pair, new, other, open_, cur, typ, ended]

theorem witnessRx_queued (other : p.holder ≠ some m.member) (open_ : b.witnessHold = false) (cur : m.epoch = p.epoch) (typ : m.typ = 2)
    (live : p.live = true) : b.witnessRx m key = b.pairPut { p with held := p.held ++ [(b.frameNo, m)] } false := by
  simp [witnessRx, serves, known, pair, new, other, open_, cur, typ, live]

theorem witnessRx_starting (other : p.holder ≠ some m.member) (held : b.witnessHold = true) :
    b.witnessRx m key = b.answerTo m 4 0 3 p.epoch (b.twin.lease.wStart.getD 0 + b.holdFrames - b.frameNo) := by
  simp [witnessRx, serves, known, pair, new, other, held]

theorem witnessRx_release (holder : p.holder = some m.member) (open_ : b.witnessHold = false) (cur : m.epoch = p.epoch) (typ : m.typ = 5)
    (live : p.live = true) : b.witnessRx m key = (b.answerTo m 3 0 0 p.epoch 0).witnessEnded { p with live := false } := by
  simp [witnessRx, serves, known, pair, new, holder, open_, cur, typ, live]

end

section
variable {b : Body} {low high : Nat} {p : WPair} (found : b.twin.lease.pairs.find? (fun p => p.low == low && p.high == high) = some p)
  (live : p.live = true) (due : p.at_ + b.witnessFrames ≤ b.frameNo)
include found live due

theorem witnessEnd_due : b.witnessEnd low high
    = b.witnessEnded { p with live := false, held := if b.witnessOn then p.held else [] } := by
  simp [witnessEnd, found, live, Nat.not_lt.2 due]

theorem witnessEnd_unasked (none_ : p.held = []) : b.witnessEnd low high = b.pairPut { p with live := false } false := by
  obtain ⟨low', high', holder, kind, epoch, live', at_, held⟩ := p
  subst none_
  rw [witnessEnd_due found live due, ite_self]
  rfl

theorem witnessEnd_granted {f : Nat} {h : TrivetMsg} (one : p.held = [(f, h)]) (serves : b.witnessOn = true) : b.witnessEnd low high
    = (b.pairPut { p with holder := some h.member, kind := h.kind, epoch := p.epoch + 1, live := true, at_ := f, held := [] } true).answerTo
      h 3 h.kind 0 (p.epoch + 1) 0 := by
  rw [witnessEnd_due found live due, serves, if_pos rfl, one]
  simp [witnessEnded]

end

theorem witnessHoldEnd_due {b : Body} {f : Nat} (starts : b.twin.lease.wStart = some f) (due : f + b.holdFrames ≤ b.frameNo) :
    b.witnessHoldEnd = (b.leaseMod fun l => { l with wStart := none }).put F.WITNESS_STATUS_STARTING 0 := by
  simp [witnessHoldEnd, starts, Nat.not_lt.2 due]

/-- Settles O28. -/
theorem resyncAndWitnessCommands : Obligations.ResyncAndWitnessCommands := by
  unfold Obligations.ResyncAndWitnessCommands
  refine ⟨⟨fun s h mode order none_ holder same power on => ⟨fun early => ?held, fun replayed awake => ?begins⟩,
      fun s h grans order role state part => leads_of_eq rfl (resyncLogRx_of_part order (holds_of_role role) state part grans)
        ⟨_, rfl, get_put_same _ _ _ (by decide), rfl⟩,
      fun s h order role => ⟨leads_of_eq rfl (resyncDoneRx_of_resync order role) (get_put_same _ _ _ (by decide)),
        leads_of_eq rfl (resyncAbortRx_of_resync order role) rfl⟩,
      fun s set_ due => ⟨fun role granted => leads_of_eq rfl (switchFrame_of_holder set_ due role granted) (holderSwitched_shown role _),
        fun role => leads_of_eq rfl (switchFrame_of_follower set_ due role) (followerSwitched_shown role)⟩,
      fun s role set_ due ungranted => leads_of_eq rfl (switchDefer_of_due role set_ due ungranted) rfl⟩,
    fun s m key p serves known pair => ⟨fun new => ⟨?renew, ?grant, ?queued, ?starting, ?release⟩,
      fun seen => leads_of_eq rfl (witnessRx_seen serves known (pair 2) seen) rfl⟩,
    fun s low high p found live due => ⟨fun none_ => leads_of_eq rfl (witnessEnd_unasked found live due none_) rfl,
      fun f h one serves => leads_of_eq rfl (witnessEnd_granted found live due one serves) rfl⟩,
    fun s f starts due => leads_of_eq rfl (witnessHoldEnd_due starts due) ⟨rfl, get_put_same _ _ _ (by decide)⟩⟩
  case held =>
    have held := resyncTake_held (b := rcvd s.body h) (mode := mode) none_ on holder same power early
    refine leads_of_eq rfl (?_ : s.body.resyncStartRx h mode = (rcvd s.body h).resyncMod fun r => { r with heldStart := some mode })
      ⟨rfl, none_⟩
    rw [resyncStartRx, rxMsg_of_inOrder order]
    exact held
  case begins =>
    obtain ⟨m, c, begun⟩ := resyncTake_begins (b := rcvd s.body h) (mode := mode) none_ on holder same power replayed awake
    obtain ⟨role, log, bitmap⟩ := resyncCleared_shown (rcvd s.body h)
    obtain ⟨entered, state, resync⟩ := resyncEntered_shown (role.trans none_) m c
    refine leads_of_eq rfl (?_ : s.body.resyncStartRx h mode = _) ⟨entered, state, resync ▸ log, resync ▸ bitmap⟩
    rw [resyncStartRx, rxMsg_of_inOrder order]
    exact begun
  case renew => exact fun holder cur => leads_of_eq rfl (witnessRx_renew (m := { m with typ := 1 }) serves known (pair 1) new holder cur rfl) rfl
  case grant =>
    exact fun other open_ cur ended =>
      leads_of_eq rfl (witnessRx_grant (m := { m with typ := 2 }) serves known (pair 2) new other open_ cur rfl ended) rfl
  case queued =>
    exact fun other open_ cur live =>
      leads_of_eq rfl (witnessRx_queued (m := { m with typ := 2 }) serves known (pair 2) new other open_ cur rfl live) rfl
  case starting =>
    exact fun other held => leads_of_eq rfl (witnessRx_starting (m := { m with typ := 2 }) serves known (pair 2) new other held) rfl
  case release =>
    exact fun holder open_ cur live =>
      leads_of_eq rfl (witnessRx_release (m := { m with typ := 5 }) serves known (pair 5) new holder open_ cur rfl live) rfl

end Body
end Sys2Proof.Machine

/-! The CXL host ports (R242 to R264): links, decoders, IDE and the vector of the management window. -/

namespace Sys2Proof.Machine
namespace Body

open Sys2Proof.Stmt

/-- What holds before a list is gone through and survives each of its elements holds after it. -/
theorem forEach_induct {α : Type} {P : Body → Prop} {f : Body → α → Body} (l : List α) {s : Body} (before : P s)
    (step : ∀ t, ∀ x ∈ l, P t → P (f t x)) : P (s.forEach l f) := by
  induction l generalizing s with
  | nil => exact before
  | cons x l ih => exact ih (step s x List.mem_cons_self before) fun t y hy => step t y (List.mem_cons_of_mem x hy)

/-! ## Ports and logical devices -/

@[simp] theorem cxp_cxpMod_same (s : Body) (p : Nat) (f : CxlPort → CxlPort) : (s.cxpMod p f).cxp p = f (s.cxp p) := mgetD_mset_same ..

@[simp] theorem ldOf_ldMod_same (s : Body) (p k : Nat) (f : LdSt → LdSt) : (s.ldMod p k f).ldOf p k = f (s.ldOf p k) := by
  simp only [ldOf, ldMod, cxp_cxpMod_same, mgetD_mset_same]

theorem ldOf_of_cxl {a b : Body} (h : b.cxl = a.cxl) (p k : Nat) : b.ldOf p k = a.ldOf p k := by simp only [ldOf, cxp, h]
theorem cxp_of_cxl {a b : Body} (h : b.cxl = a.cxl) (p : Nat) : b.cxp p = a.cxp p := by simp only [cxp, h]

theorem cxl_ldShow (s : Body) (p k : Nat) : (s.ldShow p k).cxl = s.cxl := rfl
theorem cxl_cxpShow (s : Body) (p : Nat) : (s.cxpShow p).cxl = s.cxl := rfl
theorem cxl_hdmShow (s : Body) (p k : Nat) : (s.hdmShow p k).cxl = s.cxl := by
  unfold hdmShow
  split <;> rfl

@[simp] theorem ldOf_ldShow (s : Body) (p k q j : Nat) : (s.ldShow p k).ldOf q j = s.ldOf q j := ldOf_of_cxl (cxl_ldShow ..) ..
@[simp] theorem ldOf_hdmShow (s : Body) (p k q j : Nat) : (s.hdmShow p k).ldOf q j = s.ldOf q j := ldOf_of_cxl (cxl_hdmShow ..) ..
@[simp] theorem ldOf_cxpShow (s : Body) (p q j : Nat) : (s.cxpShow p).ldOf q j = s.ldOf q j := ldOf_of_cxl (cxl_cxpShow ..) ..
@[simp] theorem cxp_ldShow (s : Body) (p k q : Nat) : (s.ldShow p k).cxp q = s.cxp q := cxp_of_cxl (cxl_ldShow ..) _
@[simp] theorem cxp_hdmShow (s : Body) (p k q : Nat) : (s.hdmShow p k).cxp q = s.cxp q := cxp_of_cxl (cxl_hdmShow ..) _
@[simp] theorem cxp_cxpShow (s : Body) (p q : Nat) : (s.cxpShow p).cxp q = s.cxp q := cxp_of_cxl (cxl_cxpShow ..) _
@[simp] theorem ldOf_raise (s : Body) (u : Nat) (f : Fld) (n p k : Nat) : (s.raise u f n).ldOf p k = s.ldOf p k := rfl

theorem get_cxpShow (s : Body) (p : Nat) (f : Fld) (out : (F.CXP_CREDIT_RD_OUT p).apart f = true)
    (limit : (F.CXP_CREDIT_RD_EFFECTIVE p).apart f = true) (held : (F.CXP_HELD_HELD p).apart f = true)
    (ide : (F.CXP_STATUS_IDE p).apart f = true) (load : (F.CXP_STATUS_DEVLOAD p).apart f = true) : (s.cxpShow p).get f = s.get f := by
  unfold cxpShow
  dsimp only
  rw [get_put_ne _ _ _ _ load, get_put_ne _ _ _ _ ide, get_put_ne _ _ _ _ held, get_put_ne _ _ _ _ limit, get_put_ne _ _ _ _ out]

theorem evs_cxpShow (s : Body) (p : Nat) : (s.cxpShow p).evs = s.evs := rfl
theorem evs_ldShow (s : Body) (p k : Nat) : (s.ldShow p k).evs = s.evs := rfl

/-! ## Decoders (R247) -/

section
variable {b : Body} {p k : Nat} {r : HdmReq} (up : b.ldUp p k = true)
  (free : (if r.dec = 0 then (b.ldOf p k).dec0 else (b.ldOf p k).dec1).locked = false)
include up free

theorem hdmCommit_waits (checking : b.changeState = 1) :
    b.hdmCommit p k r = b.ldMod p k fun l => { l with waiting := l.waiting ++ [r] } := by
  simp [hdmCommit, up, free, checking]

theorem hdmCommit_judged (settled : b.changeState ≠ 1) : b.hdmCommit p k r = b.hdmJudge p k r := by
  simp [hdmCommit, up, free, settled]

end

/-- The decoder that a judged commit leaves. -/
theorem hdmJudge_shown (b : Body) (p k : Nat) (r : HdmReq) :
    let d := if r.dec = 0 then ((b.hdmJudge p k r).ldOf p k).dec0 else ((b.hdmJudge p k r).ldOf p k).dec1
    d.base = r.base ∧ d.size = r.size ∧ d.committed = !b.hdmRefused p k r ∧ d.error = b.hdmRefused p k r
      ∧ d.locked = (r.lock && !b.hdmRefused p k r) := by
  have ite_ldOf (t : Bool) (x y : Body) (same : x.ldOf p k = y.ldOf p k) : (if t then x else y).ldOf p k = y.ldOf p k := by
    cases t
    · rfl
    · exact same
  unfold hdmJudge
  dsimp only
  rw [ldOf_ldShow, ldOf_hdmShow, ite_ldOf _ _ _ (ldOf_raise ..), ldOf_ldMod_same]
  by_cases first : r.dec = 0 <;> simp [first]

/-! ## Links (R242, R260, R261) -/

/-- A link is up, at its rate and width. -/
def linkShown (s : Body) (p link rate width : Nat) : Body :=
  let s := (s.put (F.CXP_STATUS_LINK p) link).put (F.CXP_STATUS_RATE p) rate
  ((s.put (F.CXP_STATUS_WIDTH p) width).inc (F.CXP_STATUS_LINK_UPS p)).raise (U.cxl p) (F.CXP_EVENTS_LINK_UP p)

/-- A new link bears a new CDAT of each of its logical devices. -/
def cdatsRenewed (s : Body) (p : Nat) : Body :=
  s.forEach (List.range (s.ldCount p)) fun s k => (s.ldMod p k fun l => { l with cdatSeq := l.cdatSeq + 1 }).ldShow p k

theorem cxlLinkUp_of_down {b : Body} {p : Nat} (fitted : p < b.cxlPortCount) (on : b.isOn (U.cxl p) = true) (down : b.cxlUp p = false)
    (enabled : b.flag (F.CXP_CTL_LINK_DISABLE p) = false) (rate width : Nat) (flit : Bool) :
    let t := b.linkShown p (if flit && min width b.cxlWidth ≥ 4 then 3 else 2) (min (max 1 rate) (4 - b.get (F.CXP_CTL_MAX_RATE p)))
      (min width b.cxlWidth)
    ∃ low : Bool, b.cxlLinkUp p rate width flit
      = ((if low then t.raise (U.cxl p) (F.CXP_EVENTS_DOWNTRAINED p) else t).cdatsRenewed p).later .ports := by
  have may : (p ≥ b.cxlPortCount || !b.isOn (U.cxl p) || b.cxlUp p || b.flag (F.CXP_CTL_LINK_DISABLE p) : Bool) = false := by
    simp [fitted, on, down, enabled]
  unfold cxlLinkUp
  rw [may]
  exact ⟨_, rfl⟩

/-- What a link that is up shows. -/
def LinkUp (p link rate : Nat) (b : Body) : Prop :=
  b.get (F.CXP_STATUS_LINK p) = link ∧ b.get (F.CXP_STATUS_RATE p) = rate % 2 ^ (F.CXP_STATUS_RATE p).w
  ∧ ⟨U.cxl p, .bit (F.CXP_EVENTS_LINK_UP p), 0⟩ ∈ b.evs

theorem linkUp_linkShown (s : Body) (p : Nat) {link : Nat} (known : link < 8) (rate width : Nat) :
    LinkUp p link rate (s.linkShown p link rate width) := by
  refine ⟨?_, ?_, mem_evs_raise ..⟩ <;> unfold linkShown <;> dsimp only <;> rw [get_raise, inc_eq]
  · rw [get_put_ne _ _ _ _ (by simp [Fld.apart, F.CXP_EVENTS_LINK_UP, F.CXP_STATUS_LINK]),
      get_put_ne _ _ _ _ (by simp [Fld.apart, F.CXP_STATUS_LINK_UPS, F.CXP_STATUS_LINK]),
      get_put_ne _ _ _ _ (by simp [Fld.apart, F.CXP_STATUS_WIDTH, F.CXP_STATUS_LINK]),
      get_put_ne _ _ _ _ (by simp [Fld.apart, F.CXP_STATUS_RATE, F.CXP_STATUS_LINK]), get_put_same _ _ _ (by simp [F.CXP_STATUS_LINK])]
    exact Nat.mod_eq_of_lt known
  · rw [get_put_ne _ _ _ _ (by simp [Fld.apart, F.CXP_EVENTS_LINK_UP, F.CXP_STATUS_RATE]),
      get_put_ne _ _ _ _ (by simp [Fld.apart, F.CXP_STATUS_LINK_UPS, F.CXP_STATUS_RATE]),
      get_put_ne _ _ _ _ (by simp [Fld.apart, F.CXP_STATUS_WIDTH, F.CXP_STATUS_RATE]), get_put_same _ _ _ (by simp [F.CXP_STATUS_RATE])]

theorem LinkUp.put {p link rate : Nat} {b : Body} (h : LinkUp p link rate b) (f : Fld) (v : Nat) (other : f.addr ≠ A.CXP_STATUS p) :
    LinkUp p link rate (b.put f v) := by
  obtain ⟨up, speed, told⟩ := h
  have apart (g : Fld) (hg : g.addr = A.CXP_STATUS p) : f.apart g = true := by simp [Fld.apart, hg, Ne.symm other]
  exact ⟨(get_put_ne _ _ _ _ (apart _ rfl)).trans up, (get_put_ne _ _ _ _ (apart _ rfl)).trans speed, told⟩

theorem LinkUp.raise {p link rate : Nat} {b : Body} (h : LinkUp p link rate b) (u : Nat) (f : Fld) (n : Nat)
    (other : f.addr ≠ A.CXP_STATUS p) : LinkUp p link rate (b.raise u f n) := by
  obtain ⟨up, speed, told⟩ := h.put f 1 other
  exact ⟨up, speed, List.mem_append_left _ told⟩

theorem LinkUp.ldShow {p link rate : Nat} {b : Body} (h : LinkUp p link rate b) (k : Nat) : LinkUp p link rate (b.ldShow p k) := by
  have other (f : Fld) (hf : f.addr = A.CXP_LD p k) : f.addr ≠ A.CXP_STATUS p := by
    rw [hf, A.CXP_LD, A.CXP_STATUS]
    omega
  unfold Body.ldShow
  simp only [putB_eq]
  iterate 6 refine LinkUp.put ?_ _ _ (other _ rfl)
  exact h

theorem LinkUp.cdatsRenewed {p link rate : Nat} {b : Body} (h : LinkUp p link rate b) : LinkUp p link rate (b.cdatsRenewed p) :=
  forEach_induct (P := LinkUp p link rate) _ h fun _ k _ up => LinkUp.ldShow (b := Body.ldMod _ p k _) up k

/-- A port that nothing waits at. -/
def PortIdle (p : Nat) (b : Body) : Prop := (b.cxp p).reads = [] ∧ (b.cxp p).held = []

theorem held_cxlDiscard (s : Body) (p : Nat) : ((s.cxlDiscard p).cxp p).held = [] := by
  unfold cxlDiscard
  dsimp only
  split
  next none_ => simpa using none_
  next =>
    rw [cxp_cxpShow]
    exact congrArg (·.held) (cxp_cxpMod_same s p fun x => { x with held := [] })

theorem PortIdle.ldReset {p : Nat} {b : Body} (h : PortIdle p b) (k : Nat) : PortIdle p (b.ldReset p k) := by
  obtain ⟨reads, held⟩ := h
  unfold PortIdle Body.ldReset
  dsimp only
  rw [cxp_ldShow, cxp_hdmShow, ldMod, cxp_cxpMod_same]
  exact ⟨reads, held⟩

/-- The link of a port is shown down. -/
def linkDark (s : Body) (p : Nat) : Body :=
  let s := ((s.put (F.CXP_STATUS_LINK p) 0).put (F.CXP_STATUS_RATE p) 0).put (F.CXP_STATUS_WIDTH p) 0
  let s := (s.put (F.CXP_STATUS_OPEN p) 0).raise (U.cxl p) (F.CXP_EVENTS_LINK_DOWN p)
  s.cxpShow p

/-- What was outstanding at a port, and its streams and credits, are gone. -/
def portEmptied (s : Body) (p : Nat) : Body :=
  s.cxpMod p fun x => { x with reads := [], memIde := false, ioIde := false, macFail := false, credReq := 0, credRwd := 0 }

/-- Every logical device of a port is reset. -/
def ldsReset (s : Body) (p : Nat) : Body := s.forEach (List.range (s.ldCount p)) fun s k => s.ldReset p k

theorem cxlDown_of_up {b : Body} {p : Nat} (up : b.cxlUp p = true) :
    b.cxlDown p = (((((b.cxlMute p none).gpfDrop p).cxlDiscard p).portEmptied p).ldsReset p).linkDark p := by
  unfold cxlDown
  rw [up]
  rfl

theorem portIdle_emptied (s : Body) (p : Nat) : PortIdle p (((s.cxlDiscard p).portEmptied p).ldsReset p) := by
  refine forEach_induct (P := PortIdle p) _ ?_ fun _ k _ idle => idle.ldReset k
  unfold PortIdle portEmptied
  rw [cxp_cxpMod_same]
  exact ⟨rfl, held_cxlDiscard s p⟩

theorem linkDark_shown (s : Body) (p : Nat) : (s.linkDark p).cxl = s.cxl ∧ (s.linkDark p).get (F.CXP_STATUS_LINK p) = 0
    ∧ (s.linkDark p).get (F.CXP_STATUS_OPEN p) = 0 ∧ ⟨U.cxl p, .bit (F.CXP_EVENTS_LINK_DOWN p), 0⟩ ∈ (s.linkDark p).evs := by
  refine ⟨rfl, ?_, ?_, ?_⟩ <;> unfold linkDark <;> dsimp only
  · rw [get_cxpShow _ _ _ (by simp [Fld.apart, F.CXP_CREDIT_RD_OUT, F.CXP_STATUS_LINK])
        (by simp [Fld.apart, F.CXP_CREDIT_RD_EFFECTIVE, F.CXP_STATUS_LINK]) (by simp [Fld.apart, F.CXP_HELD_HELD, F.CXP_STATUS_LINK])
        (by simp [Fld.apart, F.CXP_STATUS_IDE, F.CXP_STATUS_LINK]) (by simp [Fld.apart, F.CXP_STATUS_DEVLOAD, F.CXP_STATUS_LINK]),
      get_raise, get_put_ne _ _ _ _ (by simp [Fld.apart, F.CXP_EVENTS_LINK_DOWN, F.CXP_STATUS_LINK]),
      get_put_ne _ _ _ _ (by simp [Fld.apart, F.CXP_STATUS_OPEN, F.CXP_STATUS_LINK]),
      get_put_ne _ _ _ _ (by simp [Fld.apart, F.CXP_STATUS_WIDTH, F.CXP_STATUS_LINK]),
      get_put_ne _ _ _ _ (by simp [Fld.apart, F.CXP_STATUS_RATE, F.CXP_STATUS_LINK]), get_put_same _ _ _ (by simp [F.CXP_STATUS_LINK])]
    rfl
  · rw [get_cxpShow _ _ _ (by simp [Fld.apart, F.CXP_CREDIT_RD_OUT, F.CXP_STATUS_OPEN])
        (by simp [Fld.apart, F.CXP_CREDIT_RD_EFFECTIVE, F.CXP_STATUS_OPEN]) (by simp [Fld.apart, F.CXP_HELD_HELD, F.CXP_STATUS_OPEN])
        (by simp [Fld.apart, F.CXP_STATUS_IDE, F.CXP_STATUS_OPEN]) (by simp [Fld.apart, F.CXP_STATUS_DEVLOAD, F.CXP_STATUS_OPEN]),
      get_raise, get_put_ne _ _ _ _ (by simp [Fld.apart, F.CXP_EVENTS_LINK_DOWN, F.CXP_STATUS_OPEN]),
      get_put_same _ _ _ (by simp [F.CXP_STATUS_OPEN])]
    rfl
  · rw [evs_cxpShow]
    exact mem_evs_raise ..

/-! ## A reset of one logical device (R261) -/

/-- Neither a read nor a request of a logical device waits at its port any longer. -/
def ldEmptied (s : Body) (p k : Nat) (mine : CxlHeld → Bool) : Body :=
  s.cxpMod p fun x => { x with reads := x.reads.filter (·.ld != k), held := x.held.filter (!mine ·) }

theorem cxlFlr_of_up {b : Body} {p k : Nat} (up : b.ldUp p k = true) : ∃ (mine : CxlHeld → Bool) (t : Body),
    b.cxlFlr p k = (t.ldReset p k).cxpShow p ∧ t.cxl = ((b.cxlMute p (some k)).ldEmptied p k mine).cxl := by
  unfold cxlFlr
  rw [up]
  exact ⟨_, _, rfl, by dsimp only; split <;> rfl⟩

theorem ldReset_shown (s : Body) (p k : Nat) : ((s.ldReset p k).ldOf p k).dec0 = {} ∧ ((s.ldReset p k).ldOf p k).dec1 = {}
    ∧ ((s.ldReset p k).ldOf p k).memEnable = false ∧ ((s.ldReset p k).ldOf p k).info = (s.ldOf p k).info
    ∧ ((s.ldReset p k).cxp p).reads = (s.cxp p).reads := by
  unfold ldReset
  dsimp only
  rw [ldOf_ldShow, ldOf_hdmShow, ldOf_ldMod_same, cxp_ldShow, cxp_hdmShow, ldMod, cxp_cxpMod_same]
  exact ⟨rfl, rfl, rfl, rfl, rfl⟩

theorem cxlFlr_shown {b : Body} {p k : Nat} (up : b.ldUp p k = true) : ((b.cxlFlr p k).ldOf p k).dec0 = {}
    ∧ ((b.cxlFlr p k).ldOf p k).dec1 = {} ∧ ((b.cxlFlr p k).ldOf p k).memEnable = false
    ∧ ((b.cxlFlr p k).ldOf p k).info = (b.ldOf p k).info ∧ ∀ r ∈ ((b.cxlFlr p k).cxp p).reads, r.ld ≠ k := by
  obtain ⟨mine, t, reset, same⟩ := cxlFlr_of_up up
  obtain ⟨dec0, dec1, enable, info, reads⟩ := ldReset_shown t p k
  rw [reset, ldOf_cxpShow, cxp_cxpShow]
  refine ⟨dec0, dec1, enable, info.trans ?_, fun r listed => ?_⟩
  · rw [ldOf_of_cxl same]
    unfold ldEmptied ldOf
    rw [cxp_cxpMod_same]
    rfl
  · rw [reads, cxp_of_cxl same, ldEmptied, cxp_cxpMod_same] at listed
    simpa using (List.mem_filter.1 listed).2

/-! ## IDE (R259) -/

theorem ideFail_of_stream {b : Body} {p : Nat} (up : b.cxlUp p = true) (stream : (b.cxp p).memIde = true ∨ (b.cxp p).ioIde = true) :
    b.ideFail p = ((((((b.cxpMod p fun x => { x with macFail := true }).incSat (F.CXP_ERR_IDE_FAIL p)).raise (U.cxl p)
      (F.CXP_EVENTS_IDE_FAIL p)).send (.cxlIdeError p)).cxpShow p).later .ports) := by
  have runs : (!b.cxlUp p || !((b.cxp p).memIde || (b.cxp p).ioIde)) = false := by rcases stream with on | on <;> simp [up, on]
  unfold ideFail
  rw [runs]
  rfl

/-- The streams that a key exchange leaves. -/
def Keyed (x : CxlPort) (io : Bool) (y : CxlPort) : Prop :=
  y.macFail = false ∧ y.memIde = (x.memIde || !io) ∧ y.ioIde = (x.ioIde || io)

theorem Keyed.cxlDiscard {x : CxlPort} {io : Bool} {b : Body} {p : Nat} (h : Keyed x io (b.cxp p)) : Keyed x io ((b.cxlDiscard p).cxp p) := by
  unfold Body.cxlDiscard
  dsimp only
  split
  · exact h
  · rw [cxp_cxpShow]
    exact (congrArg (Keyed x io) (cxp_cxpMod_same b p fun x => { x with held := [] })).mpr h

theorem ideKeys_of_up {b : Body} {p : Nat} (up : b.cxlUp p = true) (io : Bool) :
    ∃ t : Body, b.ideKeys p io = (t.cxpShow p).later .ports ∧ Keyed (b.cxp p) io (t.cxp p) := by
  have keyed : Keyed (b.cxp p) io ((b.cxpMod p fun x => { x with memIde := x.memIde || !io, ioIde := x.ioIde || io, macFail := false }).cxp p) := by
    rw [cxp_cxpMod_same]
    exact ⟨rfl, rfl, rfl⟩
  unfold ideKeys
  rw [up]
  refine ⟨_, rfl, ?_⟩
  split
  · exact keyed.cxlDiscard
  · exact keyed

/-! ## The vector of the management window (R263) -/

/-- Vector 6 goes to each logical device that is reached and whose window shows another word. -/
theorem mem_windowEvents (old b : Body) (p k : Nat) : (⟨U.cxl p, .named .msix, k * 8 + 6⟩ : PassEvent) ∈ windowEvents old b
    ↔ p < 16 ∧ b.ldUp p k = true ∧ b.windowWords p k ≠ old.windowWords p k := by
  simp only [windowEvents, List.mem_flatMap, List.mem_range, ldUp]
  constructor
  · rintro ⟨q, hq, listed⟩
    split at listed
    next => simp at listed
    next up =>
      obtain ⟨j, due, same⟩ := List.mem_map.1 listed
      obtain ⟨present, changed⟩ := List.mem_filter.1 due
      simp only [PassEvent.mk.injEq, U.cxl, true_and] at same
      obtain ⟨port, device⟩ := same
      obtain rfl : q = p := by omega
      obtain rfl : j = k := by omega
      exact ⟨hq, by simpa using ⟨by simpa using up, List.mem_range.1 present⟩, by simpa using changed⟩
  · rintro ⟨hp, reached, changed⟩
    simp only [Bool.and_eq_true, decide_eq_true_eq] at reached
    obtain ⟨up, present⟩ := reached
    refine ⟨p, hp, ?_⟩
    rw [up]
    exact List.mem_map.2 ⟨k, List.mem_filter.2 ⟨List.mem_range.2 present, by simpa using changed⟩, rfl⟩

/-- Settles O30. -/
theorem cxlPortCommands : Obligations.CxlPortCommands := by
  unfold Obligations.CxlPortCommands
  refine ⟨fun s p k dec base size skip iw ig lock up free => ⟨fun checking => leads_of_eq rfl (hdmCommit_waits up free checking) ?waits,
      fun settled => leads_of_eq rfl (hdmCommit_judged (r := ⟨dec, base, size, skip, iw, ig, lock⟩) up free settled)
        (hdmJudge_shown s.body p k ⟨dec, base, size, skip, iw, ig, lock⟩)⟩,
    fun s p k up => ?enable, fun s p rate width flit fitted on down enabled => ?linkUp,
    fun s p up => leads_of_eq rfl (cxlDown_of_up up) ?linkDown, fun s p k up => ⟨_, rfl, cxlFlr_shown up⟩,
    fun s p up => ⟨fun stream => leads_of_eq rfl (ideFail_of_stream up stream) ⟨?failed, ?told, ?look⟩, fun io => ?keys⟩,
    fun s actor p quota => leads_of_eq rfl (congrArg (quotaSettle · p _) (judge_insert s.body actor (F.CXP_CREDIT_RD_QUOTA p) quota)) rfl,
    fun s actor p k n may => leads_select may rfl, mem_windowEvents⟩
  case waits => rw [ldOf_ldMod_same]
  case enable =>
    refine leads_of_eq (b₀ := if s.body.ldUp p k then _ else s.body) rfl (if_pos up) ?_
    rw [ldOf_cxpShow, ldOf_ldShow, ldOf_ldMod_same]
  case linkUp =>
    obtain ⟨low, up⟩ := cxlLinkUp_of_down fitted on down enabled rate width flit
    have shown := linkUp_linkShown s.body p (link := if flit && min width s.body.cxlWidth ≥ 4 then 3 else 2) (by split <;> omega)
      (min (max 1 rate) (4 - s.body.get (F.CXP_CTL_MAX_RATE p))) (min width s.body.cxlWidth)
    obtain ⟨link, speed, told⟩ := LinkUp.cdatsRenewed (b := if low then _ else _) (by
      cases low
      · exact shown
      · exact shown.raise (U.cxl p) (F.CXP_EVENTS_DOWNTRAINED p) 0 (by simp only [F.CXP_EVENTS_DOWNTRAINED, A.CXP_STATUS]; omega))
    refine leads_of_eq rfl up ⟨link.trans ?_, speed, told, by simp [later]⟩
    simp
  case linkDown =>
    obtain ⟨same, link, closed, told⟩ := linkDark_shown (((((s.body.cxlMute p none).gpfDrop p).cxlDiscard p).portEmptied p).ldsReset p) p
    rw [cxp_of_cxl same]
    obtain ⟨reads, held⟩ := portIdle_emptied ((s.body.cxlMute p none).gpfDrop p) p
    exact ⟨reads, held, link, by simp [flag, closed], told⟩
  case failed =>
    exact congrArg (·.macFail) (cxp_cxpMod_same s.body p fun x => { x with macFail := true })
  case told => exact mem_out_send ..
  case look => simp [later]
  case keys =>
    obtain ⟨t, shown, failed, mem, io'⟩ := ideKeys_of_up up io
    exact leads_of_eq rfl shown ⟨failed, mem, io', by simp [later]⟩

end Body
end Sys2Proof.Machine

/-! The mailbox of a logical device, the fabric manager's device and DOE (R245, R246, R255 to R258). -/

namespace Sys2Proof.Machine
namespace Body

open Sys2Proof.Stmt

/-! ## A command of the mailbox (R255, R256, R438) -/

theorem logOf_setLog (l : LdSt) (e : EvLog) : (n : Nat) → logOf (setLog l n e) n = e
  | 0 | 1 | 2 | _ + 3 => rfl

theorem logOf_lastOp (l : LdSt) (n op : Nat) : logOf { l with lastOp := op } n = logOf l n := by
  unfold logOf
  split <;> rfl

theorem logOf_lastCode (l : LdSt) (n code : Nat) : logOf { l with lastCode := code } n = logOf l n := by
  unfold logOf
  split <;> rfl

section
variable {b : Body} {p k : Nat} (up : b.ldUp p k = true)
include up

theorem mboxOp_of_up (op : Nat) : b.mboxOp p k op = b.ldMod p k fun l => { l with lastOp := op } := if_pos up

/-- A logical device that its host reaches is reached with its opcode noted. -/
theorem ldUp_mboxOp (op : Nat) : (b.mboxOp p k op).ldUp p k = true := by
  rw [mboxOp_of_up up]
  exact up

theorem ldOf_mboxOp (op : Nat) : (b.mboxOp p k op).ldOf p k = { b.ldOf p k with lastOp := op } := by
  rw [mboxOp_of_up up, ldOf_ldMod_same]

theorem mbox_of_up (a : Body → CxlAns) (f : Body → Body) : b.mbox p k a f
    = (((f b).ldMod p k fun l => { l with lastCode := mboxCode (a b) }).send (.cxlAns p k (a b))).msix p k 0 := if_pos up

/-- The answer goes out, its code is kept and its vector sent. -/
theorem mbox_answers (a : Body → CxlAns) (f : Body → Body) : .cxlAns p k (a b) ∈ (b.mbox p k a f).out
    ∧ (b.mbox p k a f).ldOf p k = { (f b).ldOf p k with lastCode := mboxCode (a b) }
    ∧ ⟨U.cxl p, .named .msix, k * 8⟩ ∈ (b.mbox p k a f).evs := by
  rw [mbox_of_up up]
  refine ⟨mem_out_send .., ?_, mem_evs_post ..⟩
  exact ldOf_ldMod_same (f b) p k fun l => { l with lastCode := mboxCode (a b) }

end

/-- A command that only answers. -/
theorem answers_of_mboxAns {c : Instr} {s : State} {p k op : Nat} {a : Body → CxlAns} {x : CxlAns} (up : s.body.ldUp p k = true)
    (answer : exec c s = .next (s.settled (s.body.mboxAns p k op a))) (told : a (s.body.mboxOp p k op) = x) : Stmt.Answers c s p k x := by
  obtain ⟨out, code, vector⟩ := mbox_answers (ldUp_mboxOp up op) a id
  rw [told] at out code
  exact ⟨_, answer, out, congrArg (·.lastCode) code, vector⟩

/-! ## What the commands answer -/

section
variable {b : Body} {p k : Nat} (up : b.ldUp p k = true)
include up

theorem eventsAns_mboxOp (n op : Nat) : (b.mboxOp p k op).eventsAns p k n = b.eventsAns p k n := by
  simp only [eventsAns, ldOf_mboxOp up, logOf_lastOp]

theorem cxlTime_mboxOp (op : Nat) : (b.mboxOp p k op).cxlTime p k = b.cxlTime p k := by
  simp only [cxlTime, ldOf_mboxOp up]
  rw [mboxOp_of_up up]
  rfl

theorem bgAns_idle (idle : (b.ldOf p k).scan = none) (op : Nat) :
    (b.mboxOp p k op).bgAns p k = .bgStatus false (if (b.ldOf p k).bgDone then 100 else 0) := by
  simp [bgAns, ldOf_mboxOp up, idle]

/-- What reads neither the mailbox nor the ports answers with the opcode noted as without. -/
theorem same_mboxOp (f : Body → CxlAns) (op : Nat) (blind : ∀ (t : Body) (x : CxlSt), x.dirty = t.cxl.dirty → f { t with cxl := x } = f t) :
    f (b.mboxOp p k op) = f b := by
  rw [mboxOp_of_up up]
  exact blind b _ rfl

end

theorem eventsClear_all (b : Body) (p k n : Nat) : ∃ e : EvLog, e.recs = [] ∧ e.overflow = false
    ∧ b.eventsClear p k n true [] = b.mbox p k (fun _ => .done) fun s => (s.ldMod p k fun l => setLog l (n % 4) e).ldShow p k :=
  ⟨_, rfl, rfl, rfl⟩

theorem poisonScan_begins {b : Body} {p k first lines : Nat} (idle : (b.ldOf p k).scan = none) (short : lines ≤ 2 ^ 24)
    (inside : (first + lines) * 64 ≤ b.ldGib p k * 2 ^ 30) : b.poisonScan p k first lines
    = b.mbox p k (fun _ => .bgStatus true 0) fun s => s.ldMod p k fun l => { l with scan := some (first, lines), bgDone := false } := by
  have fits : (lines > 2 ^ 24 || (first + lines) * 64 > b.ldGib p k * 2 ^ 30 : Bool) = false := by
    rw [Bool.or_eq_false_iff]
    exact ⟨decide_eq_false (Nat.not_lt.2 short), decide_eq_false (Nat.not_lt.2 inside)⟩
  unfold poisonScan
  dsimp only
  rw [idle, fits]
  rfl

/-- The addresses of the poisoned lines of a scan. -/
def poisonFound (s : Body) (d : PartDef) (first lines : Nat) : List Nat :=
  (((range' first lines).filter fun i => (s.peek (d.base * 2 ^ 24 + i)).2).take 257).map (· * 64)

theorem mem_poisonFound {s : Body} {d : PartDef} {first lines a : Nat} (h : a ∈ (s.poisonFound d first lines).take 256) :
    ∃ i, first ≤ i ∧ i < first + lines ∧ a = i * 64 ∧ (s.peek (d.base * 2 ^ 24 + i)).2 = true := by
  obtain ⟨i, found, rfl⟩ := List.mem_map.1 (List.mem_of_mem_take h)
  obtain ⟨inside, bad⟩ := List.mem_filter.1 (List.mem_of_mem_take found)
  obtain ⟨lower, upper⟩ := mem_range'.1 inside
  exact ⟨i, lower, upper, rfl, bad⟩

theorem poisonScanned_of_runs {b : Body} {p k first lines : Nat} {d : PartDef} (runs : (b.ldOf p k).scan = some (first, lines))
    (part : b.ldPart p k = some d) : ∃ more : Bool, b.poisonScanned p k
    = (b.ldMod p k fun l => { l with scan := none, bgDone := true }).mbox p k fun _ => .poison ((b.poisonFound d first lines).take 256) more := by
  unfold poisonScanned
  rw [runs, part]
  exact ⟨_, rfl⟩

section
variable {b : Body} {p k : Nat} (up : b.ldUp p k = true)
include up

theorem cxlTime_setTimestamp (t : Nat) : (b.mbox p k (fun _ => .done)
    fun b => b.ldMod p k fun l => { l with tsSet := true, tsBase := t, tsAt := b.time.tai }).cxlTime p k = t := by
  obtain ⟨-, ld, -⟩ := mbox_answers up (fun _ => .done) fun b => b.ldMod p k fun l => { l with tsSet := true, tsBase := t, tsAt := b.time.tai }
  rw [ldOf_ldMod_same] at ld
  unfold cxlTime
  rw [ld, mbox_of_up up]
  show t + (b.time.tai - b.time.tai) = t
  rw [Nat.sub_self, Nat.add_zero]

theorem dirty_shutdownSet (set_ : Bool) : (b.shutdownSet p k set_).cxl.dirty
    = if set_ then insertNat b.cxl.dirty (16 * p + k) else b.cxl.dirty.erase (16 * p + k) := by
  rw [shutdownSet, mbox_of_up up]
  rfl

end

theorem doe_out {b : Body} {p k : Nat} (up : b.ldUp p k = true) (a : CxlAns) : .cxlAns p k a ∈ (b.doe p k a).out := by
  rw [doe, if_pos up]
  exact mem_out_send ..

theorem fmAns_of_up {b : Body} {p : Nat} (up : b.cxlUp p = true) (a : CxlAns) : b.fmAns p a = b.send (.cxlAns p 0xFFFF a) := if_pos up

/-- Settles O31. -/
theorem cxlMailboxCommands : Obligations.CxlMailboxCommands := by
  unfold Obligations.CxlMailboxCommands
  refine ⟨fun s p k up => ⟨answers_of_mboxAns up rfl rfl, answers_of_mboxAns up rfl rfl, answers_of_mboxAns up rfl rfl,
      answers_of_mboxAns up rfl rfl, fun idle => ?background, fun n => answers_of_mboxAns up rfl (eventsAns_mboxOp up n _),
      answers_of_mboxAns up rfl (by rw [ldOf_mboxOp up]), answers_of_mboxAns up rfl (same_mboxOp up (fun b => .fwInfo b.cfg.img.sequence) _ fun _ _ _ => rfl),
      answers_of_mboxAns up rfl (by rw [cxlTime_mboxOp up]),
      answers_of_mboxAns up rfl (same_mboxOp up (fun b => .memoryDevice (b.ldGib p k * 2 ^ 30)) _ fun _ _ _ => rfl),
      answers_of_mboxAns up rfl (same_mboxOp up (fun b => .partition (b.ldGib p k * 2 ^ 30)) _ fun _ _ _ => rfl),
      answers_of_mboxAns up rfl (same_mboxOp up (·.healthAns p) _ fun _ _ _ => rfl), answers_of_mboxAns up rfl (by rw [ldOf_mboxOp up]),
      answers_of_mboxAns up rfl (same_mboxOp up (fun b => .shutdown (b.cxl.dirty.contains (16 * p + k))) _ fun _ _ same =>
        congrArg (CxlAns.shutdown <| List.contains · (16 * p + k)) same),
      fun op => answers_of_mboxAns up rfl rfl, fun i => ⟨_, rfl, doe_out up _⟩, ⟨_, rfl, doe_out up _⟩⟩,
    fun s p k up => ⟨fun n => ?clear, fun v => ?policy, fun t => ⟨_, rfl, (mbox_answers (ldUp_mboxOp up _) _ _).1, cxlTime_setTimestamp (ldUp_mboxOp up _) t⟩, fun valid enable vals => ⟨_, rfl, (mbox_answers (ldUp_mboxOp up _) _ _).1⟩,
      ⟨_, rfl, (mbox_answers (ldUp_mboxOp up _) _ _).1, ?dirty⟩, ⟨_, rfl, (mbox_answers (ldUp_mboxOp up _) _ _).1, ?clean⟩, fun first lines idle short inside => ?scan, fun first lines d runs part => ?scanned⟩,
    fun s p up => ⟨leads_of_eq rfl (fmAns_of_up up _) (mem_out_send ..), leads_of_eq rfl (fmAns_of_up up _) (mem_out_send ..),
      leads_of_eq rfl (fmAns_of_up up _) rfl, leads_of_eq rfl (fmAns_of_up up _) (mem_out_send ..)⟩⟩
  case background =>
    obtain ⟨out, code, vector⟩ := mbox_answers (ldUp_mboxOp up 0x0002) (·.bgAns p k) id
    rw [bgAns_idle up idle] at out code
    exact ⟨_, rfl, out, congrArg (·.lastCode) code, vector⟩
  case clear =>
    obtain ⟨e, recs, over_, cleared⟩ := eventsClear_all (s.body.mboxOp p k 0x0101) p k n
    obtain ⟨out, ld, -⟩ := mbox_answers (ldUp_mboxOp up 0x0101) (fun _ => .done)
      fun s => (s.ldMod p k fun l => setLog l (n % 4) e).ldShow p k
    refine leads_of_eq rfl cleared ⟨out, ?_⟩
    rw [ld, logOf_lastCode, ldOf_ldShow, ldOf_ldMod_same, logOf_setLog _ e]
    exact ⟨recs, over_⟩
  case policy =>
    obtain ⟨out, ld, -⟩ := mbox_answers (ldUp_mboxOp up 0x0103) (fun _ => .done) (·.ldMod p k fun l => { l with policy := v })
    refine ⟨_, rfl, out, ?_⟩
    rw [ld, ldOf_ldMod_same]
  case dirty => exact (dirty_shutdownSet (ldUp_mboxOp up 0x4204) true).trans (by rw [mboxOp_of_up up]; rfl)
  case clean => exact (dirty_shutdownSet (ldUp_mboxOp up 0x4204) false).trans (by rw [mboxOp_of_up up]; rfl)
  case scan =>
    have idle' : ((s.body.mboxOp p k 0x4300).ldOf p k).scan = none := by rw [ldOf_mboxOp up]; exact idle
    have inside' : (first + lines) * 64 ≤ (s.body.mboxOp p k 0x4300).ldGib p k * 2 ^ 30 := by
      rw [mboxOp_of_up up]
      exact inside
    obtain ⟨out, ld, -⟩ := mbox_answers (ldUp_mboxOp up 0x4300) (fun _ => .bgStatus true 0)
      fun s => s.ldMod p k fun l => { l with scan := some (first, lines), bgDone := false }
    refine leads_of_eq rfl (poisonScan_begins idle' short inside') ⟨out, ?_⟩
    rw [ld, ldOf_ldMod_same]
  case scanned =>
    obtain ⟨more, ended⟩ := poisonScanned_of_runs runs part
    have up' : (s.body.ldMod p k fun l => { l with scan := none, bgDone := true }).ldUp p k = true := up
    obtain ⟨out, ld, -⟩ := mbox_answers up' (fun _ => .poison ((s.body.poisonFound d first lines).take 256) more) id
    refine leads_of_eq rfl ended ⟨?_, ?_, _, more, out, fun a listed => mem_poisonFound listed⟩ <;> rw [ld, id, ldOf_ldMod_same]

end Body
end Sys2Proof.Machine

/-! Ethernet links and connection messages (R265 to R272). -/

namespace Sys2Proof.Machine
namespace Body

open Sys2Proof.Stmt

/-! ## Queue pairs -/

/-- What showing the queue pairs leaves: all but registers. -/
theorem rdmaShow_eq (s : Body) : ∃ m r, s.rdmaShow = { s with regs := m, rb := r } := by
  unfold rdmaShow
  exact forEach_induct (P := fun t => ∃ m r, t = { s with regs := m, rb := r }) _ ⟨_, _, rfl⟩ fun t x _ ⟨m, r, h⟩ => h ▸ ⟨_, _, rfl⟩

/-- Replacing a queue pair changes the queue pairs and registers alone. -/
theorem setQp_eq (s : Body) (n : Nat) (q : Qp) : ∃ m r, s.setQp n q = { s with
    regs := m, rb := r
    rdma := { s.rdma with qps := if q.st == QpState.reset then merase s.rdma.qps n else mset s.rdma.qps n q } } := by
  unfold setQp
  dsimp only
  split
  · exact ⟨_, _, rfl⟩
  · obtain ⟨m, r, shown⟩ := rdmaShow_eq { s with
      rdma := { s.rdma with qps := if q.st == QpState.reset then merase s.rdma.qps n else mset s.rdma.qps n q } }
    exact ⟨m, r, shown⟩

theorem qp_setQp (s : Body) (n : Nat) {q : Qp} (live : q.st ≠ .reset) : (s.setQp n q).qp n = q := by
  obtain ⟨m, r, e⟩ := setQp_eq s n q
  rw [e, qp, beq_eq_false_iff_ne.2 live]
  exact mgetD_mset_same ..

theorem qp_setQp_reset (s : Body) (n : Nat) : (s.setQp n {}).qp n = {} := by
  obtain ⟨m, r, e⟩ := setQp_eq s n {}
  rw [e]
  show (mget (merase s.rdma.qps n) n).getD {} = {}
  rw [mget_merase_same]
  rfl

theorem out_setQp (s : Body) (n : Nat) (q : Qp) : (s.setQp n q).out = s.out := by
  obtain ⟨m, r, e⟩ := setQp_eq s n q
  rw [e]

theorem qp_cmSend (s : Body) (p k n : Nat) (m : CmMsg) : (s.cmSend p k m).qp n = s.qp n := rfl
theorem mem_out_cmSend (s : Body) (p k : Nat) (m : CmMsg) : .cm p k m ∈ (s.cmSend p k m).out := mem_out_send ..

@[simp] theorem qp_answered (s : Body) (p n : Nat) : (answered s p).qp n = s.qp n := rfl

/-! ## Links (R267) -/

theorem ethLinkUp_of_down {b : Body} {p : Nat} (fitted : p < b.ethPortCount) (on : b.isOn (U.eth p) = true)
    (down : b.get (F.ETH_STATUS_LINK p) ≠ 2) : ∃ speed : Nat, b.ethLinkUp p = (((b.put (F.ETH_STATUS_LINK p) 2).raise (U.eth p)
      (F.ETH_EVENTS_LINK_UP p)).rdmaPost 0x01 p 0 speed).ethLook p := by
  have may : (p ≥ b.ethPortCount || !b.isOn (U.eth p) || b.get (F.ETH_STATUS_LINK p) == 2 : Bool) = false := by simp [fitted, on, down]
  unfold ethLinkUp
  rw [may]
  exact ⟨_, rfl⟩

theorem ethLinkDown_of_up {b : Body} {p : Nat} (up : b.get (F.ETH_STATUS_LINK p) = 2) (cause : Nat) : b.ethLinkDown p cause
    = (((b.put (F.ETH_STATUS_LINK p) (if b.isOn (U.eth p) then 1 else 0)).raise (U.eth p) (F.ETH_EVENTS_LINK_DOWN p)).rdmaPost 0x02 p 0
      cause).ethLook p := by
  simp [ethLinkDown, up]

theorem link_rdmaPost_raise (s : Body) (p u v code object detail : Nat) (f : Fld) (hf : f.addr = (F.ETH_EVENTS_LINK_UP p).addr) (small : v < 4) :
    (((s.put (F.ETH_STATUS_LINK p) v).raise u f).rdmaPost code p object detail).get (F.ETH_STATUS_LINK p) = v := by
  have apart : f.apart (F.ETH_STATUS_LINK p) = true := by
    simp only [Fld.apart, hf, F.ETH_EVENTS_LINK_UP, F.ETH_STATUS_LINK, Bool.or_eq_true, decide_eq_true_eq]
    exact .inl (by omega)
  have shown : ((s.put (F.ETH_STATUS_LINK p) v).put f 1).get (F.ETH_STATUS_LINK p) = v := by
    rw [get_put_ne _ _ _ _ apart, get_put_same _ _ _ (by simp [F.ETH_STATUS_LINK])]
    exact Nat.mod_eq_of_lt small
  exact shown

theorem mem_evs_rdmaPost {s : Body} {e : PassEvent} (h : e ∈ s.evs) (code port object detail : Nat) :
    e ∈ (s.rdmaPost code port object detail).evs := List.mem_append_left _ h

theorem mem_out_told {s : Body} {o : Out} (h : o ∈ s.out) (u : Nat) (f : Fld) (k code port object detail : Nat) :
    o ∈ ((s.raise u f k).rdmaPost code port object detail).out := h

/-! ## Connections (R270 to R272) -/

/-- The queue pair that a CM REQ asks for. -/
def cmQp (m : CmReq) (p psn : Nat) : Qp :=
  let r := m.record.getD ⟨0, 0, 0⟩
  { st := .rtr, cfg := { mode := qpModeOf r.mode, pd := r.pd, port := p, remote := m.remote, addr := m.addr, ext := r.flags % 8 }
    ePsn := m.psn, lastAck := psnAdd m.psn (2 ^ 24 - 1), nPsn := psn }

/-- A CM REQ is answered, or held for firmware. -/
def cmTaken (s : Body) (p n : Nat) (m : CmReq) : Body :=
  let q := cmQp m p ((Config.freeWord s.freeCtr).toNat % 2 ^ 24)
  let s := s.fresh
  if !s.flag F.RDMA_CTL_CM_HOLD && s.rdma.pdAuto.contains (m.record.getD ⟨0, 0, 0⟩).pd then (s.setQp n q).cmRep n
  else
    let s := (s.setQp n { q with st := .held }).cmSend p n .mra
    (s.raise U.rdma F.RDMA_EVENTS_CM_HELD n).rdmaPost 0x12 p n (m.addr % 2 ^ 64)

theorem cmReq_of_open {b : Body} {p n : Nat} {m : CmReq} (up : b.ethUp p = true)
    (free : (range' 2 65534).find? (fun n => (mget b.rdma.qps n).isNone) = some n) (tcp : m.tcp = (answered b p).get F.RDMA_CFG_CM_PORT)
    (open_ : (answered b p).ethOpen p = true) (serves : b.rdmaShut = false) : b.cmReq p m = (answered b p).cmTaken p n m := by
  unfold answered at tcp open_
  have free' : (range' 2 65534).find? (fun n => (mget (b.inc (F.ETH_COUNT_0_RX_PKTS p)).rdma.qps n).isNone) = some n := free
  have serves' : (b.inc (F.ETH_COUNT_0_RX_PKTS p)).rdmaShut = false := serves
  have may : (m.tcp != (b.inc (F.ETH_COUNT_0_RX_PKTS p)).get F.RDMA_CFG_CM_PORT || !(b.inc (F.ETH_COUNT_0_RX_PKTS p)).ethOpen p
      || (b.inc (F.ETH_COUNT_0_RX_PKTS p)).rdmaShut) = false := by
    simp only [tcp, open_, serves', bne_self_eq_false, Bool.not_true, Bool.or_self]
  unfold cmReq
  dsimp only
  rw [up, if_neg (by decide), free']
  dsimp only
  rw [may, if_neg Bool.false_ne_true]
  rfl

theorem cmTaken_auto {s : Body} {m : CmReq} (unheld : s.flag F.RDMA_CTL_CM_HOLD = false)
    (auto : s.rdma.pdAuto.contains (m.record.getD ⟨0, 0, 0⟩).pd = true) (p n : Nat) :
    ∃ psn : Nat, s.cmTaken p n m = (s.fresh.setQp n (cmQp m p psn)).cmRep n := by
  have unheld' : s.fresh.flag F.RDMA_CTL_CM_HOLD = false := unheld
  have auto' : s.fresh.rdma.pdAuto.contains (m.record.getD ⟨0, 0, 0⟩).pd = true := auto
  unfold cmTaken
  dsimp only
  rw [unheld', auto', if_pos (by decide)]
  exact ⟨_, rfl⟩

theorem cmTaken_held {s : Body} (held : s.flag F.RDMA_CTL_CM_HOLD = true) (p n : Nat) (m : CmReq) : ∃ psn : Nat, s.cmTaken p n m
    = ((((s.fresh.setQp n { cmQp m p psn with st := .held }).cmSend p n .mra).raise U.rdma F.RDMA_EVENTS_CM_HELD n).rdmaPost 0x12 p n
      (m.addr % 2 ^ 64)) := by
  have held' : s.fresh.flag F.RDMA_CTL_CM_HOLD = true := held
  unfold cmTaken
  dsimp only
  rw [held', Bool.not_true, Bool.false_and, if_neg Bool.false_ne_true]
  exact ⟨_, rfl⟩

theorem mem_out_cmRep (s : Body) (n : Nat) : ∃ x, .cm (s.qp n).cfg.port n x ∈ (s.cmRep n).out ∧ x ≠ .rej := by
  unfold cmRep
  exact ⟨_, mem_out_cmSend .., nofun⟩

theorem qp_cmRep (s : Body) (n k : Nat) : (s.cmRep n).qp k = s.qp k := rfl

section
variable {b : Body} {n : Nat} (up : b.ethUp (b.qp n).cfg.port = true)
include up

theorem cmRx_of_up (live : (b.qp n).st ≠ .reset) (act : Body → Body) : b.cmRx n act = act (answered b (b.qp n).cfg.port) := by
  have here : ((b.qp n).st == .reset || !b.ethUp (b.qp n).cfg.port) = false := by simp [live, up]
  unfold cmRx
  dsimp only
  rw [here]
  rfl

end

theorem cmRtu_passive {b : Body} {n : Nat} (rtr : (b.qp n).st = .rtr) (passive : (b.qp n).cfg.active = false) :
    b.cmRtu n = (b.setQp n { b.qp n with st := .rts }).reqPump n := by
  simp [cmRtu, rtr, passive]

/-- The queue pair of an active side that a REP has reached. -/
def repQp (q : Qp) (remote psn : Nat) : Qp :=
  { q with st := .rts, cfg := { q.cfg with remote := remote }, ePsn := psn, lastAck := psnAdd psn (2 ^ 24 - 1) }

theorem cmRepRecv_active {b : Body} {n : Nat} (rtr : (b.qp n).st = .rtr) (active : (b.qp n).cfg.active = true) (remote psn : Nat) :
    b.cmRepRecv n remote psn = ((b.setQp n (repQp (b.qp n) remote psn)).cmSend (b.qp n).cfg.port n .rtu).reqPump n := by
  simp [cmRepRecv, rtr, active, repQp]

/-- Settles O32. -/
theorem ethCommands : Obligations.EthCommands := by
  unfold Obligations.EthCommands
  refine ⟨fun s p fitted on down => ?linkUp, fun s p cause up => leads_of_eq rfl (ethLinkDown_of_up up cause) ⟨_, rfl,
      link_rdmaPost_raise _ _ _ _ _ _ _ _ rfl (by split <;> decide), mem_evs_rdmaPost (mem_evs_raise ..) _ _ _ _⟩,
    fun s p fitted on up => ?discard,
    fun s p n m up free tcp open_ serves => ⟨fun unheld auto => ?taken, fun held => ?held⟩,
    fun s n up => ⟨fun rtr passive => leads_of_eq rfl ((cmRx_of_up up (by rw [rtr]; exact nofun) (·.cmRtu n)).trans (cmRtu_passive
        (b := answered s.body (s.body.qp n).cfg.port) rtr passive)) rfl, fun remote psn rtr active => ?rep, fun live => leads_of_eq rfl (cmRx_of_up up ?live (·.cmGone n .drep)) rfl⟩,
    fun s n => ⟨fun held => ?mra, fun error drep => ?timeout⟩⟩
  case linkUp =>
    obtain ⟨speed, up⟩ := ethLinkUp_of_down fitted on down
    exact leads_of_eq rfl up ⟨_, rfl, link_rdmaPost_raise _ _ _ _ _ _ _ _ rfl (by decide), mem_evs_rdmaPost (mem_evs_raise ..) _ _ _ _⟩
  case discard =>
    have answer : exec (.ethFrameDiscard p) s = .next (s.settled (if p < s.body.ethPortCount && s.body.isOn (U.eth p)
      && s.body.get (F.ETH_STATUS_LINK p) == 2 then (s.body.inc (F.ETH_COUNT_0_RX_PKTS p)).incSat (F.ETH_COUNT_1_DISCARDED p) else s.body)) := rfl
    rw [if_pos (by simp [fitted, on, up])] at answer
    exact ⟨_, answer, rfl⟩
  case taken =>
    obtain ⟨psn, taken⟩ := cmTaken_auto unheld auto p n
    have qp : (((answered s.body p).fresh.setQp n (cmQp m p psn)).qp n) = cmQp m p psn := qp_setQp _ _ nofun
    obtain ⟨x, out, answers⟩ := mem_out_cmRep ((answered s.body p).fresh.setQp n (cmQp m p psn)) n
    refine leads_of_eq rfl ((cmReq_of_open up free tcp open_ serves).trans taken) ?_
    rw [qp] at out
    rw [qp_cmRep, qp]
    exact ⟨rfl, rfl, rfl, x, out, answers⟩
  case held =>
    obtain ⟨psn, taken⟩ := cmTaken_held held p n m
    refine leads_of_eq rfl ((cmReq_of_open up free tcp open_ serves).trans taken)
      ⟨?_, mem_out_told (mem_out_cmSend ..) .., mem_evs_rdmaPost (mem_evs_raise ..) _ _ _ _⟩
    exact congrArg (·.st) (qp_setQp (answered s.body p).fresh n (q := { cmQp m p psn with st := .held }) nofun)
  case rep =>
    refine leads_of_eq rfl ((cmRx_of_up up (by rw [rtr]; exact nofun) (·.cmRepRecv n remote psn)).trans
      (cmRepRecv_active (b := answered s.body (s.body.qp n).cfg.port) rtr active remote psn))
      ⟨_, rfl, ?_⟩
    rw [qp_cmSend, qp_setQp _ _ (by simp [repQp])]
    exact ⟨rfl, rfl, rfl, mem_out_cmSend ..⟩
  case live => rcases live with st | st <;> rw [st] <;> exact nofun
  case mra =>
    refine leads_of_eq (b := (s.body.cmSend (s.body.qp n).cfg.port n .rej).setQp n {}) rfl (by simp [mraTimeout, held, qpReset])
      ⟨qp_setQp_reset _ _, ?_⟩
    rw [out_setQp]
    exact mem_out_cmSend ..
  case timeout =>
    exact leads_of_eq (b := s.body.setQp n {}) rfl (by simp [qpTimeout, error, drep, qpReset]) (qp_setQp_reset _ _)

end Body
end Sys2Proof.Machine

/-! RDMA requests at the responder (R269, R272 to R282). -/

namespace Sys2Proof.Machine

/-- What is put into its place by a key is in the list. -/
theorem mem_insertBy {α : Type} (k : α → Nat) (x : α) : ∀ l : List α, x ∈ insertBy k x l
  | [] => List.mem_singleton.2 rfl
  | y :: r => by
    unfold insertBy
    split
    · exact List.mem_cons_self
    · exact List.mem_cons_of_mem _ (mem_insertBy k x r)

namespace Body

open Sys2Proof.Stmt

/-! ## PSNs -/

theorem psnSub_self (a : Nat) : psnSub a a = 0 := by
  unfold psnSub
  omega

/-- Moving on over the PSNs present leaves a queue pair's state and its messages. -/
theorem sprayTake_keeps : ∀ (k : Nat) (q : Qp), (sprayTake k q).st = q.st ∧ (sprayTake k q).msgs = q.msgs
  | 0, _ => ⟨rfl, rfl⟩
  | k + 1, q => by
    unfold sprayTake
    split
    · exact sprayTake_keeps k _
    · exact ⟨rfl, rfl⟩

/-! ## A packet arrives -/

theorem qp_qpMod {s : Body} {n : Nat} {f : Qp → Qp} (live : (f (s.qp n)).st ≠ .reset) : (s.qpMod n f).qp n = f (s.qp n) :=
  qp_setQp s n live

/-- A queue pair that takes requests. -/
abbrev Takes (q : Qp) : Prop := q.st = .rtr ∨ q.st = .rts

theorem Takes.ne_reset {q : Qp} (takes : Takes q) : q.st ≠ .reset := by
  rcases takes with st | st <;> rw [st] <;> exact nofun

/-- Marking changes when a queue pair last sent a congestion notification, and what the other units keep stays. -/
theorem rdmaMark_keeps (s : Body) (n : Nat) (ce : Bool) (live : (s.qp n).st ≠ .reset) :
    (∃ at_, (s.rdmaMark n ce).qp n = { s.qp n with cnpAt := at_ }) ∧ (s.rdmaMark n ce).per.hold = s.per.hold := by
  have qp := qp_setQp s n (q := { s.qp n with cnpAt := some s.frameNo }) live
  obtain ⟨m, r, e⟩ := setQp_eq s n { s.qp n with cnpAt := some s.frameNo }
  unfold rdmaMark
  dsimp only
  split <;> split
  · exact ⟨⟨_, qp⟩, by rw [e]; rfl⟩
  · exact ⟨⟨_, rfl⟩, rfl⟩
  · exact ⟨⟨_, qp⟩, by rw [e]; rfl⟩
  · exact ⟨⟨_, rfl⟩, rfl⟩

theorem qp_arrived (b : Body) (p n : Nat) (ce : Bool) (live : (b.qp n).st ≠ .reset) :
    ∃ at_, (arrived b p n ce).qp n = { b.qp n with cnpAt := at_ } :=
  (rdmaMark_keeps (b.inc (F.ETH_COUNT_0_RX_PKTS p)) n ce live).1

section
variable {b : Body} {p n : Nat} {ce : Bool} (up : b.ethUp p = true) (open_ : b.rdmaShut = false) (takes : Takes (b.qp n))
  (port : (b.qp n).cfg.port = p)
include up open_ takes port

/-- A packet for a queue pair of an open port is marked and meets the conditions of service. -/
theorem rdmaPacket_of_up (psn : Nat) (go : Body → Body) : b.rdmaPacket p n psn ce go =
    if (arrived b p n ce).rdmaStopped || (arrived b p n ce).per.hold || !(arrived b p n ce).attestedOk then (arrived b p n ce).rdmaRnr n psn
    else go (arrived b p n ce) := by
  have shut : (!b.ethUp p || b.rdmaShut) = false := by simp [up, open_]
  have here : (((b.inc (F.ETH_COUNT_0_RX_PKTS p)).qp n).st != .rtr && ((b.inc (F.ETH_COUNT_0_RX_PKTS p)).qp n).st != .rts
      || ((b.inc (F.ETH_COUNT_0_RX_PKTS p)).qp n).cfg.port != p) = false := by
    have other : ((b.qp n).st != .rtr && (b.qp n).st != .rts || (b.qp n).cfg.port != p) = false := by
      rcases takes with st | st <;> simp [st, port]
    exact other
  unfold rdmaPacket
  dsimp only
  rw [shut, if_neg Bool.false_ne_true, here, if_neg Bool.false_ne_true]
  rfl

theorem rdmaPacket_of_stopped (stopped : (arrived b p n ce).rdmaStopped = true) (psn : Nat) (go : Body → Body) :
    b.rdmaPacket p n psn ce go = (arrived b p n ce).rdmaRnr n psn := by
  rw [rdmaPacket_of_up up open_ takes port, stopped]
  rfl

end

theorem rdmaPacket_of_serves {b : Body} {p n : Nat} {ce : Bool} (h : serves b p n ce) (psn : Nat) (go : Body → Body) :
    b.rdmaPacket p n psn ce go = go (arrived b p n ce) := by
  obtain ⟨up, open_, takes, port, runs, unheld, attested⟩ := h
  have hold : (arrived b p n ce).per.hold = false :=
    (rdmaMark_keeps (b.inc (F.ETH_COUNT_0_RX_PKTS p)) n ce (Takes.ne_reset takes)).2.trans unheld
  rw [rdmaPacket_of_up up open_ takes port, runs, hold, attested]
  rfl

theorem takes_arrived {b : Body} {p n : Nat} {ce : Bool} (h : serves b p n ce) : Takes ((arrived b p n ce).qp n) := by
  obtain ⟨at_, qp⟩ := qp_arrived b p n ce (Takes.ne_reset h.2.2.1)
  rw [qp]
  exact h.2.2.1

/-! ## A packet in its turn -/

section
variable {g : Body} {n psn : Nat} (turn : psn = (g.qp n).ePsn)
include turn

theorem psnCheck_of_turn (mode : (g.qp n).cfg.mode ≠ .spray) (dup go : Body → Body) : g.psnCheck n psn dup go = go g := by
  subst turn
  simp [psnCheck, psnSub_self, mode]

theorem psnCheck_of_spray (mode : (g.qp n).cfg.mode = .spray) (unseen : (g.qp n).seen.contains psn = false) (dup go : Body → Body) :
    g.psnCheck n psn dup go = go g := by
  subst turn
  unfold psnCheck
  dsimp only
  rw [psnSub_self, unseen, mode]
  rfl

end

/-- A served packet of a strict or relaxed queue pair in its turn is taken. -/
theorem rdmaPacket_of_turn {b : Body} {p n psn : Nat} {ce : Bool} (h : serves b p n ce) (mode : ((arrived b p n ce).qp n).cfg.mode ≠ .spray)
    (turn : psn = ((arrived b p n ce).qp n).ePsn) (dup go : Body → Body) :
    b.rdmaPacket p n psn ce (·.psnCheck n psn dup go) = go (arrived b p n ce) :=
  (rdmaPacket_of_serves h psn _).trans (psnCheck_of_turn turn mode dup go)

/-- A queue pair that has taken `k` PSNs in their turn. -/
def turned (q : Qp) (psn k : Nat) : Qp := { q with ePsn := psnAdd psn k, quiet := false }

section
variable {g : Body} {n : Nat} (takes : Takes (g.qp n))
include takes

theorem qp_psnArrive (mode : (g.qp n).cfg.mode ≠ .spray) (psn k : Nat) : (g.psnArrive n psn k).qp n = turned (g.qp n) psn k := by
  have turns : (if (g.qp n).cfg.mode == .spray then
      sprayTake (((g.qp n).seen ++ (List.range k).map (psnAdd psn)).length + 1)
        { g.qp n with seen := (g.qp n).seen ++ (List.range k).map (psnAdd psn), timer := (g.qp n).timer || psn != (g.qp n).ePsn }
      else turned (g.qp n) psn k) = turned (g.qp n) psn k := if_neg (by simp [mode])
  unfold psnArrive
  rw [qp_qpMod]
  · exact turns
  · exact fun e => takes.ne_reset ((congrArg (·.st) turns).symm.trans e)

theorem qp_psnArrive_spray (mode : (g.qp n).cfg.mode = .spray) (psn k : Nat) : Takes ((g.psnArrive n psn k).qp n)
    ∧ ((g.psnArrive n psn k).qp n).msgs = (g.qp n).msgs := by
  obtain ⟨st, msgs⟩ := sprayTake_keeps (((g.qp n).seen ++ (List.range k).map (psnAdd psn)).length + 1)
    { g.qp n with seen := (g.qp n).seen ++ (List.range k).map (psnAdd psn), timer := (g.qp n).timer || psn != (g.qp n).ePsn }
  unfold psnArrive
  rw [qp_qpMod]
  · rw [mode, if_pos (by decide)]
    exact ⟨by simp only [Takes, st]; exact takes, msgs⟩
  · rw [mode, if_pos (by decide), st]
    exact takes.ne_reset

theorem qp_msgs (l : Qp → List RMsg) : (g.qpMod n fun q => { q with msgs := l q }).qp n = { g.qp n with msgs := l (g.qp n) } :=
  qp_qpMod takes.ne_reset

end

theorem mem_msgPut (q : Qp) (m : RMsg) : m ∈ msgPut q m := mem_insertBy ..

/-! ## Requests (R269) -/

/-- The message of a WRITE that one packet carries whole. -/
def writeMsg (h : Reth) (psn region : Nat) (imm : Option Nat) (data : List Byte) (ws : List QWrite) : RMsg :=
  { first := psn, last := psn, kind := .write, region := region, whole := true, va := h.va + data.length, key := h.key
    bytes := h.len - data.length, flagged := imm.isSome, imm := imm.getD 0, held := [] ++ ws, lines := 0 + ws.length }

/-- A queue pair's message stands after the others. -/
def msgAppend (s : Body) (n : Nat) (m : RMsg) : Body := s.qpMod n fun q => { q with msgs := q.msgs ++ [m] }

/-- A queue pair's message stands at its place by PSN. -/
def msgPlace (s : Body) (n : Nat) (m : RMsg) : Body := s.qpMod n fun q => { q with msgs := msgPut q m }

section
variable {g : Body} {n psn region a : Nat} {h : Reth} {data : List Byte}

theorem writePacket_whole {imm : Option Nat} (closed : ((g.qp n).msgs.find? fun m => m.kind == .write && !m.whole) = none)
    (key : g.keyCheck (g.qp n) h.key h.va h.len 1 = some (region, a)) (whole : data.length = h.len)
    (room : g.rdmaRoom (g.qp n) (g.msgWrites n psn a data).length ((g.msgWrites n psn a data).isEmpty && imm.isSome) = true) :
    g.writePacket n psn (some h) true imm data =
      (let m := writeMsg h psn region imm data (g.msgWrites n psn a data)
       let t := (g.psnArrive n psn 1).msgAppend n m
       if imm.isSome then t.immDeliver n m else t).qpTurn n := by
  have fits : (data.length > h.len || (true && data.length != h.len) || (!true && data.length != g.rdmaMtu) : Bool) = false := by simp [whole]
  unfold writePacket
  dsimp only
  rw [closed]
  dsimp only
  rw [fits, if_neg Bool.false_ne_true, Option.isSome_some, if_pos rfl, key]
  dsimp only
  rw [Option.map_none, Option.getD_none, Bool.and_true, room, Bool.not_true, if_neg Bool.false_ne_true]
  rfl

/-- The message of a READ. -/
def readMsg (g : Body) (h : Reth) (psn region a : Nat) : RMsg :=
  { first := psn, last := psnAdd psn (g.rdmaPkts h.len - 1), kind := .read, region := region, started := false, dpa := a, len := h.len }

theorem readPacket_taken (key : g.keyCheck (g.qp n) h.key h.va h.len 0 = some (region, a)) : g.readPacket n psn h false
    = ((g.psnArrive n psn (g.rdmaPkts h.len)).msgPlace n (readMsg g h psn region a)).qpTurn n := by
  unfold readPacket
  dsimp only
  rw [key]
  rfl

/-- The message of an atomic. -/
def atomicMsg (psn region a : Nat) (swap : Bool) (x y : Nat) : RMsg :=
  { first := psn, last := psn, kind := .atomic, region := region, started := false, op := some ⟨a / 64, a % 64, swap, x, y⟩ }

theorem atomicPacket_taken {k va : Nat} (key : g.keyCheck (g.qp n) k va 8 2 = some (region, a)) (room : g.rdmaRoom (g.qp n) 1 false = true)
    (swap : Bool) (x y : Nat) : g.atomicPacket n psn va k swap x y
    = ((g.psnArrive n psn 1).msgPlace n (atomicMsg psn region a swap x y)).qpTurn n := by
  unfold atomicPacket
  dsimp only
  rw [key]
  dsimp only
  rw [room]
  rfl

/-- The message of a SEND. -/
def sendMsg (psn : Nat) : RMsg := { first := psn, last := psn, kind := .send, ready := true }

/-- The payload of a SEND goes into a buffer of the Ramekin region, byte by byte. -/
def bufFill (s : Body) (o : Nat) (data : List Byte) : Body :=
  s.forEach (data.zip (range' o data.length)) fun s b => s.setRkByte b.2 b.1.toNat

/-- A SEND uses up the first posted receive. -/
def recvUse (s : Body) (n k : Nat) (r : List Nat) : Body := s.qpMod n fun q => { q with sendAt := k, recvs := r }

theorem qp_bufFill (s : Body) (o n : Nat) (data : List Byte) : (s.bufFill o data).qp n = s.qp n :=
  forEach_induct (P := fun t => t.qp n = s.qp n) _ rfl fun _ _ _ h => h

theorem sendPacket_whole {buf : Nat} {r : List Nat} (posted : (g.qp n).recvs = buf :: r) (fits : data.length ≤ rkSize (buf % 8)) :
    g.sendPacket n psn true true data = (((((g.bufFill (g.rkBuf (buf % 8) (buf / 256) + 0) data).psnArrive n psn 1).recvUse n
      (0 + data.length) r)).msgPlace n (sendMsg psn)).qpTurn n := by
  have fits' : ¬0 + data.length > rkSize (buf % 8) := by omega
  unfold sendPacket
  dsimp only
  rw [posted]
  dsimp only
  rw [if_pos rfl, if_neg fits', if_pos rfl]
  rfl

/-- The message of a WRITE of a spray queue pair that one packet carries whole. -/
def sprayMsg (h : SprayHdr) (region : Nat) (imm : Bool) (ws : List QWrite) : RMsg :=
  { first := h.msg, last := psnAdd h.msg (h.pkts - 1), kind := .write, got := 0 + 1, pkts := h.pkts, region := region, flagged := imm
    imm := h.imm, key := h.key, whole := 0 + 1 == h.pkts, held := [] ++ ws, lines := 0 + ws.length }

theorem sprayPacket_whole {h : SprayHdr} {imm : Bool} (mode : (g.qp n).cfg.mode = .spray) (last : h.last = true) (one : h.pkts = 1)
    (msg : h.msg = psn) (fresh : ((g.qp n).msgs.find? (·.first == h.msg)) = none)
    (key : g.keyCheck (g.qp n) h.key h.va data.length 1 = some (region, a))
    (room : g.rdmaRoom (g.qp n) (g.msgWrites n psn a data).length ((g.msgWrites n psn a data).isEmpty && imm && decide (h.len = 0)) = true) :
    g.sprayPacket n psn h imm data =
      (let m := sprayMsg h region imm (g.msgWrites n psn a data)
       let t := (g.psnArrive n psn 1).msgPlace n m
       if m.whole && imm then t.immDeliver n m else t).qpTurn n := by
  subst msg
  have sprays : ((g.qp n).cfg.mode != .spray) = false := by simp [mode]
  have fits : ((!h.last && data.length != g.rdmaMtu) || decide (h.pkts = 0) || decide (psnSub h.msg h.msg ≥ h.pkts)) = false := by
    simp [last, one, psnSub_self]
  unfold sprayPacket
  dsimp only
  rw [sprays, if_neg Bool.false_ne_true, fits, if_neg Bool.false_ne_true, key]
  dsimp only
  rw [room, Bool.not_true, if_neg Bool.false_ne_true, fresh]
  rfl

end

/-! ## Where a message stands -/

section
variable {g : Body} {n psn : Nat} (takes : Takes (g.qp n))
include takes

theorem qp_msgAppend (mode : (g.qp n).cfg.mode ≠ .spray) (m : RMsg) : (((g.psnArrive n psn 1).msgAppend n m).qp n).ePsn = psnAdd psn 1
    ∧ m ∈ (((g.psnArrive n psn 1).msgAppend n m).qp n).msgs := by
  have qp := qp_psnArrive takes mode psn 1
  have took : Takes ((g.psnArrive n psn 1).qp n) := qp ▸ takes
  rw [msgAppend, qp_msgs took fun q => q.msgs ++ [m], qp]
  exact ⟨rfl, List.mem_append_right _ (List.mem_singleton.2 rfl)⟩

theorem qp_msgPlace (mode : (g.qp n).cfg.mode ≠ .spray) (k : Nat) (m : RMsg) : (((g.psnArrive n psn k).msgPlace n m).qp n).ePsn = psnAdd psn k
    ∧ m ∈ (((g.psnArrive n psn k).msgPlace n m).qp n).msgs := by
  have qp := qp_psnArrive takes mode psn k
  have took : Takes ((g.psnArrive n psn k).qp n) := qp ▸ takes
  rw [msgPlace, qp_msgs took fun q => msgPut q m, qp]
  exact ⟨rfl, mem_msgPut ..⟩

theorem mem_msgPlace_spray (mode : (g.qp n).cfg.mode = .spray) (m : RMsg) : m ∈ (((g.psnArrive n psn 1).msgPlace n m).qp n).msgs := by
  rw [msgPlace, qp_msgs (qp_psnArrive_spray takes mode psn 1).1 fun q => msgPut q m]
  exact mem_msgPut ..

theorem qp_sent (mode : (g.qp n).cfg.mode ≠ .spray) (o k : Nat) (r : List Nat) (data : List Byte) (m : RMsg) :
    let t := (((g.bufFill o data).psnArrive n psn 1).recvUse n k r).msgPlace n m
    (t.qp n).ePsn = psnAdd psn 1 ∧ (t.qp n).recvs = r ∧ m ∈ (t.qp n).msgs := by
  have filled := qp_bufFill g o n data
  have qp : ((g.bufFill o data).psnArrive n psn 1).qp n = turned (g.qp n) psn 1 := by
    rw [← filled] at takes mode ⊢
    exact qp_psnArrive takes mode psn 1
  have used : (((g.bufFill o data).psnArrive n psn 1).recvUse n k r).qp n = { turned (g.qp n) psn 1 with sendAt := k, recvs := r } := by
    rw [recvUse, qp_qpMod (by rw [qp]; exact takes.ne_reset), qp]
  have took : Takes ((((g.bufFill o data).psnArrive n psn 1).recvUse n k r).qp n) := used ▸ takes
  dsimp only
  rw [msgPlace, qp_msgs took fun q => msgPut q m, used]
  exact ⟨rfl, rfl, mem_msgPut ..⟩

end

/-! ## The reorder timer (R277) -/

section
variable {b : Body} {n : Nat} (runs : (b.qp n).timer = true) (takes : Takes (b.qp n))
include runs takes

theorem reorderEnd_of_running : b.reorderEnd n = if (b.qp n).seen.isEmpty then b.setQp n { b.qp n with timer := false }
    else (b.incSat F.RDMA_COUNT_1_SACK_SENT).ethTx (b.qp n).cfg.port 1
      (.sack (b.qp n).cfg.port n (b.qp n).lastAck (sackRuns (b.qp n))) := by
  have ends : (!(b.qp n).timer || ((b.qp n).st != .rtr && (b.qp n).st != .rts)) = false := by
    rcases takes with st | st <;> simp [runs, st]
  unfold reorderEnd
  dsimp only
  rw [ends, if_neg Bool.false_ne_true]

theorem reorderEnd_sack (waits : (b.qp n).seen ≠ []) :
    .sack (b.qp n).cfg.port n (b.qp n).lastAck (sackRuns (b.qp n)) ∈ (b.reorderEnd n).out := by
  rw [reorderEnd_of_running runs takes, if_neg (by simp [waits])]
  exact mem_out_send ..

theorem reorderEnd_done (none : (b.qp n).seen = []) : ((b.reorderEnd n).qp n).timer = false := by
  rw [reorderEnd_of_running runs takes, if_pos (by simp [none])]
  exact congrArg (·.timer) (qp_setQp b n (q := { b.qp n with timer := false }) takes.ne_reset)

end

/-- Settles O33. -/
theorem rdmaResponderCommands : Obligations.RdmaResponderCommands := by
  unfold Obligations.RdmaResponderCommands
  refine ⟨fun s p n psn region a ce h data served => ?write, fun s p n psn region a ce h served => ?read,
    fun s p n psn va key region a x y ce served => ?atomic, fun s p n psn buf r ce data served => ?send,
    fun s p n psn region a ce h data served => ?spray,
    fun s p n psn ce h up open_ takes port stopped => leads_of_eq rfl (rdmaPacket_of_stopped up open_ takes port stopped psn _) rfl,
    fun s n runs takes => ⟨fun waits => ⟨_, rfl, reorderEnd_sack runs takes waits⟩, fun none => ⟨_, rfl, reorderEnd_done runs takes none⟩⟩⟩
  case write =>
    intro g mode turn closed key whole
    have takes : Takes (g.qp n) := takes_arrived served
    refine ⟨fun room => ?_, fun imm room => ?_⟩
    · obtain ⟨psn', stands⟩ := qp_msgAppend takes mode (psn := psn) (writeMsg h psn region none data (g.msgWrites n psn a data))
      exact leads_of_eq rfl ((rdmaPacket_of_turn served mode turn _ _).trans
        (writePacket_whole closed key whole (imm := none) (by rw [Option.isSome_none, Bool.and_false]; exact room)))
        ⟨_, rfl, psn', _, stands, rfl, rfl, List.nil_append _, rfl, rfl⟩
    · obtain ⟨psn', stands⟩ := qp_msgAppend takes mode (psn := psn) (writeMsg h psn region (some imm) data (g.msgWrites n psn a data))
      exact leads_of_eq rfl ((rdmaPacket_of_turn served mode turn _ _).trans
        (writePacket_whole closed key whole (imm := some imm) (by rw [Option.isSome_some, Bool.and_true]; exact room)))
        ⟨_, _, rfl, psn', stands, rfl, rfl, rfl, rfl⟩
  case read =>
    intro g mode turn key
    obtain ⟨psn', stands⟩ := qp_msgPlace (takes_arrived served) mode (psn := psn) (g.rdmaPkts h.len) (readMsg g h psn region a)
    exact leads_of_eq rfl ((rdmaPacket_of_turn served mode turn _ _).trans (readPacket_taken key))
      ⟨_, rfl, psn', _, stands, rfl, rfl, rfl, rfl⟩
  case atomic =>
    intro g mode turn reached room
    refine ⟨?_, ?_⟩
    · obtain ⟨psn', stands⟩ := qp_msgPlace (takes_arrived served) mode (psn := psn) 1 (atomicMsg psn region a true x y)
      exact leads_of_eq rfl ((rdmaPacket_of_turn served mode turn _ _).trans (atomicPacket_taken reached room true x y))
        ⟨_, rfl, psn', _, stands, rfl, rfl, rfl⟩
    · obtain ⟨psn', stands⟩ := qp_msgPlace (takes_arrived served) mode (psn := psn) 1 (atomicMsg psn region a false x 0)
      exact leads_of_eq rfl ((rdmaPacket_of_turn served mode turn _ _).trans (atomicPacket_taken reached room false x 0))
        ⟨_, rfl, psn', _, stands, rfl, rfl, rfl⟩
  case send =>
    intro g mode turn posted fits
    obtain ⟨psn', recvs, stands⟩ := qp_sent (takes_arrived served) mode (psn := psn) (g.rkBuf (buf % 8) (buf / 256) + 0) (0 + data.length) r
      data (sendMsg psn)
    exact leads_of_eq rfl ((rdmaPacket_of_turn served mode turn _ _).trans (sendPacket_whole posted fits))
      ⟨_, rfl, psn', recvs, _, stands, rfl, rfl⟩
  case spray =>
    intro g mode turn unseen last one _ msg fresh key
    have taken (go : Body → Body) : s.body.rdmaPacket p n psn ce (·.psnCheck n psn (·.dupWrite n psn) go) = go g :=
      (rdmaPacket_of_serves served psn _).trans (psnCheck_of_spray turn mode unseen _ go)
    have stands (m : RMsg) := mem_msgPlace_spray (takes_arrived served) mode (psn := psn) m
    have whole (imm : Bool) (ws : List QWrite) : (sprayMsg h region imm ws).whole = true := by simp [sprayMsg, one]
    refine ⟨fun room => ?_, fun room => ?_⟩
    · refine leads_of_eq rfl ((taken _).trans (sprayPacket_whole mode last one msg fresh key (imm := false) ?_)) ⟨(g.psnArrive n psn 1).msgPlace n
        (sprayMsg h region false (g.msgWrites n psn a data)), ?_, sprayMsg h region false (g.msgWrites n psn a data), stands _, rfl, msg, whole _ _,
        List.nil_append _⟩
      · rw [Bool.and_false, Bool.false_and]
        exact room
      · dsimp only
        rw [Bool.and_false]
        rfl
    · refine leads_of_eq rfl ((taken _).trans (sprayPacket_whole mode last one msg fresh key (imm := true) ?_)) ⟨(g.psnArrive n psn 1).msgPlace n
        (sprayMsg h region true (g.msgWrites n psn a data)), sprayMsg h region true (g.msgWrites n psn a data), ?_, stands _, rfl, msg, rfl, rfl⟩
      · rw [Bool.and_true]
        exact room
      · dsimp only
        rw [whole]
        rfl

end Body
end Sys2Proof.Machine

/-! RDMA_CMD, the doorbell and the peek (R279, R280, R285, R292, R293). -/

namespace Sys2Proof.Machine
namespace Body

open Sys2Proof.Stmt

/-! ## A command begins and ends (R292) -/

theorem rdmaCmd_of_begins {b : Body} {actor : Actor} {op i : Nat} (h : begins b actor op i) (act : Body → Body) :
    b.rdmaCmd actor op i act = act (begun b actor op i) := by
  obtain ⟨taken, idle, on⟩ := h
  have idle' : (wrote b actor A.RDMA_CMD (op + 16 * (i % 2 ^ 24))).get F.RDMA_CMD_STATUS_STATE ≠ 1 := by
    rwa [get_wrote_ne b actor _ _ (by decide)]
  have may : ((wrote b actor A.RDMA_CMD (op + 16 * (i % 2 ^ 24))).get F.RDMA_CMD_STATUS_STATE == 1
      || !(wrote b actor A.RDMA_CMD (op + 16 * (i % 2 ^ 24))).isOn U.rdma) = false := by
    rw [isOn_wrote _ _ _ _ (by decide), on]
    simpa using idle'
  rw [rdmaCmd, command_eq_of_acts _ _ _ _ _ taken, rdmaBegin, may, if_neg Bool.false_ne_true]
  rfl

theorem state_begun (b : Body) (actor : Actor) (op i : Nat) : (begun b actor op i).get F.RDMA_CMD_STATUS_STATE = 1 := by
  unfold begun
  rw [get_put_ne _ _ _ _ (by decide), get_put_ne _ _ _ _ (by decide), get_put_same _ _ _ (by decide)]
  rfl

theorem rdma_begun (b : Body) (actor : Actor) (op i : Nat) : (begun b actor op i).rdma = b.rdma := by
  simp [begun, wrote]

/-- What a command that ends shows: its state, its result, its key. -/
theorem get_cmdEnd (s : Body) (result key : Nat) :
    (s.cmdEnd result key).get F.RDMA_CMD_STATUS_STATE = (if result = 0 then 2 else 3)
    ∧ (s.cmdEnd result key).get F.RDMA_CMD_STATUS_RESULT = result % 2 ^ 6
    ∧ (s.cmdEnd result key).get F.RDMA_CMD_STATUS_KEY = key % 2 ^ 32 := by
  have told (f : Fld) (h : F.RDMA_EVENTS_CMD_DONE.apart f = true) (h' : F.RDMA_EVENTS_CMD_REFUSED.apart f = true) :
      (s.cmdEnd result key).get f = (((s.put F.RDMA_CMD_STATUS_STATE (if result = 0 then 2 else 3)).put F.RDMA_CMD_STATUS_RESULT result).put
        F.RDMA_CMD_STATUS_KEY key).get f := by
    unfold cmdEnd
    dsimp only
    rw [get_raise, get_put_ne]
    split
    · exact h
    · exact h'
  refine ⟨?_, ?_, ?_⟩
  · rw [told _ (by decide) (by decide), get_put_ne _ _ _ _ (by decide), get_put_ne _ _ _ _ (by decide), get_put_same _ _ _ (by decide)]
    split <;> rfl
  · rw [told _ (by decide) (by decide), get_put_ne _ _ _ _ (by decide), get_put_same _ _ _ (by decide)]
    rfl
  · rw [told _ (by decide) (by decide), get_put_same _ _ _ (by decide)]
    rfl

theorem state_cmdEnd_done (s : Body) (key : Nat) : (s.cmdEnd 0 key).get F.RDMA_CMD_STATUS_STATE = 2 := (get_cmdEnd s 0 key).1

theorem rdma_cmdEnd (s : Body) (result key : Nat) : (s.cmdEnd result key).rdma = s.rdma := rfl
theorem qp_cmdEnd (s : Body) (result key n : Nat) : (s.cmdEnd result key).qp n = s.qp n := rfl

theorem rdma_rdmaShow (s : Body) : s.rdmaShow.rdma = s.rdma := by
  obtain ⟨m, r, shown⟩ := rdmaShow_eq s
  rw [shown]

/-! ## Connections -/

theorem rdmaConnect_own {g : Body} {n : Nat} (low : 2 ≤ n) (high : n ≤ 65535) (free : (g.qp n).st = .reset)
    (open_ : g.ethOpen (g.arg 2 48 3) = true) (own : g.arg 3 31 1 = 1) :
    ∃ q : Qp, q.st = .rtr ∧ q.cfg.active = true ∧ q.cfg.port = g.arg 2 48 3
      ∧ ∃ m, g.rdmaConnect n = (((g.fresh.setQp n q).cmSend (g.arg 2 48 3) n m).cmdEnd 0 0) := by
  have number : (decide (n < 2) || decide (n > 65535) || (g.qp n).st != .reset) = false := by
    simp only [free, bne_self_eq_false, Bool.or_false, Bool.or_eq_false_iff, decide_eq_false_iff_not]
    omega
  unfold rdmaConnect
  dsimp only
  rw [number, if_neg Bool.false_ne_true, open_, own]
  exact ⟨_, rfl, rfl, rfl, _, rfl⟩

/-- The queue pair of a CM REQ that firmware accepts. -/
def acceptedQp (g : Body) (q : Qp) : Qp := { q with st := .rtr, cfg := { q.cfg with pd := g.arg 3 2 12, cq := some (g.arg 3 52 12) } }

theorem rdmaAccept_held {g : Body} {n : Nat} (held : (g.qp n).st = .held) (noCq : nbit (g.qp n).cfg.ext 1 = false) :
    g.rdmaAccept n = ((g.setQp n (acceptedQp g (g.qp n))).cmRep n).cmdEnd 0 0 := by
  simp [rdmaAccept, held, noCq, acceptedQp]

theorem mraTimeout_held {g : Body} {n : Nat} (held : (g.qp n).st = .held) :
    g.mraTimeout n = (g.cmSend (g.qp n).cfg.port n .rej).setQp n {} := by
  simp [mraTimeout, held, qpReset]

theorem rdmaReject_held {g : Body} {n : Nat} (held : (g.qp n).st = .held) :
    g.rdmaReject n = ((g.cmSend (g.qp n).cfg.port n .rej).setQp n {}).cmdEnd 0 0 := by
  simp [rdmaReject, held, mraTimeout_held]

theorem rdmaDisconnect_live {g : Body} {n : Nat} (live : (g.qp n).st = .rtr ∨ (g.qp n).st = .rts) :
    g.rdmaDisconnect n = (g.cmGone n .dreq).cmdEnd 0 0 := by
  unfold rdmaDisconnect
  rcases live with st | st <;> rw [st]

theorem rdmaDisconnect_error {g : Body} {n : Nat} (st : (g.qp n).st = .error) : g.rdmaDisconnect n = (g.setQp n {}).cmdEnd 0 0 := by
  unfold rdmaDisconnect
  rw [st]
  rfl

theorem rdmaDisconnect_reset {g : Body} {n : Nat} (st : (g.qp n).st = .reset) : g.rdmaDisconnect n = g.cmdEnd 1 0 := by
  unfold rdmaDisconnect
  rw [st]

/-! ## Regions (R279, R280) -/

/-- Replace a region. -/
def setRegion (s : Body) (i : Nat) (r : Region) : Body := { s with rdma := { s.rdma with regions := mset s.rdma.regions i r } }

theorem mget_setRegion (s : Body) (i : Nat) (r : Region) : mget (s.setRegion i r).rdma.regions i = some r := mget_mset_same ..

/-- The region that the arguments of REG_CREATE give. -/
def madeRegion (g : Body) (i : Nat) : Region :=
  { used := true, variant := ((mgetD g.rdma.regions i {}).variant + 1) % 256, va := g.arg 0 0 64, part := g.arg 1 47 8, off := g.arg 1 0 47
    len := g.arg 2 0 64, pd := g.arg 3 0 12, rights := g.arg 3 12 3 }

theorem regCreate_taken {g : Body} {i : Nat} (index : i < 1048576) (free : (mgetD g.rdma.regions i {}).used = false)
    (online : g.get (F.PART_ATTR_STATE (g.arg 1 47 8)) = 1) (allowed : g.flag (F.PART_ATTR_RDMA_ALLOWED (g.arg 1 47 8)) = true)
    (kept : g.cfg.refuseIn.contains (g.arg 1 47 8) = false)
    (inside : g.arg 1 0 47 + g.arg 2 0 64 ≤ g.get (F.PART_SIZE_SIZE_GIB (g.arg 1 47 8)) * 2 ^ 30) :
    g.regCreate i = ((((g.setRegion i (madeRegion g i)).inc (F.PART_ATTR_REGIONS (g.arg 1 47 8))).rdmaShow).cmdEnd 0
      (i * 256 + ((mgetD g.rdma.regions i {}).variant + 1) % 256)) := by
  have unused : (decide (i ≥ 1048576) || (mgetD g.rdma.regions i {}).used) = false := by simp [free, index]
  have usable : (g.get (F.PART_ATTR_STATE (g.arg 1 47 8)) != 1 || !g.flag (F.PART_ATTR_RDMA_ALLOWED (g.arg 1 47 8))
      || g.cfg.refuseIn.contains (g.arg 1 47 8)) = false := by
    rw [online, allowed, kept]
    rfl
  unfold regCreate
  dsimp only
  rw [unused, if_neg Bool.false_ne_true, usable, if_neg Bool.false_ne_true, if_neg (Nat.not_lt.2 inside)]
  rfl

theorem regDereg_used {g : Body} {i : Nat} {r : Region} (here : mget g.rdma.regions i = some r) (used : r.used = true) :
    g.regDereg i = g.setRegion i { r with deadAt := some (g.frameNo + 1) } := by
  unfold regDereg
  rw [here]
  dsimp only
  rw [used]
  rfl

/-- A region is gone: its index keeps the variant, its partition counts one less, and the command ends. -/
def regGone (b : Body) (i : Nat) (r : Region) : Body :=
  let s : Body := { b with rdma := { b.rdma with regions := mset b.rdma.regions i { variant := r.variant } } }
  let s := (s.put (F.PART_ATTR_REGIONS r.part) (s.get (F.PART_ATTR_REGIONS r.part) - 1)).rdmaShow
  (s.rdmaPost 0x30 0 i (i * 256 + r.variant)).cmdEnd 0 0

theorem regDeregDone_due {b : Body} {i f : Nat} {r : Region} (here : mget b.rdma.regions i = some r) (used : r.used = true)
    (dead : r.deadAt = some f) (past : f ≤ b.frameNo) (quiet : b.regionBusy i = false) : b.regDeregDone i = b.regGone i r := by
  have due : (!r.used || !r.deadAt.any (· ≤ b.frameNo) || b.regionBusy i) = false := by simp [used, dead, past, quiet]
  unfold regDeregDone regGone
  rw [here]
  dsimp -zeta only
  rw [due, if_neg Bool.false_ne_true]

theorem rdma_rdmaPost (s : Body) (code port object detail : Nat) : (s.rdmaPost code port object detail).rdma = s.rdma := rfl

theorem rdma_regGone (b : Body) (i : Nat) (r : Region) : mget (b.regGone i r).rdma.regions i = some { variant := r.variant } := by
  unfold regGone
  rw [rdma_cmdEnd, rdma_rdmaPost, rdma_rdmaShow]
  exact mget_mset_same ..

/-- Settles O35. -/
theorem rdmaFirmwareCommands : Obligations.RdmaFirmwareCommands := by
  unfold Obligations.RdmaFirmwareCommands
  refine ⟨fun s actor n h => ?connect, fun s actor n h => ?accept, fun s actor n h held => ?reject, fun s actor n h => ?disconnect,
    fun s actor i h => ?create, fun s actor i r h here used => ?dereg, fun s i f r here used dead past quiet => ?deregDone,
    fun s actor i h => leads_of_eq rfl (rdmaCmd_of_begins h _) rfl, fun s actor i h => ?pd,
    fun s actor n may on => leads_select may ?doorbell, fun s actor kind index may => leads_select may rfl⟩
  case connect =>
    intro g low high free open_ own
    obtain ⟨q, rtr, active, port, m, made⟩ := rdmaConnect_own low high free open_ own
    refine leads_of_eq rfl ((rdmaCmd_of_begins h _).trans made) ?_
    rw [qp_cmdEnd, qp_cmSend, qp_setQp _ _ (by rw [rtr]; exact nofun)]
    exact ⟨rtr, active, port, state_cmdEnd_done ..⟩
  case accept =>
    intro g held noCq
    refine leads_of_eq rfl ((rdmaCmd_of_begins h _).trans (rdmaAccept_held held noCq)) ?_
    rw [qp_cmdEnd, qp_cmRep, qp_setQp _ _ (q := acceptedQp g (g.qp n)) nofun]
    exact ⟨rfl, rfl, state_cmdEnd_done ..⟩
  case reject =>
    refine leads_of_eq rfl ((rdmaCmd_of_begins h _).trans (rdmaReject_held held)) ?_
    rw [qp_cmdEnd, qp_setQp_reset]
    exact ⟨rfl, state_cmdEnd_done ..⟩
  case disconnect =>
    intro g
    refine ⟨fun live => leads_of_eq rfl ((rdmaCmd_of_begins h _).trans (rdmaDisconnect_live live)) rfl, fun st => ?_, fun st => ?_⟩
    · refine leads_of_eq rfl ((rdmaCmd_of_begins h _).trans (rdmaDisconnect_error st)) ?_
      rw [qp_cmdEnd, qp_setQp_reset]
      exact ⟨rfl, state_cmdEnd_done ..⟩
    · obtain ⟨state, result, -⟩ := get_cmdEnd g 1 0
      exact leads_of_eq rfl ((rdmaCmd_of_begins h _).trans (rdmaDisconnect_reset st)) ⟨state, result⟩
  case create =>
    intro g index free online allowed kept inside
    refine leads_of_eq rfl ((rdmaCmd_of_begins h _).trans (regCreate_taken index free online allowed kept inside))
      ⟨state_cmdEnd_done .., (get_cmdEnd ..).2.2, ?_⟩
    rw [rdma_cmdEnd, rdma_rdmaShow]
    have made : mget ((g.setRegion i (madeRegion g i)).inc (F.PART_ATTR_REGIONS (g.arg 1 47 8))).rdma.regions i = some (madeRegion g i) :=
      mget_setRegion ..
    rw [made]
    rfl
  case dereg =>
    exact leads_of_eq rfl ((rdmaCmd_of_begins h _).trans (regDereg_used ((congrArg (mget ·.regions i) (rdma_begun ..)).trans here) used))
      ⟨mget_setRegion .., state_begun ..⟩
  case deregDone =>
    exact leads_of_eq rfl (regDeregDone_due here used dead past quiet) ⟨rdma_regGone .., state_cmdEnd_done ..⟩
  case pd =>
    refine leads_of_eq rfl (rdmaCmd_of_begins h _) ⟨?_, state_cmdEnd_done ..⟩
    show (if (begun s.body actor 8 i).arg 0 0 1 == 1 then _ else _) = _
    simp only [beq_iff_eq, rdma_begun]
  case doorbell =>
    rw [isOn_wrote _ _ _ _ (by decide), on]
    rfl

end Body
end Sys2Proof.Machine

/-! The tables of the schedule engine (R314 to R317, R336). -/

namespace Sys2Proof.Machine

/-- Entries rewritten without a change of key. -/
theorem mget_map {α : Type} {h : Nat × α → Nat × α} (keys : ∀ p, (h p).1 = p.1) (m : SMap α) (a : Nat) :
    mget (m.map h) a = (mget m a).map fun x => (h (a, x)).2 := by
  induction m with
  | nil => rfl
  | cons p r ih =>
    rw [List.map_cons]
    have split : h p = (p.1, (h p).2) := Prod.ext (keys p) rfl
    rw [split]
    unfold mget
    by_cases here : a = p.1
    · rw [if_pos here, if_pos here, here]
      rfl
    · rw [if_neg here, if_neg here]
      exact ih

/-- Words written one after the other are all read back. -/
theorem mgetD_putEach {α : Type} [DecidableEq α] (d : α) (m : SMap α) (a : Nat) (v : Nat → α) (n k : Nat) (h : k < n) :
    mgetD ((List.range n).foldl (fun m k => mput d m (a + k) (v k)) m) (a + k) d = v k := by
  induction n with
  | zero => omega
  | succ n ih =>
    rw [List.range_succ, List.foldl_append, List.foldl_cons, List.foldl_nil]
    by_cases last : k = n
    · rw [last, mgetD_mput_same]
    · rw [mgetD_mput_ne _ _ _ _ _ _ (by omega)]
      exact ih (by omega)

namespace Body

open Sys2Proof.Stmt

/-- Fields apart, put one after the other, all read back. -/
theorem get_putEach (s : Body) (f : Nat → Fld) (v : Nat → Nat) (apart : ∀ i j, i ≠ j → (f i).apart (f j) = true)
    (fits : ∀ i, (f i).lo + (f i).w ≤ 64) (n k : Nat) (h : k < n) :
    (s.forEach (List.range n) fun s i => s.put (f i) (v i)).get (f k) = v k % 2 ^ (f k).w := by
  induction n with
  | zero => omega
  | succ n ih =>
    have last : s.forEach (List.range (n + 1)) (fun s i => s.put (f i) (v i))
        = (s.forEach (List.range n) fun s i => s.put (f i) (v i)).put (f n) (v n) := by
      unfold forEach
      rw [List.range_succ, List.foldl_append, List.foldl_cons, List.foldl_nil]
    rw [last]
    by_cases same : k = n
    · rw [same, get_put_same _ _ _ (fits n)]
    · rw [get_put_ne _ _ _ _ (apart n k (Ne.symm same))]
      exact ih (by omega)

/-! ## What the Ramekin leaves of the schedule engine -/

theorem sched_setPool (s : Body) (p : Nat) (x : Pool) : (s.setPool p x).sched = s.sched := by
  unfold setPool
  obtain ⟨m, e, low, shown⟩ := rkShow_eq { s with rk := { s.rk with pools := mput {} s.rk.pools p x } } p
  rw [shown]

theorem sched_rkShow (s : Body) (p : Nat) : (s.rkShow p).sched = s.sched := by
  obtain ⟨m, e, low, shown⟩ := rkShow_eq s p
  rw [shown]

theorem sched_setRkByte (s : Body) (r v : Nat) : (s.setRkByte r v).sched = s.sched := rfl
theorem sched_setRkWord (s : Body) (r : Nat) (w : Word) : (s.setRkWord r w).sched = s.sched := rfl
theorem sched_setHeld (s : Body) (o p n : Nat) : (s.setHeld o p n).sched = s.sched := rfl
theorem sched_rkRefuse (s : Body) : s.rkRefuse.sched = s.sched := rfl

theorem sched_rkQuarantine (s : Body) (p i : Nat) : (s.rkQuarantine p i).sched = s.sched := by
  unfold rkQuarantine
  refine (sched_setPool _ _ _).trans ?_
  split
  · exact sched_setRkByte ..
  · rfl

theorem sched_rkGive (s : Body) (p i : Nat) : (s.rkGive p i).sched = s.sched := by
  unfold rkGive
  dsimp only
  split
  · exact sched_setPool ..
  · split
    · exact sched_rkQuarantine ..
    · exact (sched_setPool ..).trans (sched_setRkWord ..)

theorem sched_rkFree (s : Body) (handle owner : Nat) (force bad : Bool) : (s.rkFree handle owner force bad).sched = s.sched := by
  unfold rkFree
  dsimp only
  split
  · exact sched_rkRefuse s
  · split
    · exact sched_rkQuarantine ..
    · split
      · exact (sched_rkRefuse _).trans (sched_rkQuarantine ..)
      · split
        · exact sched_rkRefuse s
        · rw [sched_rkShow, sched_rkGive, sched_setHeld, sched_setRkByte]

/-! ## Run states -/

theorem run_setRun (s : Body) (e : Nat) {x : Run} (live : x.st ≠ .empty) : (s.setRun e x).run_ e = x := by
  unfold setRun run_
  dsimp only
  rw [beq_eq_false_iff_ne.2 live]
  exact mgetD_mset_same ..

/-- Freeing an entry's buffers changes its run state alone. -/
theorem sched_bufsFree (s : Body) (e : Nat) : (s.bufsFree e).sched = (s.setRun e { s.run_ e with recBuf := none, mapBufs := [] }).sched := by
  unfold bufsFree
  dsimp only
  exact forEach_induct (P := fun t => t.sched = (s.setRun e { s.run_ e with recBuf := none, mapBufs := [] }).sched) _ rfl
    fun t h _ kept => (sched_rkFree t h 13 false false).trans kept

theorem sched_ite (c : Prop) [Decidable c] {a b s : Body} (ha : a.sched = s.sched) (hb : b.sched = s.sched) :
    (if c then a else b).sched = s.sched := by
  split
  · exact ha
  · exact hb

/-- What panic changes is no part of the schedule engine. -/
theorem sched_rtPanic (s : Body) : s.rtPanic.sched = s.sched := by
  unfold rtPanic
  exact forEach_induct (P := fun t => t.sched = s.sched) _ rfl fun t x _ kept => sched_ite _ kept (sched_ite _ kept kept)

/-- The reads that an entry may ask for now. -/
def askMore (s : Body) (p : Nat × Run) : Nat × Run :=
  if p.2.st == .delivering || (p.2.st.running && !(s.get F.SP_RT_STATUS_PANIC_MASK != 0)) then
    (p.1, { p.2 with asked := max p.2.asked (min (p.2.freed + (s.schedRow p.1).window) (s.schedRow p.1).chunks) })
  else p

theorem schedAsk_eq (s : Body) : s.schedAsk = { s with sched := { s.sched with runs := s.sched.runs.map (askMore s) } } := rfl

theorem askMore_key (s : Body) (p : Nat × Run) : (askMore s p).1 = p.1 := by
  unfold askMore
  split <;> rfl

theorem askMore_run (s : Body) (e : Nat) (x : Run) : ∃ k, (askMore s (e, x)).2 = { x with asked := k } := by
  unfold askMore
  split
  · exact ⟨_, rfl⟩
  · exact ⟨x.asked, rfl⟩

theorem run_schedAsk (s : Body) (e : Nat) : ∃ k, s.schedAsk.run_ e = { s.run_ e with asked := k } := by
  rw [schedAsk_eq]
  unfold run_ mgetD
  dsimp only
  rw [mget_map (askMore_key s)]
  cases h : mget s.sched.runs e with
  | none => exact ⟨_, rfl⟩
  | some x => exact askMore_run s e x

theorem run_of_sched {a b : Body} (h : a.sched = b.sched) (e : Nat) : a.run_ e = b.run_ e := by
  unfold run_
  rw [h]

/-- Showing the run states changes how much they have asked for, and no other part of the engine. -/
theorem run_schedShow (s : Body) (e : Nat) : ∃ k, s.schedShow.run_ e = { s.run_ e with asked := k } := by
  obtain ⟨k, first⟩ := run_schedAsk ((s.put F.SCHED_STATUS_RUNNING (s.entriesIn EntState.running).length).put F.SCHED_STATUS_STAGE_USED
    (s.put F.SCHED_STATUS_RUNNING (s.entriesIn EntState.running).length).stageUsed) e
  unfold schedShow
  obtain ⟨l, second⟩ := run_schedAsk (schedAsk ((s.put F.SCHED_STATUS_RUNNING (s.entriesIn EntState.running).length).put
    F.SCHED_STATUS_STAGE_USED (s.put F.SCHED_STATUS_RUNNING (s.entriesIn EntState.running).length).stageUsed)).rtPanic e
  rw [run_of_sched (sched_rtPanic _), first] at second
  exact ⟨l, second⟩

theorem rows_schedShow (s : Body) : s.schedShow.sched.rows = s.sched.rows := by
  unfold schedShow
  rw [schedAsk_eq]
  dsimp only
  rw [sched_rtPanic]
  rfl

/-! ## Commands of the tables -/

/-- What a table command that ends shows: its state. -/
theorem state_tblEnd (s : Body) (result : Nat) : (s.tblEnd result).get F.SCHED_TBL_STATUS_STATE = if result = 0 then 2 else 3 := by
  have ended (t : Body) : (if result = 0 then t else t.raise U.sched F.SCHED_EVENTS_CMD_REFUSED result).get F.SCHED_TBL_STATUS_STATE
      = t.get F.SCHED_TBL_STATUS_STATE := by
    split
    · rfl
    · rw [get_raise, get_put_ne _ _ _ _ (by decide)]
  unfold tblEnd
  dsimp only
  rw [ended]
  iterate 4 rw [get_put_ne _ _ _ _ (by decide)]
  rw [get_put_same _ _ _ (by decide)]
  split <;> rfl

theorem sched_tblEnd (s : Body) (result : Nat) : (s.tblEnd result).sched = s.sched := by
  unfold tblEnd
  dsimp only
  split <;> rfl

theorem get_tblEnd_done (s : Body) {f : Fld} (apart : f.addr ≠ A.SCHED_TBL_STATUS) : (s.tblEnd 0).get f = s.get f := by
  have away (g : Fld) (hg : g.addr = A.SCHED_TBL_STATUS) : g.apart f = true := by
    simp only [Fld.apart, hg, Bool.or_eq_true, decide_eq_true_eq]
    exact .inl apart
  unfold tblEnd
  dsimp only
  rw [if_pos rfl]
  rw [get_put_ne _ _ _ _ (away _ rfl), get_put_ne _ _ _ _ (away _ rfl), get_put_ne _ _ _ _ (away _ rfl), get_put_ne _ _ _ _ (away _ rfl),
    get_put_ne _ _ _ _ (away _ rfl)]

/-- The words of WDATA. -/
def wdata (s : Body) (n : Nat) : Nat := s.get (F.SCHED_TBL_WDATA_DATA n)
/-- What a write of the WDATA words comes to. -/
def tblCode (s : Body) : Nat := s.writeResult (s.get F.SCHED_TBL_SEL_KIND) (s.get F.SCHED_TBL_SEL_INDEX) s.wdata

/-- Words of a row, `n` a row. -/
def rowPut (m : SMap Word) (n i : Nat) (w : Nat → Nat) : SMap Word :=
  (List.range n).foldl (fun m k => mput 0 m (n * i + k) (BitVec.ofNat 64 (w k))) m

/-- A row of entries is written: the entry is LOADED, what its peers reported is dropped. -/
def entryWrite (s : Body) (i : Nat) : Body :=
  (({ s with sched := { s.sched with
      rows := rowPut s.sched.rows 8 i s.wdata, heard := s.sched.heard.filter fun p => p.1 / 128 != i } } : Body).bufsFree i).runMod i
    fun _ => { st := .loaded }

section
variable {g : Body}

theorem tblWrite_refused (h : g.tblCode ≠ 0) : g.tblWrite = g.tblEnd g.tblCode := by
  have refused : (g.tblCode != 0) = true := by simp [h]
  unfold tblWrite
  dsimp only
  exact if_pos refused

theorem tblWrite_taken (h : g.tblCode = 0) : g.tblWrite = (match g.get F.SCHED_TBL_SEL_KIND with
    | 0 => g.entryWrite (g.get F.SCHED_TBL_SEL_INDEX)
    | 1 => { g with sched := { g.sched with descs := rowPut g.sched.descs 4 (g.get F.SCHED_TBL_SEL_INDEX) g.wdata } }
    | 2 => { g with sched := { g.sched with groups := mput 0 g.sched.groups (g.get F.SCHED_TBL_SEL_INDEX) (g.wdata 0 % 2 ^ 25) } }
    | _ => { g with sched := { g.sched with poss := mput 0 g.sched.poss (g.get F.SCHED_TBL_SEL_INDEX) (g.wdata 0 % 2 ^ 32) } } : Body).tblEnd
      0 := by
  have taken : ¬(g.tblCode != 0) = true := by simp [h]
  exact if_neg taken

end

theorem run_entryWrite (s : Body) (i : Nat) : ((s.entryWrite i).run_ i).st = .loaded := by
  unfold entryWrite runMod
  obtain ⟨k, shown⟩ := run_schedShow ((bufsFree { s with sched := { s.sched with
    rows := rowPut s.sched.rows 8 i s.wdata, heard := s.sched.heard.filter fun p => p.1 / 128 != i } } i).setRun i { st := .loaded }) i
  rw [shown, run_setRun _ _ (x := { st := .loaded }) nofun]

theorem rows_entryWrite (s : Body) (i : Nat) : (s.entryWrite i).sched.rows = rowPut s.sched.rows 8 i s.wdata := by
  unfold entryWrite runMod
  rw [rows_schedShow]
  exact congrArg (·.rows) (sched_bufsFree ..)

theorem run_tblEnd (s : Body) (result e : Nat) : (s.tblEnd result).run_ e = s.run_ e := run_of_sched (sched_tblEnd ..) e

theorem tblSnapshot_beyond {g : Body} (h : g.rowCount (g.get F.SCHED_TBL_SEL_KIND) ≤ g.get F.SCHED_TBL_SEL_INDEX) : g.tblSnapshot = g.tblEnd 1 := by
  unfold tblSnapshot
  exact if_pos h

theorem tblSnapshot_entry {g : Body} (entry : g.get F.SCHED_TBL_SEL_KIND = 0) (here : g.get F.SCHED_TBL_SEL_INDEX < g.rowCount 0) :
    g.tblSnapshot = (g.forEach (List.range 8) fun s n => s.put (F.SCHED_TBL_RDATA_DATA n)
      (mgetD g.sched.rows (8 * g.get F.SCHED_TBL_SEL_INDEX + n) 0).toNat).tblEnd 0 := by
  unfold tblSnapshot
  dsimp only
  rw [entry, if_neg (Nat.not_le.2 here)]
  rfl

theorem rdata_tblSnapshot {g : Body} (entry : g.get F.SCHED_TBL_SEL_KIND = 0) (here : g.get F.SCHED_TBL_SEL_INDEX < g.rowCount 0) {n : Nat}
    (hn : n < 8) : g.tblSnapshot.get (F.SCHED_TBL_RDATA_DATA n) = (mgetD g.sched.rows (8 * g.get F.SCHED_TBL_SEL_INDEX + n) 0).toNat := by
  have apart (i j : Nat) (ne : i ≠ j) : (F.SCHED_TBL_RDATA_DATA i).apart (F.SCHED_TBL_RDATA_DATA j) = true := by
    have addr : (F.SCHED_TBL_RDATA_DATA j).addr ≠ (F.SCHED_TBL_RDATA_DATA i).addr := by
      simp only [F.SCHED_TBL_RDATA_DATA]
      omega
    simp only [Fld.apart, Bool.or_eq_true, decide_eq_true_eq]
    exact .inl addr
  rw [tblSnapshot_entry entry here, get_tblEnd_done _ (by simp only [F.SCHED_TBL_RDATA_DATA, A.SCHED_TBL_STATUS]; omega),
    get_putEach g F.SCHED_TBL_RDATA_DATA (fun n => (mgetD g.sched.rows (8 * g.get F.SCHED_TBL_SEL_INDEX + n) 0).toNat) apart
      (fun _ => Nat.le_refl _) 8 n hn]
  exact Nat.mod_eq_of_lt (BitVec.isLt _)

section
variable {g : Body} (kind : g.get F.SCHED_TBL_SEL_KIND = 0 ∨ g.get F.SCHED_TBL_SEL_KIND = 4) (here : g.get F.SCHED_TBL_SEL_INDEX < g.rowCount 0)
  (listed : (g.run_ (g.get F.SCHED_TBL_SEL_INDEX)).st ≠ .empty)
include kind here listed

theorem tblCancel_listed : g.tblCancel = if (g.run_ (g.get F.SCHED_TBL_SEL_INDEX)).st.isFinal then g.tblEnd 9
    else (g.setRun (g.get F.SCHED_TBL_SEL_INDEX) { g.run_ (g.get F.SCHED_TBL_SEL_INDEX) with cancel := true }).tblEnd 0 := by
  have shown : ((g.get F.SCHED_TBL_SEL_KIND != 0 && g.get F.SCHED_TBL_SEL_KIND != 4) || decide (g.get F.SCHED_TBL_SEL_INDEX ≥ g.rowCount 0))
      = false := by
    rcases kind with k | k <;> simp [k, here]
  have runs : ((g.run_ (g.get F.SCHED_TBL_SEL_INDEX)).st == .empty) = false := beq_eq_false_iff_ne.2 listed
  unfold tblCancel
  dsimp only
  rw [shown, if_neg Bool.false_ne_true, runs, Bool.false_or]

theorem tblCancel_live (live : (g.run_ (g.get F.SCHED_TBL_SEL_INDEX)).st.isFinal = false) :
    (g.tblCancel.run_ (g.get F.SCHED_TBL_SEL_INDEX)).cancel = true
    ∧ (g.tblCancel.run_ (g.get F.SCHED_TBL_SEL_INDEX)).st = (g.run_ (g.get F.SCHED_TBL_SEL_INDEX)).st
    ∧ g.tblCancel.get F.SCHED_TBL_STATUS_STATE = 2 := by
  rw [tblCancel_listed kind here listed, live, if_neg Bool.false_ne_true, run_tblEnd,
    run_setRun g _ (x := { g.run_ (g.get F.SCHED_TBL_SEL_INDEX) with cancel := true }) listed]
  exact ⟨rfl, rfl, state_tblEnd _ 0⟩

end

/-- Settles O38. -/
theorem scheduleTableCommands : Obligations.ScheduleTableCommands := by
  unfold Obligations.ScheduleTableCommands
  refine ⟨fun s actor h => ?write, fun s actor h => ?snapshot, fun s actor h => ?cancel⟩
  case write =>
    intro g kind i w
    refine ⟨fun refused => ?_, fun taken => ?_⟩
    · have sched : (g.tblEnd (g.writeResult kind i w)).sched = s.body.sched := (sched_tblEnd ..).trans (judge_sched ..)
      have made : g.tblWrite = g.tblEnd (g.writeResult kind i w) := tblWrite_refused refused
      exact leads_command h ⟨made, (congrArg (·.sched) made).trans sched⟩
    · refine leads_command h ?_
      show (g.tblWrite).get F.SCHED_TBL_STATUS_STATE = 2 ∧ _
      rw [tblWrite_taken (g := g) taken]
      refine ⟨state_tblEnd _ 0, fun k0 => ?_, fun k1 k hk => ?_, fun k2 => ?_, fun k3 => ?_⟩
      · rw [show g.get F.SCHED_TBL_SEL_KIND = 0 from k0, run_tblEnd, sched_tblEnd]
        refine ⟨run_entryWrite g i, fun k hk => ?_⟩
        show mgetD (g.entryWrite i).sched.rows (8 * i + k) 0 = BitVec.ofNat 64 (w k)
        rw [rows_entryWrite]
        exact mgetD_putEach 0 _ (8 * i) (fun k => BitVec.ofNat 64 (w k)) 8 k hk
      · rw [show g.get F.SCHED_TBL_SEL_KIND = 1 from k1, sched_tblEnd]
        exact mgetD_putEach 0 _ (4 * i) (fun k => BitVec.ofNat 64 (w k)) 4 k hk
      · rw [show g.get F.SCHED_TBL_SEL_KIND = 2 from k2, sched_tblEnd]
        exact mgetD_mput_same ..
      · rw [show g.get F.SCHED_TBL_SEL_KIND = 3 from k3, sched_tblEnd]
        exact mgetD_mput_same ..
  case snapshot =>
    intro g i
    refine ⟨fun beyond => leads_command h (tblSnapshot_beyond beyond), fun here entry => leads_command h ⟨?_, fun n hn => ?_⟩⟩
    · show (g.tblSnapshot).get F.SCHED_TBL_STATUS_STATE = 2
      rw [tblSnapshot_entry entry here]
      exact state_tblEnd _ 0
    · have rows : g.sched.rows = s.body.sched.rows := congrArg (·.rows) (judge_sched ..)
      rw [← rows]
      exact rdata_tblSnapshot entry here hn
  case cancel =>
    intro g i kind here listed
    refine ⟨fun live => leads_command h (tblCancel_live kind here listed live), fun final => leads_command h ?_⟩
    exact (tblCancel_listed kind here listed).trans (if_pos final)

end Body
end Sys2Proof.Machine

/-! The run of a schedule entry (R318 to R333). -/

namespace Sys2Proof.Machine

/-- A key that is listed stands in the list. -/
theorem mem_of_mget {α : Type} {a : Nat} {x : α} : ∀ {m : SMap α}, mget m a = some x → (a, x) ∈ m
  | [], h => nomatch h
  | (k, v) :: r, h => by
    unfold mget at h
    split at h
    next here =>
      rw [here, Option.some.inj h]
      exact List.mem_cons_self
    next => exact List.mem_cons_of_mem _ (mem_of_mget h)

namespace Body

open Sys2Proof.Stmt

/-! ## What a line holds does not hang on counters -/

section
variable (s : Body) {f : Fld} (v : Nat) (apart : ∀ c, f.apart (F.SP_CH_LAYOUT_GROUPS c) = true)
include apart

theorem spPlace_put (gran : Nat) : (s.put f v).spPlace gran = s.spPlace gran := by
  unfold spPlace
  simp only [get_put_ne _ _ _ _ (apart _)]
  rfl

theorem spFind_put (gran : Nat) : (s.put f v).spFind gran = s.spFind gran := by
  unfold spFind
  rw [spPlace_put s v apart]
  rfl

theorem tierLine_put (line : Nat) : (s.put f v).tierLine line = s.tierLine line := by
  unfold tierLine
  rw [spFind_put s v apart]
  rfl

theorem peek_put (line : Nat) : (s.put f v).peek line = s.peek line := by
  unfold peek
  rw [tierLine_put s v apart]
  rfl

end

/-- A line staged, with the counts of what was staged again. -/
def stageCount (s : Body) (e i : Nat) : Body :=
  let crc := (mget (s.run_ e).staged i).isSome
  (s.when crc (·.incSat F.NC_CRC_COUNT_STAGING)).when (crc || (s.run_ e).again.contains i) (·.inc F.SCHED_COUNT_2_RESTAGED)

theorem peek_stageCount (s : Body) (e i line : Nat) : (s.stageCount e i).peek line = s.peek line := by
  have staging (c : Nat) : F.NC_CRC_COUNT_STAGING.apart (F.SP_CH_LAYOUT_GROUPS c) = true := by
    simp [Fld.apart, F.NC_CRC_COUNT_STAGING, F.SP_CH_LAYOUT_GROUPS]
  have restaged (c : Nat) : F.SCHED_COUNT_2_RESTAGED.apart (F.SP_CH_LAYOUT_GROUPS c) = true := by
    simp [Fld.apart, F.SCHED_COUNT_2_RESTAGED, F.SP_CH_LAYOUT_GROUPS]
  have first (t : Bool) : (s.when t (·.incSat F.NC_CRC_COUNT_STAGING)).peek line = s.peek line := by
    cases t
    · rfl
    · exact peek_put s _ staging line
  have second (b : Body) (t : Bool) : (b.when t (·.inc F.SCHED_COUNT_2_RESTAGED)).peek line = b.peek line := by
    cases t
    · rfl
    · exact peek_put b _ restaged line
  exact (second _ _).trans (first _)

theorem run_stageCount (s : Body) (e i k : Nat) : (s.stageCount e i).run_ k = s.run_ k := by
  refine run_of_sched ?_ k
  unfold stageCount
  cases (mget (s.run_ e).staged i).isSome <;> cases (s.run_ e).again.contains i <;> rfl

/-! ## Staging (R318 to R321, R331) -/

section
variable {b : Body} {e : Nat} (due : b.stageDue e = true)
include due

theorem stageStart_due (loaded : (b.run_ e).st = .loaded) : b.stageStart e = if b.hasRoom e then b.stageBegin e
    else b.runMod e fun x => { x with st := .waiting, entered := b.frameNo } := by
  simp [stageStart, loaded, due]

theorem roomArise_due (waits : (b.run_ e).st = .waiting) (room : b.hasRoom e = true) : b.roomArise e = b.stageBegin e := by
  simp [roomArise, waits, due, room]

end

/-- A line enters its staging way. -/
def stageKeep (s : Body) (e i : Nat) (d : LineData) : Body :=
  s.setRun e { s.run_ e with staged := mset (s.run_ e).staged i d, again := (s.run_ e).again.erase i }

theorem run_stageKeep (s : Body) (e i : Nat) (d : LineData) (live : (s.run_ e).st ≠ .empty) : (s.stageKeep e i d).run_ e
    = { s.run_ e with staged := mset (s.run_ e).staged i d, again := (s.run_ e).again.erase i } := run_setRun _ _ live

/-- A run with one more poisoned line: in its list, or past the list's end. -/
def poisonMarked (x : Run) (i : Nat) : Run :=
  if x.poison.length ≥ 4096 then { x with trunc := some (min i (x.trunc.getD i)) } else { x with poison := insertNat x.poison i }

/-- A poisoned line is counted and told. -/
def poisonTold (s : Body) (e i origin : Nat) (last : Bool) : Body :=
  let s := (s.inc F.SCHED_COUNT_1_POISON_LINES).raise U.sched F.SCHED_EVENTS_POISON i
  let s := s.postN U.sched .poisonRecord ((s.schedRow e).id + 2 ^ 32 * (i + 2 ^ 24 * origin))
  s.when last (·.raise U.sched F.SCHED_EVENTS_POISON_TRUNCATED (s.schedRow e).id)

theorem linePoison_eq (s : Body) (e i origin : Nat) : s.linePoison e i origin =
    if (s.run_ e).poison.contains i || (match (s.run_ e).trunc with | some t => decide (t ≤ i) | none => false) then s
    else (s.setRun e (poisonMarked (s.run_ e) i)).poisonTold e i origin
      (decide ((s.run_ e).poison.length ≥ 4096) && (s.run_ e).trunc.isNone) := rfl

theorem sched_poisonTold (s : Body) (e i origin : Nat) (last : Bool) : (s.poisonTold e i origin last).sched = s.sched := by
  cases last <;> rfl

theorem poisonMarked_keeps (x : Run) (i : Nat) : (poisonMarked x i).st = x.st ∧ (poisonMarked x i).staged = x.staged := by
  unfold poisonMarked
  split <;> exact ⟨rfl, rfl⟩

/-- Marking a line as poisoned leaves the lines staged. -/
theorem staged_linePoison (s : Body) (e i origin : Nat) (live : (s.run_ e).st ≠ .empty) :
    ((s.linePoison e i origin).run_ e).staged = (s.run_ e).staged := by
  obtain ⟨st, staged⟩ := poisonMarked_keeps (s.run_ e) i
  rw [linePoison_eq]
  by_cases known : ((s.run_ e).poison.contains i || (match (s.run_ e).trunc with | some t => decide (t ≤ i) | none => false)) = true
  · rw [if_pos known]
  · rw [if_neg known, run_of_sched (sched_poisonTold ..), run_setRun _ _ (by rw [st]; exact live), staged]

section
variable {b : Body} {e i : Nat} (runs : (b.run_ e).st.running = true) (inside : i < (b.schedRow e).lines)
  (held : 1024 * (b.run_ e).freed ≤ i) (asked : i < 1024 * (b.run_ e).asked)
include runs inside held asked

theorem stageRead_good (ans : List LineData) (poison : Mask) : b.stageRead e i .good ans poison
    = (let t := b.stageCount e i
       let here := t.peek (b.shareLine (b.schedRow e) i)
       ((if here.2 then (t.stageKeep e i 0).linePoison e i 0 else t.stageKeep e i here.1).schedShow.readyLook e).schedIssue e) := by
  have here : (!(b.run_ e).st.running || decide (i ≥ (b.schedRow e).lines) || decide (i < 1024 * (b.run_ e).freed)
      || decide (i ≥ 1024 * (b.run_ e).asked)) = false := by
    simp [runs, inside, held, asked]
  unfold stageRead
  dsimp only
  rw [here, if_neg Bool.false_ne_true, ite_self]
  rfl

end

theorem ne_empty_of_running {st : EntState} (h : st.running = true) : st ≠ .empty := by
  rintro rfl
  exact Bool.false_ne_true h

/-! ## Ready beacons (R323 to R325) -/

theorem beaconFrame_due {b : Body} {e : Nat} (due : b.beaconDue e = true) (once : (b.run_ e).beaconAt ≤ b.frameNo)
    (on : b.isOn U.sched = true) : b.beaconFrame e = (b.readyBeacon e).setRun e { b.run_ e with beaconAt := b.frameNo + 1 } := by
  simp [beaconFrame, due, Nat.not_lt.2 once, on]

theorem readyRx_refused {b : Body} {m : ReadyMsg} {tagOk : Bool} (h : b.readyOk m tagOk = false) :
    b.readyRx m tagOk = b.incSat F.SCHED_BEACON_REJECTED := by
  simp [readyRx, h]

/-- The beacon as the tables keep it. -/
def beaconOf (m : ReadyMsg) : RBeacon := ⟨m.member, m.ready, m.epoch, m.role, m.withdrawn⟩

/-- A beacon is kept for an entry at its position. -/
def hear (m : ReadyMsg) (s : Body) (e : Nat) : Body :=
  let l := (mgetD s.sched.heard (128 * e + m.position) []).filter (·.member != m.member)
  { s with sched := { s.sched with heard := mset s.sched.heard (128 * e + m.position) (l ++ [beaconOf m]) } }

/-- The entries that a ready beacon speaks of. -/
def spokenOf (b : Body) (m : ReadyMsg) : List Nat :=
  (b.sched.runs.filter fun p => nbit (b.schedRow p.1).flags 0 && (b.schedRow p.1).id == m.schedId && (b.schedRow p.1).launch == m.launch
    && (b.schedRow p.1).set == m.set).map (·.1)

/-- What a beacon number is kept for: its sender's last one. -/
def seqKept (b : Body) (m : ReadyMsg) : Body := { b with time := { b.time with lastSeq := mset b.time.lastSeq m.member m.seq } }

theorem mem_hear (m : ReadyMsg) (s : Body) (e : Nat) : beaconOf m ∈ mgetD (hear m s e).sched.heard (128 * e + m.position) [] := by
  unfold hear
  dsimp only
  rw [mgetD_mset_same]
  exact List.mem_append_right _ (List.mem_singleton.2 rfl)

theorem mem_hear_of_mem {m : ReadyMsg} {s : Body} {e : Nat} (k : Nat)
    (h : beaconOf m ∈ mgetD s.sched.heard (128 * e + m.position) []) :
    beaconOf m ∈ mgetD (hear m s k).sched.heard (128 * e + m.position) [] := by
  by_cases same : e = k
  · rw [same]
    exact mem_hear m s k
  · unfold hear
    dsimp only
    rw [mgetD_mset_ne _ _ _ (by omega)]
    exact h

theorem mem_hearEach (m : ReadyMsg) {e : Nat} (l : List Nat) (s : Body) (h : e ∈ l) :
    beaconOf m ∈ mgetD (s.forEach l (hear m)).sched.heard (128 * e + m.position) [] := by
  induction l generalizing s with
  | nil => exact nomatch h
  | cons x l ih =>
    rcases List.mem_cons.1 h with rfl | later
    · exact forEach_induct (P := fun t => beaconOf m ∈ mgetD t.sched.heard (128 * e + m.position) []) l (mem_hear m s e)
        fun _ k _ held => mem_hear_of_mem k held
    · exact ih _ later

theorem time_hearEach (m : ReadyMsg) (l : List Nat) (s : Body) : (s.forEach l (hear m)).time = s.time :=
  forEach_induct (P := fun t => t.time = s.time) l rfl fun _ _ _ h => h

section
variable {b : Body} {m : ReadyMsg} {e : Nat} (ok : b.readyOk m true = true) (on : b.isOn U.sched = true) (here : m.position < 128)
  (named : m.member ≠ 0xFFFF) (member : m.member = (b.posRow m.set m.position).1) (spoken : e ∈ b.spokenOf m)
include ok on here named member spoken

theorem readyRx_taken : b.readyRx m true = (b.seqKept m).forEach (b.spokenOf m) (hear m) := by
  have some_ : (b.spokenOf m).isEmpty = false := by
    cases h : b.spokenOf m with
    | nil => rw [h] at spoken; exact nomatch spoken
    | cons _ _ => rfl
  have present : (b.posRow m.set m.position).1 ≠ 0xFFFF := member ▸ named
  have refused : (!b.readyOk m true || (b.spokenOf m).isEmpty || !(decide (m.position < 128) && m.member != 0xFFFF
      && (b.posRow m.set m.position).1 != 0xFFFF && (m.member == (b.posRow m.set m.position).1 || m.member == (b.posRow m.set m.position).2))
      || !b.isOn U.sched) = false := by
    rw [ok, on, some_, ← member]
    simp [here, named]
  unfold readyRx
  exact if_neg (by rw [← Bool.not_eq_true] at refused; exact refused)

end

theorem mem_spokenOf {b : Body} {m : ReadyMsg} {e : Nat} (listed : (b.run_ e).st ≠ .empty) (coord : nbit (b.schedRow e).flags 0 = true)
    (id : (b.schedRow e).id = m.schedId) (launch : (b.schedRow e).launch = m.launch) (set_ : (b.schedRow e).set = m.set) :
    e ∈ b.spokenOf m := by
  cases h : mget b.sched.runs e with
  | none =>
    have empty : b.run_ e = {} := by rw [run_, mgetD, h]; rfl
    rw [empty] at listed
    exact absurd rfl listed
  | some x =>
    refine List.mem_map.2 ⟨(e, x), List.mem_filter.2 ⟨mem_of_mget h, ?_⟩, rfl⟩
    simp [coord, id, launch, set_]

/-! ## Launch, abandon, expiry (R318, R326, R333) -/

section
variable {b : Body} {e : Nat} (ready : (b.run_ e).st = .ready) (on : b.isOn U.sched = true)
include ready on

theorem schedDecide_catchUp (catches : (b.run_ e).catchUp = true) : b.schedDecide e = b.schedLaunch e 0 := by
  simp [schedDecide, ready, on, catches]

theorem schedDecide_alone (fresh : (b.run_ e).catchUp = false) (alone : nbit (b.schedRow e).flags 0 = false) :
    b.schedDecide e = if (b.schedRow e).launch ≤ b.frameNo then b.schedLaunch e 0 else b := by
  simp [schedDecide, ready, on, fresh, coordinated, alone]

end

section
variable {b : Body} {e : Nat} (late : (b.schedRow e).deadline ≤ b.frameNo) (fresh : (b.run_ e).catchUp = false) (on : b.isOn U.sched = true)
include late fresh on

theorem schedExpire_unready (st : (b.run_ e).st = .waiting ∨ (b.run_ e).st = .staging) : b.schedExpire e = b.schedAbandon e := by
  rcases st with st | st <;> simp [schedExpire, Nat.not_lt.2 late, fresh, on, st]

theorem schedExpire_loaded (st : (b.run_ e).st = .loaded) (gone : b.mayCatchUp e = false) : b.schedExpire e = b.notRun e := by
  simp [schedExpire, Nat.not_lt.2 late, fresh, on, st, gone]

end

theorem catchUpExpire_due {b : Body} {e : Nat} (catches : (b.run_ e).catchUp = true) (late : (b.run_ e).cuFrom + b.catchupFrames ≤ b.frameNo)
    (st : (b.run_ e).st = .loaded ∨ (b.run_ e).st = .waiting ∨ (b.run_ e).st = .staging) : b.catchUpExpire e = b.notRun e := by
  rcases st with st | st | st <;> simp [catchUpExpire, catches, Nat.not_lt.2 late, st]

/-! ## Delivery (R328, R329) -/

theorem schedRelease_done {b : Body} {e : Nat} (st : (b.run_ e).st = .delivering) (more : (b.run_ e).freed < (b.schedRow e).chunks)
    (live : ((b.run_ e).dests.filter (!·.failed)) ≠ []) (acked : ∀ d ∈ (b.run_ e).dests, d.failed = false → (b.run_ e).freed < d.acked) :
    b.schedRelease e = (b.runMod e fun x => { x with
      freed := x.freed + 1, staged := x.staged.filter fun p => p.1 ≥ 1024 * (x.freed + 1) }).schedIssue e := by
  have all : ((b.run_ e).dests.filter (!·.failed)).any (·.acked ≤ (b.run_ e).freed) = false := by
    rw [List.any_eq_false]
    intro d hd
    obtain ⟨mem, runs⟩ := List.mem_filter.1 hd
    simpa using acked d mem (by simpa using runs)
  have goes : ((b.run_ e).st != .delivering || ((b.run_ e).dests.filter (!·.failed)).isEmpty
      || decide ((b.run_ e).freed ≥ (b.schedRow e).chunks) || ((b.run_ e).dests.filter (!·.failed)).any (·.acked ≤ (b.run_ e).freed)) = false := by
    rw [all, st, List.isEmpty_eq_false_iff.2 live, decide_eq_false (Nat.not_le.2 more)]
    rfl
  unfold schedRelease
  exact if_neg (by rw [← Bool.not_eq_true] at goes; exact goes)

section
variable {b : Body} {e d : Nat} {y : Dest} (dest : (b.run_ e).dests[d]? = some y) (st : (b.run_ e).st = .delivering) (runs : y.failed = false)
  (unsent : y.rcd = 0) (issued : nextIssue (b.schedRow e) (b.run_ e) = none) (map : b.mapHeld e = true)
  (buf : (b.run_ e).recBuf.isSome = true)
include dest st runs unsent issued map buf

theorem recordGo_lost (gone : b.destRts y = false) : b.recordGo e d = (b.destFail e d).schedSettle e := by
  have none_ : (b.run_ e).recBuf.isNone = false := by rw [← Option.not_isSome, buf]; rfl
  unfold recordGo
  dsimp only
  rw [dest]
  dsimp only
  rw [st, runs, unsent, issued, map, none_, gone]
  rfl

theorem recordGo_clean (rts : b.destRts y = true) (clean : (b.run_ e).poison = []) (covered : 64 ≤ (b.run_ e).allow) :
    b.recordGo e d = (let t := b.recordSend e d (runStatus (b.run_ e)) (b.schedRow e).len (b.run_ e).missing
      t.setRun e { t.run_ e with allow := (t.run_ e).allow - 64, issued := (t.run_ e).issued + 64 }) := by
  have none_ : (b.run_ e).recBuf.isNone = false := by rw [← Option.not_isSome, buf]; rfl
  have spend : ((!true || decide ((b.run_ e).allow < 64)) : Bool) = false := by simp [covered]
  unfold recordGo
  dsimp only
  rw [dest]
  dsimp only
  rw [st, runs, unsent, issued, map, none_, rts, clean, if_neg (by decide), if_neg (by decide)]
  simp only [List.isEmpty_nil, Bool.true_or, if_true]
  rw [spend, if_neg Bool.false_ne_true]

end

/-- Settles O39. -/
theorem scheduleRunCommands : Obligations.ScheduleRunCommands := by
  unfold Obligations.ScheduleRunCommands
  refine ⟨fun s e due => ⟨fun st room => leads_of_eq rfl ((stageStart_due due st).trans (if_pos room)) rfl,
      fun st full => leads_of_eq rfl ((stageStart_due due st).trans (if_neg (ne_true_of_eq_false full))) rfl,
      fun st room => leads_of_eq rfl (roomArise_due due st room) rfl⟩,
    fun s e i ans poison runs inside held asked => ⟨fun d clean => ?staged, fun d bad => ?poisoned⟩,
    fun s e due once on => leads_of_eq rfl (beaconFrame_due due once on) rfl,
    fun s m tagOk bad => leads_of_eq rfl (readyRx_refused bad) rfl,
    fun s m e ok on here named member listed coord id launch set_ => ?heard,
    fun s e st on => ⟨fun catches => leads_of_eq rfl (schedDecide_catchUp st on catches) rfl,
      fun fresh alone due => leads_of_eq rfl ((schedDecide_alone st on fresh alone).trans (if_pos due)) rfl,
      fun fresh alone early => leads_of_eq rfl ((schedDecide_alone st on fresh alone).trans (if_neg (Nat.not_le.2 early))) rfl⟩,
    fun s e late fresh on => ⟨fun st => leads_of_eq rfl (schedExpire_unready late fresh on st) rfl,
      fun st gone => leads_of_eq rfl (schedExpire_loaded late fresh on st gone) rfl⟩,
    fun s e st more live acked => leads_of_eq rfl (schedRelease_done st more live acked) rfl,
    fun s e d y dest st runs unsent issued map buf => ⟨fun gone => leads_of_eq rfl (recordGo_lost dest st runs unsent issued map buf gone) rfl,
      fun rts clean covered => leads_of_eq rfl (recordGo_clean dest st runs unsent issued map buf rts clean covered) rfl⟩,
    fun s e catches late st => leads_of_eq rfl (catchUpExpire_due catches late st) rfl⟩
  case staged =>
    have live : ((s.body.stageCount e i).run_ e).st ≠ .empty := by
      rw [run_stageCount]
      exact ne_empty_of_running runs
    refine leads_of_eq rfl (stageRead_good runs inside held asked ans poison) ⟨(s.body.stageCount e i).stageKeep e i d, ?_, ?_⟩
    · dsimp only
      rw [peek_stageCount, clean]
      rfl
    · rw [run_stageKeep _ _ _ _ live, run_stageCount]
      exact ⟨mget_mset_same .., rfl⟩
  case poisoned =>
    have live : ((s.body.stageCount e i).run_ e).st ≠ .empty := by
      rw [run_stageCount]
      exact ne_empty_of_running runs
    have kept := run_stageKeep _ _ i (0 : LineData) live
    refine leads_of_eq rfl (stageRead_good runs inside held asked ans poison) ⟨((s.body.stageCount e i).stageKeep e i 0).linePoison e i 0, ?_, ?_⟩
    · dsimp only
      rw [peek_stageCount, bad]
      rfl
    · rw [staged_linePoison _ _ _ _ (by rw [kept]; exact live), kept]
      exact mget_mset_same ..
  case heard =>
    have spoken := mem_spokenOf listed coord id launch set_
    refine leads_of_eq rfl (readyRx_taken ok on here named member spoken) ⟨?_, beaconOf m, mem_hearEach m _ _ spoken, rfl, rfl, rfl⟩
    rw [time_hearEach]
    exact mget_mset_same ..

end Body
end Sys2Proof.Machine

/-! Attestation: measurements, debug access, SPDM (R355 to R359). -/

namespace Sys2Proof.Machine
namespace Body

open Sys2Proof.Stmt

/-- Words written one after the other to addresses apart are all read back. -/
theorem word_setEach (s : Body) (a : Nat → Nat) (v : Nat → Word) (apart : ∀ i j, i ≠ j → a i ≠ a j) (n k : Nat) (h : k < n) :
    (s.forEach (List.range n) fun s i => s.setWord (a i) (v i)).word (a k) = v k := by
  induction n with
  | zero => omega
  | succ n ih =>
    have last : s.forEach (List.range (n + 1)) (fun s i => s.setWord (a i) (v i))
        = (s.forEach (List.range n) fun s i => s.setWord (a i) (v i)).setWord (a n) (v n) := by
      unfold forEach
      rw [List.range_succ, List.foldl_append, List.foldl_cons, List.foldl_nil]
    rw [last]
    by_cases same : k = n
    · rw [same, word_setWord]
    · rw [word_setWord_ne _ _ _ _ (apart k n same)]
      exact ih (by omega)

/-! ## Debug access (R358) -/

theorem ciph_cipherRegs (s : Body) : s.cipherRegs.ciph = s.ciph := rfl

theorem state_cipherRegs (s : Body) : s.cipherRegs.get F.CIPHER_STATUS_STATE = s.get F.CIPHER_STATUS_STATE := by
  unfold cipherRegs
  dsimp only [putB]
  iterate 9 rw [get_put_ne _ _ _ _ (by decide)]

theorem ciph_incCounter (s : Body) (k : Nat) : (s.incCounter k).ciph = s.ciph := by
  unfold incCounter
  dsimp only
  split <;> rfl

theorem regs_incCounter (s : Body) (k : Nat) : (s.incCounter k).regs = s.regs := by
  unfold incCounter
  dsimp only
  split <;> rfl

theorem state_zeroize (s : Body) : s.zeroize.get F.CIPHER_STATUS_STATE = 1 := by
  unfold zeroize
  dsimp only
  rw [state_cipherRegs, get_put_same _ _ _ (by decide)]
  rfl

/-- A debug opening begins: every key is zeroized, the opening is counted, and the level waits for the counter. -/
def dbgOpening (s : Body) (level : Nat) : Body :=
  let s := ({ s with ciph := { s.ciph with dbgUsed := true } } : Body).zeroize.incCounter 2
  ({ s with ciph := { s.ciph with opens := if level = 2 then 2 else 1 } }).cipherRegs

theorem dbgSubmit_accepted {g : Body} {root : Option Nat} {sigOk : Bool} (h : g.dbgCode root sigOk = 0) (level : Nat) :
    g.dbgSubmit level root sigOk = g.dbgOpening level := by
  have accepted : ¬(g.dbgCode root sigOk != 0) = true := by simp [h]
  exact if_neg accepted

theorem ciph_dbgOpening (s : Body) (level : Nat) : (s.dbgOpening level).ciph = { s.ciph with
    dbgUsed := true, prev := {}, cur := {}, next := {}, session := 0, derived := false, opens := if level = 2 then 2 else 1 } := by
  unfold dbgOpening
  dsimp only
  rw [ciph_cipherRegs, ciph_incCounter]
  rfl

theorem state_dbgOpening (s : Body) (level : Nat) : (s.dbgOpening level).get F.CIPHER_STATUS_STATE = 1 := by
  unfold dbgOpening
  dsimp only
  rw [state_cipherRegs]
  exact (congrArg (rread · F.CIPHER_STATUS_STATE) (regs_incCounter _ 2)).trans (state_zeroize _)

/-- A debug submission is refused: a code other than that of too many failures counts as one. -/
def dbgRefused (s : Body) (c : Nat) : Body :=
  let s : Body := { s with ciph := { s.ciph with dbgUsed := true } }
  let s := s.when (c != 6) (·.inc F.DBG_STATUS_FAILS)
  (s.put F.DBG_STATUS_RESULT c).raise U.cipher F.CIPHER_EVENTS_DEBUG_REFUSED c

theorem dbgSubmit_refused {g : Body} {root : Option Nat} {sigOk : Bool} (h : g.dbgCode root sigOk ≠ 0) (level : Nat) :
    g.dbgSubmit level root sigOk = g.dbgRefused (g.dbgCode root sigOk) := by
  have refused : (g.dbgCode root sigOk != 0) = true := by simp [h]
  exact if_pos refused

theorem ciph_dbgRefused (s : Body) (c : Nat) : (s.dbgRefused c).ciph = { s.ciph with dbgUsed := true } := by
  unfold dbgRefused
  cases c != 6 <;> rfl

/-! ## SPDM (R355 to R357) -/

theorem out_attest (s : Body) (mctp : Bool) : (s.attest mctp).out = s.out := by
  unfold attest
  split <;> rfl

theorem attested_attest (s : Body) : (s.attest true).flag F.CIPHER_STATUS_ATTESTED = true := by
  unfold attest
  cases h : s.flag F.CIPHER_STATUS_ATTESTED with
  | true => exact h
  | false => exact flag_put_one s F.CIPHER_STATUS_ATTESTED (by decide) (by decide)

section
variable {b : Body} (ready : b.spdmReady = true) (runs : b.cipherOk = true)
include ready runs

theorem spdmChallenge_ready (mctp : Bool) : b.spdmChallenge 0 mctp = (b.send (.spdm .challengeAuth)).attest mctp := by
  simp [spdmChallenge, ready, runs]

theorem spdmMeasure_block {i : Nat} (low : 1 ≤ i) (high : i ≤ 7) (signed mctp : Bool) : b.spdmMeasure i signed mctp
    = (b.send (.spdm (.measurements signed [(i, b.measurement i)]))).attest (mctp && signed) := by
  have taken : (!b.spdmReady || (decide (i > 7) && i != 255) || (signed && !b.cipherOk)) = false := by simp [ready, runs, Nat.not_lt.2 high]
  have block : (if i = 255 then [1, 2, 3, 4, 5, 6, 7] else if 1 ≤ i && i ≤ 7 then [i] else []) = [i] := by
    rw [if_neg (by omega), if_pos (by simp [low, high])]
  unfold spdmMeasure
  dsimp only
  rw [taken, if_neg Bool.false_ne_true, block, if_neg (by omega)]
  rfl

theorem spdmKeyExchange_free {id : Nat} (room : b.ciph.spdm.length < 4) (new_ : (b.ciph.spdm.any (·.id == id)) = false) :
    b.spdmKeyExchange id = { b with ciph := { b.ciph with spdm := ⟨id, false⟩ :: b.ciph.spdm } }.send (.spdm (.keyExchangeRsp id)) := by
  have taken : (!b.spdmReady || !b.cipherOk || decide (b.ciph.spdm.length ≥ 4) || b.ciph.spdm.any (·.id == id)) = false := by
    simp [ready, runs, new_, room]
  unfold spdmKeyExchange
  rw [taken]
  rfl

end

section
variable {b : Body} {id : Nat} {x : Spdm} (found : b.ciph.spdm.find? (·.id == id) = some x)
include found

theorem spdmFinish_waiting (waits : x.up = false) : b.spdmFinish id true = ({ b with ciph := { b.ciph with
    spdm := b.ciph.spdm.map fun (y : Spdm) => if y.id == id then { y with up := true } else y } } : Body).send (.spdm (.finishRsp id)) := by
  unfold spdmFinish
  rw [found]
  dsimp only
  rw [waits]
  rfl

theorem any_up : (b.ciph.spdm.map fun (y : Spdm) => if y.id == id then { y with up := true } else y).any (fun y => y.id == id && y.up) = true := by
  have named : (x.id == id) = true := List.find?_some (p := fun (y : Spdm) => y.id == id) found
  refine List.any_eq_true.2 ⟨{ x with up := true }, List.mem_map.2 ⟨x, List.mem_of_find?_eq_some found, if_pos named⟩, ?_⟩
  simpa using named

theorem spdmEnd_up (up : x.up = true) : b.spdmEnd id = ({ b with ciph := { b.ciph with
    spdm := b.ciph.spdm.filter (·.id != id) } } : Body).send (.spdm (.endSessionAck id)) := by
  have named : (x.id == id) = true := List.find?_some (p := fun (y : Spdm) => y.id == id) found
  have open_ : (b.ciph.spdm.any fun y => y.id == id && y.up) = true :=
    List.any_eq_true.2 ⟨x, List.mem_of_find?_eq_some found, by simp [named, up]⟩
  unfold spdmEnd
  rw [open_]
  rfl

end

theorem any_filter_ne (l : List Spdm) (id : Nat) : ((l.filter (·.id != id)).any (·.id == id)) = false := by
  rw [List.any_eq_false]
  intro y hy
  simpa using (List.mem_filter.1 hy).2

/-- Settles O42. -/
theorem attestationCommands : Obligations.AttestationCommands := by
  unfold Obligations.AttestationCommands
  refine ⟨fun s actor h => leadsAlone_command h fun i hi => ?extend, fun s actor h => leadsAlone_command h rfl,
    fun s actor level root sigOk h => ⟨fun accepted => leadsAlone_command h ?opens, fun refused => leadsAlone_command h ?refused⟩,
    fun s => ⟨⟨_, rfl, mem_out_send .., rfl, rfl⟩, fun version => ?capabilities, fun version caps => ?algorithms⟩,
    fun s ready runs => ⟨?digests, fun offset length => ?certificate, ?challenge, fun i signed mctp low high => ?measure, fun id room new_ =>
      leadsAlone_of_eq rfl (spdmKeyExchange_free ready runs room new_) ⟨rfl, mem_out_send ..⟩⟩,
    fun s id x found => ⟨fun waits => leadsAlone_of_eq rfl (spdmFinish_waiting found waits) ⟨mem_out_send .., any_up found⟩,
      fun up => leadsAlone_of_eq rfl (spdmEnd_up found up) ⟨mem_out_send .., any_filter_ne _ _⟩⟩,
    fun s unready => ?error⟩
  case extend =>
    exact word_setEach _ A.FW_MEASURE_VALUE _ (fun i j ne => by simp only [A.FW_MEASURE_VALUE]; omega) 6 i hi
  case opens =>
    rw [dbgSubmit_accepted accepted, ciph_dbgOpening]
    exact ⟨rfl, rfl, rfl, rfl, rfl, state_dbgOpening .., rfl⟩
  case refused =>
    have ciph : (wrote s.body actor A.DBG_CTL (2 + level % 4 * 4)).ciph = s.body.ciph := judge_ciph ..
    rw [dbgSubmit_refused refused, ciph_dbgRefused, ciph]
    exact ⟨rfl, rfl, mem_evs_raise ..⟩
  case capabilities =>
    exact leadsAlone_of_eq (b := ({ s.body with ciph := { s.body.ciph with caps := true } } : Body).send (.spdm .capabilities)) rfl
      (if_pos version) ⟨mem_out_send .., rfl⟩
  case algorithms =>
    exact leadsAlone_of_eq (b := ({ s.body with ciph := { s.body.ciph with algos := true } } : Body).send (.spdm .algorithms)) rfl
      (if_pos (by rw [version, caps]; rfl)) ⟨mem_out_send .., rfl⟩
  case digests =>
    exact leadsAlone_of_eq (b := s.body.send (.spdm (.digests 1))) rfl (if_pos (by rw [ready, runs]; rfl)) (mem_out_send ..)
  case certificate =>
    exact leadsAlone_of_eq (b := s.body.send (.spdm (.certificate offset length))) rfl (if_pos (by rw [ready, runs]; rfl)) (mem_out_send ..)
  case challenge =>
    refine leads_of_eq rfl (spdmChallenge_ready ready runs true) ⟨?_, attested_attest _⟩
    rw [out_attest]
    exact mem_out_send ..
  case measure =>
    refine leads_of_eq rfl (spdmMeasure_block ready runs low high signed mctp) ?_
    rw [out_attest]
    exact mem_out_send ..
  case error =>
    exact leadsAlone_of_eq (b := s.body.send (.spdm .error)) rfl (if_neg (by rw [unready]; exact Bool.false_ne_true)) rfl

end Body
end Sys2Proof.Machine

/-! The service cores, their memories and their event FIFOs (R363 to R371). -/

namespace Sys2Proof.Machine
namespace Body

open Sys2Proof.Stmt

/-! ## A core and the registers that report it -/

theorem core_setCore_same (s : Body) (c : Nat) (k : Core) : (s.setCore c k).core c = k := mgetD_mset_same ..
theorem core_setCore_ne (s : Body) {c j : Nat} (k : Core) (h : j ≠ c) : (s.setCore c k).core j = s.core j := mgetD_mset_ne _ _ _ h

theorem core_of_dx {a b : Body} (h : a.dx = b.dx) (c : Nat) : a.core c = b.core c := by
  unfold core
  rw [h]

theorem dx_coreRegs (s : Body) (c : Nat) : (s.coreRegs c).dx = s.dx := by
  unfold coreRegs putBit
  simp only [putB_eq, put_dx]

theorem core_putCore_same (s : Body) (c : Nat) (k : Core) : (s.putCore c k).core c = k :=
  (core_of_dx (dx_coreRegs ..) c).trans (core_setCore_same ..)

theorem core_putCore_ne (s : Body) {c j : Nat} (k : Core) (h : j ≠ c) : (s.putCore c k).core j = s.core j :=
  (core_of_dx (dx_coreRegs ..) j).trans (core_setCore_ne s k h)

theorem core_wrote (s : Body) (actor : Actor) (a v c : Nat) : (wrote s actor a v).core c = s.core c :=
  core_of_dx (judge_dx ..) c

/-- The reports of a core leave every register but its own three words and that of the cluster. -/
theorem get_coreRegs (s : Body) (c : Nat) {f : Fld} (status : f.addr ≠ A.DX_CORE_STATUS c) (pc : f.addr ≠ A.DX_CORE_PC c)
    (cluster : f.addr ≠ A.DX_STATUS) : (s.coreRegs c).get f = s.get f := by
  have away {g : Fld} (h : f.addr ≠ g.addr) : g.apart f = true := by
    simp only [Fld.apart, Bool.or_eq_true, decide_eq_true_eq]
    exact .inl h
  unfold coreRegs putBit
  dsimp only
  rw [get_put_ne _ _ _ _ (away cluster), get_put_ne _ _ _ _ (away cluster), get_put_ne _ _ _ _ (away pc), get_put_ne _ _ _ _ (away status),
    putB_eq, get_put_ne _ _ _ _ (away status), get_put_ne _ _ _ _ (away status)]

theorem run_putCore (s : Body) (c : Nat) (k : Core) : (s.putCore c k).flag (F.DX_CORE_CTL_RUN c) = s.flag (F.DX_CORE_CTL_RUN c) := by
  have kept : (s.putCore c k).get (F.DX_CORE_CTL_RUN c) = s.get (F.DX_CORE_CTL_RUN c) :=
    get_coreRegs (s.setCore c k) c (by simp [F.DX_CORE_CTL_RUN, A.DX_CORE_STATUS]) (by simp [F.DX_CORE_CTL_RUN, A.DX_CORE_PC])
      (by simp only [F.DX_CORE_CTL_RUN, A.DX_STATUS]; omega)
  exact congrArg (· != 0) kept

/-! ## Interrupts (R366, R371) -/

/-- A core that has taken a non-maskable interrupt. -/
def nmiCore (s : Body) (k : Core) : Core :=
  { k with nmi := false, st := .running, pc := BitVec.ofNat 64 (s.get F.DX_RESET_VEC_VECTOR + 0x40), mcause := 0x80000000000000FF }

theorem nmiEnter_eq (s : Body) (c : Nat) : s.nmiEnter c =
    if (s.core c).nmi && ((s.core c).st == .running || (s.core c).st == .waiting) then s.putCore c (s.nmiCore (s.core c)) else s := rfl

theorem core_nmiEnter_ne (s : Body) {c j : Nat} (h : j ≠ c) : (s.nmiEnter c).core j = s.core j := by
  rw [nmiEnter_eq]
  split
  · exact core_putCore_ne s _ h
  · rfl

theorem nmiEnter_of_none {s : Body} {c : Nat} (h : (s.core c).nmi = false) : s.nmiEnter c = s := by
  rw [nmiEnter_eq, h]
  rfl

/-- A core with a pending interrupt and the state that a core with it has come to. -/
theorem core_coreNmi (s : Body) (c : Nat) : (s.coreNmi c).core c =
    if (s.core c).st == .running || (s.core c).st == .waiting then s.nmiCore { s.core c with nmi := true } else { s.core c with nmi := true } := by
  unfold coreNmi
  rw [nmiEnter_eq, core_setCore_same]
  dsimp only
  rw [Bool.true_and]
  split
  · exact core_putCore_same ..
  · exact core_setCore_same ..

/-- A core of which the timer interrupt is pending goes on where it waits. -/
theorem core_coreWake (s : Body) (c : Nat) : (s.coreWake c).core c =
    if (s.core c).st == .waiting then { s.core c with st := .running } else s.core c := by
  unfold coreWake
  dsimp only
  split
  · exact core_setCore_same ..
  · rfl

/-! ## Running and stopping (R370, R371) -/

/-- A stopped core as it resumes. -/
def resumed (k : Core) : Core := { k with st := if k.wasWfi then .waiting else .running, wasWfi := false }

theorem coreRun_stopped {s : Body} {c : Nat} (on : s.clusterOn = true) (st : (s.core c).st = .stopped) :
    s.coreRun c = (s.putCore c (resumed (s.core c))).nmiEnter c := by
  simp [coreRun, on, st, resumed]

theorem coreStop_running {s : Body} {c : Nat} (st : (s.core c).st = .running) :
    s.coreStop c = s.putCore c { s.core c with st := .stopped, wasWfi := (s.core c).st == .waiting } := by
  simp [coreStop, st]

/-- What a running core that is stopped comes to. -/
theorem core_coreStop {s : Body} {c : Nat} (st : (s.core c).st = .running) : ((s.coreStop c).core c).st = .stopped
    ∧ ((s.coreStop c).core c).pc = (s.core c).pc ∧ ((s.coreStop c).core c).tcm = (s.core c).tcm
    ∧ (s.coreStop c).flag (F.DX_CORE_CTL_RUN c) = s.flag (F.DX_CORE_CTL_RUN c) := by
  rw [coreStop_running st, core_putCore_same, run_putCore]
  exact ⟨rfl, rfl, rfl, rfl⟩

theorem clusterOn_wrote (s : Body) (actor : Actor) {c : Nat} (hc : c < 16) (v : Nat) :
    (wrote s actor (A.DX_CORE_CTL c) v).clusterOn = s.clusterOn :=
  isOn_wrote s actor v U.dexith (by simp only [F.UNIT_STATE_STATE, A.DX_CORE_CTL, U.dexith]; omega)

theorem resetVec_wrote (s : Body) (actor : Actor) (c v : Nat) :
    (wrote s actor (A.DX_CORE_CTL c) v).get F.DX_RESET_VEC_VECTOR = s.get F.DX_RESET_VEC_VECTOR :=
  get_wrote_ne s actor v _ (by simp only [F.DX_RESET_VEC_VECTOR, A.DX_CORE_CTL]; omega)

/-- What a core that is set running comes to. -/
theorem core_coreRun {s : Body} {c : Nat} (on : s.clusterOn = true) (st : (s.core c).st = .stopped) :
    ((s.core c).nmi = false → (s.coreRun c).core c = resumed (s.core c)) ∧ ∀ k, k ≠ c → (s.coreRun c).core k = s.core k := by
  rw [coreRun_stopped on st]
  refine ⟨fun none => ?_, fun k hk => (core_nmiEnter_ne _ hk).trans (core_putCore_ne s _ hk)⟩
  rw [nmiEnter_of_none, core_putCore_same]
  rw [core_putCore_same]
  exact none

/-! ## The debugger (R371) -/

section
variable {b : Body} {c : Nat} (debug : b.debugOpen = true) (st : (b.core c).st = .halted)
include debug st

theorem dbgCommand_read (r : Nat) : b.dbgCommand c (.readReg r) = b.send (.dbgData c (if r = 0x1000 then 0 else if r = 0x7B1 then (b.core c).pc
    else if r = 0x342 then (b.core c).mcause else if r = 0x343 then (b.core c).mtval else if r = 0xFC0 then BitVec.ofNat 64 b.frameNo
    else mgetD (b.core c).regs r 0)) := by
  simp [dbgCommand, debug, st]

theorem dbgCommand_write {r : Nat} (low : 0x1000 < r) (v : Word) : b.dbgCommand c (.writeReg r v)
    = b.setCore c { b.core c with regs := mput 0 (b.core c).regs r v } := by
  have open_ : (!b.debugOpen || (b.core c).st != .halted) = false := by simp [debug, st]
  unfold dbgCommand
  dsimp only
  rw [open_, if_neg Bool.false_ne_true, if_neg (by simp only [Bool.or_eq_true, decide_eq_true_eq]; omega), if_neg (by omega), if_neg (by omega),
    if_neg (by omega)]

end

/-- Settles O43. -/
theorem coreCommands : Obligations.CoreCommands := by
  unfold Obligations.CoreCommands
  refine ⟨fun s actor c hc => ⟨fun runs on st => ?run, fun halts st => ?stop⟩,
    fun s actor c hc h => leadsAlone_command h ?reset,
    fun s actor c hc h => leadsAlone_command h ⟨fun st => ?entered, fun st => ?pending⟩,
    fun s c hc due => ?timer,
    fun s => ⟨fun runs => ?halt0, fun runs => ?halt1, fun gone other free => ?over0, fun gone other free => ?over1⟩,
    fun s c hc debug => ⟨fun st => ?halt, fun st => ?resume, fun st r v low high => ?writeReg,
      fun st => leads_of_eq rfl (dbgCommand_read debug st 0x1000) rfl, fun st => leads_of_eq rfl (dbgCommand_read debug st 0x7B1) rfl⟩⟩
  case run =>
    have on' : (wrote s.body actor (A.DX_CORE_CTL c) 1).clusterOn = true := (clusterOn_wrote _ _ hc _).trans on
    have same (k : Nat) := core_wrote s.body actor (A.DX_CORE_CTL c) 1 k
    obtain ⟨own, others⟩ := core_coreRun on' ((congrArg (·.st) (same c)).trans st)
    refine leadsAlone_of_eq rfl (when_pos runs) ⟨fun none => ?_, fun k hk => (others k hk).trans (same k)⟩
    have resumes := (own ((congrArg (·.nmi) (same c)).trans none)).trans (congrArg resumed (same c))
    exact ⟨congrArg (·.st) resumes, congrArg (·.pc) resumes⟩
  case stop =>
    have same := core_wrote s.body actor (A.DX_CORE_CTL c) 0 c
    have halted : (!(wrote s.body actor (A.DX_CORE_CTL c) 0).flag (F.DX_CORE_CTL_RUN c)) = true := by rw [halts]; rfl
    obtain ⟨stopped, pc, tcm, run⟩ := core_coreStop ((congrArg (·.st) same).trans st)
    exact leadsAlone_of_eq rfl (when_pos halted)
      ⟨stopped, pc.trans (congrArg (·.pc) same), tcm.trans (congrArg (·.tcm) same), run.trans halts⟩
  case reset =>
    unfold coreRestart
    dsimp only
    rw [core_putCore_same, core_wrote, resetVec_wrote]
    exact ⟨rfl, rfl, rfl, rfl⟩
  case entered =>
    have runs : ((s.body.core c).st == .running || (s.body.core c).st == .waiting) = true := by
      rcases st with st | st <;> rw [st] <;> rfl
    rw [core_coreNmi, core_wrote, if_pos runs, nmiCore, resetVec_wrote]
    exact ⟨rfl, rfl, rfl⟩
  case pending =>
    have rests : ¬((s.body.core c).st == .running || (s.body.core c).st == .waiting) = true := by
      rcases st with st | st <;> rw [st] <;> decide
    rw [core_coreNmi, core_wrote, if_neg rests]
    exact ⟨rfl, rfl, rfl⟩
  case timer =>
    have due' : decide (s.body.mtime ≥ s.body.get (F.DX_MTIMECMP_CMP c)) = true := decide_eq_true due
    refine leadsAlone_of_eq rfl (when_pos due') ?_
    rw [core_of_dx (dx_coreRegs ..) c, core_coreWake, core_setCore_same]
    dsimp only
    refine ⟨?_, fun waits => ?_, fun other => ?_⟩
    · split <;> rfl
    · rw [waits]
      rfl
    · rw [beq_eq_false_iff_ne.2 other]
      rfl
  case halt0 =>
    exact leadsAlone_of_eq (b := (({ s.body with dx := { s.body.dx with k0 := false, duty0 := false } } : Body).put F.DX_STATUS_KEEPER_0_OK
      0).postN U.hob .keeperHalted 0) rfl (if_pos runs) ⟨rfl, rfl, rfl, mem_evs_post ..⟩
  case halt1 =>
    exact leadsAlone_of_eq (b := (({ s.body with dx := { s.body.dx with k1 := false, duty1 := false } } : Body).put F.DX_STATUS_KEEPER_1_OK
      0).postN U.hob .keeperHalted 1) rfl (if_pos runs) ⟨rfl, rfl, rfl, mem_evs_post ..⟩
  case over0 =>
    have takes : (!s.body.dx.k0 && s.body.dx.k1 && !s.body.dx.duty0) = true := by rw [gone, other, free]; rfl
    exact leadsAlone_of_eq (b := ({ s.body with dx := { s.body.dx with duty0 := true } } : Body).postN U.hob .keeperTakeover 0) rfl
      ((if_pos rfl).trans (when_pos takes)) ⟨rfl, mem_evs_post ..⟩
  case over1 =>
    have takes : (!s.body.dx.k1 && s.body.dx.k0 && !s.body.dx.duty1) = true := by rw [gone, other, free]; rfl
    exact leadsAlone_of_eq (b := ({ s.body with dx := { s.body.dx with duty1 := true } } : Body).postN U.hob .keeperTakeover 1) rfl
      ((if_neg (by decide)).trans (when_pos takes)) ⟨rfl, mem_evs_post ..⟩
  case halt =>
    have halts : (s.body.debugOpen && ((s.body.core c).st == .running || (s.body.core c).st == .waiting)) = true := by
      rcases st with st | st <;> rw [debug, st] <;> rfl
    refine leadsAlone_of_eq rfl (when_pos halts) ?_
    rw [core_putCore_same]
    exact ⟨rfl, rfl⟩
  case resume =>
    have resumes : (s.body.debugOpen && (s.body.core c).st == .halted) = true := by rw [debug, st]; rfl
    refine leadsAlone_of_eq rfl (when_pos resumes) ?_
    rw [nmiEnter_eq]
    split
    · rw [core_putCore_same]
      rfl
    · rw [core_putCore_same]
  case writeReg =>
    refine leads_of_eq rfl (dbgCommand_write debug st low v) ?_
    rw [core_setCore_same]
    exact ⟨mgetD_mput_same .., fun q hq => mgetD_mput_ne _ _ _ _ _ _ hq⟩

/-! ## The memories of a core (R363 to R365) -/

/-- Aligned bytes of at most a word touch one word. -/
theorem memWords_aligned {off n : Nat} (size : n = 1 ∨ n = 2 ∨ n = 4 ∨ n = 8) (aligned : off % n = 0) : memWords off n = [off / 8] := by
  have one : (off + n - 1) / 8 - off / 8 + 1 = 1 := by rcases size with rfl | rfl | rfl | rfl <;> omega
  unfold memWords
  rw [if_neg (by omega), one]
  rfl

theorem coreTarget_own (s : Body) (c : Nat) {off n : Nat} (inside : off + n ≤ 0x80000) :
    s.coreTarget c (0x1000000 + off) n = .tcm c off true := by
  have own : decide (0x1000000 ≤ 0x1000000 + off ∧ 0x1000000 + off + n ≤ 0x1000000 + 0x80000) = true := decide_eq_true (by omega)
  unfold coreTarget
  dsimp only
  rw [if_pos own, Nat.add_sub_cancel_left]

section
variable {b : Body} {c off n : Nat} (inside : off + n ≤ 0x80000) (st : (b.core c).st = .running)
include inside st

theorem coreAccess_tcm (kind : CoreAcc) (v : Word) (ecc : Ecc) : b.coreAccess c kind (0x1000000 + off) n v ecc = b.tcmAccess c c kind (0x1000000 + off) off n v ecc := by
  have runs : ((b.core c).st != .running) = false := by rw [st]; rfl
  unfold coreAccess
  rw [runs, if_neg Bool.false_ne_true, coreTarget_own b c inside]
  dsimp only
  rw [Bool.not_true, Bool.and_false, if_neg Bool.false_ne_true]

variable (quiet : (b.core c).clearing = false)
include quiet

theorem coreAccess_store (v : Word) (ecc : Ecc) : b.coreAccess c .store (0x1000000 + off) n v ecc = b.putCore c { b.core c with
    tcm := memStore (b.core c).tcm off n v
    written := if (b.core c).cleared then (b.core c).written else (memWords off n).foldl insertNat (b.core c).written } := by
  have idle : ((b.core c).clearing && c == c) = false := by rw [quiet]; rfl
  rw [coreAccess_tcm inside st]
  unfold tcmAccess
  dsimp only
  rw [idle, if_neg Bool.false_ne_true]
  rfl

theorem coreAccess_load (v : Word) (ecc : Ecc) : b.coreAccess c .load (0x1000000 + off) n v ecc =
    if !(b.core c).cleared && !((memWords off n).all (b.core c).written.contains) then
      ((b.raise U.dexith F.DX_EVENTS_TCM_UNINIT c).send (.coreData c 0)).coreFault c .load (0x1000000 + off)
    else b.coreEcc c .load (0x1000000 + off) ecc (·.send (.coreData c (memLoad (b.core c).tcm off n))) := by
  have idle : ((b.core c).clearing && c == c) = false := by rw [quiet]; rfl
  rw [coreAccess_tcm inside st]
  unfold tcmAccess
  dsimp only
  rw [idle, if_neg Bool.false_ne_true]
  rfl

end

theorem core_coreFault (s : Body) (c : Nat) (kind : CoreAcc) (addr : Nat) :
    ((s.coreFault c kind addr).core c).mtval = BitVec.ofNat 64 addr ∧ ((s.coreFault c kind addr).core c).tcm = (s.core c).tcm := by
  unfold coreFault
  dsimp only
  have own (cause : Word) : ((s.setCore c { s.core c with mtval := BitVec.ofNat 64 addr, mcause := cause }).send (.accessFault c kind addr)).core c
      = { s.core c with mtval := BitVec.ofNat 64 addr, mcause := cause } := core_setCore_same ..
  rw [own]
  exact ⟨rfl, rfl⟩

theorem mem_out_coreFault {s : Body} {o : Out} (h : o ∈ s.out) (c : Nat) (kind : CoreAcc) (addr : Nat) : o ∈ (s.coreFault c kind addr).out :=
  List.mem_cons_of_mem _ h

theorem fault_coreFault (s : Body) (c : Nat) (kind : CoreAcc) (addr : Nat) : .accessFault c kind addr ∈ (s.coreFault c kind addr).out :=
  mem_out_send ..

theorem flag_coreFault (s : Body) (c : Nat) (kind : CoreAcc) (addr : Nat) (f : Fld) : (s.coreFault c kind addr).flag f = s.flag f := rfl

/-- Settles O44. -/
theorem coreMemoryCommands : Obligations.CoreMemoryCommands := by
  unfold Obligations.CoreMemoryCommands
  refine ⟨fun s actor c hc h => leadsAlone_command h ?clear, fun s c hc clearing => ?cleared,
    fun s c off n v hc size aligned inside st quiet => ⟨fun ecc => ?store, fun a held => ?load, fun a ecc fresh unwritten => ?unwritten⟩⟩
  case clear =>
    rw [core_putCore_same, core_wrote]
    exact ⟨rfl, rfl⟩
  case cleared =>
    refine leadsAlone_of_eq rfl (when_pos clearing) ?_
    rw [core_putCore_same]
    exact ⟨rfl, rfl, rfl⟩
  case store =>
    refine leads_of_eq rfl (coreAccess_store inside st quiet v ecc) ⟨?_, fun k hk => core_putCore_ne _ _ hk, fun fresh w => ?_⟩
    · rw [core_putCore_same]
    · rw [core_putCore_same, fresh, memWords_aligned size aligned]
      exact mem_insertNat
  case load =>
    have written : ((!(s.body.core c).cleared && !((memWords off n).all (s.body.core c).written.contains)) : Bool) = false := by
      rw [memWords_aligned size aligned]
      rcases held with held | held <;> simp [held]
    refine leads_of_eq rfl ((coreAccess_load inside st quiet a .good).trans (if_neg (by rw [written]; exact Bool.false_ne_true))) rfl
  case unwritten =>
    have uninit : (!(s.body.core c).cleared && !((memWords off n).all (s.body.core c).written.contains)) = true := by
      rw [memWords_aligned size aligned]
      simp [fresh, unwritten]
    obtain ⟨mtval, tcm⟩ := core_coreFault ((s.body.raise U.dexith F.DX_EVENTS_TCM_UNINIT c).send (.coreData c 0)) c .load (0x1000000 + off)
    refine leads_of_eq rfl ((coreAccess_load inside st quiet a ecc).trans (if_pos uninit))
      ⟨?_, mem_out_coreFault (mem_out_send ..) _ _ _, fault_coreFault .., mtval, tcm⟩
    rw [flag_coreFault]
    exact flag_put_one s.body F.DX_EVENTS_TCM_UNINIT (by decide) (by decide)

/-! ## The event FIFOs (R368, R369) -/

theorem evqGap_of_none {s : Body} {c : Nat} (h : (s.core c).gapN = 0) : s.evqGap c = s := by
  simp [evqGap, h]

/-- The words of an entry that a pop latches. -/
def evqLatched (s : Body) (c : Nat) (w : List Word) : Body := s.forEach [0, 1, 2] fun s i => s.setWord (A.EVQ_LATCH c i) (w[i + 1]?.getD 0)

theorem dx_evqLatched (s : Body) (c : Nat) (w : List Word) : (s.evqLatched c w).dx = s.dx := rfl

theorem word_evqLatched (s : Body) (c : Nat) (w : List Word) {i : Nat} (hi : i < 3) :
    (s.evqLatched c w).word (A.EVQ_LATCH c i) = w.getD (i + 1) 0 := by
  rw [List.getD_eq_getElem?_getD]
  exact word_setEach s (A.EVQ_LATCH c) (fun i => w[i + 1]?.getD 0) (fun i j ne => by simp only [A.EVQ_LATCH]; omega) 3 i hi

theorem evqPop_cons {b : Body} {c : Nat} {e : EvqEntry} {r : List EvqEntry} (head : (b.core c).fifo = e :: r) (none : (b.core c).gapN = 0) :
    b.evqPop c = ((b.setCore c { b.core c with fifo := r }).evqLatched c e.words).send (.evqWord c (e.words.headD 0)) := by
  have gap : (((b.setCore c { b.core c with fifo := r }).evqLatched c e.words).core c).gapN = 0 := by
    rw [core_of_dx (dx_evqLatched ..), core_setCore_same]
    exact none
  unfold evqPop
  dsimp only
  rw [head]
  exact congrArg (fun t => t.send (.evqWord c (e.words.headD 0))) (evqGap_of_none gap)

theorem evqPop_nil {b : Body} {c : Nat} (empty : (b.core c).fifo = []) : b.evqPop c = b.send (.evqWord c 0) := by
  unfold evqPop
  dsimp only
  rw [empty]

theorem core_send (s : Body) (o : Out) (c : Nat) : (s.send o).core c = s.core c := rfl
theorem word_send (s : Body) (o : Out) (a : Nat) : (s.send o).word a = s.word a := rfl

section
variable {b : Body} {c : Nat} (none : (b.core c).gapN = 0) (e : Stamp)
include none

theorem evqDeliver_room (room : (b.core c).fifo.length < (if e.fatal then 256 else 240)) :
    ((b.evqDeliver c e).core c).fifo = (b.core c).fifo ++ [.ev e] := by
  have free : ((b.core c).gapN != 0 || decide ((b.core c).fifo.length ≥ (if e.fatal then 256 else 240))) = false := by
    rw [none, decide_eq_false (Nat.not_le.2 room)]
    rfl
  unfold evqDeliver
  dsimp only
  rw [evqGap_of_none none, free, if_neg Bool.false_ne_true]
  split
  · rw [core_coreWake, core_setCore_same]
    split <;> rfl
  · rw [core_setCore_same]

theorem evqDeliver_full (full : (if e.fatal then 256 else 240) ≤ (b.core c).fifo.length) : (b.evqDeliver c e).core c = { b.core c with
    gapN := (b.core c).gapN + 1, gapFatal := (b.core c).gapFatal || e.fatal
    gapSeq := (if (b.core c).gapN = 0 then e.seq else (b.core c).gapSeq)
    gapFrame := (if (b.core c).gapN = 0 then e.frame else (b.core c).gapFrame) } := by
  have drops : ((b.core c).gapN != 0 || decide ((b.core c).fifo.length ≥ (if e.fatal then 256 else 240))) = true := by
    rw [decide_eq_true full, Bool.or_true]
  unfold evqDeliver
  dsimp only
  rw [evqGap_of_none none, drops, if_pos rfl, core_setCore_same]

end

/-- Settles O45. -/
theorem eventFifos : Obligations.EventFifos := by
  unfold Obligations.EventFifos
  refine ⟨fun s actor c e r head none => leadsAlone_of_eq rfl (evqPop_cons head none) ⟨?popped, mem_out_send .., fun _ i hi => ?latched⟩,
    fun s actor c empty => leadsAlone_of_eq rfl (evqPop_nil empty) rfl,
    fun s actor c h => leadsAlone_command h ⟨?flushed, ?gap, ?tcm, fun k hk => ?others⟩,
    fun b c e none => ⟨evqDeliver_room none e, fun full => ?full⟩⟩
  case popped => rw [core_send, core_of_dx (dx_evqLatched ..), core_setCore_same]
  case latched => exact (word_send ..).trans (word_evqLatched _ c e.words hi)
  case flushed => rw [evqFlush, core_setCore_same]
  case gap => rw [evqFlush, core_setCore_same]
  case tcm => rw [evqFlush, core_setCore_same, core_wrote]
  case others => exact (core_setCore_ne _ _ hk).trans (core_wrote ..)
  case full =>
    rw [evqDeliver_full none e full, none]
    exact ⟨rfl, rfl, rfl, rfl⟩

end Body
end Sys2Proof.Machine

/-! The code flash (R372 to R383). -/

namespace Sys2Proof.Machine
namespace Body

open Sys2Proof.Stmt

/-! ## The registers of an operation -/

/-- The words that showing an operation and ending it write. -/
abbrev CfReports (a : Nat) : Prop := a = A.CF_OP_TIME ∨ a = A.CF_OP_STATUS ∨ a = A.CF_STATUS ∨ a = A.CF_EVENTS

theorem cf_flashStatus (s : Body) : s.flashStatus.cf = s.cf := rfl

theorem get_flashStatus (s : Body) {f : Fld} (h : f.addr ≠ A.CF_STATUS) : s.flashStatus.get f = s.get f := by
  have away {g : Fld} (hg : g.addr = A.CF_STATUS) : g.apart f = true := by
    simp only [Fld.apart, hg, Bool.or_eq_true, decide_eq_true_eq]
    exact .inl h
  unfold flashStatus
  dsimp only
  rw [get_put_ne _ _ _ _ (away rfl), get_put_ne _ _ _ _ (away rfl)]

theorem word_flashStatus (s : Body) {a : Nat} (h : a ≠ A.CF_STATUS) : s.flashStatus.word a = s.word a := by
  unfold flashStatus
  dsimp only
  rw [word_put_ne _ _ _ h, word_put_ne _ _ _ h]

theorem flashRecord_eq (s : Body) (r : Option (Bool × Nat)) : ∃ k, s.flashRecord r = { s with rack := k } := ⟨_, rfl⟩

/-- The Rack's record of an operation is no part of the flash and no register. -/
theorem flashRecord_keeps (s : Body) (r : Option (Bool × Nat)) (c : Prop) [Decidable c] :
    (if c then s else s.flashRecord r).cf = s.cf ∧ (if c then s else s.flashRecord r).regs = s.regs := by
  split <;> exact ⟨rfl, rfl⟩

theorem cf_cfEnd (s : Body) (k : CfKind) (us active : Nat) : (s.cfEnd k us active).cf = { s.cf with op := none } :=
  (flashRecord_keeps { s with cf := { s.cf with op := none } } none _).1

theorem state_cfEnd (s : Body) (k : CfKind) (us active : Nat) : (s.cfEnd k us active).get F.CF_OP_STATUS_STATE = 2 := by
  unfold cfEnd
  dsimp only
  rw [get_raise, get_put_ne _ _ _ _ (by decide), get_flashStatus _ (by decide), get_put_ne _ _ _ _ (by decide), get_put_same _ _ _ (by decide)]
  rfl

theorem word_raise (s : Body) (u : Nat) (f : Fld) (n a : Nat) : (s.raise u f n).word a = (s.put f 1).word a := rfl

theorem word_of_regs {a b : Body} (h : a.regs = b.regs) (k : Nat) : a.word k = b.word k := by
  unfold word
  rw [h]

theorem word_cfEnd (s : Body) (k : CfKind) (us active : Nat) {a : Nat} (h : ¬ CfReports a) : (s.cfEnd k us active).word a = s.word a := by
  simp only [CfReports, not_or] at h
  obtain ⟨time, status, banks, events⟩ := h
  unfold cfEnd
  dsimp only
  rw [word_raise, word_put_ne _ _ _ events, word_flashStatus _ banks, word_put_ne _ _ _ status, word_put_ne _ _ _ status, word_put_ne _ _ _ time, word_put_ne _ _ _ time]
  exact word_of_regs (flashRecord_keeps { s with cf := { s.cf with op := none } } none _).2 a

theorem flashWord_of_words {a b : Body} (h : a.cf.words = b.cf.words) (n : Nat) : a.flashWord n = b.flashWord n := by
  unfold flashWord
  rw [h]

theorem flashWord_cfEnd (s : Body) (k : CfKind) (us active n : Nat) : (s.cfEnd k us active).flashWord n = s.flashWord n :=
  flashWord_of_words (congrArg (·.words) (cf_cfEnd ..)) n

/-! ## Commands (R376) -/

/-- The operation that a command of the flash starts. -/
def cfOpOf (s : Body) (k : CfKind) : CfOp :=
  { kind := k, page := s.get F.CF_ADDR_PAGE, len := s.get F.CF_HASH_LEN_SECTORS, susp := false, tempHold := false, starved := false
    data := if k == .program then (List.range 64).map fun i => s.word (A.CF_PAGE_BUF i) else [] }

/-- What precedes an operation: the Rack's record, and the bank's buffers emptied. -/
def cfPrepared (s : Body) (k : CfKind) : Body :=
  if k == .hash then s
  else (s.flashRecord (some (k == .erase, s.get F.CF_ADDR_PAGE))).flashEmpty (bankOf (s.get F.CF_ADDR_PAGE))

/-- A command of the flash is taken. -/
def cfTaken (s : Body) (k : CfKind) : Body :=
  let t : Body := { s.cfPrepared k with cf := { (s.cfPrepared k).cf with op := some (s.cfOpOf k) } }
  let t := ((t.put F.CF_OP_STATUS_STATE 1).put F.CF_OP_STATUS_RESULT 0).put F.CF_OP_STATUS_OP (cfNo k)
  (t.when (k == .erase) (·.put F.CF_OP_STATUS_SUSPENDS 0)).flashStatus

theorem cfCommand_taken {g : Body} {k : CfKind} (h : g.cfCode k = 0) : g.cfCommand k = g.cfTaken k := by
  have taken : ¬(g.cfCode k != 0) = true := by simp [h]
  exact if_neg taken

theorem cf_cfTaken (s : Body) (k : CfKind) : (s.cfTaken k).cf = { (s.cfPrepared k).cf with op := some (s.cfOpOf k) } := by
  cases k <;> rfl

theorem rack_cfTaken_hash (s : Body) : (s.cfTaken .hash).rack = s.rack := rfl

theorem words_cfPrepared (s : Body) (k : CfKind) : (s.cfPrepared k).cf.words = s.cf.words := by
  cases k <;> rfl

theorem state_cfTaken (s : Body) (k : CfKind) : (s.cfTaken k).get F.CF_OP_STATUS_STATE = 1 := by
  have told (t : Body) (e : Bool) : (t.when e (·.put F.CF_OP_STATUS_SUSPENDS 0)).get F.CF_OP_STATUS_STATE = t.get F.CF_OP_STATUS_STATE := by
    cases e
    · rfl
    · exact get_put_ne _ _ _ _ (by decide)
  unfold cfTaken
  dsimp only
  rw [get_flashStatus _ (by decide), told, get_put_ne _ _ _ _ (by decide), get_put_ne _ _ _ _ (by decide), get_put_same _ _ _ (by decide)]
  rfl

theorem suspends_cfTaken (s : Body) : (s.cfTaken .erase).get F.CF_OP_STATUS_SUSPENDS = 0 := by
  unfold cfTaken
  dsimp only
  rw [get_flashStatus _ (by decide)]
  exact (get_put_same _ F.CF_OP_STATUS_SUSPENDS 0 (by decide)).trans rfl

/-- A command of the flash is refused: the status tells it unless an operation runs. -/
def cfRefused (s : Body) (k : CfKind) (c : Nat) : Body :=
  (if c == 1 then s else ((s.put F.CF_OP_STATUS_STATE 3).put F.CF_OP_STATUS_RESULT c).put F.CF_OP_STATUS_OP (cfNo k)).raise U.flash
    F.CF_EVENTS_OP_REFUSED c

theorem cfCommand_refused {g : Body} {k : CfKind} (h : g.cfCode k ≠ 0) : g.cfCommand k = g.cfRefused k (g.cfCode k) := by
  have refused : (g.cfCode k != 0) = true := by simp [h]
  exact if_pos refused

theorem cf_cfRefused (s : Body) (k : CfKind) (c : Nat) : (s.cfRefused k c).cf = s.cf := by
  have kept (t : Prop) [Decidable t] : (if t then s else ((s.put F.CF_OP_STATUS_STATE 3).put F.CF_OP_STATUS_RESULT c).put F.CF_OP_STATUS_OP
      (cfNo k)).cf = s.cf := by split <;> rfl
  exact kept _

/-! ## Operations end (R377, R378, R381) -/

/-- Words programmed one after the other: each loses the bits that its datum does not have. -/
theorem flashWord_programEach (s : Body) (base : Nat) (l : List Word) (n : Nat) :
    ((l.zip (List.range l.length)).foldl (fun s p => s.flashAnd (base + p.2) p.1) s).flashWord n
      = if base ≤ n ∧ n < base + l.length then s.flashWord n &&& l.getD (n - base) 0 else s.flashWord n := by
  obtain ⟨r, rfl⟩ : ∃ r : List Word, l = r.reverse := ⟨l.reverse, l.reverse_reverse.symm⟩
  induction r with
  | nil => exact (if_neg (by simp)).symm
  | cons x r ih =>
    rw [List.reverse_cons]
    generalize r.reverse = l at ih ⊢
    rw [List.length_append, List.length_singleton, List.range_succ, List.zip_append (by simp), List.foldl_append]
    show (flashAnd _ (base + l.length) x).flashWord n = _
    rw [flashWord_flashAnd, ih]
    by_cases last : n = base + l.length
    · rw [if_pos last, if_neg (by omega), if_pos (by omega), last, Nat.add_sub_cancel_left]
      simp
    · rw [if_neg last]
      by_cases before : base ≤ n ∧ n < base + l.length
      · rw [if_pos before, if_pos (by omega)]
        rw [List.getD_eq_getElem?_getD, List.getD_eq_getElem?_getD, List.getElem?_append_left (by omega)]
      · rw [if_neg before, if_neg (by omega)]

section
variable {b : Body} {o : CfOp} (runs : b.cf.op = some o)
include runs

theorem cfProgramDone_runs (kind : o.kind = .program) (us : Nat) : b.cfProgramDone us
    = (((o.data.zip (List.range 64)).foldl (fun s p => s.flashAnd (o.page * 64 + p.2) p.1) b).icDrop (o.page * 8) 8).cfEnd .program us us := by
  unfold cfProgramDone
  rw [runs]
  dsimp only
  rw [kind]
  rfl

theorem flashWord_cfProgramDone (kind : o.kind = .program) (whole : o.data.length = 64) (us n : Nat) : (b.cfProgramDone us).flashWord n
    = if n / 64 = o.page then b.flashWord n &&& o.data.getD (n % 64) 0 else b.flashWord n := by
  rw [cfProgramDone_runs runs kind, flashWord_cfEnd]
  have kept (t : Body) : (t.icDrop (o.page * 8) 8).flashWord n = t.flashWord n := rfl
  have each := flashWord_programEach b (o.page * 64) o.data n
  rw [whole] at each
  rw [kept, each]
  by_cases here : n / 64 = o.page
  · rw [if_pos here, if_pos (by omega), show n - o.page * 64 = n % 64 by omega]
  · rw [if_neg here, if_neg (by omega)]

/-- The sector's contents, the poison of interrupted operations and the caches, once it is erased. -/
def sectorErased (s : Body) (sec : Nat) : Body :=
  let s := s.flashErase (sec * 8192) 8192
  let s : Body := { s with cf := { s.cf with bad := s.cf.bad.filter fun b => sectorOf b.2 != sec } }
  let s := s.when (sectorOf (s.get F.CF_INTERRUPTED_PAGE) == sec) (·.put F.CF_INTERRUPTED_VALID 0)
  s.icDrop (sec * 1024) 1024

omit runs in
theorem flashWord_sectorErased (s : Body) (sec n : Nat) : (s.sectorErased sec).flashWord n
    = if n / 8192 = sec then BitVec.allOnes 64 else s.flashWord n := by
  have words : (s.sectorErased sec).cf.words = (s.flashErase (sec * 8192) 8192).cf.words := by
    have kept (t : Body) (e : Bool) : ((t.when e (·.put F.CF_INTERRUPTED_VALID 0)).icDrop (sec * 1024) 1024).cf.words = t.cf.words := by
      cases e <;> rfl
    exact kept _ _
  rw [flashWord_of_words words, flashWord_flashErase]
  by_cases here : n / 8192 = sec
  · rw [if_pos here, if_pos (by omega)]
  · rw [if_neg here, if_neg (by omega)]

theorem cfEraseDone_runs (kind : o.kind = .erase) (resumed : o.susp = false) (us active : Nat) :
    b.cfEraseDone us active = (b.sectorErased (sectorOf o.page)).cfEnd .erase us active := by
  unfold cfEraseDone
  rw [runs]
  dsimp only
  rw [kind, resumed]
  rfl

/-- The digest of sectors stands in CF_HASH. -/
def hashShown (s : Body) (o : CfOp) : Body :=
  s.forEach (List.range 6) fun t i =>
    t.setWord (A.CF_HASH i) (Config.sha384 ((range' (sectorOf o.page * 8192) (o.len * 8192)).map s.flashWord) i)

omit runs in
theorem cf_hashShown (s : Body) (o : CfOp) : (s.hashShown o).cf = s.cf :=
  forEach_induct (P := fun t => t.cf = s.cf) _ rfl fun _ _ _ h => h

theorem cfHashDone_runs (kind : o.kind = .hash) (us : Nat) : b.cfHashDone us = (b.hashShown o).cfEnd .hash us us := by
  unfold cfHashDone
  rw [runs]
  dsimp only
  rw [kind]
  rfl

theorem word_cfHashDone (kind : o.kind = .hash) (us : Nat) {i : Nat} (hi : i < 6) : (b.cfHashDone us).word (A.CF_HASH i)
    = Config.sha384 ((range' (sectorOf o.page * 8192) (o.len * 8192)).map b.flashWord) i := by
  have unreported : ¬ CfReports (A.CF_HASH i) := by
    simp only [CfReports, A.CF_HASH, A.CF_OP_TIME, A.CF_OP_STATUS, A.CF_STATUS, A.CF_EVENTS]
    omega
  rw [cfHashDone_runs runs kind, word_cfEnd _ _ _ _ unreported]
  exact word_setEach b A.CF_HASH _ (fun i j ne => by simp only [A.CF_HASH]; omega) 6 i hi

theorem cfResume_held (kind : o.kind = .erase) (susp : o.susp = true) (cool : o.tempHold = false) :
    b.cfResume = { b with cf := { b.cf with op := some { o with susp := false } } }.flashStatus := by
  unfold cfResume
  rw [runs]
  dsimp only
  rw [kind, susp, cool]
  rfl

theorem cfStarved_first (kind : o.kind = .erase) (fresh : o.starved = false) : b.cfStarved
    = (({ b with cf := { b.cf with op := some { o with starved := true } } } : Body).inc F.CF_STARVE_ERASE_STARVED).raise U.flash
      F.CF_EVENTS_ERASE_STARVED := by
  unfold cfStarved
  rw [runs]
  dsimp only
  rw [kind, fresh]
  rfl

end

/-! ## Reads (R373, R374, R379) -/

/-- A read of data, not a fetch. -/
def readsData : FlashReader → Bool
  | .fetch _ _ => false
  | _ => true

/-- A read of a bank that stands idle is counted, and its target noted. -/
def flashNoted (s : Body) (held brHit branch : Bool) (target : Nat) : Body :=
  let s := s.when held (·.inc F.CF_READ_STAT_PREFETCH_HITS)
  let s := s.when brHit (·.inc F.CF_READ_STAT_BRANCH_HITS)
  if branch then { s with cf := { s.cf with br := (target :: s.cf.br.filter (· != target)).take 64 } } else s

/-- A read of a bank that stands idle is served. -/
def flashServed (s : Body) (who : FlashReader) (off : Nat) : Body :=
  let held := (if off / 0x8000000 = 0 then s.cf.pre0 else s.cf.pre1).contains (off / 256)
  let branch := match who with
    | .fetch _ br => br
    | _ => false
  let s := s.flashNoted held (branch && s.cf.br.contains (off / 32 * 32)) branch (off / 32 * 32)
  ((s.prefetch (off / 256) true).icFill who off false).send (.flashData who off (s.flashWord (off / 8)))

/-- A read of an execute-only region is answered with zero and told. -/
def flashViolated (s : Body) (who : FlashReader) (off : Nat) : Body :=
  (((s.put F.CF_XO_VIOL_ADDR off).inc F.CF_XO_VIOL_COUNT).raise U.flash F.CF_EVENTS_XO_VIOLATION off).send (.flashData who off 0)

section
variable {b : Body} {who : FlashReader} {off : Nat} (inside : off < 0x10000000)
include inside

theorem flashRead_cached {x : ILine} (held : b.icFind who off = some x) :
    b.flashRead who off = b.send (.flashData who off (x.data.getD (off / 8 % 8) 0)) := by
  unfold flashRead
  dsimp only
  rw [Nat.mod_eq_of_lt inside, held]

variable (missed : b.icFind who off = none)
include missed

theorem flashRead_busy (busy : b.bankProgramming (off / 0x8000000) = true) : b.flashRead who off = b := by
  unfold flashRead
  dsimp only
  rw [Nat.mod_eq_of_lt inside, missed]
  exact if_pos busy

theorem flashRead_idle (idle : b.cf.op = none) : b.flashRead who off =
    if readsData who && b.inXo off then b.flashViolated who off
    else if b.allOnes off then
      ((b.raise U.flash F.CF_EVENTS_SUSPENDED_SECTOR_READ off).icFill who off true).send (.flashData who off (BitVec.allOnes 64))
    else b.flashServed who off := by
  have free : b.bankProgramming (off / 0x8000000) = false := by
    unfold bankProgramming
    rw [idle]
  unfold flashRead
  dsimp only
  rw [Nat.mod_eq_of_lt inside, missed]
  dsimp only
  rw [free, if_neg Bool.false_ne_true, idle]
  cases who <;> rfl

end

theorem icFill_keeps (s : Body) (who : FlashReader) (off : Nat) (ones : Bool) : (s.icFill who off ones).cf.words = s.cf.words
    ∧ (s.icFill who off ones).cf.pre0 = s.cf.pre0 ∧ (s.icFill who off ones).cf.pre1 = s.cf.pre1 := by
  cases who <;> exact ⟨rfl, rfl, rfl⟩

theorem words_flashNoted (s : Body) (held brHit branch : Bool) (target : Nat) :
    (s.flashNoted held brHit branch target).cf.words = s.cf.words := by
  cases held <;> cases brHit <;> cases branch <;> rfl

theorem words_flashServed (s : Body) (who : FlashReader) (off : Nat) : (s.flashServed who off).cf.words = s.cf.words := by
  unfold flashServed
  exact (icFill_keeps _ who off false).1.trans (words_flashNoted ..)

theorem mem_out_flashServed (s : Body) (who : FlashReader) (off : Nat) :
    .flashData who off (s.flashWord (off / 8)) ∈ (s.flashServed who off).out := by
  unfold flashServed
  dsimp only
  rw [flashWord_of_words (words_flashNoted ..)]
  exact mem_out_send ..

theorem get_flashViolated (s : Body) (who : FlashReader) {off : Nat} (inside : off < 0x10000000) :
    (s.flashViolated who off).get F.CF_XO_VIOL_ADDR = off ∧ (s.flashViolated who off).flag F.CF_EVENTS_XO_VIOLATION = true := by
  refine ⟨?_, flag_put_one _ F.CF_EVENTS_XO_VIOLATION (by decide) (by decide)⟩
  show ((((s.put F.CF_XO_VIOL_ADDR off).inc F.CF_XO_VIOL_COUNT).put F.CF_EVENTS_XO_VIOLATION 1).get F.CF_XO_VIOL_ADDR) = off
  rw [get_put_ne _ _ _ _ (by decide), inc_eq, get_put_ne _ _ _ _ (by decide), get_put_same _ _ _ (by decide)]
  exact Nat.mod_eq_of_lt inside

/-- Settles O46. -/
theorem flashCommands : Obligations.FlashCommands := by
  have page (b : Body) (actor : Actor) (v : Nat) : (wrote b actor A.CF_CMD v).get F.CF_ADDR_PAGE = b.get F.CF_ADDR_PAGE :=
    get_wrote_ne b actor v _ (by decide)
  have len (b : Body) (actor : Actor) (v : Nat) : (wrote b actor A.CF_CMD v).get F.CF_HASH_LEN_SECTORS = b.get F.CF_HASH_LEN_SECTORS :=
    get_wrote_ne b actor v _ (by decide)
  have cf (b : Body) (actor : Actor) (v : Nat) : (wrote b actor A.CF_CMD v).cf = b.cf := judge_cf ..
  unfold Obligations.FlashCommands
  refine ⟨fun s actor => ⟨fun h taken => leadsAlone_command h ?program, fun h refused => leadsAlone_command h ?refused,
      fun h taken => leadsAlone_command h ?erase, fun h taken => leadsAlone_command h ?hash⟩,
    fun s o us active runs => ⟨fun kind whole => ⟨_, rfl, ?programOp, ?programState, fun n => flashWord_cfProgramDone runs kind whole us n⟩,
      fun kind resumed => leadsAlone_of_eq rfl (cfEraseDone_runs runs kind resumed us active) ⟨congrArg (·.op) (cf_cfEnd ..), state_cfEnd ..,
        fun n => (flashWord_cfEnd ..).trans (flashWord_sectorErased ..)⟩,
      fun kind => ⟨_, rfl, ?hashOp, ?hashWords, fun i hi => word_cfHashDone runs kind us hi⟩,
      fun kind susp cool => leadsAlone_of_eq rfl (cfResume_held runs kind susp cool) rfl,
      fun kind fresh => leadsAlone_of_eq rfl (cfStarved_first runs kind fresh) ⟨rfl, mem_evs_raise ..⟩⟩,
    fun s who off inside idle missed => ⟨fun data xo => ?violated, fun plain ones => ?ones, fun may written => ?served⟩,
    fun s who off inside => ⟨fun missed busy => leadsAlone_of_eq rfl (flashRead_busy inside missed busy) rfl,
      fun x held => leadsAlone_of_eq rfl (flashRead_cached inside held) rfl⟩⟩
  case program =>
    rw [cfCommand_taken taken, cf_cfTaken]
    exact ⟨⟨_, rfl, rfl, page .., rfl⟩, (words_cfPrepared ..).trans (congrArg (·.words) (cf ..)), state_cfTaken ..⟩
  case refused =>
    rw [cfCommand_refused refused, cf_cfRefused]
    exact ⟨cf .., mem_evs_raise ..⟩
  case erase =>
    rw [cfCommand_taken taken, cf_cfTaken]
    exact ⟨⟨_, rfl, rfl, page .., rfl⟩, (words_cfPrepared ..).trans (congrArg (·.words) (cf ..)), suspends_cfTaken _⟩
  case hash =>
    rw [cfCommand_taken taken, cf_cfTaken]
    exact ⟨⟨_, rfl, rfl, len ..⟩, (rack_cfTaken_hash _).trans (judge_rack ..), congrArg (·.pre0) (cf ..)⟩
  case programOp =>
    show (s.body.cfProgramDone us).cf.op = none
    rw [cfProgramDone_runs runs kind, cf_cfEnd]
  case programState =>
    show (s.body.cfProgramDone us).get F.CF_OP_STATUS_STATE = 2
    rw [cfProgramDone_runs runs kind]
    exact state_cfEnd ..
  case hashOp =>
    show (s.body.cfHashDone us).cf.op = none
    rw [cfHashDone_runs runs kind, cf_cfEnd]
  case hashWords =>
    show (s.body.cfHashDone us).cf.words = s.body.cf.words
    rw [cfHashDone_runs runs kind, cf_cfEnd, cf_hashShown]
  case violated =>
    have reads : readsData who = true := by
      cases who with
      | fetch k br => exact absurd rfl (data k br)
      | _ => rfl
    obtain ⟨addr, event⟩ := get_flashViolated s.body who inside
    exact leadsAlone_of_eq rfl ((flashRead_idle inside missed idle).trans (if_pos (by rw [reads, xo]; rfl))) ⟨mem_out_send .., addr, event⟩
  case ones =>
    refine leadsAlone_of_eq rfl ((flashRead_idle inside missed idle).trans ((if_neg (by rw [plain, Bool.and_false]; exact Bool.false_ne_true)).trans
      (if_pos ones))) ⟨mem_out_send .., ?_⟩
    exact icFill_keeps (s.body.raise U.flash F.CF_EVENTS_SUSPENDED_SECTOR_READ off) who off true
  case served =>
    have unviolated : (readsData who && s.body.inXo off) = false := by
      rcases may with plain | ⟨k, br, rfl⟩
      · rw [plain, Bool.and_false]
      · rfl
    refine leadsAlone_of_eq rfl ((flashRead_idle inside missed idle).trans ((if_neg (by rw [unviolated]; exact Bool.false_ne_true)).trans
      (if_neg (by rw [written]; exact Bool.false_ne_true)))) ⟨mem_out_flashServed .., words_flashServed ..⟩

end Body
end Sys2Proof.Machine

/-! The Spike (R400 to R406). -/

namespace Sys2Proof.Machine
namespace Body

open Sys2Proof.Stmt

/-! ## What flushes and records leave -/

/-- A step of the Spike that leaves the freeze, the side buffer and the SRAM ring. -/
structure SpkSame (a b : Body) : Prop where
  frozen : b.spk.frozen = a.spk.frozen
  side : b.spk.side = a.spk.side
  missed : b.spk.missed = a.spk.missed
  sram : b.spk.sram = a.spk.sram

namespace SpkSame
variable {a b c : Body}

theorem refl : SpkSame a a := ⟨rfl, rfl, rfl, rfl⟩
theorem trans (h : SpkSame a b) (k : SpkSame b c) : SpkSame a c :=
  ⟨k.frozen.trans h.frozen, k.side.trans h.side, k.missed.trans h.missed, k.sram.trans h.sram⟩
/-- A change of other units. -/
theorem of_spk (h : SpkSame a b) (spk : c.spk = b.spk) : SpkSame a c := by
  refine h.trans ?_
  constructor <;> rw [spk]
theorem ite (t : Prop) [Decidable t] (h : SpkSame a b) (k : SpkSame a c) : SpkSame a (if t then b else c) := by
  split
  · exact h
  · exact k
theorem when (h : SpkSame a b) (t : Bool) (f : Body → Body) (hf : SpkSame a (f b)) : SpkSame a (b.when t f) := by
  cases t
  · exact h
  · exact hf

end SpkSame

/-- A flush changes what is being flushed and the Rack's queue alone. -/
theorem spkFlush_eq (s : Body) (pf : Bool) : ∃ left p again k, s.spkFlush pf
    = { s with spk := { s.spk with flushing := left, pfFlush := p, flushReq := again }, rack := k } := by
  unfold spkFlush
  dsimp only
  split
  · exact ⟨_, _, _, _, rfl⟩
  · split
    · exact ⟨_, _, _, _, rfl⟩
    · split
      · exact ⟨_, _, _, s.rack, rfl⟩
      · exact ⟨_, _, _, _, rfl⟩

theorem spkFlush_same (s : Body) (pf : Bool) : SpkSame s (s.spkFlush pf) := by
  obtain ⟨left, p, again, k, e⟩ := spkFlush_eq s pf
  rw [e]
  exact ⟨rfl, rfl, rfl, rfl⟩

theorem evs_spkFlush (s : Body) (pf : Bool) : (s.spkFlush pf).evs = s.evs := by
  obtain ⟨left, p, again, k, e⟩ := spkFlush_eq s pf
  rw [e]

theorem get_spkFlush (s : Body) (pf : Bool) (f : Fld) : (s.spkFlush pf).get f = s.get f := by
  obtain ⟨left, p, again, k, e⟩ := spkFlush_eq s pf
  rw [e]
  rfl

/-- A flush that a freeze or another flush defers. -/
theorem spkFlush_deferred {s : Body} (h : s.spk.frozen = true ∨ s.spk.flushing ≠ none) :
    s.spkFlush false = { s with spk := { s.spk with flushReq := true } } := by
  unfold spkFlush
  cases frozen : s.spk.frozen with
  | true => rfl
  | false =>
    rcases h with h | h
    · exact absurd (frozen.symm.trans h) Bool.false_ne_true
    · cases flushing : s.spk.flushing with
      | none => exact absurd flushing h
      | some left => rfl

/-- A flush that nothing defers takes every unflushed record. -/
theorem flushing_spkFlush {s : Body} (frozen : s.spk.frozen = false) (idle : s.spk.flushing = none) :
    (s.spkFlush false).spk.flushing = some s.spk.unfl := by
  unfold spkFlush
  rw [frozen, idle]
  dsimp only
  rw [Bool.false_and, if_neg Bool.false_ne_true]
  split <;> rfl

theorem flushing_ne_none {s : Body} (frozen : s.spk.frozen = false) : (s.spkFlush false).spk.flushing ≠ none := by
  by_cases idle : s.spk.flushing = none
  · rw [flushing_spkFlush frozen idle]
    exact nofun
  · rw [spkFlush_deferred (.inr idle)]
    exact idle

/-! ## A record enters (R401) -/

/-- The ring with a record as its newest. -/
def spkPushed (s : Body) (r : SpkRec) : Body :=
  { s with spk := { s.spk with sram := r :: s.spk.sram.take 16383, unfl := min (s.spk.unfl + 1) 16384 } }

theorem spkEnter_same (s : Body) (r : SpkRec) : SpkSame (s.spkPushed r) (s.spkEnter r) := by
  have counted : SpkSame (s.spkPushed r) ((s.spkPushed r).inc F.SPK_COUNT_RECORDED) := SpkSame.refl.of_spk rfl
  have dropped (t : Body) (seq : Nat) (h : SpkSame (s.spkPushed r) t) : SpkSame (s.spkPushed r) (t.spkDropped seq) := h.trans ⟨rfl, rfl, rfl, rfl⟩
  have replaced (o : Option SpkRec) (full : Bool) : SpkSame (s.spkPushed r) (match o with
      | some o => if full && !((s.spkPushed r).inc F.SPK_COUNT_RECORDED).inRackArea o.seq then
          ((s.spkPushed r).inc F.SPK_COUNT_RECORDED).spkDropped o.seq else (s.spkPushed r).inc F.SPK_COUNT_RECORDED
      | none => (s.spkPushed r).inc F.SPK_COUNT_RECORDED) := by
    cases o with
    | none => exact counted
    | some o => exact .ite _ (dropped _ _ counted) counted
  have told (t : Body) (h : SpkSame (s.spkPushed r) t) (c : Prop) [Decidable c] : SpkSame (s.spkPushed r)
      (if c then (t.incSat F.SPK_COUNT_OVERWRITTEN).when (!t.flag F.SPK_EVENTS_OVERWRITE) (·.raise U.spike F.SPK_EVENTS_OVERWRITE) else t) := by
    have lost : SpkSame (s.spkPushed r) (t.incSat F.SPK_COUNT_OVERWRITTEN) := h.of_spk rfl
    exact .ite _ (lost.when _ _ (lost.of_spk rfl)) h
  unfold spkEnter
  exact .ite _ ((told _ (replaced _ _) _).trans (spkFlush_same _ _)) (told _ (replaced _ _) _)

/-- What a record that enters leaves of a freeze. -/
theorem spkEnter_keeps (s : Body) (r : SpkRec) : (s.spkEnter r).spk.frozen = s.spk.frozen ∧ (s.spkEnter r).spk.side = s.spk.side
    ∧ (s.spkEnter r).spk.missed = s.spk.missed :=
  have same := spkEnter_same s r
  ⟨same.frozen, same.side, same.missed⟩

/-! ## The end of a freeze (R404) -/

/-- A freeze ends, before its record is made: the side buffer enters the ring, then the record that ended it. -/
def spkThawing (s : Body) (ender : Option SpkRec) : Body :=
  let side := s.spk.side.map fun r => { r with side := true }
  let s : Body := { s with spk := { s.spk with frozen := false, side := [], missed := 0, sideFull := 0, flushReq := false } }
  let s := (s.forEach side spkEnter).put F.SPK_CTL_FREEZE 0
  match ender with
  | some r => s.spkEnter r
  | none => s

theorem spkThaw_eq (s : Body) (ender : Option SpkRec) : s.spkThaw ender = (((s.spkThawing ender).post U.spike (.named .freezeEndRecord)
    (s.spk.missed + s.spk.sideFull * 2 ^ 32)).raise U.spike F.SPK_EVENTS_FREEZE_END).when s.spk.flushReq (·.spkFlush false) := rfl

/-- No freeze, nothing aside, nothing missed. -/
abbrev Thawed (s : Body) : Prop := s.spk.frozen = false ∧ s.spk.side = [] ∧ s.spk.missed = 0

theorem Thawed.enter {s : Body} (h : Thawed s) (r : SpkRec) : Thawed (s.spkEnter r) := by
  obtain ⟨frozen, side, missed⟩ := spkEnter_keeps s r
  unfold Thawed
  rw [frozen, side, missed]
  exact h

theorem thawed_spkThawing (s : Body) (ender : Option SpkRec) : Thawed (s.spkThawing ender) := by
  have entered (l : List SpkRec) : Thawed ((({ s with spk := { s.spk with frozen := false, side := [], missed := 0, sideFull := 0, flushReq := false } }
      : Body).forEach l spkEnter)) := forEach_induct (P := Thawed) l ⟨rfl, rfl, rfl⟩ fun _ r _ h => h.enter r
  unfold spkThawing
  dsimp only
  cases ender with
  | none => exact entered _
  | some r => exact Thawed.enter (s := put _ F.SPK_CTL_FREEZE 0) (entered _) r

theorem spkThaw_keeps (s : Body) (ender : Option SpkRec) : Thawed (s.spkThaw ender)
    ∧ ⟨U.spike, .named .freezeEndRecord, s.spk.missed + s.spk.sideFull * 2 ^ 32⟩ ∈ (s.spkThaw ender).evs := by
  have thawed := thawed_spkThawing s ender
  rw [spkThaw_eq]
  cases s.spk.flushReq with
  | false => exact ⟨thawed, List.mem_append_left _ (mem_evs_post ..)⟩
  | true =>
    have same := spkFlush_same (((s.spkThawing ender).post U.spike (.named .freezeEndRecord) (s.spk.missed + s.spk.sideFull * 2 ^ 32)).raise U.spike
      F.SPK_EVENTS_FREEZE_END) false
    refine ⟨⟨same.frozen.trans thawed.1, same.side.trans thawed.2.1, same.missed.trans thawed.2.2⟩, ?_⟩
    rw [when_true, evs_spkFlush]
    exact List.mem_append_left _ (mem_evs_post ..)

theorem freeze_spkThaw (s : Body) : (s.spkThaw none).get F.SPK_CTL_FREEZE = 0 := by
  have told (t : Body) (again : Bool) (n : Nat) : ((((t.put F.SPK_CTL_FREEZE 0).post U.spike (.named .freezeEndRecord) n).raise U.spike
      F.SPK_EVENTS_FREEZE_END).when again (·.spkFlush false)).get F.SPK_CTL_FREEZE = 0 := by
    have ended : (((t.put F.SPK_CTL_FREEZE 0).post U.spike (.named .freezeEndRecord) n).raise U.spike F.SPK_EVENTS_FREEZE_END).get F.SPK_CTL_FREEZE
        = 0 := by
      rw [get_raise, get_put_ne _ _ _ _ (by decide)]
      exact (get_put_same t F.SPK_CTL_FREEZE 0 (by decide)).trans rfl
    cases again with
    | false => exact ended
    | true =>
      rw [when_true, get_spkFlush]
      exact ended
  exact told _ _ _

/-! ## The Spike takes a record (R400, R404) -/

section
variable {b : Body} {r : SpkRec}

theorem spkTake_open (frozen : b.spk.frozen = false) : b.spkTake r = (b.spkEnter r).when r.fatal (·.spkFlush false) := by
  simp [spkTake, frozen]

theorem sram_spkTake (frozen : b.spk.frozen = false) : (b.spkTake r).spk.sram = r :: b.spk.sram.take 16383 := by
  rw [spkTake_open frozen]
  refine Eq.trans ?_ (spkEnter_same b r).sram
  cases r.fatal with
  | false => rfl
  | true => exact (spkFlush_same (b.spkEnter r) false).sram

variable (frozen : b.spk.frozen = true) (fatal : r.fatal = true)
include frozen fatal

theorem spkTake_aside (room : b.spk.side.length < 64) : b.spkTake r = { b with spk := { b.spk with side := b.spk.side ++ [r] } } := by
  simp [spkTake, frozen, fatal, room]

theorem spkTake_full (full : 64 ≤ b.spk.side.length) : (b.spkTake r).spk.frozen = false := by
  have step : b.spkTake r = ((({ b with spk := { b.spk with sideFull := b.spk.sideFull + 1 } } : Body).raise U.spike
      F.SPK_EVENTS_SIDE_FULL).spkThaw (some r)).spkFlush false := by
    unfold spkTake
    rw [frozen, fatal, if_pos rfl, if_neg (by decide), if_neg (Nat.not_lt.2 full)]
  rw [step]
  exact (spkFlush_same _ _).frozen.trans (spkThaw_keeps _ _).1.1

end

/-! ## Reading windows (R402, R403) -/

theorem spkShown_wrote (s : Body) (actor : Actor) (a v w : Nat) : (wrote s actor a v).spkShown w = s.spkShown w := by
  have spk : (wrote s actor a v).spk = s.spk := judge_spk ..
  have rack : (wrote s actor a v).rack = s.rack := judge_rack ..
  unfold spkShown spkHeld spkGood
  rw [spk, rack]

/-- What a window whose cursor is set keeps. -/
theorem spkSetCursor_window (s : Body) (w c : Nat) : mgetD (s.spkSetCursor w c).spk.wins w {} = ⟨c, c != 0 && c < s.spk.overTo⟩
    ∧ (s.spkSetCursor w c).spk.sram = s.spk.sram := by
  unfold spkSetCursor
  dsimp only
  cases decide (w < 2) <;> exact ⟨mgetD_mset_same .., rfl⟩

theorem get_spkSetCursor (s : Body) {w : Nat} (own : w < 2) {q : Nat} (hq : q < 2 ^ 64) :
    (s.spkSetCursor w q).get (F.SPK_W_CURSOR_SEQ w) = q := by
  unfold spkSetCursor
  dsimp only
  rw [decide_eq_true own, when_true, get_put_same _ _ _ (by simp [F.SPK_W_CURSOR_SEQ])]
  exact Nat.mod_eq_of_lt hq

theorem spkStep_shown {s : Body} {w : Nat} {r : SpkRec} (h : s.spkShown w = some r) : s.spkStep w = s.spkSetCursor w (r.seq + 1) := by
  unfold spkStep
  rw [h]

/-! ## Freezes and clears (R404 to R406) -/

theorem spkFreeze_spk {s : Body} (frozen : s.spk.frozen = false) :
    (s.spk.clearing = none → s.spkFreeze.spk = { s.spk with frozen := true })
    ∧ (s.spk.clearing ≠ none → s.spkFreeze.spk = { s.spk with frzReq := true }) := by
  unfold spkFreeze
  rw [frozen, if_neg Bool.false_ne_true]
  refine ⟨fun idle => ?_, fun clears => ?_⟩
  · rw [idle]
    rfl
  · rw [if_pos (Option.isSome_iff_ne_none.2 clears)]

theorem spkUnfreeze_frozen {s : Body} (frozen : s.spk.frozen = true) : s.spkUnfreeze = s.spkThaw none := by
  unfold spkUnfreeze
  rw [frozen]
  rfl

theorem freshWords_succ (s : Body) (a n : Nat) : s.freshWords a (n + 1)
    = ((s.freshWords a n).setWord (a + 8 * n) (Config.freeWord (s.freshWords a n).freeCtr)).fresh := by
  unfold freshWords forEach
  rw [List.range_succ, List.foldl_append, List.foldl_cons, List.foldl_nil]

theorem freeCtr_freshWords (s : Body) (a n : Nat) : (s.freshWords a n).freeCtr = s.freeCtr + n := by
  induction n with
  | zero => rfl
  | succ n ih =>
    rw [freshWords_succ, fresh]
    exact congrArg (· + 1) ih

/-- Fresh words use up a number each. -/
theorem word_freshWords (s : Body) (a n i : Nat) (hi : i < n) : (s.freshWords a n).word (a + 8 * i) = Config.freeWord (s.freeCtr + i) := by
  induction n with
  | zero => omega
  | succ n ih =>
    have kept (t : Body) (k : Nat) : t.fresh.word k = t.word k := rfl
    rw [freshWords_succ, kept, freeCtr_freshWords]
    by_cases last : i = n
    · rw [last, word_setWord]
    · rw [word_setWord_ne _ _ _ _ (by omega)]
      exact ih (by omega)

section
variable {b : Body} {root : Option Nat} {sigOk : Bool}

theorem clearSubmit_accepted (h : b.clearCode root sigOk = 0) : b.clearSubmit root sigOk
    = (({ b with spk := { b.spk with chUsed := true, clearing := some (b.get F.SPK_CLR_UPTO_SEQ, root.getD 0) } } : Body).put
      F.SPK_CLR_STATUS_STATE 1).put F.SPK_CLR_STATUS_RESULT 0 := by
  have accepted : ¬(b.clearCode root sigOk != 0) = true := by simp [h]
  exact if_neg accepted

theorem clearSubmit_refused (h : b.clearCode root sigOk ≠ 0) : b.clearSubmit root sigOk = b.clearRefuse (b.clearCode root sigOk) := by
  have refused : (b.clearCode root sigOk != 0) = true := by simp [h]
  exact if_pos refused

end

theorem spk_clearRefuse (s : Body) (code : Nat) : (s.clearRefuse code).spk = { s.spk with chUsed := true } := by
  unfold clearRefuse
  cases code != 6 <;> rfl

theorem state_clearRefuse (s : Body) (code : Nat) : (s.clearRefuse code).get F.SPK_CLR_STATUS_STATE = 3 := by
  have counted (t : Body) (c : Bool) : (t.when c (·.inc F.SPK_CLR_STATUS_FAILS)).get F.SPK_CLR_STATUS_STATE = t.get F.SPK_CLR_STATUS_STATE := by
    cases c
    · rfl
    · exact get_put_ne _ _ _ _ (by decide)
  unfold clearRefuse
  dsimp only
  rw [get_raise, get_put_ne _ _ _ _ (by decide), counted, get_put_ne _ _ _ _ (by decide), get_put_same _ _ _ (by decide)]
  rfl

/-- The Spike without the records that a clear takes away. -/
def spkCleared (s : Body) (upTo : Nat) : SpkSt :=
  { s.spk with
    sram := s.spk.sram.filter fun r => r.seq > upTo
    unfl := ((s.spk.sram.take s.spk.unfl).filter fun r => r.seq > upTo).length
    rack := s.spk.rack.filter fun p => p.2.seq > upTo
    flushing := s.spk.flushing.map (min ((s.spk.sram.take s.spk.unfl).filter fun r => r.seq > upTo).length)
    clearing := none, frzReq := false }

theorem clearDone_unfrozen {s : Body} {upTo root : Nat} (clears : s.spk.clearing = some (upTo, root)) (unfrozen : s.spk.frzReq = false) :
    s.clearDone = (((({ s with spk := s.spkCleared upTo } : Body).put F.SPK_CLR_STATUS_REMOVED
      (s.spkHeld.filter fun r => !(decide (r.seq > upTo))).length).put F.SPK_CLR_STATUS_STATE 2).post U.spike (.named .clearedRecord)
      (upTo + root * 2 ^ 64)).raise U.spike F.SPK_EVENTS_CLEARED := by
  unfold clearDone
  rw [clears]
  dsimp only
  rw [unfrozen]
  rfl

/-- Settles O48. -/
theorem spikeCommands : Obligations.SpikeCommands := by
  have spk (b : Body) (actor : Actor) (a v : Nat) : (wrote b actor a v).spk = b.spk := judge_spk ..
  unfold Obligations.SpikeCommands
  refine ⟨⟨fun s actor h => leadsAlone_command h ⟨?deferred, fun frozen idle => ?flushes⟩,
      fun s actor asked frozen => ?freeze, fun s actor asked frozen => ?unfreeze, fun s frozen => ?freezeMax,
      fun s p l r own shown => ?hostStep,
      fun s w actor r who => ⟨fun h shown => ?step, fun q hq may => ?cursor⟩,
      fun s actor h => leadsAlone_command h ?challenge,
      fun s actor root sigOk h => ⟨fun accepted => leadsAlone_command h ?accepted, fun refused => leadsAlone_command h ?refused⟩,
      fun s upTo root clears unfrozen => leadsAlone_of_eq rfl (clearDone_unfrozen clears unfrozen) ⟨rfl, fun r => ?sram, fun p => ?rack, ?cleared⟩⟩,
    fun b r => ⟨fun frozen => ⟨b.spk.sram.take 16383, sram_spkTake frozen, List.take_prefix _ _, ?short⟩, fun frozen fatal => ?fatal,
      fun frozen plain => ?missed, fun frozen fatal room => spkTake_aside frozen fatal room,
      fun frozen fatal full => spkTake_full frozen fatal full⟩⟩
  case deferred =>
    intro busy
    rw [spkFlush_deferred (by rw [spk]; exact busy)]
    exact ⟨rfl, congrArg (·.flushing) (spk ..)⟩
  case flushes =>
    rw [flushing_spkFlush (by rw [spk]; exact frozen) (by rw [spk]; exact idle), spk]
  case freeze =>
    have same := spk s.body actor A.SPK_CTL 1
    obtain ⟨idle, clears⟩ := spkFreeze_spk ((congrArg (·.frozen) same).trans frozen)
    rw [same] at idle clears
    exact leadsAlone_of_eq rfl (when_pos asked) ⟨idle, clears⟩
  case unfreeze =>
    have same := spk s.body actor A.SPK_CTL 0
    have asked' : (!(wrote s.body actor A.SPK_CTL 0).flag F.SPK_CTL_FREEZE) = true := by rw [asked]; rfl
    obtain ⟨⟨thawed, side, missed⟩, told⟩ := spkThaw_keeps (wrote s.body actor A.SPK_CTL 0) none
    rw [same] at told
    exact leadsAlone_of_eq rfl ((when_pos asked').trans (spkUnfreeze_frozen ((congrArg (·.frozen) same).trans frozen)))
      ⟨thawed, side, missed, told⟩
  case freezeMax =>
    obtain ⟨⟨thawed, side, missed⟩, told⟩ := spkThaw_keeps s.body none
    exact leadsAlone_of_eq rfl (when_pos frozen) ⟨thawed, side, freeze_spkThaw s.body, told⟩
  case hostStep =>
    obtain ⟨window, sram⟩ := spkSetCursor_window s.body (2 + 16 * p + l) (r.seq + 1)
    exact leadsAlone_of_eq rfl ((if_pos own).trans (spkStep_shown shown)) ⟨congrArg (·.cursor) window, sram⟩
  case step =>
    have shown' : (wrote s.body actor (A.SPK_W_STEP w) 1).spkShown w = some r := (spkShown_wrote ..).trans shown
    have made := (congrArg (fun t : Body => mgetD t.spk.wins w {}) (spkStep_shown shown')).trans (spkSetCursor_window _ w (r.seq + 1)).1
    rcases who with ⟨rfl, rfl⟩ | ⟨rfl, rfl⟩
    · exact leadsAlone_command (act := (·.spkStep 0)) h (congrArg (·.cursor) made)
    · exact leadsAlone_command (act := (·.spkStep 1)) h (congrArg (·.cursor) made)
  case cursor =>
    have window := (spkSetCursor_window (wrote s.body actor (A.SPK_W_CURSOR w) q) w q).1
    rw [spk] at window
    have own : w < 2 := by rcases who with ⟨rfl, -⟩ | ⟨rfl, -⟩ <;> decide
    have shown := get_spkSetCursor (wrote s.body actor (A.SPK_W_CURSOR w) q) own hq
    have whole : q % 2 ^ 64 = q := Nat.mod_eq_of_lt hq
    rcases who with ⟨rfl, rfl⟩ | ⟨rfl, rfl⟩
    · refine leadsAlone_select (act := (·.spkSetCursor 0 (q % 2 ^ 64))) may ?_
      rw [whole]
      exact ⟨congrArg (·.cursor) window, shown, congrArg (·.lost) window⟩
    · refine leadsAlone_select (act := (·.spkSetCursor 1 (q % 2 ^ 64))) may ?_
      rw [whole]
      exact ⟨congrArg (·.cursor) window, shown, congrArg (·.lost) window⟩
  case challenge =>
    refine ⟨congrArg (fun x : SpkSt => { x with chUsed := false }) (spk ..), fun i hi => ?_⟩
    have count : (wrote s.body actor A.SPK_CLR_CTL 1).freeCtr = s.body.freeCtr := judge_freeCtr ..
    rw [← count]
    exact word_freshWords (wrote s.body actor A.SPK_CLR_CTL 1) (A.SPK_CLR_CHALLENGE 0) 4 i hi
  case accepted =>
    have upTo : (wrote s.body actor A.SPK_CLR_CTL 2).get F.SPK_CLR_UPTO_SEQ = s.body.get F.SPK_CLR_UPTO_SEQ := get_wrote_ne _ _ _ _ (by decide)
    rw [clearSubmit_accepted accepted, upTo]
    refine ⟨rfl, rfl, congrArg (·.sram) (spk ..), ?_⟩
    rw [get_put_ne _ _ _ _ (by decide), get_put_same _ _ _ (by decide)]
    rfl
  case refused =>
    rw [clearSubmit_refused refused, spk_clearRefuse, spk]
    exact ⟨rfl, state_clearRefuse .., flag_put_one _ F.SPK_EVENTS_CLEAR_REFUSED (by decide) (by decide)⟩
  case sram => exact List.mem_filter.trans (and_congr_right fun _ => decide_eq_true_iff)
  case rack => exact List.mem_filter.trans (and_congr_right fun _ => decide_eq_true_iff)
  case cleared => exact List.mem_append_left _ (mem_evs_post ..)
  case short =>
    rw [sram_spkTake frozen, List.length_cons, List.length_take]
    omega
  case fatal =>
    rw [spkTake_open frozen, fatal]
    exact flushing_ne_none ((spkEnter_keeps b r).1.trans frozen)
  case missed => simp [spkTake, frozen, plain]

end Body
end Sys2Proof.Machine

/-! The rails (R409 to R421). -/

namespace Sys2Proof.Machine
namespace Body

open Sys2Proof.Stmt

/-! ## Bits of a mask -/

theorem nbit_eq_testBit (n i : Nat) : nbit n i = n.testBit i := by
  rw [nbit, Nat.testBit_eq_decide_div_mod_eq]
  exact Bool.eq_iff_iff.2 (beq_iff_eq.trans decide_eq_true_iff.symm)

theorem nbit_putBit (s : Body) (f : Fld) (i : Nat) (t : Bool) (hw : f.lo + f.w ≤ 64) (hi : i < f.w) : nbit ((s.putBit f i t).get f) i = t := by
  unfold putBit
  dsimp only
  rw [get_put_same _ _ _ hw, nbit_eq_testBit, Nat.testBit_mod_two_pow, decide_eq_true hi, Bool.true_and]
  cases t with
  | true => rw [if_pos rfl, Nat.testBit_or, Nat.testBit_two_pow_self, Bool.or_true]
  | false =>
    rw [if_neg Bool.false_ne_true, Nat.testBit_and, Nat.sub_sub, Nat.add_comm 1,
      Nat.testBit_two_pow_sub_succ (Nat.pow_lt_pow_right (by decide) hi), Nat.testBit_two_pow_self]
    simp

theorem get_putBit_ne (s : Body) (f g : Fld) (i : Nat) (t : Bool) (h : f.apart g = true) : (s.putBit f i t).get g = s.get g :=
  get_put_ne s f g _ h

/-! ## States -/

theorem railState_of_code {b : Body} {r : Nat} {st : RailState} (h : b.get (F.HOB_RAIL_STATE_STATE r) = railCode st) : b.railState r = st := by
  unfold railState
  rw [h]
  cases st <;> rfl

theorem railCode_mod (r : Nat) (st : RailState) : railCode st % 2 ^ (F.HOB_RAIL_STATE_STATE r).w = railCode st := by cases st <;> rfl

theorem get_setRailState_same (s : Body) (r : Nat) (st : RailState) :
    (s.setRailState r st).get (F.HOB_RAIL_STATE_STATE r) = railCode st :=
  (get_put_same _ (F.HOB_RAIL_STATE_STATE r) _ (by show 0 + 3 ≤ 64; decide)).trans (railCode_mod r st)

theorem railState_setRailState_same (s : Body) (r : Nat) (st : RailState) : (s.setRailState r st).railState r = st :=
  railState_of_code (get_setRailState_same s r st)

/-- A rail is in the state that its field shows. -/
theorem railState_eq_of_get {a b : Body} {r : Nat} (h : b.get (F.HOB_RAIL_STATE_STATE r) = a.get (F.HOB_RAIL_STATE_STATE r)) :
    b.railState r = a.railState r := by
  unfold railState
  rw [h]

theorem get_setRailState_ne (s : Body) (r : Nat) (st : RailState) (f : Fld) (h : (F.HOB_RAIL_STATE_STATE r).apart f = true) :
    (s.setRailState r st).get f = s.get f := get_put_ne s _ f _ h

/-- A field of another register. -/
theorem apart_of_addr {f g : Fld} (h : f.addr ≠ g.addr) : f.apart g = true := by
  simp only [Fld.apart, Bool.or_eq_true, decide_eq_true_eq]
  exact .inl h.symm

theorem get_setRail (s : Body) (r : Nat) (x : Rail) (f : Fld) : (s.setRail r x).get f = s.get f := rfl

theorem apart_railState {r x : Nat} (ne : x ≠ r) : (F.HOB_RAIL_STATE_STATE r).apart (F.HOB_RAIL_STATE_STATE x) = true :=
  apart_of_addr (by simp only [F.HOB_RAIL_STATE_STATE]; omega)

/-! ## Calm operations: they leave the rails, the Hob's state and its step -/

/-- The states of the units and the fences, events and log of the Hob. -/
abbrev Noted (k : Nat) : Prop := k < 0x2000 ∨ (0x160020 ≤ k ∧ k < 0x160040)

/-- What a fence, an event or an entry of the log leaves. -/
structure Calm (a b : Body) : Prop where
  get : ∀ f : Fld, ¬ Noted f.addr → b.get f = a.get f
  table : b.hob.table = a.hob.table
  step : b.hob.step = a.hob.step
  evs : ∀ e ∈ a.evs, e ∈ b.evs

namespace Calm
variable {a b c : Body}

theorem refl : Calm a a := ⟨fun _ _ => rfl, rfl, rfl, fun _ h => h⟩
theorem trans (h : Calm a b) (k : Calm b c) : Calm a c :=
  ⟨fun f hf => (k.get f hf).trans (h.get f hf), k.table.trans h.table, k.step.trans h.step, fun e he => k.evs e (h.evs e he)⟩
theorem put (h : Calm a b) (f : Fld) (v : Nat) (own : Noted f.addr) : Calm a (b.put f v) :=
  h.trans ⟨fun _ hg => get_put_ne _ _ _ _ (apart_of_addr fun e => hg (e ▸ own)), rfl, rfl, fun _ he => he⟩
theorem post (h : Calm a b) (u : Nat) (e : Event) (n : Nat) : Calm a (b.post u e n) :=
  h.trans ⟨fun _ _ => rfl, rfl, rfl, fun _ he => List.mem_append_left _ he⟩
theorem raise (h : Calm a b) (u : Nat) (f : Fld) (n : Nat) (own : Noted f.addr) : Calm a (b.raise u f n) := (h.put f 1 own).post u (.bit f) n
/-- A change that shows in none of these. -/
theorem unseen (h : Calm a b) (regs : c.regs = b.regs := by rfl) (table : c.hob.table = b.hob.table := by rfl)
    (step : c.hob.step = b.hob.step := by rfl) (evs : c.evs = b.evs := by rfl) : Calm a c :=
  h.trans ⟨fun f _ => congrArg f.ofWord (word_of_regs regs f.addr), table, step, fun _ he => evs ▸ he⟩
theorem ite (t : Prop) [Decidable t] (h : Calm a b) (k : Calm a c) : Calm a (if t then b else c) := by
  split
  · exact h
  · exact k
theorem when (h : Calm a b) (t : Bool) (f : Body → Body) (hf : Calm a (f b)) : Calm a (b.when t f) := by
  cases t
  · exact h
  · exact hf

theorem rackPut (h : Calm a b) (o : RackOrder) (w : RackWhat) : Calm a (b.rackPut o w) := h.unseen
theorem send (h : Calm a b) (o : Out) : Calm a (b.send o) := h.unseen
theorem logged (h : Calm a b) (l : List HobLog) : Calm a { b with hob := { b.hob with log := l } } := h.unseen

theorem setRail (h : Calm a b) (r : Nat) (x : Rail) : Calm a (b.setRail r x) := h.unseen

theorem hobLog (h : Calm a b) (r ev det us : Nat) : Calm a (b.hobLog r ev det us) := by
  unfold Body.hobLog
  exact (((h.logged _).put F.HOB_LOG_NEXT _ (by decide)).put F.HOB_LOG_WRITTEN _ (by decide)).rackPut _ _

theorem fenceRegs (h : Calm a b) : Calm a b.fenceRegs := (h.put F.HOB_FENCE_0_UNITS _ (by decide)).put F.HOB_FENCE_1_UNITS _ (by decide)

theorem unfence (h : Calm a b) (r : Nat) : Calm a (b.unfence r) := Calm.fenceRegs h.unseen

section
variable {u : Nat} (hu : u < 88)
include hu

/-- The registers of a unit's state are among those noted. -/
theorem unit_noted : Noted (0x1000 + 8 * u) := .inl (by omega)

theorem unitStop (h : Calm a b) : Calm a (b.unitStop u) :=
  ((h.put (F.UNIT_STATE_STATE u) _ (unit_noted hu)).post u (.named .unitEntry) _).unseen

theorem unitFault (h : Calm a b) : Calm a (b.unitFault u) := by
  unfold Body.unitFault
  exact .ite _ h (.unitStop hu (h.put (F.UNIT_STATE_FAULT_STOP u) 1 (unit_noted hu)))

theorem unitFail (h : Calm a b) : Calm a (b.unitFail u) := by
  unfold Body.unitFail
  have failed := h.put (F.UNIT_STATE_START_FAILED u) 1 (unit_noted hu)
  have none_ : Calm a ((b.put (F.UNIT_STATE_START_FAILED u) 1).unitPend u none) :=
    (failed.put (F.UNIT_STATE_PENDING u) 0 (unit_noted hu)).put (F.UNIT_STATE_PENDING_ENABLE u) 0 (unit_noted hu)
  exact .ite _ h (.unitStop hu none_)

end

theorem fence (h : Calm a b) (r : Nat) : Calm a (b.fence r) := by
  unfold Body.fence
  split
  · exact h
  · rename_i d _
    have fenced : Calm a (b.setRail r { b.rail r with fences := unitsOf d.fence }).fenceRegs := Calm.fenceRegs h.unseen
    refine forEach_induct (P := Calm a) _ (fenced.when _ _ (fenced.raise U.hob F.HOB_EVENTS_FENCED 0 (by decide))) fun t u hu ht => ?_
    have unit : u < 88 := List.mem_range.1 (List.mem_filter.1 hu).1
    exact .unitFail unit (.unitFault unit ht)

theorem rstRail (h : Calm a b) (r : Nat) : Calm a (b.rstRail r) := by
  refine forEach_induct (P := Calm a) _ h fun t n _ ht => ?_
  have cleared : Calm a { t with hob := { t.hob with outs := t.hob.outs.filter (· != n) } } := ht.unseen
  exact cleared.when _ (·.send (.resetOut n true)) (cleared.send _)

theorem incCounter (h : Calm a b) (k : Nat) : Calm a (b.incCounter k) := by
  unfold Body.incCounter
  exact .ite _ h h.unseen

theorem railState (h : Calm a b) (x : Nat) : b.railState x = a.railState x :=
  railState_eq_of_get (h.get _ (by simp only [Noted, F.HOB_RAIL_STATE_STATE]; omega))

end Calm

/-! ## The Hob's steps on the way up -/

theorem get_setHob_ne (s : Body) (st : HobState) (f : Fld) (state : F.HOB_STATUS_STATE.apart f = true) (noted : ¬ Noted f.addr) :
    (s.setHob st).get f = s.get f :=
  ((Calm.refl.post U.hob (.named .hobState) _).hobLog 0xFF 7 (hobCode st) 0 |>.get f noted).trans (get_put_ne _ _ _ _ state)

theorem mem_evs_setHob {s : Body} {e : PassEvent} (st : HobState) (h : e ∈ s.evs) : e ∈ (s.setHob st).evs :=
  ((Calm.refl.post U.hob (.named .hobState) _).hobLog 0xFF 7 (hobCode st) 0).evs e h

theorem stepEnd_next {s : Body} {d : RailDef} (steady : s.flag F.HOB_STATUS_PENDING_OFF = false)
    (next : s.hob.table[s.hob.step + 1]? = some d) :
    s.stepEnd = (({ s with hob := { s.hob with step := s.hob.step + 1 } }).put F.HOB_STATUS_STEP (s.hob.step + 1)).setRailState d.rail .minOff := by
  unfold stepEnd
  dsimp only
  rw [steady, if_neg Bool.false_ne_true, next]

theorem stepEnd_last {s : Body} (steady : s.flag F.HOB_STATUS_PENDING_OFF = false) (last : s.hob.table[s.hob.step + 1]? = none) :
    s.stepEnd = (s.setHob .up).raise U.hob F.HOB_EVENTS_UP_DONE := by
  unfold stepEnd
  dsimp only
  rw [steady, if_neg Bool.false_ne_true, last]

/-- The next rail of the table waits for its turn, and every other stays as it is. -/
theorem stepEnd_next_shown {s : Body} {d : RailDef} (steady : s.flag F.HOB_STATUS_PENDING_OFF = false)
    (next : s.hob.table[s.hob.step + 1]? = some d) :
    s.stepEnd.railState d.rail = .minOff ∧ s.stepEnd.hob.step = s.hob.step + 1
      ∧ ∀ f : Fld, f.addr ≠ A.HOB_STATUS → (F.HOB_RAIL_STATE_STATE d.rail).apart f = true → s.stepEnd.get f = s.get f := by
  rw [stepEnd_next steady next]
  refine ⟨railState_setRailState_same .., rfl, fun f status state => ?_⟩
  rw [get_setRailState_ne _ _ _ _ state, get_put_ne _ _ _ _ (apart_of_addr (Ne.symm status))]
  rfl

/-- The last rail of the table is done: the Hob is UP, and every rail stays as it is. -/
theorem stepEnd_last_shown {s : Body} (steady : s.flag F.HOB_STATUS_PENDING_OFF = false) (last : s.hob.table[s.hob.step + 1]? = none) :
    s.stepEnd.hobState = .up ∧ s.stepEnd.flag F.HOB_EVENTS_UP_DONE = true ∧ (∀ e ∈ s.evs, e ∈ s.stepEnd.evs)
      ∧ ∀ f : Fld, F.HOB_STATUS_STATE.apart f = true → ¬ Noted f.addr → s.stepEnd.get f = s.get f := by
  rw [stepEnd_last steady last]
  have done := (Calm.refl (a := s.setHob .up)).raise U.hob F.HOB_EVENTS_UP_DONE 0 (by decide)
  exact ⟨(hobState_eq_of_get (done.get _ (by decide))).trans (hobState_setHob ..), (congrArg (· != 0) (get_raise ..)).trans (flag_put_one _ _ rfl (by decide)),
    fun e h => done.evs e (mem_evs_setHob _ h), fun f state noted => (done.get f noted).trans (get_setHob_ne _ _ _ state noted)⟩

/-! ## A rail comes up -/

section
variable {s : Body} {r us : Nat}

theorem railEnable_turn (turn : s.railState r = .minOff) :
    s.railEnable r = ((s.railOn r).setRailState r .rising).setRail r { s.rail r with below := false } := by
  unfold railEnable
  rw [turn]
  rfl

theorem railPg_rising (known : (s.railDef r).isSome = true) (rising : s.railState r = .rising) :
    s.railPg r true = (s.putBit F.HOB_RAILS_GOOD r true).setRailState r .debouncing := by
  have state : (s.putBit F.HOB_RAILS_GOOD r true).railState r = .rising :=
    (railState_eq_of_get (get_putBit_ne _ _ _ _ _ (apart_of_addr (by simp only [F.HOB_RAILS_GOOD, F.HOB_RAIL_STATE_STATE]; omega)))).trans rising
  have entry : ((s.putBit F.HOB_RAILS_GOOD r true).railDef r).isNone = false := Option.isNone_eq_false_iff.2 known
  unfold railPg
  dsimp only
  rw [entry, if_neg Bool.false_ne_true, state]

theorem railPg_chatter (known : (s.railDef r).isSome = true) (debouncing : s.railState r = .debouncing) :
    s.railPg r false = ((((s.putBit F.HOB_RAILS_GOOD r false).setRailState r .rising).incSat (F.HOB_RAIL_CNT_CHATTER r)).raise
      U.hob F.HOB_EVENTS_CHATTER r).hobLog r 2 0 0 := by
  have state : (s.putBit F.HOB_RAILS_GOOD r false).railState r = .debouncing :=
    (railState_eq_of_get (get_putBit_ne _ _ _ _ _ (apart_of_addr (by simp only [F.HOB_RAILS_GOOD, F.HOB_RAIL_STATE_STATE]; omega)))).trans
      debouncing
  have entry : ((s.putBit F.HOB_RAILS_GOOD r false).railDef r).isNone = false := Option.isNone_eq_false_iff.2 known
  unfold railPg
  dsimp only
  rw [entry, if_neg Bool.false_ne_true, state]

/-- The registers of a rail that has come up: its state, the time it took, the range of its voltage. -/
def railRisen (s : Body) (r us : Nat) : Body :=
  let s := (s.setRailState r .up).put (F.HOB_RAIL_TIME_UP_US r) us
  let mv := s.get (F.HOB_RAIL_STATE_SENSE_MV r)
  let s := (s.put (F.HOB_RAIL_RANGE_MIN_MV r) mv).put (F.HOB_RAIL_RANGE_MAX_MV r) mv
  let s := s.setRail r { s.rail r with retry := false, below := false }
  (s.putBit F.HOB_RAIL_FAULT_FAILED r false).unfence r

theorem railUp_first (debouncing : s.railState r = .debouncing) (first : (s.rail r).retry = false) : s.railUp r us = (s.railRisen r us).stepEnd := by
  unfold railUp
  rw [debouncing]
  dsimp only
  rw [first]
  rfl

/-- A rail that comes up leaves every register but its own, the mask of failed rails and those of the fences. -/
theorem get_railRisen_ne (f : Fld) (state : (F.HOB_RAIL_STATE_STATE r).apart f = true) (time : (F.HOB_RAIL_TIME_UP_US r).apart f = true)
    (range : f.addr ≠ A.HOB_RAIL_RANGE r) (fault : f.addr ≠ A.HOB_RAIL_FAULT) (noted : ¬ Noted f.addr) :
    (s.railRisen r us).get f = s.get f := by
  unfold railRisen
  dsimp only
  rw [(Calm.refl.unfence r).get f noted, get_putBit_ne _ _ _ _ _ (apart_of_addr (Ne.symm fault)), get_setRail,
    get_put_ne _ _ _ _ (apart_of_addr (Ne.symm range)), get_put_ne _ _ _ _ (apart_of_addr (Ne.symm range)), get_put_ne _ _ _ _ time,
    get_setRailState_ne _ _ _ _ state]

theorem hob_railRisen : (s.railRisen r us).hob.table = s.hob.table ∧ (s.railRisen r us).hob.step = s.hob.step := ⟨rfl, rfl⟩

/-- A rail that comes up shows its state and its time. -/
theorem railRisen_shown : (s.railRisen r us).railState r = .up ∧ (s.railRisen r us).get (F.HOB_RAIL_TIME_UP_US r) = us % 2 ^ 32 := by
  unfold railRisen
  constructor
  · refine ((Calm.refl.unfence r).railState r).trans ((railState_eq_of_get ?_).trans (railState_setRailState_same s r .up))
    rw [get_putBit_ne _ _ _ _ _ (apart_of_addr (by simp only [F.HOB_RAIL_FAULT_FAILED, F.HOB_RAIL_STATE_STATE]; omega)), get_setRail,
      get_put_ne _ _ _ _ (by simp [Fld.apart, F.HOB_RAIL_RANGE_MAX_MV, F.HOB_RAIL_STATE_STATE]),
      get_put_ne _ _ _ _ (by simp [Fld.apart, F.HOB_RAIL_RANGE_MIN_MV, F.HOB_RAIL_STATE_STATE]),
      get_put_ne _ _ _ _ (by simp [Fld.apart, F.HOB_RAIL_TIME_UP_US, F.HOB_RAIL_STATE_STATE])]
  · dsimp only
    rw [(Calm.refl.unfence r).get _ (by simp only [Noted, F.HOB_RAIL_TIME_UP_US]; omega),
      get_putBit_ne _ _ _ _ _ (apart_of_addr (by simp only [F.HOB_RAIL_FAULT_FAILED, F.HOB_RAIL_TIME_UP_US]; omega)), get_setRail,
      get_put_ne _ _ _ _ (by simp [Fld.apart, F.HOB_RAIL_RANGE_MAX_MV, F.HOB_RAIL_TIME_UP_US]),
      get_put_ne _ _ _ _ (by simp [Fld.apart, F.HOB_RAIL_RANGE_MIN_MV, F.HOB_RAIL_TIME_UP_US])]
    exact get_put_same _ _ _ (by show 0 + 32 ≤ 64; decide)

/-- A rail that comes up leaves the state of every other, and of the Hob. -/
theorem pendingOff_railRisen : (s.railRisen r us).flag F.HOB_STATUS_PENDING_OFF = s.flag F.HOB_STATUS_PENDING_OFF := by
  refine congrArg (· != 0) (get_railRisen_ne _ ?_ ?_ ?_ (by decide) (by decide))
  · exact apart_of_addr (by simp only [F.HOB_RAIL_STATE_STATE, F.HOB_STATUS_PENDING_OFF]; omega)
  · exact apart_of_addr (by simp only [F.HOB_RAIL_TIME_UP_US, F.HOB_STATUS_PENDING_OFF]; omega)
  · simp only [A.HOB_RAIL_RANGE, F.HOB_STATUS_PENDING_OFF]
    omega

end

/-! ## A rail breaks (R412, R413, R419) -/

/-- A rail has failed and its enable is gone; the Hob's state and step stay. -/
structure Broken (r : Nat) (a b : Body) : Prop where
  state : b.railState r = .failed
  enabled : nbit (b.get F.HOB_RAILS_ENABLED) r = false
  failed : nbit (b.get F.HOB_RAIL_FAULT_FAILED) r = true
  status : ∀ f : Fld, f.addr = A.HOB_STATUS → b.get f = a.get f
  table : b.hob.table = a.hob.table
  step : b.hob.step = a.hob.step

theorem Broken.calm {r : Nat} {a b c : Body} (h : Broken r a b) (k : Calm b c) : Broken r a c where
  state := (k.railState r).trans h.state
  enabled := (congrArg (nbit · r) (k.get _ (by decide))).trans h.enabled
  failed := (congrArg (nbit · r) (k.get _ (by decide))).trans h.failed
  status f hf := (k.get f (by rw [hf]; decide)).trans (h.status f hf)
  table := k.table.trans h.table
  step := k.step.trans h.step

/-- The enable of a rail goes. -/
theorem railOff_shown (s : Body) {r : Nat} (hr : r < 24) : nbit ((s.railOff r).get F.HOB_RAILS_ENABLED) r = false
    ∧ (∀ f : Fld, f.addr ≠ A.HOB_RAILS → (s.railOff r).get f = s.get f) ∧ (s.railOff r).hob = s.hob := by
  unfold railOff
  cases on : nbit (s.get F.HOB_RAILS_ENABLED) r with
  | true => exact ⟨nbit_putBit s F.HOB_RAILS_ENABLED r false (by decide) hr, fun f hf => get_putBit_ne s _ _ _ _ (apart_of_addr (Ne.symm hf)), rfl⟩
  | false => exact ⟨on, fun f _ => rfl, rfl⟩

section
variable {s : Body} {r us : Nat}

/-- A rail of the table fails: its enable goes, its state and its bit among the failed rails say so. -/
theorem broken_off (hr : r < 24) : Broken r s (((s.railOff r).setRailState r .failed).putBit F.HOB_RAIL_FAULT_FAILED r true) := by
  obtain ⟨off, others, hob⟩ := railOff_shown s hr
  have fault (f : Fld) (hf : f.addr ≠ A.HOB_RAIL_FAULT) (hs : (F.HOB_RAIL_STATE_STATE r).apart f = true) :
      (((s.railOff r).setRailState r .failed).putBit F.HOB_RAIL_FAULT_FAILED r true).get f = (s.railOff r).get f := by
    rw [get_putBit_ne _ _ _ _ _ (apart_of_addr (Ne.symm hf)), get_setRailState_ne _ _ _ _ hs]
  have elsewhere (a : Nat) (ha : a < 0x160100) (f : Fld) (hf : f.addr = a) : (F.HOB_RAIL_STATE_STATE r).apart f = true :=
    apart_of_addr (by simp only [F.HOB_RAIL_STATE_STATE]; omega)
  refine ⟨railState_of_code ?_, ?_, nbit_putBit _ _ _ _ (by decide) hr, fun f hf => ?_, congrArg (·.table) hob, congrArg (·.step) hob⟩
  · rw [get_putBit_ne _ _ _ _ _ (apart_of_addr (by simp only [F.HOB_RAIL_FAULT_FAILED, F.HOB_RAIL_STATE_STATE]; omega)),
      get_setRailState_same]
  · rw [fault _ (by decide) (elsewhere A.HOB_RAILS (by decide) _ rfl)]
    exact off
  · rw [fault f (by rw [hf]; decide) (elsewhere A.HOB_STATUS (by decide) f hf), others f (by rw [hf]; decide)]

/-- A count of a rail's life leaves it broken. -/
theorem Broken.life {a b : Body} (h : Broken r a b) (f : Fld) (v : Nat) (hf : f.addr = A.HOB_RAIL_LIFE r) : Broken r a (b.put f v) := by
  have ne (g : Fld) (hg : g.addr < 0x160100) : f.apart g = true := apart_of_addr (by rw [hf]; simp only [A.HOB_RAIL_LIFE]; omega)
  have state : f.apart (F.HOB_RAIL_STATE_STATE r) = true :=
    apart_of_addr (by rw [hf]; simp only [A.HOB_RAIL_LIFE, F.HOB_RAIL_STATE_STATE]; omega)
  refine ⟨(railState_eq_of_get (get_put_ne _ _ _ _ state)).trans h.state, ?_, ?_, fun g hg => ?_, h.table, h.step⟩
  · rw [get_put_ne _ _ _ _ (ne _ (by decide))]
    exact h.enabled
  · rw [get_put_ne _ _ _ _ (ne _ (by decide))]
    exact h.failed
  · rw [get_put_ne _ _ _ _ (ne _ (by rw [hg]; decide))]
    exact h.status g hg

/-- A rail that failed to come up, with its count and its reset outputs. -/
def railMissed (s : Body) (r : Nat) : Body :=
  let s := ((s.railOff r).setRailState r .failed).setRail r { s.rail r with retry := false }
  let s := (s.putBit F.HOB_RAIL_FAULT_FAILED r true).incCounter (16 + 2 * r)
  let s := s.put (F.HOB_RAIL_LIFE_FAIL_UP r) (s.counter (16 + 2 * r))
  s.rstRail r

theorem broken_railMissed (hr : r < 24) : Broken r s (s.railMissed r) := by
  have counted := ((broken_off (s := s) hr).calm (Calm.refl.setRail r { s.rail r with retry := false })).calm (Calm.refl.incCounter (16 + 2 * r))
  exact (counted.life (F.HOB_RAIL_LIFE_FAIL_UP r) _ rfl).calm (Calm.refl.rstRail r)

theorem railFail_eq (rising : s.railState r = .rising ∨ s.railState r = .debouncing) : s.railFail r us = if (s.rail r).retry then
      (((s.railMissed r).fence r).raise U.hob F.HOB_EVENTS_RETRY_FAILED r).hobLog r 6 0 us
    else ((((s.railMissed r).raise U.hob F.HOB_EVENTS_FAIL_UP r).fence r).hobLog r 1 0 us).stepEnd := by
  have runs : (s.railState r != .rising && s.railState r != .debouncing) = false := by
    rcases rising with e | e <;> rw [e] <;> rfl
  unfold railFail
  rw [runs, if_neg Bool.false_ne_true]
  rfl

/-- A retry that fails. -/
theorem railFail_retry (hr : r < 24) (rising : s.railState r = .rising ∨ s.railState r = .debouncing) (retry : (s.rail r).retry = true) :
    Broken r s (s.railFail r us) ∧ ⟨U.hob, .bit F.HOB_EVENTS_RETRY_FAILED, r⟩ ∈ (s.railFail r us).evs := by
  rw [railFail_eq rising, if_pos retry]
  have fenced := (broken_railMissed (s := s) hr).calm (Calm.refl.fence r)
  have logged := Calm.refl (a := ((s.railMissed r).fence r).raise U.hob F.HOB_EVENTS_RETRY_FAILED r) |>.hobLog r 6 0 us
  exact ⟨(fenced.calm (Calm.refl.raise U.hob F.HOB_EVENTS_RETRY_FAILED r (by decide))).calm logged, logged.evs _ (mem_evs_raise ..)⟩

/-- The last rail of a power-up fails: the Hob is UP without it. -/
theorem railFail_last (hr : r < 24) (rising : s.railState r = .rising ∨ s.railState r = .debouncing) (first : (s.rail r).retry = false)
    (steady : s.flag F.HOB_STATUS_PENDING_OFF = false) (last : s.hob.table[s.hob.step + 1]? = none) :
    (s.railFail r us).railState r = .failed ∧ nbit ((s.railFail r us).get F.HOB_RAILS_ENABLED) r = false
      ∧ nbit ((s.railFail r us).get F.HOB_RAIL_FAULT_FAILED) r = true ∧ (s.railFail r us).hobState = .up
      ∧ ⟨U.hob, .bit F.HOB_EVENTS_FAIL_UP, r⟩ ∈ (s.railFail r us).evs := by
  rw [railFail_eq rising, if_neg (ne_true_of_eq_false first)]
  have raised := Calm.refl (a := (s.railMissed r).raise U.hob F.HOB_EVENTS_FAIL_UP r)
  have logged := (raised.fence r).hobLog r 1 0 us
  have broken := ((broken_railMissed (s := s) hr).calm (Calm.refl.raise U.hob F.HOB_EVENTS_FAIL_UP r (by decide))).calm logged
  obtain ⟨up, -, events, others⟩ := stepEnd_last_shown ((congrArg (· != 0) (broken.status F.HOB_STATUS_PENDING_OFF rfl)).trans steady)
    ((by rw [broken.table, broken.step] : _ = s.hob.table[s.hob.step + 1]?).trans last)
  refine ⟨(railState_eq_of_get (others _ (apart_of_addr ?_) ?_)).trans broken.state, ?_, ?_, up, events _ (logged.evs _ (mem_evs_raise ..))⟩
  · simp only [F.HOB_STATUS_STATE, F.HOB_RAIL_STATE_STATE]
    omega
  · simp only [Noted, F.HOB_RAIL_STATE_STATE]
    omega
  · rw [others _ (by decide) (by decide)]
    exact broken.enabled
  · rw [others _ (by decide) (by decide)]
    exact broken.failed

/-- A rail that lost its power-good, with its count. -/
def railDead (s : Body) (r : Nat) : Body :=
  let s := ((s.railOff r).setRailState r .failed).putBit F.HOB_RAIL_FAULT_FAILED r true
  let s := s.incCounter (17 + 2 * r)
  s.put (F.HOB_RAIL_LIFE_PG_LOST r) (s.counter (17 + 2 * r))

/-- The same with its event, its fence and its entry of the log. -/
def railGone (s : Body) (r us : Nat) : Body :=
  ((((s.railDead r).raise U.hob F.HOB_EVENTS_PG_LOST r).fence r).rstRail r).hobLog r 3 0 us

theorem railGone_shown (hr : r < 24) :
    Broken r s (s.railGone r us) ∧ ⟨U.hob, .bit F.HOB_EVENTS_PG_LOST, r⟩ ∈ (s.railGone r us).evs := by
  have dead : Broken r s (s.railDead r) :=
    ((broken_off (s := s) hr).calm (Calm.refl.incCounter (17 + 2 * r))).life (F.HOB_RAIL_LIFE_PG_LOST r) _ rfl
  have logged := ((Calm.refl (a := (s.railDead r).raise U.hob F.HOB_EVENTS_PG_LOST r)).fence r |>.rstRail r).hobLog r 3 0 us
  exact ⟨(dead.calm (Calm.refl.raise U.hob F.HOB_EVENTS_PG_LOST r (by decide))).calm logged, logged.evs _ (mem_evs_raise ..)⟩

/-- A rail that may fail alone loses its power-good in service: no OFF is asked for. -/
theorem railLost_spare {d : RailDef} (up : s.railState r = .up) (low : nbit (s.get F.HOB_RAILS_GOOD) r = false)
    (known : (s.railGone r us).railDef r = some d) (spare : d.kind ≠ 0) : s.railLost r us = s.railGone r us := by
  have runs : (s.railState r != .up || nbit (s.get F.HOB_RAILS_GOOD) r) = false := by rw [up, low]; rfl
  have spare' : (d.kind == 0) = false := beq_false_of_ne spare
  have asked : s.railLost r us = match (s.railGone r us).railDef r with
      | some d => (s.railGone r us).when (d.kind == 0) (·.hobOffReq .railLost)
      | none => s.railGone r us := by
    unfold railLost
    rw [runs, if_neg Bool.false_ne_true]
    rfl
  rw [asked, known]
  dsimp only
  rw [spare', when_false]

/-! ## A rail that does not fall (R414) -/

/-- A rail that did not fall in time, counted. -/
def railOverdue (s : Body) (r : Nat) : Body :=
  let s := s.setRail r { s.rail r with timedOut := true }
  (s.putBit F.HOB_RAIL_FAULT_DOWN_TIMEOUT r true).incSat (F.HOB_RAIL_CNT_DOWN_TIMEOUTS r)

/-- The same with its event and its entry of the log. -/
def railLate (s : Body) (r us : Nat) : Body :=
  ((s.railOverdue r).raise U.hob F.HOB_EVENTS_DOWN_TIMEOUT r).hobLog r 4 0 us

theorem rail_setRail (s : Body) (r : Nat) (x : Rail) : (s.setRail r x).rail r = x := mgetD_mset_same ..

/-- The Hob's own records but its log are as before an entry of the log. -/
theorem rails_hobLog (s : Body) (r ev det us : Nat) : (s.hobLog r ev det us).hob.rails = s.hob.rails := rfl

theorem rail_railLate : (s.railLate r us).rail r = { s.rail r with timedOut := true } := by
  have kept : (s.railLate r us).hob.rails = (s.setRail r { s.rail r with timedOut := true }).hob.rails := rails_hobLog ..
  exact (congrArg (fun m : SMap Rail => mgetD m r {}) kept).trans (rail_setRail s r _)

theorem railLate_shown (hr : r < 24) : ((s.railLate r us).rail r).timedOut = true ∧ (s.railLate r us).railState r = s.railState r
    ∧ (s.railLate r us).hob.step = s.hob.step ∧ nbit ((s.railLate r us).get F.HOB_RAIL_FAULT_DOWN_TIMEOUT) r = true
    ∧ ⟨U.hob, .bit F.HOB_EVENTS_DOWN_TIMEOUT, r⟩ ∈ (s.railLate r us).evs := by
  have logged := (Calm.refl (a := (s.railOverdue r).raise U.hob F.HOB_EVENTS_DOWN_TIMEOUT r)).hobLog r 4 0 us
  have calm := (Calm.refl (a := s.railOverdue r)).raise U.hob F.HOB_EVENTS_DOWN_TIMEOUT r (by decide) |>.trans logged
  have state : (s.railOverdue r).railState r = s.railState r := by
    refine railState_eq_of_get ?_
    unfold railOverdue
    dsimp only
    rw [incSat_eq, get_put_ne _ _ _ _ (apart_of_addr (by simp only [F.HOB_RAIL_CNT_DOWN_TIMEOUTS, F.HOB_RAIL_STATE_STATE]; omega)),
      get_putBit_ne _ _ _ _ _ (apart_of_addr (by simp only [F.HOB_RAIL_FAULT_DOWN_TIMEOUT, F.HOB_RAIL_STATE_STATE]; omega)), get_setRail]
  have fault : nbit ((s.railOverdue r).get F.HOB_RAIL_FAULT_DOWN_TIMEOUT) r = true := by
    unfold railOverdue
    dsimp only
    rw [incSat_eq, get_put_ne _ _ _ _ (apart_of_addr (by simp only [F.HOB_RAIL_CNT_DOWN_TIMEOUTS, F.HOB_RAIL_FAULT_DOWN_TIMEOUT]; omega))]
    exact nbit_putBit _ _ _ _ (by decide) hr
  refine ⟨?_, (calm.railState r).trans state, calm.step, ?_, logged.evs _ (mem_evs_raise ..)⟩
  · rw [rail_railLate]
  · exact (congrArg (nbit · r) (calm.get _ (by decide))).trans fault

theorem railTimeout_waits {d : RailDef} (at_ : s.downAt r = true) (above : (s.rail r).below = false) (first : (s.rail r).timedOut = false)
    (known : s.railDef r = some d) (waits : nbit d.flags 0 = false) (unforced : s.hob.force = false) (unskipped : (s.rail r).skip = false) :
    s.railTimeout r us = s.railLate r us := by
  have runs : (!s.downAt r || (s.rail r).below || (s.rail r).timedOut) = false := by rw [at_, above, first]; rfl
  have skip : ((s.railLate r us).rail r).skip = false := (congrArg (·.skip) rail_railLate).trans unskipped
  have passes : s.railTimeout r us = if (match (s.railLate r us).railDef r with
      | some d => nbit d.flags 0
      | none => false) || (s.railLate r us).hob.force || ((s.railLate r us).rail r).skip
      then ((s.railLate r us).setRailState r .off).downPass else s.railLate r us := by
    unfold railTimeout
    rw [runs, if_neg Bool.false_ne_true]
    rfl
  have table : (s.railLate r us).railDef r = some d := known
  have force : (s.railLate r us).hob.force = false := unforced
  rw [passes, table, force, skip]
  exact if_neg (by simp [waits])

theorem railSkip_waits (at_ : s.downAt r = true) (first : (s.rail r).timedOut = false) : s.railSkip r = s.setRail r { s.rail r with skip := true } := by
  unfold railSkip
  rw [at_, first]
  rfl

theorem railRetry_failed (up : s.hobState = .up) (failed : s.railState r = .failed) (known : (s.railDef r).isSome = true) :
    s.railRetry r = (s.setRailState r .minOff).setRail r { s.rail r with retry := true } := by
  have entry : (s.railDef r).isNone = false := Option.isNone_eq_false_iff.2 known
  unfold railRetry
  rw [up, failed, entry]
  rfl

/-! ## A conversion (R410) -/

/-- The rail in service with a voltage of `mv`: the range it has seen, and whether it is out of its band. -/
def railSensed (s : Body) (r mv : Nat) (d : RailDef) : Body :=
  let s := (s.put (F.HOB_RAIL_RANGE_MIN_MV r) (min mv (s.get (F.HOB_RAIL_RANGE_MIN_MV r)))).put
    (F.HOB_RAIL_RANGE_MAX_MV r) (max mv (s.get (F.HOB_RAIL_RANGE_MAX_MV r)))
  let oob : Bool := mv * 20 < d.nominal * 19 || mv * 20 > d.nominal * 21
  let s := s.when (oob && !(s.rail r).oob) (·.raise U.hob F.HOB_EVENTS_OUT_OF_BAND r)
  s.setRail r { s.rail r with oob := oob }

/-- A rail whose voltage is not below its off threshold. -/
def railHeld (s : Body) (r : Nat) : Body := s.setRail r { s.rail r with below := false }

theorem oob_railHeld : ((s.railHeld r).rail r).oob = (s.rail r).oob := congrArg (·.oob) (rail_setRail s r { s.rail r with below := false })

theorem adc_up {x : Nat} {d : RailDef} (other : s.hob.present = false ∨ r ≠ s.cfg.img.qui.sagSense) (known : s.railDef r = some d)
    (up : s.railState r = .up) (above : d.offMv ≤ s.senseMv r x) :
    s.adc r x us = (((s.put (F.HOB_RAIL_STATE_SENSE_MV r) (s.senseMv r x)).railSensed r (s.senseMv r x) d).railHeld r, false) := by
  let t := s.put (F.HOB_RAIL_STATE_SENSE_MV r) (s.senseMv r x)
  have state : t.railState r = .up :=
    (railState_eq_of_get (get_put_ne _ _ _ _ (by simp [Fld.apart, F.HOB_RAIL_STATE_SENSE_MV, F.HOB_RAIL_STATE_STATE]))).trans up
  have sense : (t.hob.present && r == t.cfg.img.qui.sagSense) = false := by
    rcases other with absent | ne
    · exact (congrArg (· && _) absent).trans (Bool.false_and _)
    · exact (congrArg (_ && ·) (beq_false_of_ne ne)).trans (Bool.and_false _)
  have sag : (t.hob.present && nbit t.cfg.img.qui.pfailSrc 1 && r == t.cfg.img.qui.sagSense) = false := by
    rw [Bool.and_right_comm, sense, Bool.false_and]
  have entry : t.railDef r = some d := known
  unfold adc
  dsimp only
  rw [sense, sag, when_false, if_neg Bool.false_ne_true, entry]
  dsimp only
  rw [state, if_neg (Nat.not_lt.2 above), if_pos (show (RailState.up == RailState.up) = true from rfl)]
  rfl

theorem railSensed_shown {mv : Nat} {d : RailDef} (up : s.railState r = .up) (fits : mv < 2 ^ 16) :
    (s.railSensed r mv d).get (F.HOB_RAIL_STATE_SENSE_MV r) = s.get (F.HOB_RAIL_STATE_SENSE_MV r) ∧ (s.railSensed r mv d).railState r = .up
      ∧ (s.railSensed r mv d).get (F.HOB_RAIL_RANGE_MIN_MV r) = min mv (s.get (F.HOB_RAIL_RANGE_MIN_MV r))
      ∧ (s.railSensed r mv d).get (F.HOB_RAIL_RANGE_MAX_MV r) = max mv (s.get (F.HOB_RAIL_RANGE_MAX_MV r))
      ∧ ((s.railSensed r mv d).rail r).oob = (mv * 20 < d.nominal * 19 || mv * 20 > d.nominal * 21) := by
  have get (f : Fld) (noted : ¬ Noted f.addr) : (s.railSensed r mv d).get f = ((s.put (F.HOB_RAIL_RANGE_MIN_MV r)
      (min mv (s.get (F.HOB_RAIL_RANGE_MIN_MV r)))).put (F.HOB_RAIL_RANGE_MAX_MV r) (max mv (s.get (F.HOB_RAIL_RANGE_MAX_MV r)))).get f :=
    (Calm.when Calm.refl _ _ (Calm.refl.raise U.hob F.HOB_EVENTS_OUT_OF_BAND r (by decide))).get f noted
  have min_lt : s.get (F.HOB_RAIL_RANGE_MIN_MV r) < 2 ^ 16 := ofWord_lt (F.HOB_RAIL_RANGE_MIN_MV r) _
  have max_lt : s.get (F.HOB_RAIL_RANGE_MAX_MV r) < 2 ^ 16 := ofWord_lt (F.HOB_RAIL_RANGE_MAX_MV r) _
  refine ⟨?_, (railState_eq_of_get ?_).trans up, ?_, ?_, congrArg (·.oob) (rail_setRail _ r _)⟩
  · rw [get _ (by simp only [Noted, F.HOB_RAIL_STATE_SENSE_MV]; omega),
      get_put_ne _ _ _ _ (by simp [Fld.apart, F.HOB_RAIL_RANGE_MAX_MV, F.HOB_RAIL_STATE_SENSE_MV]),
      get_put_ne _ _ _ _ (by simp [Fld.apart, F.HOB_RAIL_RANGE_MIN_MV, F.HOB_RAIL_STATE_SENSE_MV])]
  · rw [get _ (by simp only [Noted, F.HOB_RAIL_STATE_STATE]; omega),
      get_put_ne _ _ _ _ (by simp [Fld.apart, F.HOB_RAIL_RANGE_MAX_MV, F.HOB_RAIL_STATE_STATE]),
      get_put_ne _ _ _ _ (by simp [Fld.apart, F.HOB_RAIL_RANGE_MIN_MV, F.HOB_RAIL_STATE_STATE])]
  · rw [get _ (by simp only [Noted, F.HOB_RAIL_RANGE_MIN_MV]; omega),
      get_put_ne _ _ _ _ (by simp [Fld.apart, F.HOB_RAIL_RANGE_MAX_MV, F.HOB_RAIL_RANGE_MIN_MV]),
      get_put_same _ _ _ (by show 0 + 16 ≤ 64; decide)]
    exact Nat.mod_eq_of_lt (Nat.lt_of_le_of_lt (Nat.min_le_left ..) fits)
  · rw [get _ (by simp only [Noted, F.HOB_RAIL_RANGE_MAX_MV]; omega), get_put_same _ _ _ (by show 16 + 16 ≤ 64; decide)]
    exact Nat.mod_eq_of_lt (Nat.max_lt.2 ⟨fits, max_lt⟩)

end

/-! ## The commands -/

/-- Settles O49. -/
theorem railCommands : Obligations.RailCommands := by
  unfold Obligations.RailCommands
  refine ⟨?enable, fun s r hr known => ⟨fun rising => ?rises, fun debouncing => ?chatters⟩,
    fun s r us hr debouncing first steady => ⟨fun d next hd ne => ?next, fun last => ?last⟩,
    fun s r us hr rising steady last => leads_of_eq rfl rfl ?fails, ?lost, ?late,
    fun s actor r hr => ⟨fun h up failed known => leads_command h ?retry, fun h at_ first => leads_command h ?skip⟩, ?senses⟩
  case enable =>
    intro s r hr turn
    refine leads_of_eq rfl (railEnable_turn turn) ⟨railState_setRailState_same _ r .rising, ?_, mem_out_send ..⟩
    rw [get_setRail, get_setRailState_ne _ _ _ _ (apart_of_addr (by simp only [F.HOB_RAIL_STATE_STATE, F.HOB_RAILS_ENABLED]; omega))]
    exact nbit_putBit s.body F.HOB_RAILS_ENABLED r true (by decide) hr
  case rises =>
    refine leads_of_eq rfl (railPg_rising known rising) ⟨railState_setRailState_same .., ?_⟩
    rw [get_setRailState_ne _ _ _ _ (apart_of_addr (by simp only [F.HOB_RAIL_STATE_STATE, F.HOB_RAILS_GOOD]; omega))]
    exact nbit_putBit s.body F.HOB_RAILS_GOOD r true (by decide) hr
  case chatters =>
    have logged := (Calm.refl (a := (((s.body.putBit F.HOB_RAILS_GOOD r false).setRailState r .rising).incSat
      (F.HOB_RAIL_CNT_CHATTER r)).raise U.hob F.HOB_EVENTS_CHATTER r)).hobLog r 2 0 0
    refine leads_of_eq rfl (railPg_chatter known debouncing) ⟨?_, logged.evs _ (mem_evs_raise ..)⟩
    refine (logged.railState r).trans ((railState_eq_of_get ?_).trans (railState_setRailState_same (s.body.putBit F.HOB_RAILS_GOOD r false) r .rising))
    rw [get_raise, get_put_ne _ _ _ _ (apart_of_addr (by simp only [F.HOB_EVENTS_CHATTER, F.HOB_RAIL_STATE_STATE]; omega)), incSat_eq,
      get_put_ne _ _ _ _ (apart_of_addr (by simp only [F.HOB_RAIL_CNT_CHATTER, F.HOB_RAIL_STATE_STATE]; omega))]
  case next =>
    have steady' : (s.body.railRisen r us).flag F.HOB_STATUS_PENDING_OFF = false := pendingOff_railRisen.trans steady
    have up := railUp_first (us := us) debouncing first
    obtain ⟨state, time⟩ := railRisen_shown (s := s.body) (r := r) (us := us)
    obtain ⟨waits, step, others⟩ := stepEnd_next_shown steady' next
    refine leads_of_eq rfl up ⟨(railState_eq_of_get (others _ ?_ (apart_railState (Ne.symm ne)))).trans state, waits, step,
      (others _ ?_ (apart_of_addr ?_)).trans time⟩
    · simp only [A.HOB_STATUS, F.HOB_RAIL_STATE_STATE]
      omega
    · simp only [A.HOB_STATUS, F.HOB_RAIL_TIME_UP_US]
      omega
    · simp only [F.HOB_RAIL_STATE_STATE, F.HOB_RAIL_TIME_UP_US]
      omega
  case last =>
    have steady' : (s.body.railRisen r us).flag F.HOB_STATUS_PENDING_OFF = false := pendingOff_railRisen.trans steady
    obtain ⟨up, done, -, others⟩ := stepEnd_last_shown steady' last
    refine leads_of_eq rfl (railUp_first debouncing first) ⟨(railState_eq_of_get (others _ (apart_of_addr ?_) ?_)).trans railRisen_shown.1, up, done⟩
    · simp only [F.HOB_STATUS_STATE, F.HOB_RAIL_STATE_STATE]
      omega
    · simp only [Noted, F.HOB_RAIL_STATE_STATE]
      omega
  case fails =>
    cases retry : (s.body.rail r).retry with
    | true =>
      obtain ⟨broken, told⟩ := railFail_retry (us := us) hr rising retry
      exact ⟨broken.state, broken.enabled, broken.failed, nofun, fun _ => told⟩
    | false =>
      obtain ⟨state, enabled, failed, up, told⟩ := railFail_last (us := us) hr rising retry steady last
      exact ⟨state, enabled, failed, fun _ => ⟨up, told⟩, nofun⟩
  case lost =>
    intro s r us d hr up low known spare
    obtain ⟨broken, told⟩ := railGone_shown (s := s.body) (us := us) hr
    have known' : (s.body.railGone r us).railDef r = some d :=
      (congrArg (fun l : List RailDef => l.find? (fun d : RailDef => d.rail == r)) broken.table).trans known
    exact leads_of_eq rfl (railLost_spare up low known' spare)
      ⟨broken.state, broken.enabled, broken.failed, hobState_eq_of_get (broken.status _ rfl), told⟩
  case late =>
    intro s r us d hr at_ above first known waits unforced unskipped
    exact leads_of_eq rfl (railTimeout_waits at_ above first known waits unforced unskipped) (railLate_shown hr)
  case retry =>
    have up' := (hobState_eq_of_get (get_wrote_ne s.body actor (bitWord s.body (F.HOB_RAIL_CTL_RETRY r) 1) F.HOB_STATUS_STATE
      (by simp only [F.HOB_STATUS_STATE, F.HOB_RAIL_CTL_RETRY]; omega : _ ≠ (F.HOB_RAIL_CTL_RETRY r).addr))).trans up
    have failed' := (railState_eq_of_get (get_wrote_ne s.body actor (bitWord s.body (F.HOB_RAIL_CTL_RETRY r) 1) (F.HOB_RAIL_STATE_STATE r)
      (by simp only [F.HOB_RAIL_STATE_STATE, F.HOB_RAIL_CTL_RETRY]; omega : _ ≠ (F.HOB_RAIL_CTL_RETRY r).addr))).trans failed
    have known' : ((wrote s.body actor (F.HOB_RAIL_CTL_RETRY r).addr (bitWord s.body (F.HOB_RAIL_CTL_RETRY r) 1)).railDef r).isSome = true := by
      rw [railDef, wrote, judge_hob]
      exact known
    rw [railRetry_failed up' failed' known']
    exact ⟨railState_setRailState_same .., congrArg (·.retry) (rail_setRail _ r _)⟩
  case skip =>
    have state := hobState_eq_of_get (get_wrote_ne s.body actor (bitWord s.body (F.HOB_RAIL_CTL_SKIP_WAIT r) 1) F.HOB_STATUS_STATE
      (by simp only [F.HOB_STATUS_STATE, F.HOB_RAIL_CTL_SKIP_WAIT]; omega : _ ≠ (F.HOB_RAIL_CTL_SKIP_WAIT r).addr))
    have hob : (wrote s.body actor (F.HOB_RAIL_CTL_SKIP_WAIT r).addr (bitWord s.body (F.HOB_RAIL_CTL_SKIP_WAIT r) 1)).hob = s.body.hob :=
      judge_hob ..
    have here : (wrote s.body actor (F.HOB_RAIL_CTL_SKIP_WAIT r).addr (bitWord s.body (F.HOB_RAIL_CTL_SKIP_WAIT r) 1)).downAt r = true := by
      rw [downAt, downRail, state, hob]
      exact at_
    have first' := (congrArg (fun h : HobSt => (mgetD h.rails r {}).timedOut) hob).trans first
    rw [railSkip_waits here first']
    exact ⟨congrArg (·.skip) (rail_setRail _ r _), congrArg (·.step) hob⟩
  case senses =>
    intro s r x us d hr other known up above fits
    have answer := adc_up (us := us) other known up above
    have state : (s.body.put (F.HOB_RAIL_STATE_SENSE_MV r) (s.body.senseMv r x)).railState r = .up :=
      (railState_eq_of_get (get_put_ne _ _ _ _ (by simp [Fld.apart, F.HOB_RAIL_STATE_SENSE_MV, F.HOB_RAIL_STATE_STATE]))).trans up
    obtain ⟨sense, still, low, high, oob⟩ := railSensed_shown (d := d) state fits
    have made : (if (s.body.adc r x us).2 then (s.body.adc r x us).1.powerFail 2 else (s.body.adc r x us).1)
        = ((s.body.put (F.HOB_RAIL_STATE_SENSE_MV r) (s.body.senseMv r x)).railSensed r (s.body.senseMv r x) d).railHeld r := by
      rw [answer]
      exact if_neg Bool.false_ne_true
    refine leads_of_eq rfl made ⟨sense.trans ?_, still, low.trans ?_, high.trans ?_, oob_railHeld.trans oob⟩
    · rw [get_put_same _ _ _ (by show 16 + 16 ≤ 64; decide)]
      exact Nat.mod_eq_of_lt fits
    · rw [get_put_ne _ _ _ _ (apart_of_addr (by simp [F.HOB_RAIL_STATE_SENSE_MV, F.HOB_RAIL_RANGE_MIN_MV]))]
    · rw [get_put_ne _ _ _ _ (apart_of_addr (by simp [F.HOB_RAIL_STATE_SENSE_MV, F.HOB_RAIL_RANGE_MAX_MV]))]

end Body
end Sys2Proof.Machine

/-! Requests to the Hob and its reset outputs (R416, R417, R420). -/

namespace Sys2Proof.Machine
namespace Body

open Sys2Proof.Stmt

/-! ## Requests -/

section
variable {s : Body}

theorem hobOnReq_off (cool : s.hob.thHold = false) (off : s.hobState = .off) : s.hobOnReq = s.later (.systemReset 4) := by
  unfold hobOnReq
  rw [cool, if_neg Bool.false_ne_true, off]

theorem hobOnReq_up (cool : s.hob.thHold = false) (up : s.hobState = .up) : s.hobOnReq = s := by
  unfold hobOnReq
  rw [cool, if_neg Bool.false_ne_true, up]

/-- An ON while the Hob goes down waits until it is down. -/
theorem hobOnReq_down (cool : s.hob.thHold = false) (down : s.hobState = .flushing ∨ s.hobState = .poweringDown)
    (first : s.flag F.HOB_STATUS_PENDING_ON = false) : s.hobOnReq = (s.put F.HOB_STATUS_PENDING_ON 1).raise U.hob F.HOB_EVENTS_REVERSED := by
  unfold hobOnReq
  rw [cool, if_neg Bool.false_ne_true]
  rcases down with e | e <;> rw [e] <;> dsimp only <;> rw [first, if_neg Bool.false_ne_true]

theorem hobOffReq_off (off : s.hobState = .off) (why : DownCause) : s.hobOffReq why = s := by
  unfold hobOffReq
  rw [off]

/-- The units once an OFF waits for the end of the step of the power-up, with its cause `c` and whether it is forced. -/
def offPended (s : Body) (c : DownCause) (f : Bool) : Body := { s with hob := { s.hob with offWhy := c, force := f } }.put F.HOB_STATUS_PENDING_OFF 1

/-- An OFF while the Hob comes up waits for the end of its step. -/
theorem hobOffReq_rising (rising : s.hobState = .poweringUp) (first : s.flag F.HOB_STATUS_PENDING_OFF = false) (why : DownCause) :
    ∃ c f, s.hobOffReq why = (s.offPended c f).raise U.hob F.HOB_EVENTS_REVERSED := by
  unfold hobOffReq
  rw [rising]
  dsimp only
  rw [first, if_neg Bool.false_ne_true]
  exact ⟨_, _, rfl⟩

/-- An OFF in service flushes first while the persistence unit is ON. -/
theorem hobOffReq_up (up : s.hobState = .up) (persist : s.isOn U.persist = true) (why : DownCause) :
    s.hobOffReq why = ({ s with hob := { s.hob with offWhy := why } }.setHob .flushing).put F.HOB_STATUS_LAST_DOWN_CAUSE (downCode why) := by
  have persist' : ({ s with hob := { s.hob with offWhy := why } } : Body).isOn U.persist = true := persist
  unfold hobOffReq
  rw [up]
  dsimp only
  rw [persist', if_pos rfl]

/-- An event of the Hob leaves its status. -/
theorem get_raise_status (f e : Fld) (hf : f.addr = A.HOB_STATUS) (he : e.addr = A.HOB_EVENTS) : (s.raise U.hob e).get f = s.get f := by
  rw [get_raise, get_put_ne _ _ _ _ (apart_of_addr (by rw [hf, he]; decide))]

end

/-- A write of a register other than HOB_STATUS leaves the Hob's status. -/
theorem hobState_wrote (s : Body) (actor : Actor) {a : Nat} (v : Nat) (h : A.HOB_STATUS ≠ a) : (wrote s actor a v).hobState = s.hobState :=
  hobState_eq_of_get (get_wrote_ne s actor v F.HOB_STATUS_STATE h)

theorem hob_wrote (s : Body) (actor : Actor) (a v : Nat) : (wrote s actor a v).hob = s.hob := judge_hob ..

/-! ## The commands -/

/-- Settles O50. -/
theorem hobRequests : Obligations.HobRequests := by
  unfold Obligations.HobRequests
  refine ⟨fun s actor h cool => ⟨fun off => leads_command h ?on_off, fun up => leads_command h ?on_up, fun down first => leads_command h ?on_down⟩,
    fun s actor h => ⟨fun off => leads_command h ?off_off, fun rising first => leads_command h ?off_rising,
      fun up persist => leads_command h ?off_up⟩, ?back, ?release, fun s actor n h out => leads_command h ?pulse⟩
  case on_off =>
    rw [hobOnReq_off ((congrArg (·.thHold) (hob_wrote ..)).trans cool) ((hobState_wrote _ _ _ (by decide)).trans off)]
    exact List.mem_append_right _ List.mem_cons_self
  case on_up => exact hobOnReq_up ((congrArg (·.thHold) (hob_wrote ..)).trans cool) ((hobState_wrote _ _ _ (by decide)).trans up)
  case on_down =>
    have state : (wrote s.body actor A.HOB_REQ 1).hobState = s.body.hobState := hobState_wrote _ _ _ (by decide)
    have first' : (wrote s.body actor A.HOB_REQ 1).flag F.HOB_STATUS_PENDING_ON = false :=
      (congrArg (· != 0) (get_wrote_ne _ _ _ F.HOB_STATUS_PENDING_ON (by decide))).trans first
    rw [hobOnReq_down ((congrArg (·.thHold) (hob_wrote ..)).trans cool) (by rw [state]; exact down) first']
    refine ⟨?_, (congrArg (· != 0) (get_raise ..)).trans (flag_put_one _ _ rfl (by decide)), Eq.trans (hobState_eq_of_get ?_) state⟩
    · exact (congrArg (· != 0) (get_raise_status _ _ rfl rfl)).trans (flag_put_one _ _ rfl (by decide))
    · rw [get_raise_status _ _ rfl rfl, get_put_ne _ _ _ _ (by decide)]
  case off_off => exact hobOffReq_off ((hobState_wrote _ _ _ (by decide)).trans off) _
  case off_rising =>
    have state : (wrote s.body actor A.HOB_REQ 2).hobState = .poweringUp := (hobState_wrote _ _ _ (by decide)).trans rising
    have first' : (wrote s.body actor A.HOB_REQ 2).flag F.HOB_STATUS_PENDING_OFF = false :=
      (congrArg (· != 0) (get_wrote_ne _ _ _ F.HOB_STATUS_PENDING_OFF (by decide))).trans first
    obtain ⟨c, f, e⟩ := hobOffReq_rising state first' .request
    rw [e]
    refine ⟨?_, (congrArg (· != 0) (get_raise ..)).trans (flag_put_one _ _ rfl (by decide)), Eq.trans (hobState_eq_of_get ?_) state⟩
    · exact (congrArg (· != 0) (get_raise_status _ _ rfl rfl)).trans (flag_put_one _ _ rfl (by decide))
    · rw [get_raise_status _ _ rfl rfl, offPended, get_put_ne _ _ _ _ (by decide)]
      rfl
  case off_up =>
    have state : (wrote s.body actor A.HOB_REQ 2).hobState = .up := (hobState_wrote _ _ _ (by decide)).trans up
    have persist' := (isOn_wrote s.body actor (a := A.HOB_REQ) 2 U.persist (by decide)).trans persist
    rw [hobOffReq_up state persist']
    refine ⟨(hobState_put_of_apart _ _ _ (by decide)).trans (hobState_setHob ..), get_put_same _ _ _ (by decide), ?_⟩
    rw [get_put_ne _ _ _ _ (by decide), get_setHob_ne _ _ _ (by decide) (by decide)]
    exact get_wrote_ne _ _ _ F.HOB_RAILS_ENABLED (by decide)
  case back =>
    intro s failed cool off
    have answer : ({ s.body with hob := { s.body.hob with pfDown := false } } : Body).hobOnReq = _ := hobOnReq_off cool off
    exact leads_of_eq rfl ((if_pos failed).trans answer) ⟨rfl, List.mem_append_right _ List.mem_cons_self⟩
  case release =>
    intro s n may held
    have cond : (s.body.rstMay n && !s.body.hob.outs.contains n) = true := by rw [may, held]; rfl
    exact leads_of_eq rfl (if_pos cond) ⟨mem_insertNat.2 (.inl rfl), mem_out_send ..⟩
  case pulse =>
    have outs : (wrote s.body actor (F.HOB_RST_PULSE n).addr (bitWord s.body (F.HOB_RST_PULSE n) 1)).hob.outs.contains n = true :=
      (congrArg (fun h : HobSt => h.outs.contains n) (hob_wrote ..)).trans out
    show n ∉ (rstAssert _ n).hob.outs ∧ .resetOut n true ∈ (rstAssert _ n).out
    unfold rstAssert
    rw [outs]
    exact ⟨fun h => by simp [when_true, send] at h, List.mem_cons_self⟩

end Body
end Sys2Proof.Machine

/-! The STATE windows (R437, R438). -/

namespace Sys2Proof.Machine
namespace Body

open Sys2Proof.Stmt

/-- The words of a row in the data window, the uncorrectable ones as zero. -/
def rowData (s : Body) (bad : List Nat) (l : List Word) : Body :=
  s.forEach (List.range 64) fun s n => s.setWord (A.STATE_DATA n) (if bad.contains n then 0 else l.getD n 0)

/-- The status of a window that shows a row of `kind` and index `i`: whether a word was corrected or lost, whether the index lies outside,
whether the row is withheld. -/
def rowStatus (s : Body) (kind i : Nat) (fixed lost outside hide : Bool) : Body :=
  let s := ((s.put F.STATE_STATUS_STATE 2).putB F.STATE_STATUS_CORRECTED fixed).putB F.STATE_STATUS_UNCORRECTABLE lost
  let s := (s.putB F.STATE_STATUS_INVALID_INDEX outside).putB F.STATE_STATUS_WITHHELD hide
  let s := (s.put F.STATE_STATUS_ECHO_KIND kind).put F.STATE_STATUS_ECHO_INDEX i
  let s := (s.put F.STATE_FRAME_FRAME s.frameNo).put F.STATE_SEQ_SEQ (s.get F.PASS_SEQ_LAST_SEQ)
  (s.put F.STATE_LEN_BYTES (rowBytes kind)).freshN 64

/-- Whether a row is a flash page that is withheld. -/
def rowHidden (s : Body) (kind i : Nat) : Bool := kind == 19 && i < 524288 && s.pageWithheld i

/-- The read of an unfilled unit of the region is reported before its row is shown. -/
def rowSeen (s : Body) (kind i : Nat) : Body :=
  if kind == 18 && (s.rowOf kind i).isSome then s.rkSeen (s.rkStateAt (i % 8) (512 * (i / 8))) else s

section
variable {s : Body} {kind i : Nat} {fixed : Bool} {bad : List Nat}

theorem stateRow_eq : s.stateRow kind i fixed bad = ((s.rowSeen kind i).rowData bad (if s.rowHidden kind i then [] else (s.rowOf kind i).getD
    [])).rowStatus kind i fixed (!bad.isEmpty) (s.rowOf kind i).isNone (s.rowHidden kind i) := rfl

theorem word_freshN (n k : Nat) : (s.freshN n).word k = s.word k := rfl

/-- What the status of a shown row reads. -/
theorem rowStatus_shown (lost outside hide : Bool) : (s.rowStatus kind i fixed lost outside hide).get F.STATE_STATUS_STATE = 2
    ∧ (s.rowStatus kind i fixed lost outside hide).get F.STATE_STATUS_ECHO_KIND = kind % 2 ^ 8
    ∧ (s.rowStatus kind i fixed lost outside hide).get F.STATE_STATUS_ECHO_INDEX = i % 2 ^ 40
    ∧ (s.rowStatus kind i fixed lost outside hide).get F.STATE_LEN_BYTES = rowBytes kind % 2 ^ 10
    ∧ (s.rowStatus kind i fixed lost outside hide).flag F.STATE_STATUS_INVALID_INDEX = outside := by
  have puts (f : Fld) (lenApart : F.STATE_LEN_BYTES.apart f = true) (seqApart : F.STATE_SEQ_SEQ.apart f = true)
      (frameApart : F.STATE_FRAME_FRAME.apart f = true) : (s.rowStatus kind i fixed lost outside hide).get f
      = ((((((((s.put F.STATE_STATUS_STATE 2).putB F.STATE_STATUS_CORRECTED fixed).putB F.STATE_STATUS_UNCORRECTABLE lost).putB
        F.STATE_STATUS_INVALID_INDEX outside).putB F.STATE_STATUS_WITHHELD hide).put F.STATE_STATUS_ECHO_KIND kind).put
        F.STATE_STATUS_ECHO_INDEX i).get f) := by
    unfold rowStatus
    dsimp only
    rw [get_freshN, get_put_ne _ _ _ _ lenApart, get_put_ne _ _ _ _ seqApart, get_put_ne _ _ _ _ frameApart]
  refine ⟨?_, ?_, ?_, ?_, ?_⟩
  · rw [puts _ (by decide) (by decide) (by decide)]
    simp (disch := decide) only [putB_eq, get_put_ne, get_put_same]
    rfl
  · rw [puts _ (by decide) (by decide) (by decide)]
    simp (disch := decide) only [get_put_ne, get_put_same]
    rfl
  · rw [puts _ (by decide) (by decide) (by decide)]
    exact get_put_same _ _ _ (by decide)
  · unfold rowStatus
    dsimp only
    rw [get_freshN]
    exact get_put_same _ _ _ (by decide)
  · rw [flag, puts _ (by decide) (by decide) (by decide)]
    simp (disch := decide) only [putB_eq, get_put_ne, get_put_same]
    cases outside <;> rfl

theorem rowBytes_lt (kind : Nat) : rowBytes kind < 2 ^ 10 := by
  unfold rowBytes
  split <;> decide

/-- The status leaves the data of the row. -/
theorem word_rowStatus (lost outside hide : Bool) {k : Nat} (h : A.STATE_DATA 0 ≤ k) :
    (s.rowStatus kind i fixed lost outside hide).word k = s.word k := by
  have apart (a : Nat) (ha : a < A.STATE_DATA 0) : k ≠ a := by omega
  unfold rowStatus
  dsimp only
  simp only [putB_eq]
  rw [word_freshN]
  iterate 10 rw [word_put_ne _ _ _ (apart _ (by decide))]

theorem rb_rowStatus (lost outside hide : Bool) : (s.rowStatus kind i fixed lost outside hide).rb = s.rb := rfl

theorem word_rowData (l : List Word) {n : Nat} (hn : n < 64) : (s.rowData bad l).word (A.STATE_DATA n) = if bad.contains n then 0 else l.getD n 0 :=
  word_setEach s A.STATE_DATA (fun n => if bad.contains n then 0 else l.getD n 0) (fun i j ne => by simp only [A.STATE_DATA]; omega) 64 n hn

theorem rowHidden_fast (fast : rowSlow kind = false) : s.rowHidden kind i = false := by
  have ne : (kind == 19) = false := by
    refine beq_false_of_ne fun e => ?_
    rw [e] at fast
    exact absurd fast (by decide)
  rw [rowHidden, ne, Bool.false_and, Bool.false_and]

theorem rb_rowData (l : List Word) : (s.rowData bad l).rb = s.rb :=
  forEach_induct (P := fun t : Body => t.rb = s.rb) _ rfl fun _ _ _ h => h

theorem rb_rkSeen (r : Nat) : (s.rkSeen r).rb = s.rb := by
  unfold rkSeen
  split
  · split <;> rfl
  · rfl

theorem rb_stateRow : (s.stateRow kind i fixed bad).rb = s.rb := by
  have seen : (s.rowSeen kind i).rb = s.rb := by
    unfold rowSeen
    split
    · exact rb_rkSeen _
    · rfl
  rw [stateRow_eq]
  exact (rb_rowStatus ..).trans ((rb_rowData _).trans seen)

/-- A row that needs no access is shown at once. -/
theorem stateSnap_fast (idle : s.rb.snap = none) (fast : rowSlow (s.get F.STATE_SEL_KIND) = false) :
    s.stateSnap fixed bad = s.stateRow (s.get F.STATE_SEL_KIND) (s.get F.STATE_SEL_INDEX) fixed bad := by
  unfold stateSnap
  rw [idle]
  dsimp only
  rw [fast, Bool.false_and, if_neg Bool.false_ne_true]

/-- A row that needs an access waits for it. -/
theorem stateSnap_slow (idle : s.rb.snap = none) (slow : rowSlow (s.get F.STATE_SEL_KIND) = true)
    (inside : (s.rowOf (s.get F.STATE_SEL_KIND) (s.get F.STATE_SEL_INDEX)).isSome = true) :
    s.stateSnap fixed bad = { s with rb := { s.rb with snap := some (s.get F.STATE_SEL_KIND, s.get F.STATE_SEL_INDEX) } }.put
      F.STATE_STATUS_STATE 1 := by
  unfold stateSnap
  rw [idle]
  dsimp only
  rw [slow, inside, Bool.true_and, if_pos rfl]

theorem stateSnap_busy (busy : s.rb.snap ≠ none) : s.stateSnap fixed bad = s.raise U.boot F.BOOT_EVENTS_STATE_BUSY := by
  unfold stateSnap
  cases snap : s.rb.snap with
  | none => exact absurd snap busy
  | some p => rfl

theorem stateSnapped_running (running : s.rb.snap = some (kind, i)) :
    s.stateSnapped fixed bad = ({ s with rb := { s.rb with snap := none } }).stateRow kind i fixed bad := by
  unfold stateSnapped
  rw [running]

end

/-- A judged write leaves the snapshot that runs. -/
theorem snap_wrote (s : Body) (actor : Actor) (a v : Nat) : (wrote s actor a v).rb.snap = s.rb.snap := by
  unfold wrote
  obtain ⟨j, e⟩ | e := judge_cases s actor a (BitVec.ofNat 64 v) <;> rw [e]
  · rw [judgeDone_eq]
  · rfl

/-- Settles O54. -/
theorem stateWindowCommands : Obligations.StateWindowCommands := by
  unfold Obligations.StateWindowCommands
  refine ⟨fun s actor fixed bad h => ⟨fun idle fast => leads_command h ?fast, fun idle slow inside => leads_command h ?slow,
    fun busy => leads_command h ?busy⟩, ?done⟩
  case fast =>
    rw [stateSnap_fast ((snap_wrote ..).trans idle) fast, stateRow_eq, rowHidden_fast fast]
    obtain ⟨state, echoKind, echoIndex, bytes, invalid⟩ := rowStatus_shown (s := (wrote s.body actor A.STATE_CMD 1).rowSeen _ _ |>.rowData bad _)
      (kind := (wrote s.body actor A.STATE_CMD 1).get F.STATE_SEL_KIND) (i := (wrote s.body actor A.STATE_CMD 1).get F.STATE_SEL_INDEX)
      (fixed := fixed) (!bad.isEmpty) _ false
    refine ⟨state, echoKind.trans (Nat.mod_eq_of_lt (ofWord_lt F.STATE_SEL_KIND _)),
      echoIndex.trans (Nat.mod_eq_of_lt (ofWord_lt F.STATE_SEL_INDEX _)), bytes.trans (Nat.mod_eq_of_lt (rowBytes_lt _)), invalid, fun n hn => ?_⟩
    rw [word_rowStatus _ _ _ (by simp only [A.STATE_DATA]; omega)]
    exact word_rowData _ hn
  case slow =>
    rw [stateSnap_slow ((snap_wrote ..).trans idle) slow inside]
    exact ⟨rfl, get_put_same _ _ _ (by decide)⟩
  case busy =>
    have busy' : (wrote s.body actor A.STATE_CMD 1).rb.snap ≠ none := by
      rw [snap_wrote]
      exact busy
    rw [stateSnap_busy busy']
    exact ⟨snap_wrote .., (congrArg (· != 0) (get_raise ..)).trans (flag_put_one _ _ rfl (by decide))⟩
  case done =>
    intro s fixed bad kind i running
    refine leads_of_eq rfl (stateSnapped_running running) ⟨congrArg (·.snap) rb_stateRow, ?_⟩
    rw [stateRow_eq]
    obtain ⟨state, echoKind, echoIndex, -, -⟩ := rowStatus_shown (s := (rowSeen { s.body with rb := { s.body.rb with snap := none } } kind i).rowData
      bad _) (kind := kind) (i := i) (fixed := fixed) (!bad.isEmpty) _ _
    exact ⟨state, echoKind, echoIndex⟩

end Body
end Sys2Proof.Machine

/-! ## What the units' run leaves standing

`Body.unitsRun` carries out every operation that the units owe. None of them writes the vault, its header, the rail table or HOB_STATUS's
word once nothing has written it, and none writes TH_SENSOR 0 while the registers that would stand at its address stay out of reach. `Onward` says so of two
bodies, the earlier and the later one; each operation extends it. -/

namespace Sys2Proof.Machine
open Host

-- One declaration at a time: what elaborates side by side takes a stack each, and the text is at the memory limit of its check.
set_option Elab.async false

/-- No entry of the map at `a` comes from a write: the entry stands behind a larger key, where `mset` never puts one. -/
def Untouched {α : Type} (a : Nat) : SMap α → Prop
  | [] => False
  | (k, _) :: r => if k < a then Untouched a r else a < k ∧ (mget r a).isSome

theorem Untouched.isSome {α : Type} {a : Nat} : ∀ {m : SMap α}, Untouched a m → (mget m a).isSome
  | (k, v) :: r, h => by
    unfold Untouched at h
    unfold mget
    split at h
    · next lt => rw [if_neg (by omega)]; exact h.isSome
    · rw [if_neg (by omega)]; exact h.2

/-- A map whose entry at `a` was not written is the result of writes elsewhere only. -/
theorem Untouched.of_mset {α : Type} {a x : Nat} {w : α} : ∀ {m : SMap α}, Untouched a (mset m x w) →
    x ≠ a ∧ Untouched a m
  | [], h => by
    unfold mset Untouched at h
    split at h
    · cases h
    · exact absurd h.2 (by simp [mget])
  | (k, v) :: r, h => by
    unfold mset at h
    split at h
    · next before =>
      unfold Untouched at h
      split at h
      · exact ⟨by omega, h⟩
      · obtain ⟨lt, some⟩ := h
        refine ⟨by omega, ?_⟩
        unfold Untouched
        unfold mget at some
        rw [if_neg (by omega)] at some
        rw [if_neg (by omega)]
        exact ⟨by omega, some⟩
    · split at h
      · next same =>
        subst same
        unfold Untouched at h ⊢
        split at h
        · next lt => exact ⟨by omega, by rw [if_pos lt]; exact h⟩
        · next le => exact ⟨by omega, by rw [if_neg le]; exact h⟩
      · next after other =>
        unfold Untouched at h ⊢
        split at h
        · next lt =>
          obtain ⟨ne, rest⟩ := h.of_mset
          exact ⟨ne, by rw [if_pos lt]; exact rest⟩
        · next le =>
          obtain ⟨lt, some⟩ := h
          rw [mget_mset_ne r x a w (by omega)] at some
          exact ⟨by omega, by rw [if_neg le]; exact ⟨lt, some⟩⟩

theorem merase_eq_filter {α : Type} (m : SMap α) (a : Nat) : merase m a = m.filter fun p => p.1 != a := by
  induction m with
  | nil => rfl
  | cons p r ih =>
    rw [List.filter_cons, merase, ih]
    by_cases e : a = p.1
    · simp [e]
    · simp [e, Ne.symm e]

theorem Untouched.of_filter {α : Type} {a : Nat} {q : Nat → Bool} (keeps : q a = true) : ∀ {m : SMap α},
    Untouched a (m.filter fun p => q p.1) → Untouched a m
  | [], h => h
  | (k, v) :: r, h => by
    unfold Untouched
    rw [List.filter_cons] at h
    split at h
    · unfold Untouched at h
      split at h
      · next lt => rw [if_pos lt]; exact h.of_filter keeps
      · next le =>
        obtain ⟨lt, some⟩ := h
        rw [mget_filter_key, if_pos keeps] at some
        rw [if_neg le]
        exact ⟨lt, some⟩
    · next gone =>
      have ne : k ≠ a := fun e => gone (e ▸ keeps)
      have rest := h.of_filter keeps
      split
      · exact rest
      · exact ⟨by omega, rest.isSome⟩

theorem Untouched.of_mput {α : Type} [DecidableEq α] {d : α} {a x : Nat} {w : α} {m : SMap α} (h : Untouched a (mput d m x w)) :
    x ≠ a ∧ Untouched a m := by
  unfold mput at h
  split at h
  · have ne : x ≠ a := by
      rintro rfl
      have some := h.isSome
      rw [mget_merase_same] at some
      cases some
    rw [merase_eq_filter] at h
    exact ⟨ne, h.of_filter (q := (· != x)) (by simpa using Ne.symm ne)⟩
  · exact h.of_mset

namespace Body

/-- No log of a logical device has overflowed or holds a record other than the temperature row's, and no decoder was judged. -/
def Quiet (l : LdSt) : Prop :=
  (∀ n, (logOf l n).overflow = false ∧ ∀ r ∈ (logOf l n).recs, r.code = 3)
  ∧ ∀ d ∈ decs l, d.committed = false ∧ d.error = false

/-- A body where nothing is found that a write through an aliasing address would have left. -/
structure Clean (b : Body) : Prop where
  free : b.boot.held = false
  sealing : b.frame.sealing = true
  queues : ∀ q, 24 ≤ q → b.aq q = []
  lds : ∀ p k, Quiet (b.ldOf p k)
  units : ∀ e ∈ b.evs, e.src < 88

/-- What an operation keeps, told from its result. The last clause is claimed under `C` only: `Onward 0` asks nothing of addresses. -/
structure Onward (n : Nat) (a b : Body) : Prop where
  vault : b.mtl.vault = a.mtl.vault
  hdr : b.mtl.hdr = a.mtl.hdr
  table : b.hob.table = a.hob.table
  status : Untouched A.HOB_STATUS b.regs → Untouched A.HOB_STATUS a.regs ∧ b.word A.HOB_STATUS = a.word A.HOB_STATUS
  sensor : 0 < n → b.Clean → a.Clean ∧ b.word (A.TH_SENSOR 0) = a.word (A.TH_SENSOR 0)

/-- The parts of a body that `Onward` looks at. -/
def watched (b : Body) :=
  (b.mtl.vault, b.mtl.hdr, b.hob.table, b.regs, b.boot.held, b.frame.sealing, b.per.queues, b.cxl.ports, b.evs)

namespace Onward
variable {n : Nat} {a b s t : Body}

theorem refl (s : Body) : Onward n s s := ⟨rfl, rfl, rfl, fun h => ⟨h, rfl⟩, fun _ h => ⟨h, rfl⟩⟩

theorem trans (h : Onward n a s) (k : Onward n s t) : Onward n a t where
  vault := k.vault.trans h.vault
  hdr := k.hdr.trans h.hdr
  table := k.table.trans h.table
  status u :=
    have ⟨u', e⟩ := k.status u
    have ⟨u'', e'⟩ := h.status u'
    ⟨u'', e.trans e'⟩
  sensor c u :=
    have ⟨u', e⟩ := k.sensor c u
    have ⟨u'', e'⟩ := h.sensor c u'
    ⟨u'', e.trans e'⟩

/-- What is claimed with every address is claimed without the aliasing ones. -/
theorem weaken (h : Onward n a s) : Onward 0 a s := { h with sensor := fun c => absurd c (Nat.lt_irrefl 0) }

/-- A result that is not clean claims nothing of the sensor. -/
theorem of_unclean (h : Onward 0 a t) (unclean : ¬ t.Clean) : Onward n a t := { h with sensor := fun _ clean => absurd clean unclean }

/-- A condition that a clean result meets may be used. -/
theorem of_clean (h : t.Clean → Onward n a t) (k : Onward 0 a t) : Onward n a t :=
  { k with sensor := fun c clean => (h clean).sensor c clean }

theorem unseen (h : Onward n a s) (same : watched t = watched s := by rfl) : Onward n a t := by
  simp only [watched, Prod.mk.injEq] at same
  obtain ⟨vault, hdr, table, regs, held, sealing, queues, ports, evs⟩ := same
  have cxp : ∀ p, t.cxp p = s.cxp p := fun p => by rw [Body.cxp, Body.cxp, ports]
  refine h.trans ⟨vault, hdr, table, fun u => ⟨regs ▸ u, by rw [word, word, regs]⟩, fun _ u => ⟨?_, by rw [word, word, regs]⟩⟩
  exact ⟨held ▸ u.free, sealing ▸ u.sealing, fun q hq => by rw [aq, ← queues]; exact u.queues q hq,
    fun p k => by rw [ldOf, ← cxp]; exact u.lds p k, evs ▸ u.units⟩

/-- The same of an update written out on a body that other operations gave. -/
theorem updated (h : Onward n a s) (same : watched t = watched s := by simp +zetaDelta only [watched]) : Onward n a t := h.unseen same

theorem setWord {ad : Nat} {x : Word} (h : Onward n a s) (ne : 0 < n → ad ≠ 0x170100 := by omega) : Onward n a (s.setWord ad x) := by
  refine h.trans ⟨rfl, rfl, rfl, fun u => ?_, fun c u => ⟨⟨u.free, u.sealing, u.queues, u.lds, u.units⟩, word_setWord_ne _ _ _ _ (ne c).symm⟩⟩
  obtain ⟨other, before⟩ := u.of_mput
  exact ⟨before, word_setWord_ne _ _ _ _ other.symm⟩

section
variable {ad lo w v : Nat} (h : Onward n a s) (ne : 0 < n → ad ≠ 0x170100 := by omega)
include h ne

theorem put : Onward n a (s.put ⟨ad, lo, w⟩ v) := h.setWord ne

theorem putB {v : Bool} : Onward n a (s.putB ⟨ad, lo, w⟩ v) := h.setWord ne

theorem addWrap : Onward n a (s.addWrap ⟨ad, lo, w⟩ v) := h.setWord ne

theorem inc : Onward n a (s.inc ⟨ad, lo, w⟩) := h.setWord ne

theorem incSat : Onward n a (s.incSat ⟨ad, lo, w⟩) := h.setWord ne

theorem putBit {v : Bool} {i : Nat} : Onward n a (s.putBit ⟨ad, lo, w⟩ i v) := h.setWord ne

end

theorem post {u arg : Nat} {ev : Event} (h : Onward n a s) : Onward n a (s.post u ev arg) :=
  h.trans ⟨rfl, rfl, rfl, fun u => ⟨u, rfl⟩, fun _ u => ⟨⟨u.free, u.sealing, u.queues, u.lds,
    fun e he => u.units e (List.mem_append_left _ he)⟩, rfl⟩⟩

theorem postN {u arg : Nat} {ev : EvName} (h : Onward n a s) : Onward n a (s.postN u ev arg) := h.post

theorem raise {u ad lo w arg : Nat} (h : Onward n a s) (ne : 0 < n → ad ≠ 0x170100 := by omega) : Onward n a (s.raise u ⟨ad, lo, w⟩ arg) :=
  (h.put ne).post

theorem send {o : Out} (h : Onward n a s) : Onward n a (s.send o) := h.unseen

theorem later {o : Todo} (h : Onward n a s) : Onward n a (s.later o) := h.unseen

theorem fresh (h : Onward n a s) : Onward n a s.fresh := h.unseen

theorem freshN {m : Nat} (h : Onward n a s) : Onward n a (s.freshN m) := h.unseen

theorem when {c : Bool} {f : Body → Body} (h : Onward n a s) (step : c = true → Onward n a (f s)) : Onward n a (s.when c f) := by
  unfold Body.when
  split
  · exact step ‹_›
  · exact h

theorem ite {c : Prop} [Decidable c] {u : Body} (h : c → Onward n a t) (k : ¬ c → Onward n a u) : Onward n a (if c then t else u) := by
  split
  · exact h ‹_›
  · exact k ‹_›

theorem forEach {α : Type} {l : List α} {f : Body → α → Body} (h : Onward n a s)
    (step : ∀ {t x}, x ∈ l → Onward n a t → Onward n a (f t x)) : Onward n a (s.forEach l f) :=
  forEach_induct l h fun _ _ => step

end Onward

/-! ### Register operations -/

namespace Onward
variable {n : Nat} {a s t : Body}

theorem qShow (h : Onward n a s) : Onward n a s.qShow := h.put.put.put.put.put.putB.put.put.put.put.put.put

theorem setQueue {k : Nat} {q : Queue} (h : Onward n a s) : Onward n a (s.setQueue k q) := qShow h.unseen

theorem qCommit {k : Nat} {l : List Word} (h : Onward n a s) : Onward n a (s.qCommit k l).1 := by
  unfold Body.qCommit
  split
  · exact h.raise
  · dsimp only
    split
    · exact h.setQueue
    · exact h.setQueue

theorem qParity {k m : Nat} (h : Onward n a s) : Onward n a (s.qParity k m) := ite (fun _ => h) fun _ => h.setQueue.raise

theorem qTakeItem {k : Nat} (h : Onward n a s) : Onward n a (s.qTakeItem k).1 := h.setQueue.qParity

theorem rdmaPost {c p o d : Nat} (h : Onward n a s) : Onward n a (s.rdmaPost c p o d) := h.postN

theorem qStart (h : Onward n a s) : Onward n a s.qStart := qShow h.unseen

theorem rackPut {o : RackOrder} {w : RackWhat} (h : Onward n a s) : Onward n a (s.rackPut o w) := h.unseen

theorem storeMark {r v : Nat} (h : Onward n a s) : Onward n a (s.storeMark r v) := h.unseen

theorem incCounter {k : Nat} (h : Onward n a s) : Onward n a (s.incCounter k) := ite (fun _ => h) fun _ => h.unseen

theorem recWrite {o : RackOrder} {off low : Nat} {l : List Word} (h : Onward n a s) : Onward n a (s.recWrite o off l low) := h.rackPut.rackPut

theorem setCore {c : Nat} {k : Core} (h : Onward n a s) : Onward n a (s.setCore c k) := h.unseen

/-! ### Units -/

theorem unitEnter {u : Nat} {st : UnitState} (h : Onward n a s) : Onward n a (s.unitEnter u st) := by
  refine of_clean (fun clean => ?_) h.weaken.put.postN
  have bound : u < 88 := clean.units _ (List.mem_append_right _ (List.mem_singleton_self _))
  exact h.put.postN

theorem unitPend {u : Nat} {p : Option Bool} (bound : 0 < n → u < 88) (h : Onward n a s) : Onward n a (s.unitPend u p) := by
  cases p with
  | none => exact h.put.put
  | some e => exact h.put.putB

theorem unitStop {u : Nat} (h : Onward n a s) : Onward n a (s.unitStop u) := h.unitEnter.later

theorem unitDisable {u : Nat} (bound : 0 < n → u < 88) (h : Onward n a s) : Onward n a (s.unitDisable u) := by
  unfold Body.unitDisable
  split
  · exact h
  · exact h.unitPend bound
  · exact h.unitStop
  · exact h.unitPend bound

theorem unitFail {u : Nat} (h : Onward n a s) : Onward n a (s.unitFail u) := by
  refine ite (fun _ => h) fun _ => of_clean (fun clean => ?_) (h.weaken.put.unitPend (by omega)).unitStop
  have bound : u < 88 := clean.units _ (List.mem_append_right _ (List.mem_singleton_self _))
  exact (h.put.unitPend fun _ => bound).unitStop

/-! ### The Hob -/

theorem setRailState {r : Nat} {st : RailState} (h : Onward n a s) : Onward n a (s.setRailState r st) := h.put

theorem setRail {r : Nat} {x : Rail} (h : Onward n a s) : Onward n a (s.setRail r x) := h.unseen

theorem hobLog {r e d u : Nat} (h : Onward n a s) : Onward n a (s.hobLog r e d u) := h.unseen.put.inc.rackPut

theorem setHob {st : HobState} (h : Onward n a s) : Onward n a (s.setHob st) := h.put.postN.hobLog

theorem rstAssert {m : Nat} (h : Onward n a s) : Onward n a (s.rstAssert m) := by
  unfold Body.rstAssert
  extract_lets was _ s'
  have cleared : Onward n a s' := h.unseen
  exact cleared.when fun _ => cleared.send

theorem rstRail {r : Nat} (h : Onward n a s) : Onward n a (s.rstRail r) := h.forEach fun _ k => k.rstAssert

theorem railOff {r : Nat} (h : Onward n a s) : Onward n a (s.railOff r) := ite (fun _ => h.putBit.send) fun _ => h

theorem downFrom (fuel : Nat) (h : Onward n a s) : Onward n a (downFrom fuel s) := by
  induction fuel generalizing s with
  | zero => exact h
  | succ fuel ih =>
    unfold Body.downFrom
    split
    · exact h
    · next r _ =>
      dsimp only
      split
      · exact ih h.unseen
      · exact (h.rstRail.railOff.when fun _ => h.rstRail.railOff.setRailState).setRail

theorem upBegin (h : Onward n a s) : Onward n a s.upBegin := by
  have begun : Onward n a ((s.setHob .poweringUp).put F.HOB_STATUS_PENDING_ON 0) := h.setHob.put
  unfold Body.upBegin
  dsimp only
  split
  · exact begun.updated.put.setRailState
  · exact begun.updated.put.setHob.raise

theorem downDone (h : Onward n a s) : Onward n a s.downDone := by
  unfold Body.downDone
  extract_lets s1 _ s2 again s3 s4 _ s5
  have h1 : Onward n a s1 := h.put
  clear_value s1
  have h2 : Onward n a s2 := h1.updated
  clear_value s2
  have h4 : Onward n a s4 := h2.setHob.raise.put.put
  clear_value s4
  have h5 : Onward n a s5 := h4.updated.later
  exact ite (fun _ => h2.put.upBegin) fun _ => h5.when fun _ => h5.later

theorem downNext (h : Onward n a s) : Onward n a s.downNext := ite (fun _ => (h.downFrom 24).put.downDone) fun _ => (h.downFrom 24).put

theorem downBegin {m : Nat} (h : Onward n a s) : Onward n a (s.downBegin m) := by
  unfold Body.downBegin
  extract_lets s1 s2 s3 _ s4
  have h3 : Onward n a s3 := h.setHob.put.put.put
  clear_value s3
  have h4 : Onward n a s4 := h3.updated
  exact h4.downNext

theorem hobOffReq {why : DownCause} (h : Onward n a s) : Onward n a (s.hobOffReq why) := by
  unfold Body.hobOffReq
  extract_lets pend
  have pended : Onward n a (pend s) := put h.unseen
  split
  · exact h
  · exact ite (fun _ => pended) fun _ => pended.raise
  · exact ite (fun _ => put (setHob h.unseen)) fun _ => downBegin h.unseen
  · exact ite (fun _ => h.unseen) fun _ => h
  · exact ite (fun _ => h.unseen) fun _ => h

theorem hobFlushDone (h : Onward n a s) : Onward n a s.hobFlushDone := ite (fun _ => downBegin h.unseen) fun _ => h

/-! ### The service cluster, the keys and the time -/

theorem coreRegs {c : Nat} (h : Onward n a s) : Onward n a (s.coreRegs c) := h.put.putB.put.put.putBit.putBit

theorem putCore {c : Nat} {k : Core} (h : Onward n a s) : Onward n a (s.putCore c k) := h.setCore.coreRegs

theorem nmiEnter {c : Nat} (h : Onward n a s) : Onward n a (s.nmiEnter c) := ite (fun _ => h.putCore) fun _ => h

theorem coreRun {c : Nat} (h : Onward n a s) : Onward n a (s.coreRun c) := ite (fun _ => h.putCore.nmiEnter) fun _ => h

theorem coreStop {c : Nat} (h : Onward n a s) : Onward n a (s.coreStop c) := ite (fun _ => h) fun _ => h.putCore

theorem clusterStart (h : Onward n a s) : Onward n a s.clusterStart := forEach h.unseen fun _ k => k.putCore

theorem clusterStarted (h : Onward n a s) : Onward n a s.clusterStarted := by
  unfold Body.clusterStarted
  extract_lets s1
  have h1 : Onward n a s1 := h.forEach fun _ k => k.when fun _ => k.coreRun
  clear_value s1
  exact ite (fun _ => h1.updated.raise) fun _ => h1

theorem clusterStop (h : Onward n a s) : Onward n a s.clusterStop := h.forEach fun _ k => k.coreStop

theorem cipherRegs (h : Onward n a s) : Onward n a s.cipherRegs := h.put.put.put.put.putB.put.putB.put.put

theorem timeRegs (h : Onward n a s) : Onward n a s.timeRegs := h.put.put.put.put

theorem setSync {st : SyncState} (h : Onward n a s) : Onward n a (s.setSync st) := timeRegs h.unseen

theorem beaconSeqNext (h : Onward n a s) : Onward n a s.beaconSeqNext.2 := ite (fun _ => storeMark h.unseen) fun _ => h.unseen

theorem ldRegs (h : Onward n a s) : Onward n a s.ldRegs := by
  refine h.forEach fun port k => k.put.putB.put.forEach fun device l => ?_
  have := List.mem_range.mp port
  have := List.mem_range.mp device
  exact l.putB.put

/-! ### The media and their map -/

theorem setSlot {c p i : Nat} {r : SlotRec} (h : Onward n a s) : Onward n a (s.setSlot c p i r) := h.unseen

theorem spareCheck {c p : Nat} (h : Onward n a s) : Onward n a (s.spareCheck c p) :=
  have up {t : Body} {f : Fld} {e : Bool} {arg : Nat} (ne : f.addr ≠ 0x170100) (k : Onward n a t) :
      Onward n a (if e && !t.flag f then t.raise (U.md c) f arg else t) := ite (fun _ => k.raise) fun _ => k
  up (by simp only [F.MD_EVENTS_SPARE_EXHAUSTED]; omega)
    (up (by simp only [F.MD_EVENTS_SPARE_CRIT]; omega) (up (by simp only [F.MD_EVENTS_SPARE_LOW]; omega) h))

theorem mapWriteback {lg : Nat} (h : Onward n a s) : Onward n a (s.mapWriteback lg) := by
  unfold Body.mapWriteback
  split
  · exact ite (fun _ => h.unseen) fun _ => h
  · exact h

theorem cacheRoom {lg : Nat} (h : Onward n a s) : Onward n a (s.cacheRoom lg) := by
  unfold Body.cacheRoom
  extract_lets l
  refine ite (fun _ => h) fun _ => ?_
  split
  · exact h
  · next v _ =>
    have h1 : Onward n a (s.fresh.mapWriteback v) := h.fresh.mapWriteback
    exact ite (fun _ => h1) fun _ => h1.updated

theorem mapPut {lg : Nat} {e : MapEntry} {b : Bool} (h : Onward n a s) : Onward n a (s.mapPut lg e b) := by
  unfold Body.mapPut
  extract_lets s1 old was d s2 c
  have h1 : Onward n a s1 := h.cacheRoom
  have h2 : Onward n a s2 := by
    refine ite (fun _ => h1) fun _ => ?_
    split
    · exact h1.mapWriteback
    · exact h1
  clear_value s2
  exact h2.updated

theorem mapTouch {lg : Nat} (h : Onward n a s) : Onward n a (s.mapTouch lg) :=
  have counted : Onward n a (s.inc F.MTL_COUNT_2_MAP_READS) := h.inc
  ite (fun _ => h) fun _ => counted.unseen

theorem ruleRegs (h : Onward n a s) : Onward n a s.ruleRegs := by
  refine h.forEach fun inRange k => ?_
  have := List.mem_range.mp inRange
  split
  · exact k.put.put.put.put
  · exact (k.setWord (by simp only [A.MTL_UNTRUST]; omega)).setWord (by simp only [A.MTL_UNTRUST_FRAME]; omega)

theorem ruleAdd {d p f : Nat} (h : Onward n a s) : Onward n a (s.ruleAdd d p f) := by
  unfold Body.ruleAdd
  extract_lets l same _ set
  have written (i : Nat) : Onward n a (set i) := raise (ruleRegs h.unseen)
  split
  · exact ite (fun _ => written _) fun _ => h
  · split
    · exact written _
    · exact h

theorem chunkDrop {c : Nat} (h : Onward n a s) : Onward n a (s.chunkDrop c) := by
  unfold Body.chunkDrop
  extract_lets mine lgs s1
  have h1 : Onward n a s1 := h.forEach fun _ k => ite (fun _ => k.setSlot) fun _ => k
  clear_value s1
  exact h1.updated

theorem chunkRelease (h : Onward n a s) : Onward n a s.chunkRelease := by
  unfold Body.chunkRelease
  extract_lets gone s1
  have h1 : Onward n a s1 := h.forEach fun _ k => k.chunkDrop
  clear_value s1
  exact h1.updated

theorem chunkAssign {p : PartDef} (h : Onward n a s) : Onward n a (s.chunkAssign p) := ite (fun _ => h) fun _ => h.unseen

theorem partShow (h : Onward n a s) : Onward n a s.partShow :=
  (h.forEach fun _ k => ite (fun _ => k.put.put.put.raise) fun _ => k.put.put.put).put.put

theorem bringUp (h : Onward n a s) : Onward n a s.bringUp := by
  refine (h.chunkRelease.forEach fun _ k => ?_).partShow
  split
  · exact k.chunkAssign
  · exact k

theorem setSpCh {c : Nat} {x : SpCh} (h : Onward n a s) : Onward n a (s.setSpCh c x) := h.unseen

theorem setBlock {c k : Nat} {b : SpBlock} (h : Onward n a s) : Onward n a (s.setBlock c k b) := h.setSpCh

theorem pinRegs (h : Onward n a s) : Onward n a s.pinRegs := h.put.put

/-! ### The twin's link, repairs and poison -/

theorem histPush {p : MPos} {l : Nat} {b : LineData × Bool} (h : Onward n a s) : Onward n a (s.histPush p l b) := h.unseen

theorem mirrorPut {p : MPos} {l : Nat} {k : RecKind} {m : Mask} {d : LineData} (h : Onward n a s) : Onward n a (s.mirrorPut p l k m d) :=
  ite (fun _ => h.unseen) fun _ => h

theorem twinSend {m : TwinMsg} (h : Onward n a s) : Onward n a (s.twinSend m) := send h.unseen

theorem askTwin {k : AssistKind} {ad : Nat} {p : MPos} {f : AskFor} (h : Onward n a s) : Onward n a (s.askTwin k ad p f) := twinSend h.unseen

theorem repairAsk {l : Nat} {p : MPos} {f : AskFor} (h : Onward n a s) : Onward n a (s.repairAsk l p f) := h.unseen

theorem poisonMade {u arg : Nat} (h : Onward n a s) : Onward n a (s.poisonMade u arg) := h.incSat.raise

/-! ### The Stockpot and media operations -/

theorem spTouch {c k : Nat} {b : SpBlock} (h : Onward n a s) : Onward n a (s.spTouch c k b) := h.setSpCh

theorem spAlloc {g p c k : Nat} (h : Onward n a s) (e : s.spAlloc g p = some (t, c, k)) : Onward n a t := by
  unfold Body.spAlloc at e
  split at e
  · cases e
  · split at e
    · cases e
    · cases e
      exact h.spTouch

theorem setMop {o : MediaOp} (h : Onward n a s) : Onward n a (s.setMop o) := h.unseen

theorem dropMop {id : Nat} (h : Onward n a s) : Onward n a (s.dropMop id) := h.unseen

theorem issueOne (fuel : Nat) {id : Nat} (h : Onward n a s) : Onward n a (issueOne fuel s id) := by
  induction fuel generalizing s with
  | zero => exact h
  | succ fuel ih =>
    unfold Body.issueOne
    split
    · split
      · exact ite (fun _ => ih h.setMop.inc) fun _ => h
      · exact h
    · exact h

theorem wbForget {g : Nat} (h : Onward n a s) : Onward n a (s.wbForget g) := h.unseen

theorem opStart {id : Nat} (h : Onward n a s) : Onward n a (s.opStart id) := by
  unfold Body.opStart
  split
  · exact h
  · refine ite (fun _ => h) fun _ => ?_
    split
    · exact (dropMop (ite (fun _ => h.wbForget) fun _ => h)).spareCheck
    · extract_lets s1 _ s2 _ s3
      have h1 : Onward n a s1 := h.setMop
      have h2 : Onward n a s2 := ite (fun _ => h1.setSlot.spareCheck) fun _ => h1
      have h3 : Onward n a s3 := ite (fun _ => h2.mapPut) fun _ => h2
      exact h3.issueOne 16

theorem opNext {lg : Nat} (h : Onward n a s) : Onward n a (s.opNext lg) := by
  unfold Body.opNext
  split
  · exact h.opStart
  · exact h

theorem opQueue {k : OpKind} {lg : Nat} {c p q : Mask} {d b : SMap LineData} (h : Onward n a s) : Onward n a (s.opQueue k lg c p d b q) := by
  unfold Body.opQueue
  split
  · exact h
  · exact ite (fun _ => h) fun _ => opNext h.unseen

theorem slotTake {c : Nat} (h : Onward n a s) : Onward n a (s.slotTake c) := h.unseen

theorem readTake {lg m : Nat} (h : Onward n a s) : Onward n a (s.readTake lg m) := by
  unfold Body.readTake
  dsimp only
  split
  · exact h.setMop.inc.slotTake
  · exact h.slotTake

/-! ### The near cache and the Stockpot's blocks -/

theorem ncTouch {k : Nat} (h : Onward n a s) : Onward n a (s.ncTouch k) := h.unseen

theorem setWay {k : Nat} {w : NcLine} (h : Onward n a s) : Onward n a (s.setWay k w) := h.unseen

theorem dropWay {k : Nat} (h : Onward n a s) : Onward n a (s.dropWay k) := h.unseen

theorem setCol {i : Nat} {e : ColEntry} (h : Onward n a s) : Onward n a (s.setCol i e) := h.unseen

theorem dropCol {i : Nat} (h : Onward n a s) : Onward n a (s.dropCol i) := h.unseen

theorem setMr {i : Nat} {m : MissReg} (h : Onward n a s) : Onward n a (s.setMr i m) := h.unseen

theorem colPut {l : Nat} {d : LineData} {p : Bool} (h : Onward n a s) (e : s.colPut l d p = some t) : Onward n a t := by
  unfold Body.colPut at e
  split at e
  · cases e
    exact h.setCol
  · dsimp only at e
    split at e
    · cases e
      exact h.setCol
    · cases e

theorem stall {f : Fld} (ne : 0 < n → f.addr ≠ 0x170100) (h : Onward n a s) : Onward n a (s.stall f) := h.fresh.addWrap

theorem install {l c : Nat} {d : LineData} {m p : Bool} (h : Onward n a s) (e : s.install l d m p c = some t) : Onward n a t := by
  unfold Body.install at e
  dsimp only at e
  split at e
  · split at e
    · obtain ⟨u, put, rfl⟩ := Option.map_eq_some_iff.mp e
      exact (h.colPut put).setWay.ncTouch
    · cases e
      exact h.setWay.ncTouch
  · cases e
    exact h.setWay.ncTouch

theorem spFreeze {c r : Nat} (h : Onward n a s) : Onward n a (s.spFreeze c r) := ite (fun _ => h) fun _ => h.put.put.put.setSpCh.freshN.put.raise.later

theorem spEcc {c p : Nat} {e : Ecc} (h : Onward n a s) : Onward n a (s.spEcc c p e) := by
  cases e with
  | good => exact h.setSpCh
  | corrected => exact ite (fun _ => h.setSpCh.inc.put.put.raise) fun _ => h.setSpCh.inc.put.put
  | uncorrectable => exact h.incSat.put.put.raise

theorem wbStart {c k : Nat} (h : Onward n a s) : Onward n a (s.wbStart c k) := by
  unfold Body.wbStart
  split
  · exact h
  · next b _ =>
    refine ite (fun _ => h) fun _ => ?_
    split
    · exact h.setBlock
    · have kept : Onward n a (s.setBlock c k { b with again := 0 }) := h.setBlock
      exact opQueue kept.updated

theorem spAccept {l : Nat} {d : LineData} {p : Bool} (h : Onward n a s) (e : s.spAccept l d p = some t) : Onward n a t := by
  unfold Body.spAccept at e
  dsimp only at e
  split at e
  · cases e
    exact h
  · split at e
    · cases e
    · split at e
      · split at e
        · cases e
        · next s1 c k got =>
          have h1 : Onward n a s1 := by
            split at got
            · cases got
              exact h
            · exact h.spAlloc got
          split at e
          · cases e
          · cases e
            exact h1.spTouch
      · obtain ⟨-, e⟩ := Option.ite_none_right_eq_some.mp e
        cases e
        exact h.opQueue

theorem setPressure {l : Nat} (h : Onward n a s) : Onward n a (s.setPressure l) := by
  unfold Body.setPressure
  split
  · exact h
  · dsimp only
    refine ite (fun _ => h) fun _ => ?_
    split
    · exact h.incSat.wbStart
    · exact h

theorem answer {r : Requester} {l : Nat} {d : LineData × Bool} {p : Option PoisonAt} (h : Onward n a s) : Onward n a (s.answer r l d p) := h.later

theorem accApply {x : Access} {d : LineData × Bool} {p : Option PoisonAt} (h : Onward n a s) : Onward n a (s.accApply x d p) := by
  unfold Body.accApply
  split
  · exact h.answer
  · exact h
  · exact h
  · exact h.answer

theorem holdAcc {x : Access} (h : Onward n a s) : Onward n a (s.holdAcc x) := h.unseen

/-! ### Misses and hits -/

theorem missMedia {i : Nat} {m : MissReg} {p : MPos} (h : Onward n a s) : Onward n a (s.missMedia i m p) := by
  unfold Body.missMedia
  split
  · exact h.setMr
  · extract_lets gran k e s1 carried
    have h1 : Onward n a s1 := h.mapTouch
    clear_value s1
    refine ite (fun _ => h1.setMr) fun _ => ite (fun _ => h1.inc.setMr.askTwin) fun _ => ?_
    have h2 : Onward n a (s1.setMr i { m with src := .media }) := h1.setMr
    exact ite (fun _ => h2.readTake) fun _ => h2.updated

theorem missFrozen {i c : Nat} {m : MissReg} {p : MPos} (h : Onward n a s) : Onward n a (s.missFrozen i c m p) :=
  ite (fun _ => h.setMr.askTwin) fun _ => h.setMr.setSpCh

theorem missFind {i : Nat} {m : MissReg} {p : MPos} {o : TierObs} (h : Onward n a s) : Onward n a (s.missFind i m p o) := by
  unfold Body.missFind
  extract_lets gran k
  split
  · exact h.missMedia
  · next c _ _ =>
    extract_lets s1 s2
    have h1 : Onward n a s1 := h.when fun _ => h.incSat
    clear_value s1
    have h2 : Onward n a s2 := ite (fun _ => h1.spFreeze) fun _ => ite (fun _ => h1.spFreeze) fun _ => h1
    clear_value s2
    refine ite (fun _ => h2.missFrozen) fun _ => ite (fun _ => h2.missMedia) fun _ => ?_
    split
    · exact h2.missMedia
    · next c k b _ =>
      refine ite (fun _ => h2.missMedia) fun _ => ?_
      extract_lets s3 b l
      have h3 : Onward n a s3 := h2.spTouch.spEcc
      clear_value s3
      split
      · exact ite (fun _ => h3.setBlock.missMedia) fun _ => ite (fun _ => h3.setMr.repairAsk) fun _ => h3.setBlock.poisonMade.setMr
      · exact h3.setMr

theorem missTake {x : Access} {o : TierObs} (h : Onward n a s) : Onward n a (s.missTake x o).1 := by
  unfold Body.missTake
  dsimp only
  split
  · exact h.stall fun _ => by decide
  · exact h.missFind

theorem hitApply {k : Nat} {w : NcLine} {x : Access} (h : Onward n a s) : Onward n a (s.hitApply k w x).1 := by
  unfold Body.hitApply
  dsimp only
  split
  · exact h.ncTouch.accApply
  · split
    · exact h.setWay.ncTouch.accApply
    · split
      · next accepted => exact (h.spAccept accepted).setWay.accApply
      · exact h.setPressure

theorem crcPoison {l : Nat} (h : Onward n a s) : Onward n a (s.crcPoison l) := h.incSat.raise.poisonMade

theorem markLine {l : Nat} (h : Onward n a s) (e : s.markLine l = some t) : Onward n a t := by
  unfold Body.markLine at e
  split at e
  · cases e
    exact h.setWay
  · split at e
    · cases e
      exact h.setMr
    · exact install h.unseen e

theorem markEarly {l : Nat} (h : Onward n a s) (e : s.markEarly l = some t) : Onward n a t := by
  unfold Body.markEarly at e
  split at e
  · cases e
  · obtain ⟨u, marked, rfl⟩ := Option.map_eq_some_iff.mp e
    exact (h.markLine marked).unseen

theorem fst_ite {α : Type} {c : Prop} [Decidable c] {x y : Body × α} (h : c → Onward n a x.1) (k : ¬ c → Onward n a y.1) :
    Onward n a (if c then x else y).1 := by
  split
  · exact h ‹_›
  · exact k ‹_›

/-- An access that finds its line in the near cache, among the victims, at a miss register or nowhere. -/
theorem ncApply {x : Access} {o : TierObs} (h : Onward n a s) : Onward n a (s.ncApply x o).1 := by
  refine fst_ite (fun _ => h) fun _ => fst_ite (fun _ => h.answer) fun _ => ?_
  dsimp only
  split
  · exact h
  · next s marked =>
    have h : Onward n a s := by
      split at marked
      · exact h.markEarly marked
      · cases marked
        exact h
    clear marked
    split
    · exact fst_ite (fun _ => h.hitApply) fun _ => fst_ite (fun _ => h.dropWay.incSat.raise.missTake) fun _ => fst_ite (fun _ => h.repairAsk)
        fun _ => h.setWay.crcPoison.hitApply
    · split
      · next i e _ =>
        refine fst_ite (fun _ => h.repairAsk) fun _ => ?_
        have h1 : Onward n a (if o.ncCrc then (s.setCol i { e with poison := true }).crcPoison x.line else s) :=
          ite (fun _ => h.setCol.crcPoison) fun _ => h
        generalize (if o.ncCrc then (s.setCol i { e with poison := true }).crcPoison x.line else s) = s1 at h1 ⊢
        refine fst_ite (fun _ => accApply (ite (fun _ => h1.setCol) fun _ => h1)) fun _ => ?_
        split
        · exact h1.stall fun _ => by decide
        · next s3 installed =>
          have h3 : Onward n a s3 := install (ite (fun _ => h1) fun _ => h1.dropCol) installed
          split
          · exact h3.hitApply
          · exact h1
      · split
        · exact h
        · exact fst_ite (fun _ => h.setMr) fun _ => h
        · refine fst_ite (fun _ => h.missTake) fun _ => fst_ite (fun _ => ?_) fun _ => ?_
          · split
            · next installed => exact h.install installed
            · exact h.stall fun _ => by decide
          · split
            · next accepted => exact h.spAccept accepted
            · exact h.setPressure
        · split
          · next s1 marked =>
            split at marked
            · exact h.install marked
            · exact h.spAccept marked
          · exact h.setPressure
        · exact h.missTake
        · exact h

theorem pumpHeld (h : Onward n a s) : Onward n a s.pumpHeld :=
  forEach h.unseen fun _ k => ite (fun _ => k.holdAcc) fun _ => ite (fun _ => k.ncApply) fun _ => k.ncApply.holdAcc

theorem order {r : Requester} {l c : Nat} {k : AccKind} {o : TierObs} {p : Option MPos} (h : Onward n a s) : Onward n a (s.order r l k c o p) := by
  unfold Body.order
  extract_lets p before s1 x spec
  have h1 : Onward n a s1 := by
    cases k with
    | read => exact h
    | write d m => exact h.histPush.mirrorPut
    | mark => exact h.histPush
    | atomic => exact ite (fun _ => h) fun _ => h.histPush.mirrorPut
  clear_value s1
  exact ite (fun _ => ite (fun _ => h1) fun _ => h1.holdAcc) fun _ => ite (fun _ => h1.ncApply) fun _ => h1.ncApply.holdAcc

/-! ### The split log, admission and the power fail -/

theorem splitRegs (h : Onward n a s) : Onward n a s.splitRegs := h.put.put.putB

theorem bitMark {lg : Nat} (h : Onward n a s) : Onward n a (s.bitMark lg) := h.unseen

theorem splitRecord {l : Nat} (h : Onward n a s) : Onward n a (s.splitRecord l) := by
  unfold Body.splitRecord
  split
  · exact h
  · exact ite (fun _ => h.bitMark) fun _ => ite (fun _ => h.unseen) fun _ => raise (splitRegs (bitMark h.unseen))

theorem batchMod {f : Batch → Batch} (h : Onward n a s) : Onward n a (s.batchMod f) := h.unseen

theorem aq_setAq (s : Body) (q : Nat) (l : List QWrite) (p : Nat) : (s.setAq q l).aq p = if p = q then l else s.aq p := by
  show mgetD (if l.isEmpty then merase s.per.queues q else mset s.per.queues q l) p [] = _
  split
  · next empty =>
    rw [List.isEmpty_iff.mp empty]
    split
    · next e => rw [e, mgetD, mget_merase_same, Option.getD_none]
    · next ne => rw [mgetD, mget_merase_ne _ _ _ ne, aq, mgetD]
  · split
    · next e => rw [e, mgetD_mset_same]
    · next ne => rw [mgetD_mset_ne _ _ _ ne, aq]

/-- A queue past 23 fills a register that aliases TH_SENSOR; a clean body holds none, and admission is at rest while it seals. -/
theorem setAq {q : Nat} {l : List QWrite} (away : s.frame.sealing = true → q < 24 ∨ l ≠ []) (h : Onward n a s) : Onward n a (s.setAq q l) := by
  have put (m : Nat) (low : 0 < m → q < 24) : Onward m s (s.setAq q l) :=
    Onward.put (s := { s with per := { s.per with queues := _ } }) ⟨rfl, rfl, rfl, fun u => ⟨u, rfl⟩, fun c u => ⟨⟨u.free, u.sealing,
      fun p hp => ?_, u.lds, u.units⟩, rfl⟩⟩
  · refine h.trans (of_clean (fun clean => put n fun _ => ?_) (put 0 (by omega)))
    by_contra far
    have empty := clean.queues q (by omega)
    rw [aq_setAq, if_pos rfl] at empty
    exact (away clean.sealing).elim far (· empty)
  · rw [← u.queues p hp]
    refine ((aq_setAq s q l p).trans (if_neg ?_)).symm
    have := low c
    omega

theorem admitOne {w : QWrite} (h : Onward n a s) : Onward n a (s.admitOne w) := later (order (splitRecord (batchMod h.unseen)))

theorem admitRun (fuel : Nat) (h : Onward n a s) : Onward n a (admitRun fuel s) := by
  induction fuel generalizing s with
  | zero => exact h
  | succ fuel ih =>
    unfold Body.admitRun
    split
    · exact h
    · next open_ =>
      have admits : s.frame.sealing = false := (Bool.or_eq_false_iff.mp (Bool.not_eq_true _ ▸ open_)).1
      split
      · exact h
      · split
        · exact h
        · next w r _ =>
          extract_lets _ s1 s2
          have h1 : Onward n a s1 := h.unseen
          have h2 : Onward n a s2 := h1.setAq fun sealing => absurd (admits ▸ sealing) Bool.false_ne_true
          clear_value s2
          split
          · exact ite (fun _ => ih h2.admitOne) fun _ => ih h2.later
          · exact ih h2.admitOne

theorem admitAll (h : Onward n a s) : Onward n a s.admitAll := h.admitRun _

theorem presentW {q : Nat} {l : List QWrite} (some : l ≠ []) (h : Onward n a s) : Onward n a (s.presentW q l) :=
  (h.setAq fun _ => .inr (List.append_ne_nil_of_right_ne_nil _ some)).admitAll

theorem flushIn {w : AckWaiter} (h : Onward n a s) : Onward n a (s.flushIn w) := h.batchMod

theorem flushPresent {w : AckWaiter} (h : Onward n a s) : Onward n a (s.flushPresent w) :=
  ite (fun _ => h.unseen) fun _ => ite (fun _ => h.unseen) fun _ => h.flushIn

theorem pfBegin {f : Nat} (h : Onward n a s) : Onward n a (s.pfBegin f) := ite (fun _ => h) fun _ => put (put h.unseen)

theorem vaultRegs (h : Onward n a s) : Onward n a s.vaultRegs := h.put.put.put.put.put.put

theorem vaultIncomplete {m : Nat} (h : Onward n a s) : Onward n a (s.vaultIncomplete m) := raise (put (put h.unseen))

theorem replayItem {v : VaultItem} (h : Onward n a s) : Onward n a (s.replayItem v) := by
  unfold Body.replayItem
  split
  · exact h.mapPut
  · split
    · exact h.opQueue
    · exact h
  · split
    · exact h.opQueue
    · exact h

theorem replayStart (h : Onward n a s) : Onward n a s.replayStart := by
  unfold Body.replayStart
  extract_lets hdr s0 _ s1 s2 readable rules pos r s3 items s4 _ s5 s6
  have h0 : Onward n a s0 := h.vaultRegs
  have per : s0.per = s.per := rfl
  clear_value s0
  have h1 : Onward n a s1 := h0.unseen (by simp +zetaDelta only [watched, per])
  clear_value s1
  have h2 : Onward n a s2 := ite (fun _ => h1.put) fun _ => h1
  clear_value s2
  have h3 : Onward n a s3 := by
    refine List.foldlRecOn (motive := fun (x : Body × Bool) => Onward n a x.1) rules _ h2 fun x hx c _ => ?_
    exact fst_ite (fun _ => hx.ruleAdd.poisonMade) fun _ => hx
  clear_value s3
  have h4 : Onward n a s4 := h3.forEach fun _ k => k.replayItem
  clear_value s4
  have h5 : Onward n a s5 := h4.updated
  have h6 : Onward n a s6 := h5.put.put
  exact ite (fun _ => h2.put) fun _ => ite (fun _ => h2.vaultIncomplete) fun _ => ite (fun _ => h6.vaultIncomplete) fun _ => h6

/-! ### The role, the lease and the resync -/

theorem leaseMod {f : LeaseSt → LeaseSt} (h : Onward n a s) : Onward n a (s.leaseMod f) := h.unseen

theorem resyncMod {f : ResyncSt → ResyncSt} (h : Onward n a s) : Onward n a (s.resyncMod f) := h.unseen

theorem epochWrite {o : RackOrder} {r : Role} {c : Bool} (h : Onward n a s) : Onward n a (s.epochWrite o r c) := h.leaseMod.recWrite

theorem roleDrop (h : Onward n a s) : Onward n a s.roleDrop := by
  have lease : Onward n a (s.leaseMod fun l => { l with stopRead := false, handoff := false }) := h.leaseMod
  exact lease.updated.resyncMod.put.put.put

theorem reqRegs (h : Onward n a s) : Onward n a s.reqRegs := h.putB

theorem setRole {r : Role} {c : Bool} (h : Onward n a s) : Onward n a (s.setRole r c) := by
  unfold Body.setRole
  extract_lets was s1 s2 s3 s4 s5 s6 _ s7
  refine ite (fun _ => h) fun _ => ?_
  have h4 : Onward n a s4 := h.epochWrite.put.raise.leaseMod.reqRegs
  clear_value s4
  have h5 : Onward n a s5 := ite (fun _ => h4.roleDrop) fun _ => h4
  have h6 : Onward n a s6 := ite (fun _ => h5.postN) fun _ => h5
  clear_value s6
  have h7 : Onward n a s7 := ite (fun _ => h6.updated) fun _ => h6
  exact h7.timeRegs.later

theorem heartbeatSend {x : Nat} (h : Onward n a s) : Onward n a (s.heartbeatSend x) := ite (fun _ => h.twinSend) fun _ => h

theorem heartbeatOut (h : Onward n a s) : Onward n a s.heartbeatOut := h.fresh.heartbeatSend

theorem splitToBitmap (h : Onward n a s) : Onward n a s.splitToBitmap := h.resyncMod.splitRegs

theorem resyncAbort (h : Onward n a s) : Onward n a s.resyncAbort := by
  unfold Body.resyncAbort
  extract_lets st s1 s2
  have h1 : Onward n a s1 := h.resyncMod
  have h2 : Onward n a s2 := ite (fun _ => h1.splitToBitmap) fun _ => h1
  exact ite (fun _ => h) fun _ => h2.put.raise

theorem followLeave (h : Onward n a s) : Onward n a s.followLeave := ite (fun _ => h) fun _ => h.leaseMod.heartbeatOut.resyncAbort.setRole

theorem handoffFreeze (h : Onward n a s) : Onward n a s.handoffFreeze := ite (fun _ => h.leaseMod) fun _ => h.followLeave

theorem ackTry (h : Onward n a s) : Onward n a s.ackTry := by
  unfold Body.ackTry
  refine ite (fun _ => h) fun _ => ?_
  extract_lets s1
  have h1 : Onward n a s1 := h.forEach fun _ k => k.twinSend.put
  clear_value s1
  exact h1.updated

theorem resyncTake {m : Nat} (h : Onward n a s) : Onward n a (s.resyncTake m) := by
  refine ite (fun _ => h.resyncMod) fun _ => ite (fun _ => h.resyncMod) fun _ => ?_
  have raised : Onward n a (if s.epochNow < s.twin.hb.epoch then s.put F.TWIN_LEASE_EPOCH s.twin.hb.epoch else s) :=
    ite (fun _ => h.put) fun _ => h
  exact raised.resyncMod.splitRegs.setRole.put.put.twinSend

theorem resyncHeld (h : Onward n a s) : Onward n a s.resyncHeld := by
  unfold Body.resyncHeld
  split
  · exact ite (fun _ => h.resyncTake) fun _ => h
  · exact h

theorem linkRegs (h : Onward n a s) : Onward n a s.linkRegs := h.put.putB.put

theorem witnessStart (h : Onward n a s) : Onward n a s.witnessStart := ite (fun _ => h.leaseMod.put) fun _ => h

end Onward
end Body
namespace Body

theorem ldOf_postN (s : Body) (u : Nat) (ev : EvName) (arg p k : Nat) : (s.postN u ev arg).ldOf p k = s.ldOf p k := rfl

/-- A record stays behind in its log, or its loss does. -/
theorem recordAdd_seen (s : Body) (p k m : Nat) (at_ : Option PoisonAt) (code : Nat) (dpa : Option Nat) :
    (logOf ((s.recordAdd p k m at_ code dpa).ldOf p k) m).overflow = true
    ∨ ∃ r ∈ (logOf ((s.recordAdd p k m at_ code dpa).ldOf p k) m).recs, r.code = code := by
  unfold recordAdd
  extract_lets e t full r s1 s2
  split
  · left
    have last : ((if e.overflow then full else full.raise (U.cxl p) (F.CXP_EVENTS_LOG_OVERFLOW p) k).postN (U.cxl p) .cxlRecord (k * 4 + m)).ldOf p k
        = full.ldOf p k := by
      rw [ldOf_postN]
      split
      · rfl
      · rw [ldOf_raise]
    rw [ldOf_ldShow, last, ldOf_ldMod_same, logOf_setLog]
  · right
    have last : (if (s2.ldOf p k).policy / 2 ^ (8 * m) % 4 = 1 then s2.msix p k (m + 1) else s2).ldOf p k = s1.ldOf p k := by
      have shown : s2.ldOf p k = s1.ldOf p k := by rw [ldOf_ldShow, ldOf_postN]
      split
      · rw [msix, ldOf_postN, shown]
      · exact shown
    refine ⟨r, ?_, rfl⟩
    rw [last, ldOf_ldMod_same, logOf_setLog]
    exact List.mem_append_right _ (List.mem_singleton_self r)

theorem not_clean_recordAdd (s : Body) (p k m : Nat) (at_ : Option PoisonAt) {code : Nat} (dpa : Option Nat) (other : code ≠ 3) :
    ¬ (s.recordAdd p k m at_ code dpa).Clean := by
  intro clean
  obtain ⟨quiet, -⟩ := clean.lds p k
  obtain ⟨kept, only⟩ := quiet m
  obtain lost | ⟨r, mem, rfl⟩ := s.recordAdd_seen p k m at_ code dpa
  · exact Bool.false_ne_true (kept.symm.trans lost)
  · exact other (only r mem)

/-- A judged decoder is committed or shows an error. -/
theorem not_clean_hdmJudge (s : Body) (p k : Nat) (r : HdmReq) : ¬ (s.hdmJudge p k r).Clean := by
  intro clean
  obtain ⟨-, quiet⟩ := clean.lds p k
  unfold hdmJudge at quiet
  extract_lets l no start d s1 s2 at quiet
  have last : s2.ldOf p k = s1.ldOf p k := by
    show (if no then _ else _ : Body).ldOf p k = _
    split <;> rfl
  rw [ldOf_ldShow, ldOf_hdmShow, last, ldOf_ldMod_same] at quiet
  have judged : d.committed = false ∧ d.error = false := quiet d (by split <;> simp [decs])
  have open_ : (!no) = false := judged.1
  have shut : no = false := judged.2
  rw [shut] at open_
  cases open_

namespace Onward
variable {n : Nat} {a s t : Body}

/-! ### CXL -/

theorem cxpMod {p : Nat} {f : CxlPort → CxlPort} (h : Onward n a s) (lds : (f (s.cxp p)).lds = (s.cxp p).lds := by rfl) :
    Onward n a (s.cxpMod p f) := by
  refine h.trans ⟨rfl, rfl, rfl, fun u => ⟨u, rfl⟩, fun _ u => ⟨⟨u.free, u.sealing, u.queues, fun q k => ?_, u.units⟩, rfl⟩⟩
  have same : (s.cxpMod p f).ldOf q k = s.ldOf q k := by
    unfold ldOf
    by_cases e : q = p
    · rw [e, cxp_cxpMod_same, lds]
    · rw [cxp, Body.cxpMod, mgetD_mset_ne _ _ _ e, cxp]
  exact same ▸ u.lds q k

/-- Where nothing is claimed of the sensor, any change of a logical device is allowed. -/
theorem ldMod {p k : Nat} {f : LdSt → LdSt} (h : Onward 0 a s) : Onward 0 a (s.ldMod p k f) :=
  h.trans ⟨rfl, rfl, rfl, fun u => ⟨u, rfl⟩, fun c => absurd c (Nat.lt_irrefl 0)⟩

theorem ldShow {p k : Nat} (h : Onward 0 a s) : Onward 0 a (s.ldShow p k) := h.putB.put.putB.putB.putB.put

theorem hdmShow {p k : Nat} (h : Onward n a s) : Onward n a (s.hdmShow p k) := by
  unfold Body.hdmShow
  split
  · exact h.putB
  · exact h

theorem msix {p k v : Nat} (h : Onward n a s) : Onward n a (s.msix p k v) := h.postN

theorem recordAdd {p k m code : Nat} {at_ : Option PoisonAt} {dpa : Option Nat} (other : code ≠ 3) (h : Onward n a s) :
    Onward n a (s.recordAdd p k m at_ code dpa) := by
  refine of_unclean ?_ (s.not_clean_recordAdd p k m at_ dpa other)
  have h0 := h.weaken
  exact ite (fun _ => (postN (ite (fun _ => h0.ldMod) fun _ => h0.ldMod.raise)).ldShow)
    fun _ => ite (fun _ => h0.ldMod.postN.ldShow.msix) fun _ => h0.ldMod.postN.ldShow

theorem poisonRecord {p k : Nat} {at_ : PoisonAt} {dpa : Option Nat} (h : Onward n a s) : Onward n a (s.poisonRecord p k at_ dpa) :=
  ite (fun _ => h) fun _ => h.recordAdd (by decide)

theorem moduleRecord {m code : Nat} (other : code ≠ 3) (h : Onward n a s) : Onward n a (s.moduleRecord m code) :=
  h.forEach fun _ k => k.recordAdd other

theorem moduleRecords (h : Onward n a s) : Onward n a s.moduleRecords := by
  unfold Body.moduleRecords
  extract_lets has spare lost s1 s2 s3
  have h1 : Onward n a s1 := h.when fun _ => h.moduleRecord (by decide)
  have h2 : Onward n a s2 := h1.when fun _ => h1.moduleRecord (by decide)
  have h3 : Onward n a s3 := h2.when fun _ => h2.moduleRecord (by decide)
  exact h3.when fun _ => h3.moduleRecord (by decide)

theorem cxpShow {p : Nat} (h : Onward n a s) : Onward n a (s.cxpShow p) := h.put.put.put.put.put

theorem cxlOutside {p : Nat} (h : Onward n a s) : Onward n a (s.cxlOutside p) := h.incSat.raise

theorem cxlAnswer {p k g : Nat} {d : LineData} {b : Bool} (h : Onward n a s) : Onward n a (s.cxlAnswer p k g d b) :=
  send (ite (fun _ => h.inc.incSat.incSat.raise) fun _ => h.inc)

theorem cxlRead {p k g x : Nat} {o : TierObs} (h : Onward n a s) : Onward n a (s.cxlRead p k g x o) := by
  unfold Body.cxlRead
  dsimp only
  split
  · exact h.cxpMod.order
  · exact h.cxlOutside.cxlAnswer.poisonRecord

theorem cxlWrite {p k g x : Nat} {d : LineData} {m : Mask} (h : Onward n a s) : Onward n a (s.cxlWrite p k g x d m) := by
  unfold Body.cxlWrite
  split
  · exact h.presentW (List.cons_ne_nil _ _)
  · exact h.cxlOutside.send

theorem cxlNoData {p k g : Nat} (h : Onward n a s) : Onward n a (s.cxlNoData p k g) := h.send

theorem cxlRun {p : Nat} {r : CxlHeld} (h : Onward n a s) : Onward n a (s.cxlRun p r) := by
  cases r with
  | read => exact h.cxlRead
  | noData => exact h.cxlNoData
  | write => exact h.cxlWrite
  | gpf => exact h.flushPresent

theorem cxlDone {p k g l : Nat} {d : LineData} {b : Bool} {at_ : Option PoisonAt} (h : Onward n a s) : Onward n a (s.cxlDone p k g l d b at_) := by
  unfold Body.cxlDone
  split
  · exact h
  · exact cxpShow (ite (fun _ => h.cxpMod.cxlAnswer.poisonRecord) fun _ => h.cxpMod.cxlAnswer)

theorem cxlDiscard {p : Nat} (h : Onward n a s) : Onward n a (s.cxlDiscard p) := ite (fun _ => h) fun _ => h.cxpMod.addWrap.raise.cxpShow

theorem cxlLook {p : Nat} (port : p < 16) (h : Onward n a s) : Onward n a (s.cxlLook p) := by
  unfold Body.cxlLook
  extract_lets now was s1 s2 same s3 l s4 req rwd
  have h1 : Onward n a s1 := h.putB
  clear_value s1
  have h2 : Onward n a s2 := ite (fun _ => h1.cxlDiscard.setAq fun _ => .inl (by omega)) fun _ => h1
  clear_value s2
  have h3 : Onward n a s3 := ite (fun _ => h2) fun _ => h2.cxlDiscard
  clear_value s3
  exact ite (fun _ => (h3.cxpMod.forEach fun _ k => k.cxlRun).cxpShow) fun _ => ite (fun _ => h2.cxpMod.cxpShow) fun _ => h2

theorem hdmJudge {p k : Nat} {r : HdmReq} (h : Onward n a s) : Onward n a (s.hdmJudge p k r) := by
  refine of_unclean ?_ (s.not_clean_hdmJudge p k r)
  have h0 := h.weaken
  exact (hdmShow (ite (fun _ => h0.ldMod.raise) fun _ => h0.ldMod)).ldShow

theorem hdmHeld (h : Onward n a s) : Onward n a s.hdmHeld :=
  h.forEach fun _ k => k.forEach fun _ l => of_unclean (hdmJudge l.weaken.ldMod) (not_clean_hdmJudge _ _ _ _)

theorem refreshRate {c : Nat} (h : Onward n a s) : Onward n a (s.refreshRate c) :=
  ite (fun _ => ite (fun _ => h.put) fun _ => h) fun _ => ite (fun _ => h.put.raise) fun _ => h

/-! ### Ramekin -/

theorem rkShow {p : Nat} (pool : p < 6) (h : Onward n a s) : Onward n a (s.rkShow p) := by
  unfold Body.rkShow
  extract_lets x m low s1 s2 s3 s4 _ s5
  have h3 : Onward n a s3 := h.put.put.putB.putB.put.put.put.put
  clear_value s3
  have h4 : Onward n a s4 := h3.forEach fun owner k => by
    have := List.mem_range.mp owner
    exact k.put
  clear_value s4
  have h5 : Onward n a s5 := h4.updated
  exact ite (fun _ => h5.raise) fun _ => h5

theorem setPool {p : Nat} {x : Pool} (pool : p < 6) (h : Onward n a s) : Onward n a (s.setPool p x) := rkShow pool h.unseen

theorem setHeld {o p m : Nat} (h : Onward n a s) : Onward n a (s.setHeld o p m) := h.unseen

theorem setRkWord {m : Nat} {w : Word} (h : Onward n a s) : Onward n a (s.setRkWord m w) := h.unseen

theorem setRkByte {r v : Nat} (h : Onward n a s) : Onward n a (s.setRkByte r v) := h.setRkWord

theorem setRkLine {m : Nat} {l : LineData} {b : Bool} (h : Onward n a s) : Onward n a (s.setRkLine m l b) := by
  unfold Body.setRkLine
  extract_lets s1
  have h1 : Onward n a s1 := h.forEach fun _ k => k.setRkWord
  clear_value s1
  exact h1.updated

theorem rkQuarantine {p i : Nat} (pool : p < 6) (h : Onward n a s) : Onward n a (s.rkQuarantine p i) :=
  setPool pool (ite (fun _ => h.setRkByte) fun _ => h)

theorem rkGive {p i : Nat} (pool : p < 6) (h : Onward n a s) : Onward n a (s.rkGive p i) :=
  ite (fun _ => h.setPool pool) fun _ => ite (fun _ => h.rkQuarantine pool) fun _ => h.setRkWord.setPool pool

theorem rkRefuse (h : Onward n a s) : Onward n a s.rkRefuse := h.raise

theorem rkFree {r o : Nat} {f b : Bool} (h : Onward n a s) : Onward n a (s.rkFree r o f b) := by
  unfold Body.rkFree
  extract_lets p i
  split
  · exact h.rkRefuse
  · next listed =>
    have pool : p < 6 := by
      simp only [Bool.or_eq_true, decide_eq_true_eq, not_or] at listed
      omega
    refine ite (fun _ => h.rkQuarantine pool) fun _ => ite (fun _ => (h.rkQuarantine pool).rkRefuse) fun _ => ite (fun _ => h.rkRefuse) fun _ => ?_
    exact (h.setRkByte.setHeld.rkGive pool).rkShow pool

theorem rkStart (h : Onward n a s) : Onward n a s.rkStart := forEach h.unseen fun inRange k => k.rkShow (List.mem_range.mp inRange)

theorem bootTime {m : Nat} {us : Option Nat} (h : Onward n a s) : Onward n a (s.bootTime m us) := by
  cases us with
  | some u => exact h.put
  | none => exact h.put.fresh

theorem sysReset {c : Nat} (h : Onward n a s) : Onward n a (s.sysReset c) := by
  unfold Body.sysReset
  split
  · exact h.unseen
  · exact h.hobOffReq
  · exact h.hobOffReq
  · exact hobOffReq h.unseen

end Onward
end Body

theorem Untouched.of_foldl {α : Type} {a : Nat} (l : List (Nat × α)) {m : SMap α}
    (h : Untouched a (l.foldl (fun (m : SMap α) (p : Nat × α) => mset m p.1 p.2) m)) :
    Untouched a m ∧ mget (l.foldl (fun (m : SMap α) (p : Nat × α) => mset m p.1 p.2) m) a = mget m a := by
  induction l generalizing m with
  | nil => exact ⟨h, rfl⟩
  | cons p r ih =>
    obtain ⟨later, same⟩ := ih h
    obtain ⟨ne, before⟩ := later.of_mset
    exact ⟨before, same.trans (mget_mset_ne _ _ _ _ ne.symm)⟩

theorem Untouched.of_replaced {α : Type} {a : Nat} {q : Nat → Bool} {l m : SMap α} (other : q a = false)
    (h : Untouched a ((l.filter fun (p : Nat × α) => q p.1).foldl (fun (m : SMap α) (p : Nat × α) => mset m p.1 p.2)
      (m.filter fun (p : Nat × α) => !q p.1))) :
    Untouched a m ∧ mget ((l.filter fun (p : Nat × α) => q p.1).foldl (fun (m : SMap α) (p : Nat × α) => mset m p.1 p.2)
      (m.filter fun (p : Nat × α) => !q p.1)) a = mget m a := by
  have keeps : (!q a) = true := by rw [other]; rfl
  obtain ⟨kept, same⟩ := Untouched.of_foldl _ h
  refine ⟨kept.of_filter (q := fun x => !q x) keeps, same.trans ?_⟩
  rw [mget_filter_key m (fun x => !q x), if_pos keeps]

namespace Body
namespace Onward
variable {n : Nat} {a s t : Body}

/-- The reset of the held units takes every register of their blocks and no other; the Hob's block is not among them. -/
theorem unitsHeld (h : Onward n a s) : Onward n a s.unitsHeld := by
  refine h.trans (of_unclean ?_ ?_)
  · unfold Body.unitsHeld
    generalize resetRegs = base
    extract_lets tref l _ _ s0 s1
    have h0 : Onward 0 s s0 := by
      refine ⟨rfl, rfl, rfl, fun u => ?_, fun c => absurd c (Nat.lt_irrefl 0)⟩
      obtain ⟨before, same⟩ := Untouched.of_replaced (q := offBlock) (l := base) (m := s.regs) (by decide) u
      exact ⟨before, congrArg (Option.getD · 0) same⟩
    clear_value s0
    exact h0.put.forEach fun _ k => k.put.unitPend (by omega)
  · intro clean
    have held : s.unitsHeld.boot.held = true := by
      unfold Body.unitsHeld
      generalize resetRegs = base
      exact forEach_induct (P := fun t => t.boot.held = true) _ rfl fun t _ _ held => held
    exact Bool.false_ne_true (clean.free.symm.trans held)

/-! ### RDMA -/

theorem rdmaShow (h : Onward n a s) : Onward n a s.rdmaShow := h.put.put.forEach fun _ k => k.put

theorem setQp {i : Nat} {q : Qp} (h : Onward n a s) : Onward n a (s.setQp i q) := ite (fun _ => h.unseen) fun _ => rdmaShow h.unseen

theorem qpMod {i : Nat} {f : Qp → Qp} (h : Onward n a s) : Onward n a (s.qpMod i f) := h.setQp

theorem outMod {i : Nat} {p : OutReq → Bool} {f : OutReq → OutReq} (h : Onward n a s) : Onward n a (s.outMod i p f) := h.qpMod

theorem ethTx {p m : Nat} {o : Out} (h : Onward n a s) : Onward n a (s.ethTx p m o) := h.addWrap.send

theorem cqPut {i w o st f l im : Nat} {p : Nat × Nat} (h : Onward n a s) : Onward n a (s.cqPut i w o st f l im p) := by
  unfold Body.cqPut
  split
  · exact h
  · exact ite (fun _ => h.qCommit) fun _ => h.qCommit.raise.rdmaPost

theorem reqDone {i st l : Nat} {o : OutReq} {r : Option (Nat × Nat)} (h : Onward n a s) : Onward n a (s.reqDone i o st l r) := by
  unfold Body.reqDone
  split
  · exact h.later
  · exact ite (fun _ => h.cqPut) fun _ => h

theorem qpFlush {i : Nat} (h : Onward n a s) : Onward n a (s.qpFlush i) := by
  have emptied : Onward n a ((s.setQp i { s.qp i with outs := [], head := none }).forEach (s.qp i).outs fun s o => s.reqDone i o 8 0 none) :=
    h.setQp.forEach fun _ k => k.reqDone
  unfold Body.qpFlush
  dsimp only
  split
  · exact emptied.reqDone
  · exact emptied

theorem qpError {i : Nat} (h : Onward n a s) : Onward n a (s.qpError i) := ite (fun _ => h) fun _ => h.setQp.qpFlush

theorem qpFatal {i c : Nat} (h : Onward n a s) : Onward n a (s.qpFatal i c) := h.rdmaPost.qpError

theorem rdmaNak {i p : Nat} {k : NakKind} (h : Onward n a s) : Onward n a (s.rdmaNak i p k) := h.ethTx

theorem reqSend {i : Nat} {o : OutReq} {again : Option Nat} (h : Onward n a s) : Onward n a (s.reqSend i o again) := by
  cases again with
  | some p => exact h.ethTx
  | none => exact h.ethTx

theorem reqIssue {i : Nat} {w : WorkReq} {d : Option (List Byte)} {g : Option Nat} (h : Onward n a s) : Onward n a (s.reqIssue i w d g) := by
  unfold Body.reqIssue
  exact h.setQp.reqSend

theorem reqRun (fuel : Nat) {i : Nat} (h : Onward n a s) : Onward n a (reqRun fuel s i) := by
  induction fuel generalizing s with
  | zero => exact h
  | succ fuel ih =>
    unfold Body.reqRun
    dsimp only
    refine ite (fun _ => h) fun _ => ?_
    split
    · exact ite (fun _ => h) fun _ => ite (fun _ => ih h.setQp.reqDone) fun _ => ih h.setQp.reqIssue
    · split
      · exact h
      · exact ite (fun _ => h) fun _ => ite (fun _ => ih h.qTakeItem) fun _ => ih h.qTakeItem.qpMod

theorem reqPump {i : Nat} (h : Onward n a s) : Onward n a (s.reqPump i) := by
  unfold Body.reqPump
  split
  · exact h.reqRun _
  · exact h.reqRun _

theorem trigSet {i v : Nat} (h : Onward n a s) : Onward n a (s.trigSet i v) := forEach h.unseen fun _ k => k.reqPump

theorem reqRetire {i : Nat} (h : Onward n a s) : Onward n a (s.reqRetire i) :=
  ite (fun _ => h) fun _ => (h.setQp.forEach fun _ k => k.reqDone).reqPump

/-! ### Jobs -/

theorem setJob {q : Nat} {j : Job} (h : Onward n a s) : Onward n a (s.setJob q j) := ite (fun _ => h.unseen) fun _ => h.unseen

theorem ciphSet {x : CipherSt} (h : Onward n a s) : Onward n a { s with ciph := x } := h.unseen

theorem untrust {r : Bool} {x m c : Nat} (h : Onward n a s) : Onward n a (s.untrust r x m c) := by
  have h1 : Onward n a (s.poisonMade U.cipher c) := h.poisonMade
  unfold Body.untrust
  dsimp only
  refine ite (fun _ => h1.forEach fun _ k => k.setRkLine) fun _ => ?_
  generalize (List.range 64).find? _ = e
  cases e with
  | none => exact h1.raise.ciphSet.cipherRegs
  | some i => exact h1.ciphSet.recWrite.ciphSet.cipherRegs

theorem jobEnd {q r : Nat} (h : Onward n a s) : Onward n a (s.jobEnd q r) := by
  unfold Body.jobEnd
  extract_lets j s1 s2 s3
  have h2 : Onward n a s2 := h.setJob.put.put.raise
  clear_value s2
  have h3 : Onward n a s3 := ite (fun _ => h2.raise.untrust) fun _ => ite (fun _ => h2.untrust) fun _ => h2
  exact ite (fun _ => h3.setJob.put) fun _ => h3

theorem jobAbort {q : Nat} (h : Onward n a s) : Onward n a (s.jobAbort q) := ite (fun _ => h.jobEnd) fun _ => h

/-! ### Responders of RDMA -/

theorem msgMod {i : Nat} {p : RMsg → Bool} {f : RMsg → RMsg} (h : Onward n a s) : Onward n a (s.msgMod i p f) := h.qpMod

theorem msgPresent {i f : Nat} {l : List QWrite} (some : l ≠ []) (h : Onward n a s) : Onward n a (s.msgPresent i f l) := h.msgMod.presentW some

theorem readStart {i : Nat} {m : RMsg} {d : Bool} (h : Onward n a s) : Onward n a (s.readStart i m d) := by
  unfold Body.readStart
  exact forEach (ite (fun _ => h.qpMod) fun _ => h.msgMod) fun _ k => k.order

theorem atomicStart {i f : Nat} {o : AtomicOp} (h : Onward n a s) : Onward n a (s.atomicStart i f o) :=
  ite (fun _ => h.msgMod.presentW (List.cons_ne_nil _ _)) fun _ => h.msgMod.order

theorem qpPump {i : Nat} (h : Onward n a s) : Onward n a (s.qpPump i) := by
  refine h.forEach fun _ k => ?_
  extract_lets q before
  split
  · exact k
  · next m _ =>
    refine ite (fun _ => k) fun _ => ?_
    extract_lets s1
    have h1 : Onward n a s1 := by
      refine ite (fun _ => k) fun held => k.msgMod.msgPresent ?_
      simpa using held
    clear_value s1
    refine ite (fun _ => h1) fun _ => ?_
    split
    · exact h1.readStart
    · exact h1.atomicStart
    · exact h1

theorem flushAt {f : Nat} {w : AckWaiter} (h : Onward n a s) : Onward n a (s.flushAt f w) := ite (fun _ => h.unseen) fun _ => h.later

theorem qpReady {i : Nat} (h : Onward n a s) : Onward n a (s.qpReady i) := by
  refine h.forEach fun _ k => ?_
  dsimp only
  split
  · exact k
  · exact ite (fun _ => k) fun _ => ite (fun _ => k.msgMod) fun _ => ite (fun _ => k) fun _ => ite (fun _ => k.msgMod.flushPresent)
      fun _ => k.msgMod.flushAt

theorem poisonAnswer {i p d x l : Nat} (h : Onward n a s) : Onward n a (s.poisonAnswer i p d x l) :=
  qpFatal (ite (fun _ => h.incSat.raise.ethTx) fun _ => h.incSat.raise.rdmaNak)

theorem readAnswer {i : Nat} {m : RMsg} (h : Onward n a s) : Onward n a (s.readAnswer i m).1 := by
  unfold Body.readAnswer
  generalize lineSpan m.dpa m.len = span
  obtain ⟨x, c⟩ := span
  dsimp -zeta only
  extract_lets p lines bytes mtu cut npk s1
  have h1 : Onward n a s1 := h.forEach fun _ k => k.ethTx
  clear_value s1 npk cut
  cases cut with
  | none => exact h1
  | some c => exact h1.poisonAnswer

theorem msgAnswer {i : Nat} {m : RMsg} (h : Onward n a s) : Onward n a (s.msgAnswer i m).1 := by
  unfold Body.msgAnswer
  dsimp only
  split
  · exact h.readAnswer
  · exact fst_ite (fun _ => h.poisonAnswer) fun _ => h.ethTx
  · exact h.ethTx
  · exact fst_ite (fun _ => h.ethTx.trigSet) fun _ => h.ethTx

theorem qpRelease (fuel : Nat) {i : Nat} (h : Onward n a s) : Onward n a (qpRelease fuel s i) := by
  induction fuel generalizing s with
  | zero => exact h
  | succ fuel ih =>
    unfold Body.qpRelease
    dsimp only
    split
    · exact h
    · exact ite (fun _ => h) fun _ => ite (fun _ => ih h.setQp.msgAnswer) fun _ => h.setQp.msgAnswer

theorem qpTurn {i : Nat} (h : Onward n a s) : Onward n a (s.qpTurn i) := ite (fun _ => h) fun _ => h.qpPump.qpReady.qpRelease _

theorem rdmaAdmitted {r : Requester} (h : Onward n a s) : Onward n a (s.rdmaAdmitted r) := by
  unfold Body.rdmaAdmitted
  split
  · exact h.msgMod.qpTurn
  · exact h.msgMod.qpTurn
  · exact h.outMod.reqRetire
  · exact h

theorem rdmaAnswered {r : Requester} {l : Nat} {d : LineData} {b : Bool} (h : Onward n a s) : Onward n a (s.rdmaAnswered r l d b) := by
  unfold Body.rdmaAnswered
  extract_lets take
  split
  · refine ite (fun _ => h.msgMod.qpTurn) fun _ => ?_
    split
    · exact h
    · exact ite (fun _ => h.qpMod) fun _ => h.qpMod.readAnswer
  · refine h.forEach fun _ k => ?_
    split
    · exact k.msgMod.presentW (List.cons_ne_nil _ _)
    · exact k
  · split
    · exact h
    · exact qpTurn (msgMod (ite (fun _ => h) fun _ => h.qpMod))
  · exact h

theorem rdmaRefetch {r : Requester} (h : Onward n a s) : Onward n a (s.rdmaRefetch r) := by
  unfold Body.rdmaRefetch
  split
  · split
    · exact h.msgMod.order
    · exact h
  · exact h

theorem rdmaPersisted {i f : Nat} (h : Onward n a s) : Onward n a (s.rdmaPersisted i f) := h.msgMod.qpTurn

theorem cmSend {p i : Nat} {m : CmMsg} (h : Onward n a s) : Onward n a (s.cmSend p i m) := h.ethTx

theorem cmGone {i : Nat} {m : CmMsg} (h : Onward n a s) : Onward n a (s.cmGone i m) := ite (fun _ => h) fun _ => h.cmSend.rdmaPost.qpError.qpMod

theorem qpReset {i : Nat} (h : Onward n a s) : Onward n a (s.qpReset i) := h.setQp

theorem mraTimeout {i : Nat} (h : Onward n a s) : Onward n a (s.mraTimeout i) := ite (fun _ => h.cmSend.qpReset) fun _ => h

theorem ethDisconnect {p : Nat} (h : Onward n a s) : Onward n a (s.ethDisconnect p) :=
  h.forEach fun _ k => ite (fun _ => k.mraTimeout) fun _ => k.cmGone

theorem ethLook {p : Nat} (h : Onward n a s) : Onward n a (s.ethLook p) := by
  unfold Body.ethLook
  extract_lets now s1 _ s2
  have h1 : Onward n a s1 := h.putB
  clear_value s1
  have h2 : Onward n a s2 := h1.updated
  exact ite (fun _ => rdmaPost h1.updated) fun _ => ite (fun _ => h2.raise.rdmaPost.ethDisconnect) fun _ => h1

theorem ethStop {p : Nat} (h : Onward n a s) : Onward n a (s.ethStop p) := h.ethDisconnect

theorem rdmaStart (h : Onward n a s) : Onward n a s.rdmaStart := rdmaShow (forEach h.unseen fun _ k => k.put)

/-! ### The scheduler -/

theorem schedAsk (h : Onward n a s) : Onward n a s.schedAsk := h.unseen

theorem rtPanic (h : Onward n a s) : Onward n a s.rtPanic := by
  refine h.forEach fun _ k => ?_
  exact ite (fun _ => k.setSpCh) fun _ => ite (fun _ => k.setSpCh.putB.put.raise) fun _ => k.setSpCh.putB.put.post

theorem schedShow (h : Onward n a s) : Onward n a s.schedShow := h.put.put.schedAsk.rtPanic.schedAsk

theorem setRun {e : Nat} {x : Run} (h : Onward n a s) : Onward n a (s.setRun e x) := h.unseen

theorem runMod {e : Nat} {f : Run → Run} (h : Onward n a s) : Onward n a (s.runMod e f) := h.setRun.schedShow

theorem readyBeacon {e : Nat} (h : Onward n a s) : Onward n a (s.readyBeacon e) := by
  unfold Body.readyBeacon
  dsimp only
  split
  · exact h
  · exact ite (fun _ => h) fun _ => h.beaconSeqNext.send.inc

theorem schedWrite {e d op va im k : Nat} {l : List Byte} (h : Onward n a s) : Onward n a (s.schedWrite e d op va im k l) := h.reqIssue

theorem destMod {e d : Nat} {f : Dest → Dest} (h : Onward n a s) : Onward n a (s.destMod e d f) := by
  unfold Body.destMod
  dsimp only
  split
  · exact h.setRun
  · exact h

theorem destFail {e d : Nat} (h : Onward n a s) : Onward n a (s.destFail e d) := by
  unfold Body.destFail
  split
  · exact h
  · exact ite (fun _ => h) fun _ => h.destMod.setRun.raise

theorem recordSend {e d st b m : Nat} (h : Onward n a s) : Onward n a (s.recordSend e d st b m) := by
  unfold Body.recordSend
  dsimp only
  refine destMod (schedWrite ?_)
  split
  · exact h.setRkLine
  · exact h

theorem bufsFree {e : Nat} (h : Onward n a s) : Onward n a (s.bufsFree e) := h.setRun.forEach fun _ k => k.rkFree

theorem poisonEnd {e : Nat} (h : Onward n a s) : Onward n a (s.poisonEnd e) := ite (fun _ => h) fun _ => h.incSat.raise

theorem endRecords {e : Nat} (h : Onward n a s) : Onward n a (s.endRecords e) := by
  refine ite (fun _ => h) fun _ => h.forEach fun _ k => ?_
  split
  · exact ite (fun _ => k) fun _ => k.recordSend
  · exact k

theorem schedSettle {e : Nat} (h : Onward n a s) : Onward n a (s.schedSettle e) :=
  ite (fun _ => ite (fun _ => h.poisonEnd.bufsFree.runMod) fun _ => h) fun _ => ite (fun _ => h) fun _ =>
    ite (fun _ => ite (fun _ => h.endRecords.setRun.bufsFree) fun _ => h.endRecords.setRun) fun _ => ite (fun _ => h.bufsFree) fun _ => h

theorem delivered {g : Nat} {ok : Bool} (h : Onward n a s) : Onward n a (s.delivered g ok) := by
  unfold Body.delivered
  dsimp only
  split
  · exact h
  · exact ite (fun _ => h.schedSettle) fun _ => ite (fun _ => h.destFail.schedShow.schedSettle) fun _ => h.destMod.schedSettle

theorem readyLook {e : Nat} (h : Onward n a s) : Onward n a (s.readyLook e) := by
  unfold Body.readyLook
  split
  case h_1 => exact ite (fun _ => h.runMod.readyBeacon) fun _ => h
  case h_2 => exact ite (fun _ => h) fun _ => h.runMod.readyBeacon
  all_goals exact h

theorem schedLeave {e : Nat} {st : EntState} (h : Onward n a s) : Onward n a (s.schedLeave e st) := h.bufsFree.runMod

theorem schedStopSend {e : Nat} {st : EntState} {r : Bool} (h : Onward n a s) : Onward n a (s.schedStopSend e st r) := h.poisonEnd.runMod.schedSettle

theorem stagingLost (h : Onward n a s) : Onward n a s.stagingLost := h.forEach fun _ k => k.runMod.readyLook

theorem schedCancel {e : Nat} (h : Onward n a s) : Onward n a (s.schedCancel e) := by
  unfold Body.schedCancel
  split
  case h_1 => exact h.schedLeave
  case h_5 => exact h.schedStopSend
  case h_2 | h_3 | h_4 => exact h.schedLeave.readyBeacon
  all_goals exact h

theorem schedClear (h : Onward n a s) : Onward n a s.schedClear := schedShow h.unseen

theorem schedStop (h : Onward n a s) : Onward n a s.schedStop := h.forEach fun _ k => ite (fun _ => k.schedStopSend) fun _ => k.schedCancel

/-! ### Start and stop of units -/

theorem spStarted {c : Nat} (h : Onward n a s) : Onward n a (s.spStarted c) := h.setSpCh.put.put.refreshRate.pinRegs

theorem cipherStarted (h : Onward n a s) : Onward n a s.cipherStarted := cipherRegs (put h.unseen)

theorem portOpened (h : Onward n a s) : Onward n a s.portOpened := ite (fun _ => h.put.bootTime) fun _ => h

theorem headerRead (h : Onward n a s) : Onward n a s.headerRead := ite (fun _ => h.replayStart) fun _ => h

theorem startSteps {u : Nat} (h : Onward n a s) : Onward n a (s.startSteps u) :=
  ite (fun _ => h) fun _ => ite (fun _ => h.unitFail) fun _ => ite (fun _ => h.unitFail) fun _ => ite (fun _ => stagingLost h.unseen) fun _ =>
    ite (fun _ => headerRead h.unseen) fun _ => ite (fun _ => ite (fun _ => h) fun _ => h.unitFail) fun _ =>
    ite (fun _ => ite (fun _ => h.rdmaStart) fun _ => h.unitFail) fun _ => ite (fun _ => ite (fun _ => h.rkStart) fun _ => h.unitFail) fun _ =>
    ite (fun _ => h.qStart) fun _ => ite (fun _ => ite (fun _ => h.schedClear) fun _ => h.unitFail) fun _ =>
    ite (fun _ => h.clusterStart) fun _ => h

theorem started {u : Nat} (h : Onward n a s) : Onward n a (s.started u) :=
  ite (fun _ => h.spStarted) fun _ => ite (fun _ => h.bringUp.ruleRegs.headerRead) fun _ =>
    ite (fun _ => later (ite (fun _ => h) fun _ => h.put.bootTime)) fun _ => ite (fun _ => h.leaseMod.put.linkRegs.witnessStart) fun _ =>
    ite (fun _ => h.ldRegs) fun _ => ite (fun _ => h.put) fun _ => ite (fun _ => h.later) fun _ => ite (fun _ => h.cipherStarted) fun _ =>
    ite (fun _ => h.clusterStarted) fun _ => h

theorem ncStop (h : Onward n a s) : Onward n a s.ncStop := pumpHeld (stagingLost (putB h.unseen))

theorem stopSteps {u : Nat} (h : Onward n a s) : Onward n a (s.stopSteps u) := by
  refine ite (fun _ => h) fun _ => ite (fun _ => ite (fun _ => h) fun _ => h.setSync) fun _ => ite (fun _ => h.ncStop) fun _ =>
    ite (fun _ => partShow (ite (fun _ => h.forEach fun _ k => k.mapWriteback) fun _ => h)) fun _ => ite (fun _ => later h.unseen) fun _ =>
    ite (fun _ => ite (fun _ => h.followLeave) fun _ => h.leaseMod.heartbeatOut) fun _ => ite (fun port => h.cxlLook ?_) fun _ =>
    ite (fun _ => h.ethStop.ethLook) fun _ => ite (fun _ => h.forEach fun port k => k.unitDisable fun _ => ?_) fun _ => ite (fun _ => h.schedStop) fun _ =>
    ite (fun _ => h.jobAbort.jobAbort) fun _ => ite (fun _ => h.clusterStop) fun _ => h
  · simp only [Bool.and_eq_true, decide_eq_true_eq] at port
    omega
  · have := List.mem_range.mp port
    simp only [U.eth]
    omega

theorem portsLook (h : Onward n a s) : Onward n a s.portsLook :=
  (h.forEach fun inRange k => k.cxlLook (List.mem_range.mp inRange)).forEach fun _ k => k.ethLook

/-! ### The run -/

theorem todoOne {x : Todo} (h : Onward n a s) : Onward n a (s.todoOne x) := by
  unfold Body.todoOne
  split
  · exact h.startSteps
  · exact h.stopSteps
  · exact h.started
  · exact h.hobOffReq
  · exact h.hobFlushDone
  · exact h.unitsHeld
  · exact h.handoffFreeze
  · exact h.sysReset
  · exact h.unseen
  · exact h.hdmHeld
  · exact h.portsLook
  · exact h.inc.send
  · exact h.rdmaPersisted
  · exact h.incCounter
  · exact h.rdmaRefetch
  · exact h.delivered
  · exact h.cxlDone
  · exact h.rdmaAnswered
  · exact h.inc.send
  · exact h.inc
  · exact h
  · exact h
  · exact h.rdmaAdmitted

theorem runTodos (fuel : Nat) (h : Onward n a s) : Onward n a (runTodos fuel s) := by
  induction fuel generalizing s with
  | zero => exact h
  | succ fuel ih =>
    unfold Body.runTodos
    split
    · exact h
    · exact ih (todoOne h.unseen)

theorem pfStart {f : Nat} (h : Onward n a s) : Onward n a (s.pfStart f) :=
  ite (fun _ => h) fun _ => ite (fun _ => h.pfBegin.followLeave) fun _ => h.pfBegin.heartbeatOut

theorem flushLook (h : Onward n a s) : Onward n a s.flushLook := ite (fun _ => h.pfStart) fun _ => h

/-- What the units still owe, done. -/
theorem unitsRun (h : Onward n a s) : Onward n a s.unitsRun :=
  ((h.runTodos _).flushLook.pumpHeld.runTodos _).moduleRecords.ackTry.resyncHeld.runTodos _ |>.portOpened

end Onward
end Body
namespace State

/-! ### The Pass that waits -/

/-- A clean body, and a Pass that holds nothing from a source whose lost count would stand at another register. -/
structure Clean (s : State) : Prop where
  body : s.body.Clean
  bufs : ∀ q, (mget s.pass.bufs q).isSome → q < 88
  lost : ∀ q, (mget s.pass.lost q).isSome → q < 88

/-- `Body.Onward` of two states whose Pass may not stamp. -/
structure Onward (n : Nat) (s t : State) : Prop where
  ready : t.pass.ready = false
  body : Body.Onward 0 s.body t.body
  sensor : 0 < n → t.Clean → s.Clean ∧ t.body.word (A.TH_SENSOR 0) = s.body.word (A.TH_SENSOR 0)

namespace Onward
variable {n : Nat} {s t u : State}

theorem refl (ready : s.pass.ready = false) : Onward n s s := ⟨ready, .refl _, fun _ h => ⟨h, rfl⟩⟩

theorem trans (h : Onward n s t) (k : Onward n t u) : Onward n s u where
  ready := k.ready
  body := h.body.trans k.body
  sensor c clean :=
    have ⟨clean', e⟩ := k.sensor c clean
    have ⟨clean'', e'⟩ := h.sensor c clean'
    ⟨clean'', e.trans e'⟩

/-- What the units do, the Pass as it was. -/
theorem of_body {b : Body} (ready : s.pass.ready = false) (h : Body.Onward n s.body b) : Onward n s { s with body := b } where
  ready := ready
  body := h.weaken
  sensor c clean :=
    have ⟨body, same⟩ := h.sensor c clean.body
    ⟨⟨body, clean.bufs, clean.lost⟩, same⟩

theorem isSome_mset {α : Type} {m : SMap α} {x : α} {a q : Nat} (h : (mget m q).isSome) : (mget (mset m a x) q).isSome := by
  by_cases e : q = a
  · rw [e, mget_mset_same]; rfl
  · rwa [mget_mset_ne _ _ _ _ e]

theorem clean_popped {b : Body} {e : PassEvent} {r : List PassEvent} (evs : b.evs = e :: r) (src : e.src < 88)
    (h : Body.Clean { b with evs := r }) : b.Clean := by
  refine ⟨h.free, h.sealing, h.queues, h.lds, fun x mem => ?_⟩
  rw [evs, List.mem_cons] at mem
  obtain rfl | mem := mem
  · exact src
  · exact h.units x mem

/-- An event that the Pass takes from the units shows its source in the Pass. -/
theorem present {e : PassEvent} {r : List PassEvent} (ready : s.pass.ready = false) (evs : s.body.evs = e :: r) :
    Onward n s ({ s with body := { s.body with evs := r } }.present e) := by
  have popped : Body.Onward 0 s.body { s.body with evs := r } := ⟨rfl, rfl, rfl, fun u => ⟨u, rfl⟩, fun c => absurd c (Nat.lt_irrefl 0)⟩
  unfold State.present
  rw [not_mayStamp_of_not_ready ready, Bool.false_and, if_neg (by decide)]
  extract_lets buf fatal
  split
  · refine ⟨ready, popped.inc, fun _ clean => ?_⟩
    have src : e.src < 88 := clean.lost e.src (by rw [mget_mset_same]; rfl)
    have counted : Body.Onward 1 { s.body with evs := r } (Body.inc { s.body with evs := r } (F.PASS_LOST_COUNT e.src)) := (Body.Onward.refl _).inc
    obtain ⟨body, same⟩ := counted.sensor Nat.one_pos clean.body
    exact ⟨⟨clean_popped evs src body, clean.bufs, fun q some => clean.lost q (isSome_mset some)⟩, same⟩
  · refine ⟨ready, popped, fun _ clean => ⟨⟨clean_popped evs ?_ clean.body, fun q some => clean.bufs q (isSome_mset some), clean.lost⟩, rfl⟩⟩
    exact clean.bufs e.src (by rw [mget_mset_same]; rfl)

theorem settle (fuel : Nat) (ready : s.pass.ready = false) : Onward n s (settle fuel s) := by
  induction fuel generalizing s with
  | zero => exact refl ready
  | succ fuel ih =>
    unfold State.settle
    split
    · exact refl ready
    · next e r evs =>
      have presented : Onward n s ({ s with body := { s.body with evs := r } }.present e) := present ready evs
      exact presented.trans (ih presented.ready)

theorem finish (ready : s.pass.ready = false) : Onward n s s.finish := by
  have undrained : drainBufs 2048 s = s := by simp [drainBufs, not_mayStamp_of_not_ready ready]
  rw [State.finish, undrained]
  exact settle settleFuel ready

theorem windowTold (old : Body) (ready : s.pass.ready = false) : Onward n s (s.windowTold old) := by
  unfold State.windowTold
  split
  · exact refl ready
  · have raised : Body.Onward n s.body { s.body with evs := s.body.evs ++ Body.windowEvents old s.body } :=
      ⟨rfl, rfl, rfl, fun u => ⟨u, rfl⟩, fun _ u => ⟨⟨u.free, u.sealing, u.queues, u.lds,
        fun e he => u.units e (List.mem_append_left _ he)⟩, rfl⟩⟩
    exact (of_body ready raised).trans (finish ready)

theorem taken (b : Body) (ready : s.pass.ready = false) : Onward n { s with body := b } (s.taken b.unitsRun) := by
  have ran : Onward n { s with body := b } { s with body := b.unitsRun } := of_body ready (Body.Onward.refl b).unitsRun
  have finished := ran.trans (finish (n := n) ran.ready)
  exact finished.trans (windowTold s.body finished.ready)

/-- A command after which the machine does not stand at the first stage of a boot has brought no reset about. -/
theorem settled {b : Body} (ready : s.pass.ready = false) (stage : (s.settled b).body.boot.stage ≠ 1) :
    Onward n { s with body := b } (s.settled b) := by
  unfold State.settled at stage ⊢
  dsimp only at stage ⊢
  split at stage
  · exact taken b ready
  · refine absurd ?_ stage
    rw [(finish_waits rfl).boot]
    rfl

end Onward
end State
namespace State

/-- Idle units stay at the stage of the boot where a command leaves them. -/
theorem stage_settled {s : State} {b : Body} (ready : s.pass.ready = false) (ran : b.unitsRun = b) (unasked : b.boot.resetReq = none) :
    (s.settled b).body.boot.stage = b.boot.stage := by
  have taken := taken_waits b ready
  unfold settled
  rw [ran]
  dsimp only
  rw [taken.boot, unasked]
  exact congrArg (·.stage) taken.boot

end State
namespace Body
open Sys2Proof.Stmt

/-- Committed, with nothing to save, and before the boot mark store has finished. -/
def committedEmpty : State := { body := { per := { pf := .committed } } }

theorem idle_vaultWrite_committedEmpty : committedEmpty.body.vaultWrite.Idle :=
  ⟨rfl, by decide, rfl, rfl, rfl, rfl, by decide⟩

/-- Refutes O24: the vault writer ends the manifest of an empty vault with a whole granule of END entries, so the header counts 256 entries and
not one. -/
theorem not_persistCommands : ¬ Obligations.PersistCommands := by
  unfold Obligations.PersistCommands
  rintro ⟨-, -, -, vaultWrite, -⟩
  obtain ⟨b, answer, -, -, -, -, entries, -⟩ := vaultWrite committedEmpty rfl rfl
  have reached : committedEmpty.settled committedEmpty.body.vaultWrite = committedEmpty.settled b := Host.Outcome.next.inj answer
  have stage : (committedEmpty.settled committedEmpty.body.vaultWrite).body.boot.stage = 0 :=
    State.stage_settled rfl idle_vaultWrite_committedEmpty.unitsRun rfl
  have made : State.Onward 0 _ _ := State.Onward.settled (b := committedEmpty.body.vaultWrite) rfl (by rw [stage]; decide)
  have told : State.Onward 0 _ _ := State.Onward.settled (b := b) rfl (by rw [← reached, stage]; decide)
  rw [← reached] at told
  have vault : b.mtl.vault = [] := told.body.vault.symm.trans made.body.vault
  have hdr : b.mtl.hdr.entries = 256 := congrArg (·.entries) (told.body.hdr.symm.trans made.body.hdr)
  rw [hdr, vault] at entries
  cases entries

end Body
namespace State

/-! ### A clean state stays clean in the Pass -/

theorem lt_of_isSome_mset {α : Type} {m : SMap α} {x : α} {a q c : Nat} (keys : ∀ p, (mget m p).isSome → p < c) (new : a < c)
    (h : (mget (mset m a x) q).isSome) : q < c := by
  by_cases e : q = a
  · exact e ▸ new
  · rw [mget_mset_ne _ _ _ _ e] at h
    exact keys q h

theorem src_windowEvents {old b : Body} {e : PassEvent} (mem : e ∈ Body.windowEvents old b) : e.src < 88 := by
  obtain ⟨p, port, mem⟩ := List.mem_flatMap.mp mem
  have := List.mem_range.mp port
  split at mem
  · cases mem
  · obtain ⟨k, -, rfl⟩ := List.mem_map.mp mem
    simp only [U.cxl]
    omega

namespace Clean

theorem present {s : State} {e : PassEvent} (ready : s.pass.ready = false) (src : e.src < 88) (h : s.Clean) : (s.present e).Clean := by
  unfold State.present
  rw [not_mayStamp_of_not_ready ready, Bool.false_and, if_neg (by decide)]
  dsimp only
  split
  · exact ⟨⟨h.body.free, h.body.sealing, h.body.queues, h.body.lds, h.body.units⟩, h.bufs, fun q => lt_of_isSome_mset h.lost src⟩
  · exact ⟨h.body, fun q => lt_of_isSome_mset h.bufs src, h.lost⟩

theorem settle (fuel : Nat) {s : State} (ready : s.pass.ready = false) (h : s.Clean) : (State.settle fuel s).Clean := by
  induction fuel generalizing s with
  | zero => exact h
  | succ fuel ih =>
    unfold State.settle
    split
    · exact h
    · next e r evs =>
      have units : ∀ x ∈ e :: r, x.src < 88 := evs ▸ h.body.units
      have popped : State.Clean { s with body := { s.body with evs := r } } :=
        ⟨⟨h.body.free, h.body.sealing, h.body.queues, h.body.lds, fun x mem => units x (List.mem_cons_of_mem e mem)⟩, h.bufs, h.lost⟩
      exact ih (present_waits (s := { s with body := { s.body with evs := r } }) e ready).ready (popped.present ready (units e List.mem_cons_self))

theorem finish {s : State} (ready : s.pass.ready = false) (h : s.Clean) : s.finish.Clean := by
  have undrained : drainBufs 2048 s = s := by simp [drainBufs, not_mayStamp_of_not_ready ready]
  rw [State.finish, undrained]
  exact h.settle settleFuel ready

theorem windowTold {s : State} (old : Body) (ready : s.pass.ready = false) (h : s.Clean) : (s.windowTold old).Clean := by
  unfold State.windowTold
  split
  · exact h
  · refine finish ready ⟨⟨h.body.free, h.body.sealing, h.body.queues, h.body.lds, fun x mem => ?_⟩, h.bufs, h.lost⟩
    obtain mem | mem := List.mem_append.mp mem
    · exact h.body.units x mem
    · exact src_windowEvents mem

theorem taken {s : State} (b : Body) (ready : s.pass.ready = false) (h : State.Clean { s with body := b }) : (s.taken b).Clean :=
  (Clean.finish (s := { s with body := b }) ready h).windowTold s.body (finish_waits (s := { s with body := b }) ready).ready

end Clean
end State

namespace Body

/-! ### A thermal sample that writes over its own register -/

theorem ldOf_ldMod_ne (s : Body) {p k q j : Nat} (f : LdSt → LdSt) (other : ¬ (q = p ∧ j = k)) : (s.ldMod p k f).ldOf q j = s.ldOf q j := by
  unfold ldOf ldMod
  by_cases e : q = p
  · subst e
    rw [cxp_cxpMod_same, mgetD_mset_ne _ _ _ fun same => other ⟨rfl, same⟩]
  · rw [cxp, cxpMod, mgetD_mset_ne _ _ _ e, cxp]

/-- The status of a logical device leaves the low bits of every register. -/
theorem get_ldShow_low (s : Body) (p k : Nat) {f : Fld} (low : f.lo + f.w ≤ 9) : (s.ldShow p k).get f = s.get f := by
  have out (g : Fld) (high : 9 ≤ g.lo) : g.apart f = true := by
    simp only [Fld.apart, Bool.or_eq_true, Bool.and_eq_true, decide_eq_true_eq]
    omega
  unfold ldShow
  simp only [putB_eq]
  rw [get_put_ne _ _ _ _ (out (F.CXP_LD_RECORDS p k) (show 9 ≤ 32 by decide)), get_put_ne _ _ _ _ (out (F.CXP_LD_LOG_OVERFLOW p k) (show 9 ≤ 14 by decide)),
    get_put_ne _ _ _ _ (out (F.CXP_LD_SHUTDOWN_DIRTY p k) (show 9 ≤ 13 by decide)), get_put_ne _ _ _ _ (out (F.CXP_LD_MEMORY_ACTIVE p k) (show 9 ≤ 12 by decide)),
    get_put_ne _ _ _ _ (out (F.CXP_LD_DECODERS p k) (show 9 ≤ 10 by decide)), get_put_ne _ _ _ _ (out (F.CXP_LD_MEM_ENABLE p k) (show 9 ≤ 9 by decide))]

/-- The status shows Mem_Enable in bit 9. -/
theorem get_ldShow_memEnable (s : Body) (p k : Nat) : (s.ldShow p k).get (F.CXP_LD_MEM_ENABLE p k) = b2n (s.ldOf p k).memEnable := by
  have out (g : Fld) (high : 10 ≤ g.lo) : g.apart (F.CXP_LD_MEM_ENABLE p k) = true := by
    have low : (F.CXP_LD_MEM_ENABLE p k).lo + (F.CXP_LD_MEM_ENABLE p k).w = 10 := rfl
    simp only [Fld.apart, Bool.or_eq_true, Bool.and_eq_true, decide_eq_true_eq]
    omega
  unfold ldShow
  simp only [putB_eq]
  rw [get_put_ne _ _ _ _ (out (F.CXP_LD_RECORDS p k) (show 10 ≤ 32 by decide)), get_put_ne _ _ _ _ (out (F.CXP_LD_LOG_OVERFLOW p k) (show 10 ≤ 14 by decide)),
    get_put_ne _ _ _ _ (out (F.CXP_LD_SHUTDOWN_DIRTY p k) (show 10 ≤ 13 by decide)), get_put_ne _ _ _ _ (out (F.CXP_LD_MEMORY_ACTIVE p k) (show 10 ≤ 12 by decide)),
    get_put_ne _ _ _ _ (out (F.CXP_LD_DECODERS p k) (show 10 ≤ 10 by decide)), get_put_same _ _ _ (show 9 + 1 ≤ 64 by decide)]
  cases (s.ldOf p k).memEnable <;> rfl

/-- The first record of a logical device that was never touched. -/
def firstRecord (s : Body) (p k : Nat) : LdSt :=
  setLog {} 1 { recs := [⟨none, 3, none, s.cxlTime p k, s.frameNo, 1⟩], nextH := 2 }

theorem ldMod_congr {s : Body} {p k : Nat} {f g : LdSt → LdSt} (same : f (s.ldOf p k) = g (s.ldOf p k)) : s.ldMod p k f = s.ldMod p k g := by
  have same' : f (mgetD (s.cxp p).lds k {}) = g (mgetD (s.cxp p).lds k {}) := same
  unfold ldMod cxpMod
  dsimp only
  rw [same']

/-- The temperature row's record of an untouched logical device. -/
theorem recordAdd_untouched {s : Body} {p k : Nat} (untouched : s.ldOf p k = {}) :
    s.recordAdd p k 1 none 3 none = ((s.ldMod p k fun _ => s.firstRecord p k).postN (U.cxl p) .cxlRecord (k * 4 + 1)).ldShow p k := by
  have logged : (s.ldMod p k fun l => setLog l 1 { recs := [] ++ [⟨none, 3, none, s.cxlTime p k, s.frameNo, 1⟩], nextH := 1 % 65535 + 1 })
      = s.ldMod p k fun _ => s.firstRecord p k := ldMod_congr (by rw [untouched]; rfl)
  have empty : logOf (s.ldOf p k) 1 = {} := by rw [untouched]; rfl
  unfold recordAdd
  rw [empty]
  dsimp only
  rw [logged, if_neg (by decide), if_neg]
  rw [ldOf_ldShow, ldOf_postN, ldOf_ldMod_same]
  exact (by decide : ¬ 0 / 2 ^ (8 * 1) % 4 = 1)

/-- What a record leaves as it is. -/
def unlogged (s : Body) := (s.todo, s.nc.held, s.twin, s.boot, s.frame, s.per, s.cfg)

/-- The logical devices of port 0 before `m` have the temperature row's record, the others are untouched. -/
structure Recorded (s : Body) (m : Nat) (t : Body) : Prop where
  rest : t.unlogged = s.unlogged
  untouched : ∀ p k, (p = 0 → m ≤ k) → t.ldOf p k = {}
  quiet : ∀ p k, Quiet (t.ldOf p k)
  enable : ∀ p k, (t.ldOf p k).memEnable = false
  low : ∀ f : Fld, f.lo + f.w ≤ 9 → t.get f = s.get f
  events : ∀ e ∈ t.evs, e ∈ s.evs ∨ (e.src = U.cxl 0 ∧ e.ev = .named .cxlRecord)

theorem quiet_firstRecord (s : Body) (p k : Nat) : Quiet (s.firstRecord p k) := by
  refine ⟨fun n => ?_, ?_⟩
  · match n with
    | 1 => exact ⟨rfl, fun r mem => by rw [List.mem_singleton.mp mem]⟩
    | 0 | 2 | _ + 3 => exact ⟨rfl, fun r mem => nomatch mem⟩
  · intro d mem
    simp only [decs, firstRecord, setLog, List.mem_cons, List.not_mem_nil, or_false, or_self] at mem
    exact mem ▸ ⟨rfl, rfl⟩

theorem Recorded.step {s t : Body} {m : Nat} (h : Recorded s m t) : Recorded s (m + 1) (t.recordAdd 0 m 1 none 3 none) := by
  have untouched : t.ldOf 0 m = {} := h.untouched 0 m fun _ => le_rfl
  rw [recordAdd_untouched untouched]
  have lds (p k : Nat) : (((t.ldMod 0 m fun _ => t.firstRecord 0 m).postN (U.cxl 0) .cxlRecord (m * 4 + 1)).ldShow 0 m).ldOf p k
      = if p = 0 ∧ k = m then t.firstRecord 0 m else t.ldOf p k := by
    rw [ldOf_ldShow, ldOf_postN]
    split
    · next e => rw [e.1, e.2, ldOf_ldMod_same]
    · next e => rw [ldOf_ldMod_ne t _ e]
  constructor
  case rest => exact h.rest
  case untouched =>
    intro p k far
    rw [lds, if_neg fun e => absurd (far e.1) (by omega)]
    exact h.untouched p k fun e => by have := far e; omega
  case quiet =>
    intro p k
    rw [lds]
    split
    · exact quiet_firstRecord ..
    · exact h.quiet p k
  case enable =>
    intro p k
    rw [lds]
    split
    · rfl
    · exact h.enable p k
  case low =>
    intro f low
    rw [get_ldShow_low _ _ _ low]
    exact h.low f low
  case events =>
    intro e mem
    obtain mem | mem := List.mem_append.mp (show e ∈ t.evs ++ [⟨U.cxl 0, .named .cxlRecord, m * 4 + 1⟩] from mem)
    · exact h.events e mem
    · rw [List.mem_singleton.mp mem]
      exact .inr ⟨rfl, rfl⟩

theorem forEach_range_succ (s : Body) (f : Body → Nat → Body) (m : Nat) :
    s.forEach (List.range (m + 1)) f = f (s.forEach (List.range m) f) m := by
  rw [forEach, List.range_succ, List.foldl_append]
  rfl

theorem recorded {s : Body} (untouched : ∀ p k, s.ldOf p k = {}) (m : Nat) :
    Recorded s m (s.forEach (List.range m) fun s k => s.recordAdd 0 k 1 none 3 none) := by
  induction m with
  | zero =>
    refine ⟨rfl, fun p k _ => untouched p k, fun p k => ?_, fun p k => ?_, fun _ _ => rfl, fun _ => .inl⟩
    · show Quiet (s.ldOf p k)
      rw [untouched]
      exact ⟨fun n => by match n with | 0 | 1 | 2 | _ + 3 => exact ⟨rfl, fun r mem => nomatch mem⟩, by decide⟩
    · show (s.ldOf p k).memEnable = false
      rw [untouched]
  | succ m ih =>
    rw [forEach_range_succ]
    exact ih.step

end Body
namespace State

/-- Units that ask for no reset leave the boot where it stands. -/
theorem stage_settled_of_run {s : State} {b : Body} (ready : s.pass.ready = false) (boot : b.unitsRun.boot = b.boot) (unasked : b.boot.resetReq = none) :
    s.settled b = s.taken b.unitsRun ∧ (s.settled b).body.boot.stage = b.boot.stage := by
  have taken := taken_waits b.unitsRun ready
  have same : (s.taken b.unitsRun).body.boot = b.boot := taken.boot.trans boot
  unfold settled
  dsimp only
  rw [same, unasked]
  exact ⟨rfl, congrArg (·.stage) same⟩

end State

namespace Body
open Sys2Proof.Stmt

theorem unitsRun_eq_portOpened {b : Body} (todo : b.todo = []) (hob : (b.hobState == .flushing) = false) (held : b.nc.held = [])
    (records : b.moduleRecords = b) (acks : b.twin.ackOwed = []) (start : b.twin.resync.heldStart = none) : b.unitsRun = b.portOpened := by
  have flushed : b.flushLook = b := by simp [flushLook, hob]
  have acked : b.ackTry = b := by simp [ackTry, acks]
  have restarted : b.resyncHeld = b := by simp [resyncHeld, start]
  simp only [unitsRun, runTodos_of_nil todo, flushed, pumpHeld_of_nil held, records, acked, restarted]

theorem moduleRecords_of_uncalled {b : Body} (uncalled : ∀ e ∈ b.evs, e.ev = .named .cxlRecord ∨ e.ev = .bit F.TH_EVENTS_LEVEL_UP) :
    b.moduleRecords = b := by
  unfold moduleRecords
  extract_lets has spare lost s1 s2 s3
  have unseen (q : Fld → Bool) (other : q F.TH_EVENTS_LEVEL_UP = false) : has q = false := by
    refine List.any_eq_false.mpr fun e mem => ?_
    obtain h | h := uncalled e mem
    · rw [h]
      exact Bool.false_ne_true
    · rw [h]
      exact Bool.not_eq_true _ ▸ other
  have kept : lost = false := by
    refine List.any_eq_false.mpr fun e mem => ?_
    obtain h | h := uncalled e mem <;> rw [h] <;> decide
  have low : spare F.MD_EVENTS_SPARE_LOW = false := unseen _ (by decide)
  have crit : spare F.MD_EVENTS_SPARE_CRIT = false := unseen _ (by decide)
  have exhausted : spare F.MD_EVENTS_SPARE_EXHAUSTED = false := unseen _ (by decide)
  have accepted : has (· == F.PERSIST_EVENTS_LOSS_ACCEPTED) = false := unseen _ (by decide)
  have e1 : s1 = b := by simp only [s1, low, when_false]
  have e2 : s2 = b := by simp only [s2, crit, exhausted, Bool.or_self, when_false, e1]
  have e3 : s3 = b := by simp only [s3, kept, when_false, e2]
  rw [accepted, when_false, e3]

/-- 98305 logical devices on port 0, so that the status of the last stands at TH_SENSOR 0. -/
def crowded : State :=
  { body := { cfg := { img := { qui := { parts := [{ id := 0, flags := 1, port := 0, ld := 98304, base := 0, size := 0 }] } } }
              frame := { sealing := true } } }

/-- The monitor's own part of a first sample, 64 °C of die sensor 0. -/
def sampled : Body := crowded.body.thSample .die 0 (some 512) 0

theorem unlogged_sampled : sampled.unlogged = crowded.body.unlogged := by
  simp only [unlogged, Prod.mk.injEq]
  refine ⟨?_, ?_, ?_, ?_, ?_, ?_, ?_⟩ <;> decide +kernel

theorem cxl_sampled : sampled.cxl = {} := by decide +kernel

theorem evs_sampled : sampled.evs = [⟨U.thermal, .bit F.TH_EVENTS_LEVEL_UP, 7⟩] := by decide +kernel

theorem simmer4_sampled : crowded.body.simmer4 = false ∧ sampled.simmer4 = true := by decide +kernel

theorem hobState_sampled : sampled.get F.HOB_STATUS_STATE = 0 := by decide +kernel

theorem ldCount_of_single {s : Body} {d : PartDef} (parts : s.cfg.img.qui.parts = [d]) (reached : nbit d.flags 0 = true) (p : Nat) :
    s.ldCount p = if d.port = p then d.ld + 1 else 0 := by
  unfold ldCount
  rw [parts]
  by_cases e : d.port = p <;> simp [reached, e]

theorem cfg_of_unlogged {a b : Body} (same : a.unlogged = b.unlogged) : a.cfg = b.cfg := congrArg (·.2.2.2.2.2.2) same

theorem boot_of_unlogged {a b : Body} (same : a.unlogged = b.unlogged) : a.boot = b.boot := congrArg (·.2.2.2.1) same

theorem allLds_sampled : sampled.allLds = (List.range 98305).map fun k => (0, k) := by
  have cfg : sampled.cfg = crowded.body.cfg := cfg_of_unlogged unlogged_sampled
  have parts : sampled.cfg.img.qui.parts = crowded.body.cfg.img.qui.parts := by rw [cfg]
  have ports : sampled.cxlPortCount = 4 := by
    rw [cxlPortCount, cfg]
    rfl
  have first : sampled.ldCount 0 = 98305 := (ldCount_of_single parts rfl 0).trans (if_pos rfl)
  have others (p : Nat) (other : p ≠ 0) : sampled.ldCount p = 0 := (ldCount_of_single parts rfl p).trans (if_neg other.symm)
  rw [allLds, ports, show List.range 4 = [0, 1, 2, 3] from rfl]
  simp only [List.flatMap_cons, List.flatMap_nil, first, others 1 (by decide), others 2 (by decide), others 3 (by decide), List.range_zero,
    List.map_nil, List.append_nil]

theorem thermalSample_die (s : Body) (n us : Nat) (t : Option Int) :
    s.thermalSample .die n t us
      = ((s.thSample .die n t us).when (n == 22) cfTemp).when (((s.thSample .die n t us).when (n == 22) cfTemp).simmer4 && !s.simmer4)
          (·.moduleRecord 1 3) := rfl

theorem thermalSample_crowded : crowded.body.thermalSample .die 0 (some 512) 0
    = sampled.forEach (List.range 98305) fun s k => s.recordAdd 0 k 1 none 3 none := by
  obtain ⟨before, after⟩ := simmer4_sampled
  have folded : sampled.moduleRecord 1 3 = sampled.forEach (List.range 98305) fun s k => s.recordAdd 0 k 1 none 3 none := by
    rw [moduleRecord, allLds_sampled, forEach, List.foldl_map]
    rfl
  rw [← folded]
  rw [thermalSample_die, show (0 == 22) = false from rfl, when_false, ← sampled, after, before]
  rfl

theorem recorded_sampled (m : Nat) : Recorded sampled m (sampled.forEach (List.range m) fun s k => s.recordAdd 0 k 1 none 3 none) :=
  recorded (fun p k => (ldOf_of_cxl (a := {}) cxl_sampled p k)) _

/-- What the sample leaves: the monitor's own part, then a record of every logical device. -/
@[irreducible] def overwritten : Body := sampled.forEach (List.range 98305) fun s k => s.recordAdd 0 k 1 none 3 none

theorem thermalSample_overwritten : crowded.body.thermalSample .die 0 (some 512) 0 = overwritten := by
  unfold overwritten
  exact thermalSample_crowded

theorem recorded_overwritten : Recorded sampled 98305 overwritten := by
  unfold overwritten
  exact recorded_sampled 98305

/-- The last logical device's status has cleared bit 9 of TH_SENSOR 0, which the sample's temperature set. -/
theorem get_overwritten : overwritten.get (F.CXP_LD_MEM_ENABLE 0 98304) = 0 := by
  have last : overwritten = (sampled.forEach (List.range 98304) fun s k => s.recordAdd 0 k 1 none 3 none).recordAdd 0 98304 1 none 3 none := by
    unfold overwritten
    exact forEach_range_succ ..
  have before := recorded_sampled 98304
  have untouched := before.untouched 0 98304 fun _ => le_rfl
  have enable := recorded_overwritten.enable 0 98304
  rw [last, recordAdd_untouched untouched, ldOf_ldShow] at enable
  rw [last, recordAdd_untouched untouched, get_ldShow_memEnable, enable]
  rfl

theorem clean_overwritten : overwritten.Clean := by
  have rest : overwritten.unlogged = crowded.body.unlogged := recorded_overwritten.rest.trans unlogged_sampled
  simp only [unlogged, Prod.mk.injEq] at rest
  obtain ⟨-, -, -, boot, frame, per, -⟩ := rest
  refine ⟨by rw [boot]; rfl, by rw [frame]; rfl, fun q _ => by rw [aq, per]; rfl, recorded_overwritten.quiet, fun e mem => ?_⟩
  obtain old | ⟨src, -⟩ := recorded_overwritten.events e mem
  · rw [evs_sampled, List.mem_singleton] at old
    rw [old]
    decide
  · rw [src]
    decide

theorem unitsRun_overwritten : overwritten.unitsRun = overwritten.portOpened := by
  have rest : overwritten.unlogged = crowded.body.unlogged := recorded_overwritten.rest.trans unlogged_sampled
  simp only [unlogged, Prod.mk.injEq] at rest
  obtain ⟨todo, held, twin, -, -, -, -⟩ := rest
  have off : overwritten.get F.HOB_STATUS_STATE = 0 := (recorded_overwritten.low _ (by decide)).trans hobState_sampled
  refine unitsRun_eq_portOpened todo (by rw [hobState, off]; rfl) held (moduleRecords_of_uncalled fun e mem => ?_) (by rw [twin]; rfl)
    (by rw [twin]; rfl)
  obtain old | ⟨-, ev⟩ := recorded_overwritten.events e mem
  · rw [evs_sampled, List.mem_singleton] at old
    exact .inr (by rw [old])
  · exact .inl ev

/-- Opening a port is the boot's own matter. -/
theorem portOpened_kept (b : Body) : b.portOpened.boot = b.boot ∧ (b.Clean → b.portOpened.Clean) := by
  unfold portOpened
  dsimp only
  split
  · exact ⟨rfl, fun h => ⟨h.free, h.sealing, h.queues, h.lds, h.units⟩⟩
  · exact ⟨rfl, id⟩

/-- 64 °C sets bit 9 of TH_SENSOR 0, where the last logical device's status shows Mem_Enable. -/
theorem temperature_uncleared {b c : Body} (same : b.word 0x170100 = c.word 0x170100) (temp : b.get (F.TH_SENSOR_TEMP 0) = unsgn 16 512 % 2 ^ 16)
    (cleared : c.get (F.CXP_LD_MEM_ENABLE 0 98304) = 0) : False := by
  have shown : (b.word 0x170100).toNat / 2 ^ 0 % 2 ^ 16 = 512 := temp
  have low : (c.word 0x170100).toNat / 2 ^ 9 % 2 ^ 1 = 0 := cleared
  rw [same] at shown
  omega

theorem exec_thermalSample (s : State) (c : SensClass) (n us : Nat) (t : Option Int) :
    exec (.thermalSample c n t us) s = .next (s.settled (s.body.thermalSample c n t us)) := rfl

/-- Refutes O51: with 98305 logical devices on a port, the temperature row's records that the sample calls for run past the port's own
registers and write over the temperature just shown. -/
theorem not_thermalCommands : ¬ Obligations.ThermalCommands := by
  unfold Obligations.ThermalCommands
  rintro ⟨sample, -⟩
  obtain ⟨b, answer, temp, -, -⟩ := sample crowded 0 0 512 (by decide)
  rw [exec_thermalSample, thermalSample_overwritten] at answer
  have reached : crowded.settled overwritten = crowded.settled b := Host.Outcome.next.inj answer
  obtain ⟨boot, kept⟩ := overwritten.portOpened_kept
  have resting : overwritten.boot = {} := by
    have rest : overwritten.unlogged = crowded.body.unlogged := recorded_overwritten.rest.trans unlogged_sampled
    exact boot_of_unlogged rest
  obtain ⟨taken, stage⟩ := State.stage_settled_of_run (s := crowded) (b := overwritten) rfl (by rw [unitsRun_overwritten, boot])
    (by rw [resting])
  have clean : (crowded.settled overwritten).Clean := by
    rw [taken, unitsRun_overwritten]
    exact State.Clean.taken _ rfl ⟨kept clean_overwritten, fun q h => (nomatch h), fun q h => (nomatch h)⟩
  have unbooted : (crowded.settled overwritten).body.boot.stage ≠ 1 := by
    rw [stage, resting]
    decide
  obtain ⟨-, made⟩ := (State.Onward.settled (n := 1) (b := overwritten) rfl unbooted).sensor Nat.one_pos clean
  obtain ⟨-, told⟩ := (State.Onward.settled (n := 1) (b := b) rfl (reached ▸ unbooted)).sensor Nat.one_pos (reached ▸ clean)
  rw [← reached] at told
  have word : b.word 0x170100 = overwritten.word 0x170100 := told.symm.trans made
  exact temperature_uncleared word temp get_overwritten

end Body

/-! ## A valid image

The checks of R69 read bytes. `Img.imageByte` gives the bytes of a smallest image that passes them: thirteen sections with hardly a value set,
and a REGDEF section that holds one entry for each register that needs one. The checksums stand in the directory as the function that checks
them, and are not evaluated. -/

namespace Img

/-- The bytes of fields (offset, length, value), and zeros elsewhere. -/
def fieldByte : List (Nat × Nat × Nat) → Nat → Nat
  | [], _ => 0
  | (a, n, v) :: r, o => if a ≤ o ∧ o < a + n then v / 256 ^ (o - a) % 256 else fieldByte r o

/-- Offset and length of the sections 1 to 13. -/
def extents : List (Nat × Nat) :=
  [(320, 128), (448, 64), (512, 64), (576, 64), (640, 128), (768, 64), (832, 64), (896, 128), (1024, 64), (1088, 64), (1152, 576), (1728, 64),
    (1792, 16512)]

/-- The header (R59). -/
def headerFields : List (Nat × Nat × Nat) :=
  [(0, 4, 0x524D4741), (4, 2, 1), (6, 2, 13), (8, 4, 18368), (12, 4, 18304), (16, 8, 1), (24, 2, 0x6420)]

/-- An entry of the directory (R60). -/
def entryFields (i crc : Nat) : List (Nat × Nat × Nat) :=
  [(0, 2, i + 1), (2, 1, 1), (4, 4, (extents.getD i (0, 0)).1), (8, 4, (extents.getD i (0, 0)).2), (12, 4, crc)]

/-- The lane map of LANES: each physical lane is its own logical one. -/
def laneFields : List (Nat × Nat × Nat) := (List.range 100).map fun i => (324 + i, 1, if i < 64 then i else i % 16)

/-- The values of SRAM to SECURITY that may not be zero: one partition, one rail, thresholds that rise. -/
def sectionFields : List (Nat × Nat × Nat) :=
  [(448, 1, 8), (450, 1, 2), (516, 2, 4800), (518, 2, 32), (580, 1, 1), (581, 1, 1), (582, 1, 1), (584, 2, 2), (640, 2, 1), (706, 1, 0xFF),
    (720, 8, 2 ^ 30), (768, 2, 500), (896, 1, 1)]
  ++ (List.range 3).flatMap (fun c => (List.range 8).map fun i => (1024 + 16 * c + 2 * i, 2, i)) ++ [(1076, 2, 1)]

/-- One entry for each register that REGDEF must carry (R63), of value 0. -/
def regEntries : List RegDefEntry :=
  (List.range 23).flatMap fun b => ((blockRegs b).filter fun r => regdefMask r != 0).flatMap fun r =>
    (addrsOf r).map fun a => ⟨a, regdefMask r, 0⟩

/-- The entry at a place of REGDEF, zeros past the last. -/
def regEntry (i : Nat) : RegDefEntry := regEntries.getD i ⟨0, 0, 0⟩

/-- The fields of an entry of REGDEF (R62). -/
def regFields (i : Nat) : List (Nat × Nat × Nat) := [(0, 4, (regEntry i).addr), (8, 8, (regEntry i).mask), (16, 8, (regEntry i).value)]

/-- The body of REGDEF. -/
def regdefByte (o : Nat) : Nat := if o < 8 then fieldByte [(0, 2, 687)] o else fieldByte (regFields ((o - 8) / 24)) ((o - 8) % 24)

/-- The image with these checksums, erased flash behind it and zeros where the other slot's SEQUENCE stands. -/
def imageByte (crcs : Nat → Nat) (o : Nat) : Nat :=
  if o < 64 then fieldByte headerFields o
  else if o < 272 then fieldByte (entryFields ((o - 64) / 16) (crcs ((o - 64) / 16))) ((o - 64) % 16)
  else if o < 448 then fieldByte laneFields o
  else if o < 1792 then fieldByte sectionFields o
  else if o < 18304 then regdefByte (o - 1792)
  else if o < 18368 then 0
  else if o / 8 = 0x1000002 then 0 else 255

/-- The checksum of a section. -/
def bodyCrc (i : Nat) : Nat := crc (imageByte fun _ => 0) (extents.getD i (0, 0)).1 (extents.getD i (0, 0)).2

/-- A byte of the valid image. -/
def validByte : Nat → Nat := imageByte bodyCrc

/-! ### Numbers in bytes -/

theorem le_succ (rd : Nat → Nat) (o n : Nat) : le rd o (n + 1) = le rd o n + rd (o + n) * 256 ^ n := by
  rw [le, List.range_succ, List.foldl_append]
  rfl

theorem le_of_bytes {rd : Nat → Nat} {o v : Nat} : ∀ {n : Nat}, (∀ j < n, rd (o + j) = v / 256 ^ j % 256) → le rd o n = v % 256 ^ n
  | 0, _ => (Nat.mod_one v).symm
  | n + 1, bytes => by
    rw [le_succ, le_of_bytes fun j lt => bytes j (by omega), bytes n (by omega), Nat.mod_pow_succ, Nat.mul_comm]

theorem fieldByte_lt : ∀ (l : List (Nat × Nat × Nat)) (o : Nat), fieldByte l o < 256
  | [], _ => Nat.zero_lt_succ _
  | (a, n, v) :: r, o => by
    unfold fieldByte
    split
    · exact Nat.mod_lt _ (by decide)
    · exact fieldByte_lt r o

theorem regdefByte_lt (o : Nat) : regdefByte o < 256 := by
  unfold regdefByte
  split
  · exact fieldByte_lt ..
  · exact fieldByte_lt ..

theorem imageByte_lt (crcs : Nat → Nat) (o : Nat) : imageByte crcs o < 256 := by
  unfold imageByte
  split_ifs
  · exact fieldByte_lt ..
  · exact fieldByte_lt ..
  · exact fieldByte_lt ..
  · exact fieldByte_lt ..
  · exact regdefByte_lt _
  · decide
  · decide
  · decide

/-! ### The directory and its checksums -/

theorem extents_validByte : (dir validByte).map (fun e => (e.off, e.len)) = extents := by decide +kernel

theorem layoutOk_validByte : layoutOk validByte = true := by decide +kernel

/-- A body does not depend on the checksums. -/
theorem imageByte_of_body {o : Nat} (body : 272 ≤ o) (c d : Nat → Nat) : imageByte c o = imageByte d o := by
  simp only [imageByte, if_neg (show ¬ o < 64 by omega), if_neg (show ¬ o < 272 by omega)]

theorem crc_congr {rd rd' : Nat → Nat} {o n : Nat} (same : ∀ j < n, rd (o + j) = rd' (o + j)) : crc rd o n = crc rd' o n := by
  have bytes : (List.range n).map (fun j => BitVec.ofNat 8 (rd (o + j))) = (List.range n).map fun j => BitVec.ofNat 8 (rd' (o + j)) :=
    List.map_congr_left fun j mem => by rw [same j (List.mem_range.mp mem)]
  rw [crc, bytes]
  rfl

theorem crc_validByte {i : Nat} (inDir : i < 13) :
    crc validByte (extents.getD i (0, 0)).1 (extents.getD i (0, 0)).2 = bodyCrc i := by
  have body : 272 ≤ (extents.getD i (0, 0)).1 := by
    revert i
    decide
  exact crc_congr fun j _ => imageByte_of_body (by omega) ..

theorem crc_lt (rd : Nat → Nat) (o n : Nat) : crc rd o n < 256 ^ 4 := BitVec.isLt _

theorem entryCrc_validByte {i : Nat} (inDir : i < 13) : le validByte (64 + 16 * i + 12) 4 = bodyCrc i := by
  rw [le_of_bytes (v := bodyCrc i)]
  · exact Nat.mod_eq_of_lt (crc_lt ..)
  intro j lt
  rw [validByte, imageByte, if_neg (by omega), if_pos (by omega), show (64 + 16 * i + 12 + j - 64) / 16 = i by omega,
    show (64 + 16 * i + 12 + j - 64) % 16 = 12 + j by omega, entryFields]
  simp only [fieldByte]
  rw [if_neg (by omega), if_neg (by omega), if_neg (by omega), if_neg (by omega), if_pos (by omega), Nat.add_sub_cancel_left]

/-- The checksums match when the one of each entry is that of the section at its extent. -/
theorem crcsOk_of_extents {rd : Nat → Nat} {n : Nat} {l : List (Nat × Nat)} (count : le rd 6 2 = n)
    (places : (dir rd).map (fun e => (e.off, e.len)) = l)
    (crcs : ∀ i < n, crc rd (l.getD i (0, 0)).1 (l.getD i (0, 0)).2 = le rd (64 + 16 * i + 12) 4) : crcsOk rd = true := by
  subst places
  unfold crcsOk
  rw [dir, count] at crcs ⊢
  rw [List.all_map, List.all_eq_true]
  intro i mem
  have inDir := List.mem_range.mp mem
  have same := crcs i inDir
  simp only [List.getD_eq_getElem?_getD, List.getElem?_map, List.getElem?_range inDir, Option.map_some, Option.getD_some] at same
  rw [Function.comp, beq_iff_eq]
  exact same

theorem crcsOk_validByte : crcsOk validByte = true :=
  crcsOk_of_extents (n := 13) (by decide +kernel) extents_validByte fun _ inDir => (crc_validByte inDir).trans (entryCrc_validByte inDir).symm

/-! ### The values -/

theorem fixedOk_validByte : fixedOk (fixed validByte) = true := by decide +kernel

theorem fixed2Ok_validByte :
    fixed2Ok (fixed2 validByte) ((body validByte 7).2 0) ((body validByte 11).2 513) ((body validByte 8).2 0) = true := by decide +kernel

theorem restOk_validByte : restOk validByte = true := by decide +kernel

theorem length_regEntries : regEntries.length = 687 := by decide +kernel

theorem masks_regEntries : (regEntries.all fun e => match findReg e.addr with
    | some r => e.mask ||| regdefMask r == regdefMask r
    | none => e.mask == 0) = true := by decide +kernel

theorem low_regEntries : (regEntries.all fun e => e.addr < 2 ^ 32 && e.mask < 2 ^ 64 && e.value < 2 ^ 64) = true := by decide +kernel

theorem regdef_validByte {o : Nat} (lt : o < 16512) : (body validByte 13).2 o = regdefByte o := by
  have place : ((dir validByte).find? (·.typ == 13)).map (fun e => (e.off, e.len)) = some (1792, 16512) := by decide +kernel
  obtain ⟨e, found, at_⟩ := Option.map_eq_some_iff.mp place
  obtain ⟨off, len⟩ := Prod.mk.inj at_
  unfold body
  rw [found]
  dsimp only
  rw [len, off, if_pos lt, validByte, imageByte, if_neg (by omega), if_neg (by omega), if_neg (by omega), if_neg (by omega), if_pos (by omega),
    Nat.add_sub_cancel_left]

/-- A field of an entry of REGDEF in the image. -/
theorem le_regdef {i o n v : Nat} (at_ : i < 687) (field : ∀ j < n, fieldByte (regFields i) (o + j) = v / 256 ^ j % 256) (inEntry : o + n ≤ 24) :
    le (body validByte 13).2 (8 + 24 * i + o) n = v % 256 ^ n := by
  refine le_of_bytes fun j lt => ?_
  rw [regdef_validByte (by omega), regdefByte, if_neg (by omega), show (8 + 24 * i + o + j - 8) / 24 = i by omega,
    show (8 + 24 * i + o + j - 8) % 24 = o + j by omega, field j lt]

theorem quiesce_regdefs (rd : Nat → Nat) : (quiesce rd).regdefs = (List.range (le (body rd 13).2 0 2)).map fun i =>
    ⟨le (body rd 13).2 (8 + 24 * i) 4, le (body rd 13).2 (16 + 24 * i) 8, le (body rd 13).2 (24 + 24 * i) 8⟩ := rfl

theorem le_regEntry {i : Nat} (at_ : i < 687) : le (body validByte 13).2 (8 + 24 * i) 4 = (regEntry i).addr % 256 ^ 4
    ∧ le (body validByte 13).2 (16 + 24 * i) 8 = (regEntry i).mask % 256 ^ 8
    ∧ le (body validByte 13).2 (24 + 24 * i) 8 = (regEntry i).value % 256 ^ 8 := by
  refine ⟨le_regdef (o := 0) at_ (fun j lt => ?_) (by omega), ?_, ?_⟩
  · simp only [regFields, fieldByte]
    rw [if_pos (by omega), Nat.add_sub_cancel_left]
  · rw [show 16 + 24 * i = 8 + 24 * i + 8 by omega]
    refine le_regdef at_ (fun j lt => ?_) (by omega)
    simp only [regFields, fieldByte]
    rw [if_neg (by omega), if_pos (by omega), Nat.add_sub_cancel_left]
  · rw [show 24 + 24 * i = 8 + 24 * i + 16 by omega]
    refine le_regdef at_ (fun j lt => ?_) (by omega)
    simp only [regFields, fieldByte]
    rw [if_neg (by omega), if_neg (by omega), if_pos (by omega), Nat.add_sub_cancel_left]

theorem low_regEntry {i : Nat} (at_ : i < 687) :
    (regEntry i).addr < 256 ^ 4 ∧ (regEntry i).mask < 256 ^ 8 ∧ (regEntry i).value < 256 ^ 8 := by
  rw [← length_regEntries] at at_
  have entry : regEntry i = regEntries[i] := List.getD_eq_getElem ..
  have low := List.all_eq_true.mp low_regEntries _ (List.getElem_mem at_)
  simp only [Bool.and_eq_true, decide_eq_true_eq] at low
  obtain ⟨⟨addr, mask⟩, value⟩ := low
  rw [entry]
  exact ⟨addr, mask, value⟩

theorem regdefs_validByte : (quiesce validByte).regdefs = regEntries := by
  have count : le (body validByte 13).2 0 2 = 687 := by decide +kernel
  rw [quiesce_regdefs, count]
  refine List.ext_getElem (by rw [List.length_map, List.length_range, length_regEntries]) fun i lt here => ?_
  have at_ : i < 687 := length_regEntries ▸ here
  obtain ⟨addr, mask, value⟩ := le_regEntry at_
  obtain ⟨lowAddr, lowMask, lowValue⟩ := low_regEntry at_
  rw [List.getElem_map, List.getElem_range, addr, mask, value, Nat.mod_eq_of_lt lowAddr, Nat.mod_eq_of_lt lowMask, Nat.mod_eq_of_lt lowValue]
  exact List.getD_eq_getElem ..

/-- The masks of the entries of an address, together. -/
def maskAt (a : Nat) (l : List RegDefEntry) (c : Nat) : Nat := l.foldl (fun c e => if e.addr == a then c ||| e.mask else c) c

theorem or_and_of_and {c m : Nat} (x : Nat) (h : c &&& m = m) : (c ||| x) &&& m = m := by
  refine Nat.eq_of_testBit_eq fun i => ?_
  have bit := congrArg (·.testBit i) h
  simp only [Nat.testBit_and, Nat.testBit_or] at bit ⊢
  rw [Bool.and_or_distrib_right, bit]
  cases m.testBit i <;> simp

theorem maskAt_and_of_and {a m : Nat} : ∀ {l : List RegDefEntry} {c : Nat}, c &&& m = m → maskAt a l c &&& m = m
  | [], _, h => h
  | e :: r, c, h => by
    show maskAt a r (if e.addr == a then c ||| e.mask else c) &&& m = m
    split
    · exact maskAt_and_of_and (or_and_of_and _ h)
    · exact maskAt_and_of_and h

theorem maskAt_and_of_mem {a m v : Nat} : ∀ {l : List RegDefEntry} {c : Nat}, ⟨a, m, v⟩ ∈ l → maskAt a l c &&& m = m
  | e :: r, c, mem => by
    show maskAt a r (if e.addr == a then c ||| e.mask else c) &&& m = m
    obtain rfl | rest := List.mem_cons.mp mem
    · rw [if_pos (beq_self_eq_true a)]
      refine maskAt_and_of_and ?_
      rw [Nat.or_comm]
      exact or_and_of_and _ (Nat.and_self m)
    · exact maskAt_and_of_mem rest

theorem mem_regEntries {b a : Nat} {r : RegDef} (block : b < 23) (reg : r ∈ blockRegs b) (carried : regdefMask r ≠ 0) (addr : a ∈ addrsOf r) :
    ⟨a, regdefMask r, 0⟩ ∈ regEntries :=
  List.mem_flatMap.mpr ⟨b, List.mem_range.mpr block, List.mem_flatMap.mpr ⟨r, List.mem_filter.mpr ⟨reg, bne_iff_ne.mpr carried⟩,
    List.mem_map.mpr ⟨a, addr, rfl⟩⟩⟩

theorem regdefsOk_regEntries : regdefsOk regEntries = true := by
  unfold regdefsOk
  rw [Bool.and_eq_true]
  refine ⟨?_, masks_regEntries⟩
  refine List.all_eq_true.mpr fun b block => List.all_eq_true.mpr fun r reg => ?_
  by_cases carried : regdefMask r = 0
  · rw [carried]
    rfl
  · refine Bool.or_eq_true_iff.mpr (.inr (List.all_eq_true.mpr fun a addr => beq_iff_eq.mpr ?_))
    exact maskAt_and_of_mem (mem_regEntries (List.mem_range.mp block) reg carried addr)

/-- The checks of the QUIESCE-class sections but REGDEF's. -/
def limitsOk (q : ImageQuiesce) : Bool :=
  partsOk q.parts && q.thresh.all rises && (q.thresh.headD []).getD 7 0 ≤ 1000 && -160 ≤ q.mediaMin && q.mediaMax ≤ 800 && q.mediaMin < q.mediaMax
  && q.pfailSrc < 4 && q.sagSense < 24

theorem quiesceOk_of_limitsOk {q : ImageQuiesce} (limits : limitsOk q = true) (regdefs : regdefsOk q.regdefs = true) : quiesceOk q = true :=
  Bool.and_eq_true_iff.mpr ⟨limits, regdefs⟩

theorem limitsOk_validByte : limitsOk (quiesce validByte) = true := by decide +kernel

theorem valuesOk_validByte : valuesOk validByte = true := by
  have regdefs : quiesceOk (quiesce validByte) = true :=
    quiesceOk_of_limitsOk limitsOk_validByte (by rw [regdefs_validByte]; exact regdefsOk_regEntries)
  rw [valuesOk, fixedOk_validByte, fixed2Ok_validByte, regdefs, restOk_validByte]
  rfl

theorem rails_validByte : (fixed2 validByte).rails.length = 1 := by decide +kernel

end Img

/-! ### The image in the flash -/

namespace Img

theorem le_lt {rd : Nat → Nat} (bytes : ∀ o, rd o < 256) (o : Nat) : ∀ n, le rd o n < 256 ^ n
  | 0 => Nat.one_pos
  | n + 1 => by
    have ih := le_lt bytes o n
    have top := Nat.mul_le_mul_right (256 ^ n) (Nat.le_of_lt_succ (bytes (o + n)))
    rw [le_succ, Nat.pow_succ]
    omega

/-- The bytes of a number that bytes make. -/
theorem le_byte {rd : Nat → Nat} (bytes : ∀ o, rd o < 256) (o : Nat) {k : Nat} : ∀ {n : Nat}, k < n → le rd o n / 256 ^ k % 256 = rd (o + k)
  | n + 1, lt => by
    rw [le_succ]
    obtain below | rfl := Nat.lt_succ_iff_lt_or_eq.mp lt
    · have upper : rd (o + n) * 256 ^ n = 256 ^ k * (256 * (rd (o + n) * 256 ^ (n - k - 1))) := by
        rw [show (256 : Nat) ^ n = 256 ^ k * (256 * 256 ^ (n - k - 1)) by rw [← Nat.pow_succ', ← Nat.pow_add]; congr 1; omega]
        ac_rfl
      rw [upper, Nat.add_mul_div_left _ _ (by positivity), Nat.add_mul_mod_self_left, le_byte bytes o below]
    · rw [Nat.add_mul_div_right _ _ (by positivity), Nat.div_eq_of_lt (le_lt bytes o k), Nat.zero_add, Nat.mod_eq_of_lt (bytes _)]

/-- The word of the flash that holds eight bytes. -/
def wordAt (rd : Nat → Nat) (n : Nat) : Word := BitVec.ofNat 64 (le rd (8 * n) 8)

theorem wordAt_byte {rd : Nat → Nat} (bytes : ∀ o, rd o < 256) (o : Nat) : (wordAt rd (o / 8)).toNat / 2 ^ (8 * (o % 8)) % 2 ^ 8 = rd o := by
  have fits : le rd (8 * (o / 8)) 8 < 2 ^ 64 := le_lt bytes _ 8
  rw [wordAt, BitVec.toNat_ofNat, Nat.mod_eq_of_lt fits, Nat.pow_mul]
  exact (le_byte bytes _ (Nat.mod_lt o (by decide))).trans (by rw [Nat.div_add_mod])

end Img

theorem mget_map_range {α : Type} (f : Nat → α) (l : List Nat) (a : Nat) :
    mget (l.map fun n => (n, f n)) a = if a ∈ l then some (f a) else none := by
  induction l with
  | nil => rfl
  | cons n r ih =>
    rw [List.map_cons, mget, ih]
    by_cases e : a = n
    · rw [if_pos e, if_pos (e ▸ List.mem_cons_self), e]
    · rw [if_neg e]
      simp only [List.mem_cons, e, false_or]

namespace Body

/-- A flash that holds the image in slot A and, of slot B, a SEQUENCE of zero. -/
@[irreducible] def imageWords : SMap Word := (0x1000002, ~~~0#64) :: (List.range 2296).map fun n => (n, ~~~(Img.wordAt Img.validByte n))

theorem flashWord_image {s : Body} (flash : s.cf.words = imageWords) (n : Nat) :
    s.flashWord n = if n = 0x1000002 then 0#64 else if n < 2296 then Img.wordAt Img.validByte n else ~~~0 := by
  rw [flashWord, flash, mgetD, imageWords, mget]
  split
  · exact BitVec.not_not
  · rw [mget_map_range]
    simp only [List.mem_range]
    split
    · exact BitVec.not_not
    · rfl

theorem slotByte_eq (s : Body) (slot o : Nat) :
    s.slotByte slot o = (s.flashWord ((slot * 0x8000000 + o) / 8)).toNat / 2 ^ (8 * ((slot * 0x8000000 + o) % 8)) % 2 ^ 8 := by
  rw [slotByte, flashByte, BitVec.toNat_ofNat]

theorem slotByte_image {s : Body} (flash : s.cf.words = imageWords) : s.slotByte 0 = Img.validByte := by
  funext o
  have byte := Img.wordAt_byte (Img.imageByte_lt Img.bodyCrc) o
  rw [slotByte_eq, Nat.zero_mul, Nat.zero_add, flashWord_image flash]
  split
  · next other =>
    rw [Img.validByte, Img.imageByte, if_neg (by omega), if_neg (by omega), if_neg (by omega), if_neg (by omega), if_neg (by omega),
      if_neg (by omega), if_pos other]
    rw [BitVec.toNat_zero, Nat.zero_div, Nat.zero_mod]
  · next other =>
    split
    · exact byte
    · have erased : ∀ k < 8, (~~~0 : Word).toNat / 2 ^ (8 * k) % 2 ^ 8 = 255 := by decide
      rw [erased _ (Nat.mod_lt o (by decide)), Img.validByte, Img.imageByte, if_neg (by omega), if_neg (by omega), if_neg (by omega),
        if_neg (by omega), if_neg (by omega), if_neg (by omega), if_neg other]

theorem slotFirst_image {s : Body} (flash : s.cf.words = imageWords) : s.slotFirst = 0 := by
  have first : Img.le (s.slotByte 0) 16 8 = 1 := by
    rw [slotByte_image flash]
    decide +kernel
  have other : Img.le (s.slotByte 1) 16 8 = 0 := by
    refine (Img.le_of_bytes (v := 0) fun j lt => ?_).trans (Nat.zero_mod _)
    rw [slotByte_eq, flashWord_image flash, if_pos (by omega), BitVec.toNat_zero, Nat.zero_div, Nat.zero_div]
    rfl
  have before : Img.le (s.slotByte 1) 16 8 < Img.le (s.slotByte 0) 16 8 := by
    rw [first, other]
    exact Nat.one_pos
  exact if_pos before

/-- The slot of the valid image passes its checks. -/
theorem slotCode_image {s : Body} (flash : s.cf.words = imageWords) {r : Nat} (key : r ≤ 4) (intact : s.rootIntact r = true)
    (unfused : s.cfg.svnFuses = 0) : s.slotCode 0 ⟨some r, true⟩ = 0 := by
  have header : ((List.range 64).all fun i => Img.validByte i == 255) = false ∧ Img.le Img.validByte 0 4 = 0x524D4741
      ∧ Img.le Img.validByte 4 2 = 1 ∧ Img.le Img.validByte 24 2 = 0x6420 ∧ Img.validByte 26 = 0 := by decide +kernel
  obtain ⟨written, magic, version, part, stepping⟩ := header
  unfold slotCode
  dsimp only
  rw [slotByte_image flash, written, magic, version, part, stepping, Img.layoutOk_validByte, Img.crcsOk_validByte, Img.valuesOk_validByte, intact,
    unfused]
  simp [Nat.not_lt.mpr key]

end Body

/-! ### An entry that stays behind a larger key -/

/-- The entry of the map at `a` stands behind one at `a + 1`, which no register has, so that no write takes the guard away. -/
def Guarded {α : Type} (a : Nat) : SMap α → Prop
  | [] => False
  | (k, _) :: r => if k < a then Guarded a r else k = a + 1 ∧ (mget r a).isSome

namespace Guarded
variable {α : Type} {a x : Nat}

theorem untouched : ∀ {m : SMap α}, Guarded a m → Untouched a m
  | (k, v) :: r, h => by
    unfold Guarded at h
    unfold Untouched
    split at h
    · next lt => rw [if_pos lt]; exact h.untouched
    · next le => rw [if_neg le]; exact ⟨by omega, h.2⟩

theorem mset {w : α} (other : x ≠ a) (unguard : x ≠ a + 1) : ∀ {m : SMap α}, Guarded a m → Guarded a (mset m x w)
  | (k, v) :: r, h => by
    unfold Guarded at h
    unfold Machine.mset
    split at h
    · next lt =>
      split
      · unfold Guarded
        rw [if_pos (by omega), Guarded, if_pos lt]
        exact h
      · split
        · next same => subst same; rw [Guarded, if_pos lt]; exact h
        · rw [Guarded, if_pos lt]
          exact mset other unguard h
    · next le =>
      obtain ⟨guard, some⟩ := h
      split
      · rw [Guarded, if_pos (by omega), Guarded, if_neg le]
        exact ⟨guard, some⟩
      · rw [if_neg (by omega), Guarded, if_neg le, mget_mset_ne r x a w other.symm]
        exact ⟨guard, some⟩

theorem filter {q : Nat → Bool} (keeps : q a = true) (guards : q (a + 1) = true) : ∀ {m : SMap α}, Guarded a m →
    Guarded a (m.filter fun p => q p.1)
  | (k, v) :: r, h => by
    unfold Guarded at h
    rw [List.filter_cons]
    split at h
    · next lt =>
      have rest := filter keeps guards h
      split
      · rw [Guarded, if_pos lt]; exact rest
      · exact rest
    · next le =>
      obtain ⟨rfl, some⟩ := h
      rw [if_pos guards, Guarded, if_neg le, mget_filter_key, if_pos keeps]
      exact ⟨rfl, some⟩

theorem mput [DecidableEq α] {d w : α} {m : SMap α} (other : x ≠ a) (unguard : x ≠ a + 1) (h : Guarded a m) : Guarded a (mput d m x w) := by
  unfold Machine.mput
  split
  · rw [merase_eq_filter]
    exact filter (q := (· != x)) (bne_iff_ne.mpr other.symm) (bne_iff_ne.mpr unguard.symm) h
  · exact mset other unguard h

end Guarded

namespace Body

/-- The Hob's state as no write left it, OFF. -/
structure Unwritten (b : Body) : Prop where
  guarded : Guarded A.HOB_STATUS b.regs
  off : b.word A.HOB_STATUS = 0

/-- A body at rest that holds this image while the thermal monitor holds the Hob OFF. -/
structure Resting (i : Image) (b : Body) : Prop where
  hob : b.Unwritten
  rest : (b.todo, b.evs, b.nc.held, b.twin, b.boot.resetReq, b.hob.thHold, b.cfg.img) = ([], [], [], {}, none, true, i)

theorem Unwritten.setWord {b : Body} {ad : Nat} {x : Word} (h : b.Unwritten) (other : ad < 0x160008 ∨ 0x160009 < ad := by omega) :
    (b.setWord ad x).Unwritten := by
  refine ⟨h.guarded.mput ?_ ?_, ?_⟩
  · simp only [A.HOB_STATUS]
    omega
  · simp only [A.HOB_STATUS]
    omega
  · rw [word_setWord_ne _ _ _ _ (by simp only [A.HOB_STATUS]; omega)]
    exact h.off

namespace Resting
variable {i : Image} {s : Body}

theorem thHold (h : Resting i s) : s.hob.thHold = true := by
  have rest := h.rest
  simp only [Prod.mk.injEq] at rest
  obtain ⟨-, -, -, -, -, hold, -⟩ := rest
  exact hold

theorem reimaged {t : Body} {j : Image} (h : Resting i s) (regs : t.regs = s.regs)
    (rest : (t.todo, t.evs, t.nc.held, t.twin, t.boot.resetReq, t.hob.thHold) = (s.todo, s.evs, s.nc.held, s.twin, s.boot.resetReq, s.hob.thHold))
    (img : t.cfg.img = j) : Resting j t := by
  have before := h.rest
  simp only [Prod.mk.injEq] at rest before
  obtain ⟨todo, evs, held, twin, reset, hold⟩ := rest
  obtain ⟨todo', evs', held', twin', reset', hold', -⟩ := before
  refine ⟨⟨regs ▸ h.hob.guarded, by rw [word, regs]; exact h.hob.off⟩, ?_⟩
  rw [todo, evs, held, twin, reset, hold, img, todo', evs', held', twin', reset', hold']

theorem unseen {t : Body} (h : Resting i s) (regs : t.regs = s.regs := by rfl)
    (rest : (t.todo, t.evs, t.nc.held, t.twin, t.boot.resetReq, t.hob.thHold) = (s.todo, s.evs, s.nc.held, s.twin, s.boot.resetReq, s.hob.thHold) := by
      rfl) (img : t.cfg.img = s.cfg.img := by rfl) : Resting i t := by
  refine h.reimaged regs rest (img.trans ?_)
  have rest := h.rest
  simp only [Prod.mk.injEq] at rest
  obtain ⟨-, -, -, -, -, -, img⟩ := rest
  exact img

theorem setWord {ad : Nat} {x : Word} (h : Resting i s) (other : ad < 0x160008 ∨ 0x160009 < ad := by omega) : Resting i (s.setWord ad x) :=
  ⟨h.hob.setWord other, h.rest⟩

section
variable {ad lo w : Nat} (h : Resting i s) (other : ad < 0x160008 ∨ 0x160009 < ad := by omega)
include h other

theorem put {v : Nat} : Resting i (s.put ⟨ad, lo, w⟩ v) := h.setWord other

theorem putB {v : Bool} : Resting i (s.putB ⟨ad, lo, w⟩ v) := h.setWord other

end

theorem forEach {α : Type} {l : List α} {f : Body → α → Body} (h : Resting i s)
    (step : ∀ {t x}, x ∈ l → Resting i t → Resting i (f t x)) : Resting i (s.forEach l f) :=
  forEach_induct l h fun _ _ => step

/-! ### The boot's own writes -/

theorem bootTime {n us : Nat} (h : Resting i s) (stage : n < 8) : Resting i (s.bootTime n (some us)) := h.put

theorem bootTime_free {n : Nat} (h : Resting i s) (stage : n < 8) : Resting i (s.bootTime n none) := by
  have shown (v : Nat) : Resting i (s.put (F.BOOT_TIME_US n) v) := h.put
  exact (shown _).unseen

theorem stageAt {n : Nat} (h : Resting i s) : Resting i (s.stageAt n) := put (unseen h)

theorem slotReport {code : Nat} (h : Resting i s) : Resting i (s.slotReport 0 code) := by
  unfold Body.slotReport
  rw [if_pos rfl]
  exact put (put h)

theorem imageRegs (h : Resting i s) : Resting i s.imageRegs := by
  refine put (forEach h.put.put.put fun word k => k.setWord ?_)
  have := List.mem_range.mp word
  simp only [A.CONFIG_HASH]
  omega

theorem imageLoad {slot root : Nat} (h : Resting i s) : Resting (Img.image (s.slotByte slot)) (s.imageLoad slot root) := by
  unfold Body.imageLoad
  extract_lets c s1
  have loaded : Resting (Img.image (s.slotByte slot)) s1 := h.reimaged rfl rfl rfl
  clear_value s1
  exact loaded.put.put.imageRegs

theorem fixedRegs (h : Resting i s) : Resting i s.fixedRegs := by
  refine forEach h.put.put.put.put.put.put.put.put.put.put.put.put.putB fun port k => ?_
  have := List.mem_range.mp port
  exact k.put

theorem partRegs (h : Resting i s) : Resting i s.partRegs := by
  refine h.forEach fun part k => ?_
  have := List.mem_range.mp part
  split
  · exact k.put.put.put.put.put.put.put
  · refine ((k.setWord ?_).setWord ?_).setWord ?_
    · simp only [A.PART_BASE]
      omega
    · simp only [A.PART_SIZE]
      omega
    · simp only [A.PART_ATTR]
      omega

theorem ldRegs (h : Resting i s) : Resting i s.ldRegs := by
  refine h.forEach fun port k => ?_
  have := List.mem_range.mp port
  refine forEach k.put.putB.put fun device l => ?_
  have := List.mem_range.mp device
  exact l.putB.put

theorem hobTable (h : Resting i s) : Resting i s.hobTable := by
  refine put (forEach h.unseen fun rail k => ?_)
  have := List.mem_range.mp rail
  exact k.putB

end Resting

theorem hob_put (s : Body) (f : Fld) (v : Nat) : (s.put f v).hob = s.hob := rfl

theorem hob_bootTime (s : Body) (n us : Nat) : (s.bootTime n (some us)).hob = s.hob := rfl

theorem hob_stageAt (s : Body) (n : Nat) : (s.stageAt n).hob = s.hob := rfl

theorem boot_stageAt (s : Body) (n : Nat) : (s.stageAt n).boot.stage = n := rfl

/-- The rail table stands where RAILS has a rail. -/
theorem hobTable_ne_nil {s : Body} (rails : s.cfg.img.fix2.rails.length = 1) : s.hobTable.hob.table ≠ [] := by
  obtain ⟨r, one⟩ := List.length_eq_one_iff.mp rails
  unfold hobTable
  extract_lets ins t h1 s1 s2
  have table : t = [r] := by simp only [t, one]; rfl
  have shown : s2.hob.table = t := by
    unfold s2
    exact forEach_induct (P := fun b => b.hob.table = t) (s := s1) _ rfl fun _ _ _ same => same
  rw [hob_put, shown, table]
  exact List.cons_ne_nil r []

/-- Stage 2 with the image of slot A, at the end of which the Hob is to be sent ON. -/
def tabled (s : Body) (root us1 us2 : Nat) : Body :=
  (((((((s.slotReport 0 0).imageLoad 0 root).bootTime 1 (some us1)).stageAt 2).fixedRegs.partRegs.ldRegs).hobTable.bootTime 2 (some us2)).stageAt 3)

theorem bootLoaded_eq_tabled {s : Body} {a b : SlotVerdict} {us1 us2 : Nat} (stage : s.boot.stage = 1) (first : s.slotFirst = 0)
    (good : s.slotCode 0 a = 0) (hold : (s.tabled (a.root.getD 0) us1 us2).hob.thHold = true) :
    s.bootLoaded a b us1 us2 = s.tabled (a.root.getD 0) us1 us2 := by
  unfold bootLoaded
  simp only [stage, first, good, ↓reduceIte, bne_self_eq_false, Bool.false_and, Bool.false_eq_true, when_false]
  rw [tabled] at hold ⊢
  exact if_pos hold

/-- At the end of stage 2 the rail table stands and nothing else is under way. -/
theorem resting_tabled {s : Body} {i : Image} {root us1 us2 : Nat} (h : Resting i s) :
    Resting (Img.image ((s.slotReport 0 0).slotByte 0)) (s.tabled root us1 us2) :=
  (((h.slotReport.imageLoad.bootTime (by decide)).stageAt.fixedRegs.partRegs.ldRegs).hobTable.bootTime (by decide)).stageAt

theorem table_tabled {s : Body} {i : Image} {root us1 us2 : Nat} (h : Resting i s) (image : s.slotByte 0 = Img.validByte) :
    (s.tabled root us1 us2).hob.table ≠ [] := by
  have before := ((h.slotReport (code := 0)).imageLoad (slot := 0) (root := root)).bootTime (n := 1) (us := us1) (by decide)
  have rest := before.stageAt (n := 2) |>.fixedRegs.partRegs.ldRegs.rest
  simp only [Prod.mk.injEq] at rest
  obtain ⟨-, -, -, -, -, -, img⟩ := rest
  rw [tabled, hob_stageAt, hob_bootTime]
  refine hobTable_ne_nil ?_
  rw [img, show (s.slotReport 0 0).slotByte 0 = s.slotByte 0 from rfl, image]
  exact Img.rails_validByte

end Body
namespace State

/-! ### The Pass leaves the Hob's state unwritten -/

/-- The Hob's state as no write left it, and events of units only, whose lost counts stand elsewhere. -/
structure Unwritten (s : State) : Prop where
  body : s.body.Unwritten
  units : ∀ e ∈ s.body.evs, e.src < 88

namespace Unwritten
variable {s : State}

theorem present {e : PassEvent} (ready : s.pass.ready = false) (src : e.src < 88) (h : s.Unwritten) : (s.present e).Unwritten := by
  unfold State.present
  rw [not_mayStamp_of_not_ready ready, Bool.false_and, if_neg (by decide)]
  dsimp only
  split
  · have counted : (s.body.inc (F.PASS_LOST_COUNT e.src)).Unwritten := h.body.setWord (by simp only [F.PASS_LOST_COUNT]; omega)
    exact ⟨counted, h.units⟩
  · exact ⟨h.body, h.units⟩

theorem settle (fuel : Nat) (ready : s.pass.ready = false) (h : s.Unwritten) : (State.settle fuel s).Unwritten := by
  induction fuel generalizing s with
  | zero => exact h
  | succ fuel ih =>
    unfold State.settle
    split
    · exact h
    · next e r evs =>
      have units : ∀ x ∈ e :: r, x.src < 88 := evs ▸ h.units
      have popped : State.Unwritten { s with body := { s.body with evs := r } } :=
        ⟨⟨h.body.guarded, h.body.off⟩, fun x mem => units x (List.mem_cons_of_mem e mem)⟩
      exact ih (present_waits (s := { s with body := { s.body with evs := r } }) e ready).ready (popped.present ready (units e List.mem_cons_self))

theorem finish (ready : s.pass.ready = false) (h : s.Unwritten) : s.finish.Unwritten := by
  have undrained : drainBufs 2048 s = s := by simp [drainBufs, not_mayStamp_of_not_ready ready]
  rw [State.finish, undrained]
  exact h.settle settleFuel ready

theorem windowTold (old : Body) (ready : s.pass.ready = false) (h : s.Unwritten) : (s.windowTold old).Unwritten := by
  unfold State.windowTold
  split
  · exact h
  · refine finish ready ⟨⟨h.body.guarded, h.body.off⟩, fun x mem => ?_⟩
    obtain mem | mem := List.mem_append.mp mem
    · exact h.units x mem
    · exact src_windowEvents mem

theorem taken (b : Body) (ready : s.pass.ready = false) (h : State.Unwritten { s with body := b }) : (s.taken b).Unwritten :=
  (finish (s := { s with body := b }) ready h).windowTold s.body (finish_waits (s := { s with body := b }) ready).ready

end Unwritten
end State

namespace Body
open Sys2Proof.Stmt

theorem hobState_of_word {b : Body} (off : b.word A.HOB_STATUS = 0) : b.hobState = .off := by
  have word : b.word F.HOB_STATUS_STATE.addr = 0 := off
  have state : b.get F.HOB_STATUS_STATE = 0 := by
    rw [get, word]
    rfl
  rw [hobState, state]
  rfl

namespace Resting
variable {i : Image} {b : Body}

theorem portOpened (h : Resting i b) : Resting i b.portOpened := by
  unfold Body.portOpened
  dsimp only
  split
  · have opened : Resting i (b.put F.BOOT_STATUS_PORT_OPENED 1) := h.put
    exact opened.bootTime_free (by decide)
  · exact h

theorem unitsRun (h : Resting i b) : b.unitsRun = b.portOpened := by
  have rest := h.rest
  simp only [Prod.mk.injEq] at rest
  obtain ⟨todo, evs, held, twin, -⟩ := rest
  refine unitsRun_eq_portOpened todo (by rw [hobState_of_word h.hob.off]; rfl) held (moduleRecords_of_uncalled fun e mem => ?_) (by rw [twin])
    (by rw [twin])
  rw [evs] at mem
  cases mem

/-- A command that leaves the units at rest leaves the Hob's state unwritten and the boot at its stage. -/
theorem settled {s : State} (ready : s.pass.ready = false) (h : Resting i b) :
    (s.settled b).Unwritten ∧ (s.settled b).body.boot.stage = b.boot.stage := by
  have rest := h.portOpened.rest
  have unasked := h.rest
  simp only [Prod.mk.injEq] at rest unasked
  obtain ⟨-, evs, -⟩ := rest
  obtain ⟨-, -, -, -, unasked, -⟩ := unasked
  obtain ⟨taken, stage⟩ := State.stage_settled_of_run (s := s) ready (by rw [h.unitsRun, b.portOpened_kept.1]) unasked
  refine ⟨?_, stage⟩
  rw [taken, h.unitsRun]
  refine State.Unwritten.taken _ ready ⟨h.portOpened.hob, fun e mem => ?_⟩
  rw [show State.body { s with body := b.portOpened } = b.portOpened from rfl, evs] at mem
  cases mem

end Resting

/-- The end of stage 1 with a valid image in slot A, while the thermal monitor holds the Hob OFF. -/
def heldHot : State :=
  { body := { boot := { stage := 1 }, hob := { thHold := true }, ciph := { slots := [0] }, cf := { words := imageWords }
              regs := [(0x160009, 0), (0x160008, 0)] } }

theorem resting_heldHot : Resting heldHot.body.cfg.img heldHot.body :=
  ⟨⟨⟨rfl, rfl⟩, rfl⟩, rfl⟩

theorem slotFirst_heldHot : heldHot.body.slotFirst = 0 := slotFirst_image rfl

theorem slotCode_heldHot : heldHot.body.slotCode 0 ⟨some 0, true⟩ = 0 := slotCode_image rfl (Nat.zero_le 4) rfl rfl

/-- What the end of stage 1 makes of the units. -/
@[irreducible] def kept : Body := heldHot.body.tabled 0 0 0

theorem resting_kept : ∃ i, Resting i kept := by
  unfold kept
  exact ⟨_, resting_tabled resting_heldHot⟩

theorem table_kept : kept.hob.table ≠ [] := by
  unfold kept
  exact table_tabled resting_heldHot (slotByte_image rfl)

theorem stage_kept : kept.boot.stage = 3 := by
  unfold kept
  exact boot_stageAt ..

theorem bootLoaded_heldHot : heldHot.body.bootLoaded ⟨some 0, true⟩ ⟨none, false⟩ 0 0 = kept := by
  unfold kept
  exact bootLoaded_eq_tabled rfl slotFirst_heldHot slotCode_heldHot (resting_tabled resting_heldHot).thHold

theorem exec_bootImageLoaded (s : State) (a b : SlotVerdict) (us1 us2 : Nat) :
    exec (.bootImageLoaded a b us1 us2) s = .next (s.settled (s.body.bootLoaded a b us1 us2)) := rfl

/-- Refutes O53: while the thermal monitor holds the Hob OFF, stage 2 hands over the rail table of a valid image and does not send the Hob ON. -/
theorem not_bootAndWatchdog : ¬ Obligations.BootAndWatchdog := by
  unfold Obligations.BootAndWatchdog
  rintro ⟨⟨loaded, -⟩, -⟩
  obtain ⟨b, answer, shown⟩ := loaded heldHot ⟨some 0, true⟩ ⟨none, false⟩ 0 0 rfl
  simp only [slotFirst_heldHot, ↓reduceIte, slotCode_heldHot] at shown
  obtain ⟨-, -, -, sent⟩ := shown
  rw [exec_bootImageLoaded, bootLoaded_heldHot] at answer
  have reached : heldHot.settled kept = heldHot.settled b := Host.Outcome.next.inj answer
  obtain ⟨i, resting⟩ := resting_kept
  obtain ⟨unwritten, stage⟩ := resting.settled (s := heldHot) rfl
  rw [stage_kept] at stage
  have made : State.Onward 0 _ _ := State.Onward.settled (b := kept) rfl (by rw [stage]; decide)
  have told : State.Onward 0 _ _ := State.Onward.settled (b := b) rfl (by rw [← reached, stage]; decide)
  rw [← reached] at told
  have table : b.hob.table = kept.hob.table := told.body.table.symm.trans made.body.table
  obtain ⟨-, off⟩ := told.body.status unwritten.body.guarded.untouched
  have poweringUp := sent (table ▸ table_kept)
  rw [hobState_of_word (off.symm.trans unwritten.body.off)] at poweringUp
  cases poweringUp

end Body
end Sys2Proof.Machine
